-- ==== Sys2Proof/Word.lean ====
section
/-!
DEFINITION. Word.lean: the word types of the block (R8, R9): bytes, 32-bit and 64-bit words, 16 B slots and 64 B lines.
Byte i of a value holds its bits [8i+7:8i] (R9).
-/
namespace Sys2Proof

/-- One byte. -/
abbrev Byte := BitVec 8

/-- A 32-bit register or field. -/
abbrev Word := BitVec 32

/-- A 64-bit register or field. -/
abbrev DWord := BitVec 64

/-- A 16 B link slot (R161). -/
abbrev Slot := BitVec 128

/-- A 64 B line; byte i is bits [8i+7:8i]. -/
abbrev Line := BitVec 512

end Sys2Proof
end

