-- ==== Sys2Proof/Machine/Store.lean ====
section
/-!
DEFINITION. Machine/Store.lean: sparse stores in one canonical form. A store is a list of (key, value) pairs with rising
keys in which no entry equals what an unlisted key reads as; d gives what an unlisted key reads as. The register file,
the stack bytes (Host.Cell is a Nat and a byte) and every large table of the block are such stores.
-/
namespace Sys2Proof.Machine

/-- A sparse store. -/
abbrev SMap (α : Type) := List (Nat × α)

/-- The value at key k. -/
def SMap.get {α : Type} (d : Nat → α) (m : SMap α) (k : Nat) : α :=
  match m with
  | [] => d k
  | (k', v) :: r => if k = k' then v else SMap.get d r k

/-- Write v at key k, keeping the keys rising and listing no value an unlisted key would read as. -/
def SMap.set {α : Type} [DecidableEq α] (d : Nat → α) (m : SMap α) (k : Nat) (v : α) : SMap α :=
  match m with
  | [] => if v = d k then [] else [(k, v)]
  | (k', v') :: r =>
    if k < k' then (if v = d k then (k', v') :: r else (k, v) :: (k', v') :: r)
    else if k = k' then (if v = d k then r else (k, v) :: r)
    else (k', v') :: SMap.set d r k v

/-- Forget every entry whose key satisfies p: those keys read as unlisted again. -/
def SMap.drop {α : Type} (p : Nat → Bool) (m : SMap α) : SMap α := m.filter (fun e => !p e.1)

/-- All keys of the store lie above k, rise, and no listed value is the unlisted one. -/
def SMap.wfAbove {α : Type} [DecidableEq α] (d : Nat → α) (k : Option Nat) (m : SMap α) : Bool :=
  match m with
  | [] => true
  | (k', v) :: r =>
    (match k with
     | none => true
     | some j => decide (j < k')) && decide (v ≠ d k') && SMap.wfAbove d (some k') r

/-- The canonical form: keys strictly rising, no entry equal to what an unlisted key reads as. -/
def SMap.wf {α : Type} [DecidableEq α] (d : Nat → α) (m : SMap α) : Bool := SMap.wfAbove d none m

/-- A finite set of numbers, kept rising and without repeats. -/
abbrev NSet := List Nat

/-- Insert an item into a sorted list, before the items it may precede. -/
def insertBy {α : Type} (le : α → α → Bool) (x : α) : List α → List α
  | [] => [x]
  | y :: r => if le x y then x :: y :: r else y :: insertBy le x r

/-- A list in order; items of equal rank keep their order. -/
def sortBy {α : Type} (le : α → α → Bool) (l : List α) : List α := l.foldr (insertBy le) []

/-- Put k into the set. -/
def NSet.insert (k : Nat) : NSet → NSet
  | [] => [k]
  | j :: r => if k < j then k :: j :: r else if k = j then j :: r else j :: NSet.insert k r

/-- Take k out of the set. -/
def NSet.erase (k : Nat) (s : NSet) : NSet := s.filter (fun j => j ≠ k)

/-- Is k in the set? -/
def NSet.has (k : Nat) (s : NSet) : Bool := s.contains k

end Sys2Proof.Machine
end

