-- ==== Sys2Proof/Machine/Types.lean ====
section
/-!
DEFINITION. Machine/Types.lean: the names and messages of the block that both its commands and its state speak of:
statuses (R62), requests and completions (R76, R184-R194), recalls (R190), handoff messages (R191), the tray profile
(R203), bulk transfers (R210), link control messages (R173-R176) and flits (R158).
-/
namespace Sys2Proof.Machine

/-- Bay n (R24). -/
abbrev BayId := Fin 24
/-- Pier p (R24). -/
abbrev PierId := Fin 72
/-- Pier group g (R24). -/
abbrev GroupId := Fin 24
/-- Span s (R24). -/
abbrev SpanId := Fin 4
/-- A logical port index (R69): 4p + q, or 288 for the host port. -/
abbrev PortId := Fin 289
/-- A Composition ID (R375). -/
abbrev CompId := Fin 256
/-- A Node ID (R49). -/
abbrev NodeId := BitVec 12

/-- R62: the status codes. -/
inductive Status where
  | ok | poison | keyFault | rangeFault | revoked | epochStale | notHome | unmapped
  | portDown | timeout | integrity | busyRetry | nondeterministic
deriving DecidableEq, Repr

/-- R185: the request opcodes. -/
inductive ReqOp where
  | rd | rdS | rdM | own | wr | wrP | capWr | atom | mcWr | rsD | rsU
deriving DecidableEq, Repr

/-- Who issued a request, and so who gets its completion (R196): a logical port (288 is the host port), a device unit's
request of that identifier (R250), line i of row transaction `id` (R249), or record `rec` of a transfer a Trestle replays
(R214). -/
inductive Origin where
  | port (p : PortId)
  | unit (id : Nat)
  | row (id i : Nat)
  | trestle (span : SpanId) (xfer : Nat) (record : Nat)
deriving DecidableEq, Repr

/-- A request (R186, R187): the header and parameter slots, the data, and where and when it entered. keyless: a device
unit's access that carries no Region Key, for the composition named (R250, R383). bad: a device unit's write of a poisoned
line (R331). -/
structure Req where
  op : ReqOp
  origin : Origin
  src : NodeId
  tag : BitVec 12
  dnode : NodeId
  laddr : BitVec 42
  tc : BitVec 3
  colour : BitVec 2
  epoch : BitVec 8
  key : Word
  mask : BitVec 64
  opnd : Word
  data : Line
  deadline : Nat
  keyless : Option CompId
  bad : Bool := false
deriving DecidableEq, Repr

/-- A completion (R189): CMP, or CMP_D when it carries a line. -/
structure Cmp where
  tc : BitVec 3
  tag : BitVec 12
  status : Status
  grant : Nat
  dw : Bool
  data : Option Line
deriving DecidableEq, Repr

/-- R73: the two recalls. -/
inductive RecallKind where
  | inv | down
deriving DecidableEq, Repr

/-- The Writeback/Recall messages (R190). -/
inductive Coh where
  | recall (kind : RecallKind) (tc : BitVec 3) (laddr : BitVec 42)
  | biAck (tc : BitVec 3) (laddr : BitVec 42)
  | wb (tc : BitVec 3) (laddr : BitVec 42) (keepS : Bool) (bad : Bool) (data : Line)
  | wbAck (tc : BitVec 3) (laddr : BitVec 42) (status : Status)
deriving DecidableEq, Repr

/-- The handoff messages (R66). -/
inductive HandOp where
  | offer | accept | commit | cancel
deriving DecidableEq, Repr

/-- A handoff message (R191). -/
structure Hand where
  op : HandOp
  tc : BitVec 3
  status : Status
  node : NodeId
  hseq : BitVec 8
  granule : BitVec 27
  key : Word
deriving DecidableEq, Repr

/-- R203: the tray requests. -/
inductive TrayOp where
  | trd | twr | tscrub
deriving DecidableEq, Repr

/-- A tray request (R203). -/
structure TrayReq where
  op : TrayOp
  tc : BitVec 3
  poison : Bool
  ttag : BitVec 16
  len : BitVec 16
  tline : BitVec 36
  data : List Line
deriving DecidableEq, Repr

/-- A tray completion (R203): TCMP, or TCMP_D when it carries lines. -/
structure TrayCmp where
  tc : BitVec 3
  status : Status
  ttag : BitVec 16
  pmask : BitVec 16
  umask : BitVec 16
  corr : BitVec 16
  unc : BitVec 16
  data : List Line
deriving DecidableEq, Repr

/-- One record of a transfer (R210). dnode: that of its extension, the group of a forwarded MC_WR; bad: its line check failed (R192). -/
structure Rec where
  op : ReqOp
  tc : BitVec 3
  epoch : BitVec 8
  key : Word
  laddr : BitVec 42
  mask : BitVec 64
  opnd : Word
  data : Line
  ext : Bool
  dnode : NodeId := 0
  bad : Bool := false
deriving DecidableEq, Repr

/-- A bulk transfer (R210): the message header's TXID and the body. -/
structure Bulk where
  txid : BitVec 32
  tc : BitVec 3
  seq : BitVec 32
  src : NodeId
  dnode : NodeId
  mc : Bool
  deadline : Nat
  records : List Rec
deriving DecidableEq, Repr

/-- One record's answer in a bulk reply (R210). -/
structure RecAns where
  status : Status
  grant : Nat
  dw : Bool
  lchk : Option (BitVec 16)
  data : Option Line
deriving DecidableEq, Repr

/-- A bulk reply (R210). -/
structure BulkRsp where
  txid : BitVec 32
  tc : BitVec 3
  seq : BitVec 32
  answers : List RecAns
deriving DecidableEq, Repr

/-- R364: the kinds of time-exchange message. -/
inductive TimeKind where
  | req | rsp | fup
deriving DecidableEq, Repr

/-- A time-exchange message (R363); stamps are in units of 2^-16 ns. -/
structure TimeX where
  kind : TimeKind
  tc : BitVec 3
  seq : BitVec 16
  rx : BitVec 80
  t : BitVec 80
  sync : Bool
  root : Bool
  hops : BitVec 8
deriving DecidableEq, Repr

/-- A message of the Warp. bulkPart: a link message of a bulk body that is not its last (R210): whether it belongs to a reply, and its
slots. -/
inductive Msg where
  | req (r : Req)
  | cmp (c : Cmp)
  | coh (c : Coh)
  | hand (h : Hand)
  | trayReq (t : TrayReq)
  | trayCmp (t : TrayCmp)
  | bulk (b : Bulk)
  | bulkRsp (b : BulkRsp)
  | timeX (t : TimeX)
  | mctp (tc : BitVec 3) (packet : List Byte)
  | bulkPart (rsp : Bool) (tc : BitVec 3) (slots : List Slot)
deriving DecidableEq, Repr

/-- R142: what an error on the Deck's data path does to a message: the bits it turns in one 32 B beat and in that beat's code, or in the
cell's routing tag and its code. -/
inductive PathErr where
  | beat (bits : BitVec 256) (code : BitVec 16)
  | tag (bits : BitVec 32) (code : BitVec 16)
deriving DecidableEq, Repr

/-- R173: the IDENTIFY message. -/
structure Identify where
  version : BitVec 8
  node : NodeId
  kind : BitVec 8
  mode : BitVec 8
  secCap : Bool
  secReq : Bool
  lineCheck : Bool
  kblock : Bool
  width : BitVec 8
  replayDepth : BitVec 16
  credits : List (BitVec 8)
  schedMask : BitVec 8
deriving DecidableEq, Repr

/-- A link control message (R173, R174, R176). -/
inductive LinkCtrl where
  | identify (i : Identify)
  | identifyAck (result : BitVec 8) (node : NodeId)
  | keyShare (node : NodeId) (nonce pubkey sig : List Byte)
  | spareReq (lane : BitVec 8) (port : BitVec 8)
  | spareAck (lane : BitVec 8) (port : BitVec 8)
  | spareDone (lane : BitVec 8) (port : BitVec 8)
deriving DecidableEq, Repr

/-- A flit as it arrives (R158): its control word, its 15 slots, its CRC, and the symbols received in error of the codeword that begins
in it (R155; of none where no codeword does). -/
structure Flit where
  ctrl : DWord
  slots : List Slot
  crc : DWord
  word : List (Fin 544)
deriving DecidableEq, Repr

/-- R169: the link states. -/
inductive LinkState where
  | disabled | detect | equalize | lock | identify | securing | active | parked | retrain | fault
deriving DecidableEq, Repr

/-- The register masters of R38. -/
inductive Master where
  | weft (core : Fin 16)
  | treadle
  | keystone
  | host
  | mirror
  | debug
deriving DecidableEq, Repr

/-- R54: what MODE may hold. -/
inductive RegionMode where
  | disabled | owned | shared
deriving DecidableEq, Repr

/-- R54: what TIER may hold. -/
inductive Tier where
  | stack | window | tray
deriving DecidableEq, Repr

/-- R54: what OWN_STATE may hold. -/
inductive OwnState where
  | free | held | offered
deriving DecidableEq, Repr

/-- A Region Table entry (R54). -/
structure RtEntry where
  base : BitVec 27
  limit : BitVec 27
  key : Word
  mode : RegionMode
  tier : Tier
  comp : CompId
  owner : NodeId
  own : OwnState
  peer : NodeId
  hseq : BitVec 8
deriving DecidableEq, Repr

/-- A range-check entry (R392). -/
structure RctEntry where
  base : BitVec 27
  limit : BitVec 27
  en : Bool
  readOnly : Bool
  comp : CompId
deriving DecidableEq, Repr

/-- A unit that can be held in reset on its own (R454, R455, R470). -/
inductive ResetUnit where
  | device
  | span (s : Nat)
  | bay (n : Nat)
  | group (g : Nat)
  | spindle (n k : Nat)
  | loom (n : Nat)
  | heddle (n : Nat)
  | pier (p : Nat)
  | hostPort
deriving DecidableEq, Repr

/-- A clock island or Spindle group that sleeps and wakes (R41, R442). -/
inductive Island where
  | bay (n : BayId)
  | group (g : GroupId)
  | spindles (n : BayId) (g : Fin 8)
deriving DecidableEq, Repr

/-- What an error calls for beside its own record: the command that meets it ends with it (Machine/Settle.lean). -/
inductive Event where
  | linkDown (port : Nat)
  | bayFault (n : Nat) (phy : Bool)
  | critical (entry : Nat) (unit : ResetUnit)
  | spanFault (span : Nat)
  | spTransient (n k : Nat)
deriving DecidableEq, Repr

end Sys2Proof.Machine
end

