-- ==== Sys2Proof/Machine/Operand.lean ====
section
/-!
DEFINITION. Machine/Operand.lean: what a command brings from outside beside the messages of Types.lean: which shell, which
timer, which measured quantity.
-/
namespace Sys2Proof.Machine

/-- The symbols of the stored word of the accessed line that the stack returns in error (R89): symbols 0 to 63 are data,
64 to 71 check. -/
abbrev Syms := List (Fin 72)

/-- What a Loom's residue check finds (R244): the residue of a sum or of a written slot is not the one it predicts, or that of a slot it
reads, to round it, to push it or for a window read, is not the one kept. -/
inductive Mismatch where
  | none | add | read
deriving DecidableEq, Repr

/-- What a home access meets: symbols in error, what the Loom's residue check finds, and the error that its completion meets on its way
back through the Deck (R142). -/
structure Errs where
  syms : Syms
  residue : Mismatch
  path : Option PathErr := Option.none
deriving DecidableEq, Repr

/-- No error at all. -/
def Errs.clean : Errs := { syms := [], residue := .none }

/-- The analogue cores that have a shell (R46). -/
inductive Shell where
  | lane (p : PierId) (lane : Fin 9)
  | stack (n : BayId)
  | stage (i : Fin 398)
deriving DecidableEq, Repr

/-- New symbol errors that a pseudo-channel's cells developed, by Bay-local line number. -/
abbrev Upsets := List (BitVec 31 × List (Fin 72))

/-- The limit registers of R127. -/
inductive LimitReg where
  | rsv
  | classLim (c : Fin 8)
  | voqCap (c : Fin 8)
deriving DecidableEq, Repr

/-- What a flush is of (R138): a logical port (288 is the host port), or the Deck port of a Bay, a Trestle or the Hub. -/
inductive FlushUnit where
  | port (p : PortId)
  | deck (i : Fin 53)
deriving DecidableEq, Repr

/-- The grant registers of R379. -/
inductive GrantReg where
  | spindles (n : BayId)
  | ports (k : Fin 9)
  | bayShare (k : Fin 6)
  | pierShare (k : Fin 18)
deriving DecidableEq, Repr

/-- A task of a Draft: the Draft's own number since reset, and the task's index (R340). -/
structure TaskRef where
  draft : Nat
  idx : Nat
deriving DecidableEq, Repr

/-- What RID_HOLD holds in Bay n's Loom (R233, R315): a reduction's entry or a combine's. -/
inductive HeldId where
  | rid (id : BitVec 16)
  | comb (id : BitVec 16)
deriving DecidableEq, Repr

/-- What the Spindle's SRAM returns to an access (R281, R303): the word as stored, a word it has corrected, or an uncorrectable
word. -/
inductive SramErr where
  | none | fixed | lost
deriving DecidableEq, Repr

/-- What a stream meets: the symbols in error of each line it reads, by the order of its reads (R89), whether the dot unit's
residue check fails, and what the SRAM returns (R303). -/
structure StreamErrs where
  lines : List (Nat × Syms)
  residue : Bool
  sram : SramErr := .none
deriving DecidableEq, Repr

/-- R417, R514: what carries a management message: the host port's DOE, the SMBus, PCIe VDM, or a Jargar Link port. -/
inductive Via where
  | doe | smbus | vdm
  | link (p : PortId)
deriving DecidableEq, Repr

/-- R435: one monitor window's counts: of each source against its judge, and of REFCLK_156 and CXL_REFCLK against the selected
recovered clock (R436). A source that is absent counts 0. -/
structure MonCounts where
  ref : Nat
  cxl : Nat
  prim : Nat
  back : Nat
  refRec : Nat
  cxlRec : Nat
deriving DecidableEq, Repr

/-- R553, R427: the JTAG instructions as the gate tells them apart. -/
inductive Jtag where
  | bypass | idcode | boundary | extest | priv
deriving DecidableEq, Repr

/-- R426, R427, R448: what the debug port may ask for. -/
inductive DebugOp where
  | readReg (off : BitVec 26) (wide : Bool)
  | writeReg (off : BitVec 26) (wide : Bool) (v : DWord)
  | readLine (a : BitVec 42)
  | writeLine (a : BitVec 42) (l : Line)
  | halt (n : BayId) (k : Fin 64)
  | resume (n : BayId) (k : Fin 64)
  | step (n : BayId) (k : Fin 64)
  | readX (n : BayId) (k : Fin 64) (r : Fin 32)
  | writeX (n : BayId) (k : Fin 64) (r : Fin 32) (v : Word)
  | readSram (n : BayId) (k : Fin 64) (off : BitVec 18)
  | writeSram (n : BayId) (k : Fin 64) (off : BitVec 18) (v : Word)
  | reset (level : Fin 3)
deriving DecidableEq, Repr

/-- R86, R178, R512: the pages that hold a FAULT_INFO: a home's, a Pier group's, and the HDM page. -/
inductive FaultPage where
  | home (n : BayId)
  | group (g : GroupId)
  | hdm
deriving DecidableEq, Repr

/-- R511: MetaValue of a CXL.mem message; none where MetaField is No-Op. -/
inductive MetaValue where
  | invalid | any | shared | none
deriving DecidableEq, Repr

end Sys2Proof.Machine
end

