-- ==== Sys2Proof/Syntax.lean ====
section
/-!
DEFINITION. Syntax.lean: the commands the block takes, one constructor per row of spec/opcode_table.json, in its order.
A command is one step, whole and indivisible (spec/95). The operands are what comes from outside the block: the message
that arrives, the value written, the physical quantity measured, or the name of the unit or timer the step is about.
-/
namespace Sys2Proof

open Sys2Proof.Machine

/-- The commands of the block. -/
inductive Instr where
  /-- REG_WRITE (R38). A write to a register that has no row of its own is performed at the Weft root, including staging, reserved-encoding rejection and page availability. -/
  | regWrite (m : Master) (addr : BitVec 26) (size : Fin 9) (value : DWord)
  /-- WEFT_TIMEOUT (R40). A register access unanswered 5 µs after acceptance completes with zero or is discarded and records a Weft timeout. -/
  | weftTimeout (m : Master) (addr : BitVec 26) (isWrite : Bool)
  /-- CROSSING_ARRIVAL (R43). A Warp item reaches a crossing whose receiving island is asleep and is held. -/
  | crossingArrival (i : Island) (item : Msg)
  /-- WAKE_GRANT (R461). The wake governor grants the head of its queue once the budget covers its charge. -/
  | wakeGrant
  /-- ISLAND_RUN (R461). A granted island reaches Run 2 µs or 200 µs after its grant and releases its held items. -/
  | islandRun (i : Island)
  /-- RD (R71). A read without caching reaches its home and is checked, ordered and served from memory. -/
  | rd (r : Req) (errs : Errs)
  /-- RD_S (R71). A read for a shared copy reaches its home and is granted S after any recall. -/
  | rdS (r : Req) (errs : Errs)
  /-- RD_M (R71). A read for a modifiable copy reaches its home and is granted M after any recall. -/
  | rdM (r : Req) (errs : Errs)
  /-- OWN (R71). An upgrade to modifiable reaches its home and is granted M without data. -/
  | own (r : Req) (errs : Errs)
  /-- WR (R71). A full-line write reaches its home and is applied after any recall. -/
  | wr (r : Req) (errs : Errs)
  /-- WR_P (R88). A byte-masked write reaches its home and is performed as read, merge and write. -/
  | wrP (r : Req) (errs : Errs)
  /-- ATOM (R242). An atomic reaches its home Loom or window and is performed, returning the prior value. -/
  | atom (r : Req) (errs : Errs)
  /-- CAP_WR (R79). A Capstone store arrives at its ingress Pier group and is held until its earlier requests complete. -/
  | capWr (r : Req)
  /-- CAP_WR_RELEASE (R79). The last earlier request of a held Capstone store completes and the store is forwarded or failed. -/
  | capWrRelease (p : PortId) (src : NodeId) (tag : BitVec 12)
  /-- CAP_WR_APPLY (R79). A forwarded Capstone store is applied at its home as a masked write. -/
  | capWrApply (r : Req) (errs : Errs)
  /-- MC_WR (R201). A multicast store is checked against its group entry and replicated to member ports and remote devices. -/
  | mcWr (r : Req)
  /-- MC_WR_COMPLETE (R202). Every copy of a multicast store has been acknowledged or reported and its CMP is sent. -/
  | mcWrComplete (id : Nat)
  /-- RS_D (R231). A declared reduce-store reaches its home Loom and is added once per line and contributor. -/
  | rsD (r : Req) (errs : Errs)
  /-- RS_U (R236). An undeclared reduce-store is applied with one rounding and completes with NONDETERMINISTIC. -/
  | rsU (r : Req) (errs : Errs)
  /-- WB (R75). A writeback reaches its home and is accepted or discarded with WB_ACK. -/
  | wb (p : PortId) (tc : BitVec 3) (laddr : BitVec 42) (keepS : Bool) (bad : Bool) (data : Line)
  /-- BI_ACK (R73). A recall answer without data reaches its home. -/
  | biAck (p : PortId) (tc : BitVec 3) (laddr : BitVec 42)
  /-- UNDELIVERABLE_RECALL (R140). A recall returned by a flush reaches its home and is treated as BI_ACK or poisons the line. -/
  | undeliverableRecall (p : PortId) (laddr : BitVec 42)
  /-- RECALL_TIMEOUT_EXPIRY (R74). An unanswered recall reaches RECALL_TIMEOUT and the home poisons the line and serves POISON. -/
  | recallTimeoutExpiry (laddr : BitVec 42)
  /-- OFFER (R66). An OFFER reaches firmware and the region entry becomes OFFERED and the offer is forwarded. -/
  | offer (p : PortId) (src : NodeId) (h : Hand)
  /-- ACCEPT (R66). An ACCEPT reaches firmware and the handoff commits or is refused. -/
  | accept (p : PortId) (src : NodeId) (h : Hand)
  /-- COMMIT (R66). A COMMIT arriving from a Source is discarded. -/
  | handoffCommit (p : PortId) (src : NodeId) (h : Hand)
  /-- CANCEL (R66). A CANCEL arriving from a Source is discarded. -/
  | handoffCancel (p : PortId) (src : NodeId) (h : Hand)
  /-- HANDOFF_TIMER_EXPIRY (R66). The handoff timer expires and the entry returns to HELD with CANCEL to both parties. -/
  | handoffTimerExpiry (index : BitVec 16)
  /-- RT_WRITE (R55). RT_CMD OP 0x1 writes the staged entry to the current or next map after checks. -/
  | rtWrite (index : BitVec 16) (next : Bool)
  /-- RT_READ (R58). RT_CMD OP 0x2 reads an entry into RT_DATA0-7. -/
  | rtRead (index : BitVec 16) (next : Bool)
  /-- RT_DISABLE (R60). RT_CMD OP 0x3 disables an entry, recalling Shared-Coherent lines first. -/
  | rtDisable (index : BitVec 16) (next : Bool)
  /-- RT_COMMAND_COMPLETE (R59). Every request checked against the old entry has completed and BUSY falls. -/
  | rtCommandComplete
  /-- DEAD_SOURCE_WRITE (R83). A write to DEAD_SOURCE starts a directory sweep for that Node ID. -/
  | deadSourceWrite (node : NodeId)
  /-- SWEEP_END (R83). The sweep read comes round past the last port added, the set empties and firmware is notified. -/
  | sweepEnd (n : BayId)
  /-- REQUEST_DEADLINE (R198). A request reaches its 4 ms deadline and the unit holding it completes it with TIMEOUT. -/
  | requestDeadline (o : Origin) (tag : BitVec 12)
  /-- REPAIR_CMD (R100). REPAIR_CMD 0x1 requests repair of the row holding REPAIR_ADDR. -/
  | repairCmd (n : BayId) (op : BitVec 4)
  /-- ROW_REPAIR_DONE (R101). The row's transactions have ended, it is copied to a spare and the table entry becomes valid. -/
  | rowRepairDone (n : BayId)
  /-- STACK_MARGIN_START (R48). MARGIN_CMD 0x1 starts a stack PHY margin measurement of an offline Bay. -/
  | stackMarginStart (n : BayId) (op : BitVec 4)
  /-- SHELL_MARGIN_DONE (R48). A shell margin measurement ends and its results become valid. -/
  | shellMarginDone (sh : Shell) (result : Word) (fault : BitVec 8)
  /-- SHELL_RECALIBRATION_DONE (R48). A shell's calibration or recalibration completes and it enters READY or FAULT. -/
  | shellRecalibrationDone (sh : Shell) (fault : BitVec 8)
  /-- FILL_START (R108). FILL_CMD START begins a fill of the Bay's lines in the range. -/
  | fillStart (n : BayId)
  /-- FILL_DONE (R108). A fill writes its last line and records its result. -/
  | fillDone (n : BayId)
  /-- REFRESH_DUE (R94). An all-bank refresh falls due on a pseudo-channel and is issued or postponed. -/
  | refreshDue (n : BayId) (pch : Fin 32) (waiting : Bool) (upsets : Upsets)
  /-- SCRUB_LINE (R98). Patrol scrub reads the next line and corrects, poisons or leaves it. -/
  | scrubLine (n : BayId) (errs : Syms)
  /-- PAGE_TIMEOUT (R92). A row idle for PAGE_TIMEOUT is closed. -/
  | pageTimeout (n : BayId) (pch : Fin 32) (bank : Fin 32)
  /-- AGE_CAP_REACHED (R92). An access reaches the controller age cap and is issued ahead of younger accesses. -/
  | ageCapReached (n : BayId) (pch : Fin 32)
  /-- STACK_TEMP_SAMPLE (R558). The base die samples its stack's temperature sensors and updates STACK_TEMP. -/
  | stackTempSample (n : BayId) (dram : List (BitVec 8)) (base : BitVec 8)
  /-- TRAY_CFG_WRITE (R110). A TRAY_CFG write sets the tray map or is rejected. -/
  | trayCfgWrite (value : Word)
  /-- TCMP (R203). A tray completion without data reaches the tray engine, which completes its waiting requests. -/
  | tcmp (p : PortId) (t : TrayCmp)
  /-- TCMP_D (R203). A tray completion with data reaches the tray engine, which decrypts and completes its requests. -/
  | tcmpD (p : PortId) (t : TrayCmp)
  /-- TRAY_SCRUB_ISSUE (R205). The tray patrol issues its next TSCRUB of 64 lines. -/
  | trayScrubIssue (n : BayId) (slot : Fin 48)
  /-- WIN_ENABLE (R116). Setting WIN_CFG.EN enables a composition's stream window or records the cause. -/
  | winEnable (value : Word)
  /-- STREAM_BLOCK_READ_DONE (R118). A block read of a stream fill completes and is verified, reissued or fails the slot. -/
  | streamBlockReadDone (t : TaskRef) (off : Nat)
  /-- STREAM_SEND_DONE (R117). Every CMP of a slot's send has arrived, the slot empties and the next fill or send starts. -/
  | streamSendDone (t : TaskRef)
  /-- LANDING_QUEUE_ADMIT (R126). A landing-queue head finds room in its limit and VOQ cap and moves into its VOQ. -/
  | landingQueueAdmit (p : PortId) (vc : Fin 8) (path : Option PathErr)
  /-- LIMIT_WRITE (R127). A write to LIM_RSV, CLASS_LIM or VOQ_CAP is checked by the buffer arithmetic and applied or rejected. -/
  | limitWrite (g : GroupId) (which : LimitReg) (value : Word)
  /-- POL_WRITE (R134). POL_CMD OP 0x1 writes a policer entry. -/
  | polWrite (g : GroupId) (index : BitVec 16)
  /-- POL_READ (R134). POL_CMD OP 0x2 reads a policer entry. -/
  | polRead (g : GroupId) (index : BitVec 16)
  /-- POL_CNT_READ (R147). POL_CMD OP 0x3 reads a policer's counters. -/
  | polCntRead (g : GroupId) (index : BitVec 16)
  /-- POL_MAP_WRITE (R134). POL_CMD OP 0x4 writes a policer map entry. -/
  | polMapWrite (g : GroupId) (index : BitVec 16)
  /-- POL_MAP_READ (R134). POL_CMD OP 0x5 reads a policer map entry. -/
  | polMapRead (g : GroupId) (index : BitVec 16)
  /-- ARB_MISMATCH (R133). Lockstep arbiters disagree, the cycle is retried and a repeat fences the slice. -/
  | arbMismatch (slice : Fin 5) (again : Bool)
  /-- STUCK_REPORT (R137). A sub-queue head waits STUCK_TIME and is reported once. -/
  | stuckReport (inp : Fin 53) (out : Fin 53) (tc : BitVec 3) (cls : Fin 4)
  /-- ADMIN_DOWN_WRITE (R138). PORT_CTRL.ADMIN_DOWN takes a port down or lets it come up. -/
  | adminDownWrite (dp : Fin 53) (down : Bool)
  /-- FLUSH_END (R138). A port's flush completes its return table and FLUSHING clears. -/
  | flushEnd (u : FlushUnit)
  /-- HIST_SAMPLE (R146). A histogram interval ends and VOQ depth and delay are binned. -/
  | histSample (g : GroupId)
  /-- HIST_CLR (R149). HIST_CLR sets every histogram bin to zero. -/
  | histClr (g : GroupId) (value : Word)
  /-- SMP_ENABLE (R145). Setting SMP_CTRL.EN enables the sample ring after its size check. -/
  | smpEnable (overwrite : Bool)
  /-- SAMPLE_CFG_WRITE (R143). A SAMPLE_CFG write with EN restarts a port's sampling count. -/
  | sampleCfgWrite (dp : Fin 53) (c : Fin 8) (value : Word)
  /-- TC_MODE_WRITE (R132). A TC_MODE write sets class modes and is copied to every slice. -/
  | tcModeWrite (value : Word)
  /-- PIER_CFG_WRITE (R154). A PIER_CFG write takes effect only while every logical port is DISABLED or FAULT. -/
  | pierCfgWrite (p : PierId) (value : Word)
  /-- LINK_DISABLE_WRITE (R169). LINK_CTRL.DISABLE disables a logical port or lets it leave DISABLED. -/
  | linkDisableWrite (p : PortId) (disable : Bool)
  /-- SIGNAL_PRESENT (R169). Signal appears on every lane of a port in DETECT and it enters EQUALIZE. -/
  | signalPresent (p : PortId)
  /-- LOSS_OF_SIGNAL (R169). A lane loses signal and the port spares, retrains, fails training or returns to DETECT. -/
  | lossOfSignal (p : PortId) (lanes : List (Fin 9))
  /-- EQUALIZE_DONE (R152). Equalisation completes on every lane and the port enters LOCK. -/
  | equalizeDone (p : PortId)
  /-- LOCK_END_MARKER (R156). Lock is confirmed and the END marker moves the port to IDENTIFY. -/
  | lockEndMarker (p : PortId) (marks : List (BitVec 120)) (skew clean : Nat)
  /-- LINK_STATE_TIMEOUT (R169). A training state times out, counting an attempt or entering FAULT. -/
  | linkStateTimeout (p : PortId)
  /-- DATA_FLIT (R166). A DATA flit arrives and is checked, accepted in sequence and its slots parsed. -/
  | dataFlit (p : PortId) (f : Flit)
  /-- SECURED_FLIT (R175). A SECURED flit arrives and is authenticated, decrypted and accepted in sequence. -/
  | securedFlit (p : PortId) (f : Flit)
  /-- IDLE_FLIT (R166). An IDLE flit arrives and its ACK, NAK and credit reports are used. -/
  | idleFlit (p : PortId) (f : Flit)
  /-- IDENTIFY (R171). The peer's IDENTIFY arrives and the device decides its result. -/
  | identify (p : PortId) (f : Flit)
  /-- IDENTIFY_ACK (R171). The peer's IDENTIFY_ACK arrives and the port enters FAULT, PARKED, SECURING or ACTIVE. -/
  | identifyAck (p : PortId) (f : Flit)
  /-- IDENTIFY_RESEND (R171). Every 10 µs IDENTIFY or IDENTIFY_ACK is sent again. -/
  | identifyResend (p : PortId)
  /-- KEY_SHARE (R174). The peer's KEY_SHARE arrives and the session keys are derived. -/
  | keyShare (p : PortId) (f : Flit)
  /-- KEY_SHARE_RESEND (R174). Every 100 µs KEY_SHARE is sent again until the peer's arrives. -/
  | keyShareResend (p : PortId)
  /-- NAK_TIMEOUT_EXPIRY (R168). NAK_TIMEOUT expires and NAK is sent again. -/
  | nakTimeoutExpiry (p : PortId)
  /-- ACK_TIMEOUT_EXPIRY (R168). The oldest unacknowledged flit waits ACK_TIMEOUT and is replayed. -/
  | ackTimeoutExpiry (p : PortId)
  /-- PROGRESS_TIMEOUT_EXPIRY (R168). ACK makes no progress for PROGRESS_TIMEOUT and the link retrains. -/
  | progressTimeoutExpiry (p : PortId)
  /-- LANE_FAILURE (R176). A lane exceeds its corrected-symbol threshold and sparing begins or the link retrains. -/
  | laneFailure (p : PortId) (lane : Fin 9)
  /-- SPARE_REQ (R176). A SPARE_REQ arrives and the peer drives the spare transmit lane. -/
  | spareReq (p : PortId) (f : Flit)
  /-- SPARE_ACK (R176). A SPARE_ACK arrives and the receiver switches to the spare lane. -/
  | spareAck (p : PortId) (f : Flit)
  /-- SPARE_DONE (R176). A SPARE_DONE arrives and the peer stops driving the failed lane. -/
  | spareDone (p : PortId) (f : Flit)
  /-- SPARE_REQ_RESEND (R176). Every 2 µs SPARE_REQ is sent again. -/
  | spareReqResend (p : PierId)
  /-- SPARE_TIMEOUT (R176). SPARE_ACK has not arrived 50 µs after the request and the link retrains. -/
  | spareTimeout (p : PierId)
  /-- PIER_MARGIN_START (R48). MARGIN_CMD START begins a lane margin measurement. -/
  | pierMarginStart (p : PierId) (value : Word)
  /-- ADMIT_READY_WRITE (R170). ADMIT_CTRL.READY lets Pier training begin and the admission set is latched. -/
  | admitReadyWrite (ready : Bool)
  /-- UNIT_COMPLETION (R250). A completion of a device unit's request reaches its unit, which continues its task. -/
  | unitCompletion (id : Nat)
  /-- BULK (R214). A bulk transfer arrives on a trunk and the receiving Trestle replays its records. -/
  | bulk (p : PortId) (b : Bulk)
  /-- TRESTLE_RECORD_DONE (R214). Every record of a received transfer has completed and BULK_RSP is sent. -/
  | trestleRecordDone (span : SpanId) (xfer : Nat)
  /-- BULK_RSP (R215). A bulk reply arrives and the local Trestle answers the requests of its records. -/
  | bulkRsp (p : PortId) (b : BulkRsp)
  /-- TRANSFER_COALESCE_EXPIRE (R208). COALESCE_TIME passes since a transfer's first record and the transfer closes and is sent. -/
  | transferCoalesceExpire (span : SpanId) (flow : Nat) (dest : NodeId) (trunk : PortId)
  /-- TRESTLE_REMAP_DONE (R213). Outstanding transfers of a trunk group have ended and the Trestle recomputes trunks and resumes. -/
  | trestleRemapDone (span : SpanId) (group : Fin 16)
  /-- ROUTE_WRITE (R217). ROUTE_CMD OP 0x1 writes a route entry. -/
  | routeWrite (index : BitVec 16)
  /-- ROUTE_READ (R217). ROUTE_CMD OP 0x2 reads a route entry. -/
  | routeRead (index : BitVec 16)
  /-- TRUNK_GROUP_WRITE (R217). ROUTE_CMD OP 0x3 writes a trunk group. -/
  | trunkGroupWrite (index : BitVec 16)
  /-- TRUNK_GROUP_READ (R217). ROUTE_CMD OP 0x4 reads a trunk group. -/
  | trunkGroupRead (index : BitVec 16)
  /-- MC_ENTRY_WRITE (R218). MC_CMD OP 0x1 writes a multicast entry. -/
  | mcEntryWrite (index : BitVec 16)
  /-- MC_ENTRY_READ (R218). MC_CMD OP 0x2 reads a multicast entry. -/
  | mcEntryRead (index : BitVec 16)
  /-- MC_ENTRY_DISABLE (R218). MC_CMD OP 0x3 disables a multicast entry. -/
  | mcEntryDisable (index : BitVec 16)
  /-- TIME_X_REQ (R364). A TIME_X REQ arrives stamped and the device answers with RSP and FUP. -/
  | timeXReq (p : PortId) (t : TimeX)
  /-- TIME_X_RSP (R364). A TIME_X RSP arrives with t2 and its receive stamp t4. -/
  | timeXRsp (p : PortId) (t : TimeX)
  /-- TIME_X_FUP (R364). A TIME_X FUP arrives with t3 and the exchange is accepted or failed. -/
  | timeXFup (p : PortId) (t : TimeX)
  /-- TIME_EXCHANGE_START (R364). Each INTERVAL a non-root device sends a TIME_X REQ on its timing port. -/
  | timeExchangeStart
  /-- TIME_EXCHANGE_FAIL (R364). RSP or FUP has not arrived 200 µs after t1 and the exchange fails. -/
  | timeExchangeFail
  /-- MCTP (R418). An MCTP packet arrives on a Jargar link and is relayed by firmware. -/
  | mctp (p : PortId) (tc : BitVec 3) (packet : List Byte)
  /-- DECL_DECLARE (R229). DECL_CMD OP 0x1 declares a reduction from DECL_ADDR. -/
  | declDeclare
  /-- DECL_CANCEL (R233). DECL_CMD OP 0x2 cancels a reduction, which becomes FAILED with REVOKED. -/
  | declCancel (rid : BitVec 16)
  /-- DECL_QUERY (R246). DECL_CMD OP 0x3 reports a reduction's state. -/
  | declQuery (rid : BitVec 16)
  /-- DECL_INSTALLED (R229). An accepted declaration is installed in every Loom and BUSY falls. -/
  | declInstalled (rid : BitVec 16)
  /-- QUOTA_APPLY (R228). QUOTA_CMD APPLY sets a composition's COLL and POOL ranges or rejects them. -/
  | quotaApply
  /-- REDUCTION_TIMEOUT (R233). TIMEOUT passes with a line incomplete and the reduction entry becomes FAILED. -/
  | reductionTimeout (n : BayId) (rid : BitVec 16)
  /-- RID_HOLD_EXPIRY (R233). An ended reduction or combine entry has been held RID_HOLD and is freed. -/
  | ridHoldExpiry (n : BayId) (e : HeldId)
  /-- GATHER_BATCH (R258). A gather batch reaches its lead Heddle, which reads its lists and sorts its indices. -/
  | gatherBatch (t : TaskRef)
  /-- UPDATE_BATCH (R263). An update batch reaches its lead Heddle, which combines gradients per row. -/
  | updateBatch (t : TaskRef)
  /-- FILTER_TASK (R275). A filter task reaches its lead, which sends it to the scanning Heddles. -/
  | filterTask (t : TaskRef)
  /-- HEDDLE_SORT_DONE (R258). The sorter finishes a batch's indices and fetches or updates begin. -/
  | heddleSortDone (t : TaskRef)
  /-- ROW_FETCH_DONE (R260). A row fetch completes and the row is pooled or the fetch reissued or failed. -/
  | rowFetchDone (t : TaskRef) (i : Nat)
  /-- ROW_UPDATE (R262). A row update reaches the row's Heddle and is applied as one row transaction. -/
  | rowUpdate (id : Nat)
  /-- FILTER_SCAN_DONE (R275). A scanning Heddle finishes its records and the lead merges the results. -/
  | filterScanDone (t : TaskRef) (n : BayId)
  /-- TBL_INSTALL (R251). TBL_CMD OP 0x1 installs a table version as CURRENT. -/
  | tblInstall (comp : CompId) (tid : BitVec 12)
  /-- TBL_WITHDRAW (R251). TBL_CMD OP 0x2 makes the CURRENT record DRAINING. -/
  | tblWithdraw (comp : CompId) (tid : BitVec 12)
  /-- TBL_QUERY (R278). TBL_CMD OP 0x3 reports the CURRENT record and its count. -/
  | tblQuery (comp : CompId) (tid : BitVec 12)
  /-- RET_POP_READ (R251). Reading RET_POP removes the oldest retirement entry and frees its record. -/
  | retPopRead (m : Master)
  /-- MIG_MODE_WRITE (R269). A MIG_POLICY write sets the migration mode after checking the area. -/
  | migModeWrite (value : Word)
  /-- SKEW_WINDOW_END (R270). A skew window ends and the registry chooses rows to migrate or migrate back. -/
  | skewWindowEnd
  /-- MIGRATION_COPY (R271). Bay o copies a migrating row to its new place once any update in progress has ended. -/
  | migrationCopy (id : Nat)
  /-- MIGRATION_COPY_DONE (R271). Every copy write completes and Bay o reports the copy done. -/
  | migrationCopyDone (id : Nat)
  /-- MIGRATION_COMMIT (R271). Every Heddle acknowledges the redirect entry and held updates are forwarded. -/
  | migrationCommit (id : Nat)
  /-- MIGRATION_ABORT (R271). The copy is not done 3 µs after the start and the migration aborts. -/
  | migrationAbort (id : Nat)
  /-- SPINDLE_LAUNCH (R301). A Spindle launch is checked, its Spindles prepared and started. -/
  | spindleLaunch (t : TaskRef)
  /-- FENCE_STAGE_DONE (R307). A FENCE launch's issuer wait or recalls complete and its next stage begins. -/
  | fenceStageDone (t : TaskRef)
  /-- CORE_INSTRUCTION (R281). A Spindle core executes an RV32IMC instruction. -/
  | coreInstruction (n : BayId) (k : Fin 64) (e : SramErr)
  /-- SPINDLE_LOAD_STORE (R283). A core load or store in the region window waits for its streams and accesses one line. -/
  | spindleLoadStore (n : BayId) (k : Fin 64) (syms : Syms)
  /-- SF_ADD (R288). Scalar float add. -/
  | sfAdd (n : BayId) (k : Fin 64) (rd rs1 rs2 : Fin 32)
  /-- SF_SUB (R288). Scalar float subtract. -/
  | sfSub (n : BayId) (k : Fin 64) (rd rs1 rs2 : Fin 32)
  /-- SF_MUL (R288). Scalar float multiply. -/
  | sfMul (n : BayId) (k : Fin 64) (rd rs1 rs2 : Fin 32)
  /-- SF_MAX (R288). Scalar float maximum. -/
  | sfMax (n : BayId) (k : Fin 64) (rd rs1 rs2 : Fin 32)
  /-- SF_MIN (R288). Scalar float minimum. -/
  | sfMin (n : BayId) (k : Fin 64) (rd rs1 rs2 : Fin 32)
  /-- SF_LT (R288). Scalar float less-than comparison. -/
  | sfLt (n : BayId) (k : Fin 64) (rd rs1 rs2 : Fin 32)
  /-- SF_EXP2 (R297). Scalar exp2 by the defined integer algorithm. -/
  | sfExp2 (n : BayId) (k : Fin 64) (rd rs : Fin 32)
  /-- SF_RCP (R298). Correctly rounded scalar reciprocal. -/
  | sfRcp (n : BayId) (k : Fin 64) (rd rs : Fin 32)
  /-- SF_CVT (R288). Converts FP32 to a narrower float format. -/
  | sfCvt (n : BayId) (k : Fin 64) (rd rs : Fin 32) (fmt : Fin 4)
  /-- SF_FROMI (R288). Converts signed INT32 to FP32. -/
  | sfFromi (n : BayId) (k : Fin 64) (rd rs : Fin 32)
  /-- SF_TOI (R288). Converts FP32 to INT32 with saturation. -/
  | sfToi (n : BayId) (k : Fin 64) (rd rs : Fin 32)
  /-- DS_START (R292). Starts the stream described in SRAM and returns a ticket. -/
  | dsStart (n : BayId) (k : Fin 64) (rd rs : Fin 32)
  /-- DS_WAIT (R292). Waits until a stream completes and returns its status. -/
  | dsWait (n : BayId) (k : Fin 64) (rd rs : Fin 32)
  /-- DS_POLL (R292). Returns a stream's status or 0xF if not complete. -/
  | dsPoll (n : BayId) (k : Fin 64) (rd rs : Fin 32)
  /-- SP_EXIT (R302). Ends the program with a status once its streams complete. -/
  | spExit (n : BayId) (k : Fin 64) (rs : Fin 32)
  /-- SP_RDCNT (R289). Reads a launch counter word. -/
  | spRdcnt (n : BayId) (k : Fin 64) (rd : Fin 32) (idx : BitVec 12)
  /-- QLOAD (R291). A QLOAD stream completes, filling query registers. -/
  | qload (n : BayId) (k : Fin 64) (e : SramErr)
  /-- SCORE (R293). A SCORE stream completes its dot products into SRAM. -/
  | score (n : BayId) (k : Fin 64) (e : StreamErrs)
  /-- AXPY (R293). An AXPY stream completes its accumulation into OA. -/
  | axpy (n : BayId) (k : Fin 64) (e : StreamErrs)
  /-- VMAX (R293). A VMAX stream completes its row maxima. -/
  | vmax (n : BayId) (k : Fin 64) (e : SramErr)
  /-- VEXPS (R293). A VEXPS stream completes its exponentials and sums. -/
  | vexps (n : BayId) (k : Fin 64) (e : SramErr)
  /-- OCLR (R291). An OCLR stream completes clearing accumulators. -/
  | oclr (n : BayId) (k : Fin 64)
  /-- OSCALE (R293). An OSCALE stream completes scaling accumulators. -/
  | oscale (n : BayId) (k : Fin 64) (e : SramErr)
  /-- OSTORE (R291). An OSTORE stream completes storing accumulators to SRAM. -/
  | ostore (n : BayId) (k : Fin 64)
  /-- COPY_IN (R291). A COPY_IN stream completes copying region bytes to SRAM. -/
  | copyIn (n : BayId) (k : Fin 64) (lines : List (Nat × Syms))
  /-- COPY_OUT (R309). A COPY_OUT stream completes writing full lines to the region. -/
  | copyOut (n : BayId) (k : Fin 64) (e : SramErr)
  /-- PUT (R291). A PUT stream completes its fabric writes. -/
  | putStream (n : BayId) (k : Fin 64) (e : SramErr)
  /-- PARTIAL (R314). A PARTIAL stream completes sending its record to the combining Loom. -/
  | partialRec (n : BayId) (k : Fin 64) (e : SramErr)
  /-- PARTIAL_ARRIVAL (R314). A partial reaches the combining Loom and is stored, refused or ignored. -/
  | partialArrival (n : BayId) (k : Fin 64)
  /-- COMBINE_TIMEOUT (R315). CTIMEOUT passes while a combine is OPEN and it becomes FAILED. -/
  | combineTimeout (id : BitVec 16)
  /-- PART_TIMEOUT (R302). MAXCYC x 1,024 cycles pass and the Spindle part ends with TIMEOUT. -/
  | partTimeout (n : BayId) (k : Fin 64)
  /-- SP_FENCE_WRITE (R304). Setting an SP_FENCE bit fences a Spindle and ends its running part. -/
  | spFenceWrite (n : BayId) (value : DWord)
  /-- COMB_QUERY (R317). COMB_CMD OP 0x1 reports a combine's state. -/
  | combQuery (id : BitVec 16)
  /-- COMB_CANCEL (R315). COMB_CMD OP 0x2 cancels an OPEN combine. -/
  | combCancel (id : BitVec 16)
  /-- KNOWN_ANSWER_TEST (R486). A Spindle's KAT falls due and runs when the Spindle is idle. -/
  | knownAnswerTest (n : BayId) (k : Fin 64)
  /-- CT_INSTALL (R326). CT_CMD OP 0x1 installs a code table. -/
  | ctInstall (comp : CompId) (tid : BitVec 12)
  /-- CT_REMOVE (R326). CT_CMD OP 0x2 removes a code table. -/
  | ctRemove (comp : CompId) (tid : BitVec 12)
  /-- CT_QUERY (R337). CT_CMD OP 0x3 reports whether a TID is installed. -/
  | ctQuery (comp : CompId) (tid : BitVec 12)
  /-- DRAFT_SUBMIT (R345). A write of NEXT_TIME submits the Draft at NEXT_ADDR, replacing any pending one. -/
  | draftSubmit (time : DWord)
  /-- DRAFT_LOAD_DONE (R346). A Draft's load and checks end and it becomes READY or is rejected. -/
  | draftLoadDone
  /-- DRAFT_TAKEOVER (R347). Fabric Time reaches a READY Draft's activation time and it takes over. -/
  | draftTakeover
  /-- TRD_CANCEL_PENDING (R348). TRD_CMD OP 0x1 discards the pending Draft. -/
  | trdCancelPending
  /-- TRD_STOP_ACTIVE (R348). TRD_CMD OP 0x2 stops the active Draft. -/
  | trdStopActive
  /-- TASK_DISPATCH (R349). The Treadle dispatches the lowest-indexed ready task. -/
  | taskDispatch
  /-- SLOT_START (R349). A task's slot begins and it may become ready. -/
  | slotStart (t : TaskRef)
  /-- TASK_END (R349). A unit reports a task's end and its successors are readied or skipped. -/
  | taskEnd (t : TaskRef)
  /-- NOP_TASK (R351). A NOP task ends at dispatch with OK. -/
  | nopTask (t : TaskRef)
  /-- MOVE_TASK (R352). A move task reads or decodes source lines and writes them to DST. -/
  | moveTask (t : TaskRef)
  /-- REDUCE_STEP (R238). A REDUCE collective step declares its reduction in every Loom. -/
  | reduceStep (t : TaskRef)
  /-- BROADCAST_STEP (R239). A BROADCAST step reads its lines and multicasts or pushes them with a flag. -/
  | broadcastStep (t : TaskRef)
  /-- STREAM_TASK (R353). A stream task starts filling and sending layers through the window. -/
  | streamTask (t : TaskRef)
  /-- GATE_LIST_LOAD (R368). A gate-list load task writes pending gate lists to a Pier group. -/
  | gateListLoad (t : TaskRef)
  /-- WAIT_ON_FLAG (R358). A wait-on-flag task reads its word and arms a watch if unsatisfied. -/
  | waitOnFlag (t : TaskRef)
  /-- WAIT_FLAG_READ_DONE (R359). A read of the watched word completes and the task ends or keeps waiting. -/
  | waitFlagReadDone (t : TaskRef)
  /-- WAIT_FLAG_POLL (R358). A watch fires or 100 µs pass and the word is read again. -/
  | waitFlagPoll (t : TaskRef)
  /-- WAIT_FLAG_TIMEOUT (R359). TIMEOUT passes and the wait-on-flag task ends with TIMEOUT. -/
  | waitFlagTimeout (t : TaskRef)
  /-- SIGNAL_TASK (R360). A signal task sends one request as a device unit. -/
  | signalTask (t : TaskRef)
  /-- TIME_SET (R373). TIME_CMD OP 0x1 sets Fabric Time on the root. -/
  | timeSet
  /-- TIME_ADJUST (R365). TIME_CMD OP 0x2 applies ADJ by slew or step. -/
  | timeAdjust
  /-- STAMP_INFO_READ (R374). Reading STAMP_INFO removes the oldest transmit stamp. -/
  | stampInfoRead (m : Master) (p : PierId)
  /-- GATE_LIST_ACTIVATE (R369). A pending gate list reaches its base time and becomes operational. -/
  | gateListActivate (p : PierId) (c : Fin 8)
  /-- GATE_ENTRY_ADVANCE (R367). A gate-list entry's interval ends and the next entry or cycle takes effect. -/
  | gateEntryAdvance (p : PierId) (c : Fin 8)
  /-- PPS_PULSE (R541). Fabric Time reaches a whole second and TIME_PPS_OUT pulses. -/
  | ppsPulse
  /-- COMP_CREATE (R376). COMP_CMD OP 0x1 creates a composition with a new tray key. -/
  | compCreate
  /-- COMP_RELEASE (R377). COMP_CMD OP 0x2 releases a composition and destroys its key. -/
  | compRelease
  /-- GRANT_WRITE (R379). A write to a composition grant register is applied or rejected whole. -/
  | grantWrite (which : GrantReg) (value : DWord)
  /-- MAP_SWITCH (R386). MAP_CMD OP 0x1 starts checking the next map for a switch. -/
  | mapSwitch
  /-- MAP_SWITCH_FLIP (R386). The next-map check passes and the maps flip, the epoch advancing and the drain starting. -/
  | mapSwitchFlip
  /-- MAP_DRAIN_END (R386). DRAIN ends, the old map is discarded and the copy into the free bank starts. -/
  | mapDrainEnd
  /-- MAP_COPY (R384). MAP_CMD OP 0x2 copies the current map into the next map. -/
  | mapCopy
  /-- MAP_COPY_DONE (R384). A map copy ends and MAP_STAT.BUSY falls. -/
  | mapCopyDone
  /-- MEMB_WRITE (R391). MEMB_CMD OP 0x1 writes a membership entry. -/
  | membWrite (index : BitVec 16)
  /-- MEMB_READ (R391). MEMB_CMD OP 0x2 reads a membership entry. -/
  | membRead (index : BitVec 16)
  /-- RCT_WRITE (R392). RCT_CMD OP 0x1 writes a range-check entry. -/
  | rctWrite (index : BitVec 16) (next : Bool)
  /-- RCT_READ (R392). RCT_CMD OP 0x2 reads a range-check entry. -/
  | rctRead (index : BitVec 16) (next : Bool)
  /-- RCT_DISABLE (R392). RCT_CMD OP 0x3 disables a range-check entry. -/
  | rctDisable (index : BitVec 16) (next : Bool)
  /-- RCT_COMMAND_COMPLETE (R392). Requests checked against an old range-check entry have completed and BUSY falls. -/
  | rctCommandComplete
  /-- REV_REVOKE (R390). REV_CMD OP 0x1 writes a revocation entry and starts a revocation. -/
  | revRevoke (index : Fin 64)
  /-- REV_CLEAR (R390). REV_CMD OP 0x2 clears a revocation entry. -/
  | revClear (index : Fin 64)
  /-- REV_READ (R390). REV_CMD OP 0x3 reads a revocation entry. -/
  | revRead (index : Fin 64)
  /-- REVOCATION_COMPLETE (R390). Every marked entry is released, REV_PEND clears and the fabric manager is notified. -/
  | revocationComplete (index : Fin 64)
  /-- METER_TICK (R382). The 1 µs tick adds each live composition's amounts to its meters. -/
  | meterTick
  /-- SNAPSHOT (R383). SNAP_PERIOD passes and a composition's snapshot record is written. -/
  | snapshot (c : CompId)
  /-- BOOT_COMPLETE (R407). The image read and checks finish and W0 is released or recovery begins. -/
  | bootComplete (fuseOk answers : Bool)
  /-- KS_SET_TENANT_KEY (R423). KS_CMD OP 0x1 sets a composition's tenant key. -/
  | ksSetTenantKey
  /-- KS_INSTALL_TOKEN (R425). KS_CMD OP 0x2 verifies and installs a consent token. -/
  | ksInstallToken
  /-- KS_REMOVE_TOKEN (R425). KS_CMD OP 0x3 removes a consent token. -/
  | ksRemoveToken
  /-- KS_COMMIT_SVN (R410). KS_CMD OP 0x4 starts raising the fused SVN. -/
  | ksCommitSvn
  /-- SVN_COMMIT_DONE (R410). The SVN fuses are blown and verified and BUSY falls. -/
  | svnCommitDone
  /-- TOKEN_LAPSE (R428). TIME_FLOOR reaches a token's NOT_AFTER and its classes close. -/
  | tokenLapse (c : CompId)
  /-- ENTROPY_HEALTH_FAIL (R412). An entropy health test fails and the source retests or stays failed. -/
  | entropyHealthFail (again : Bool)
  /-- DRBG_RESEED (R411). After 2^16 requests the DRBG is reseeded. -/
  | drbgReseed
  /-- RECOV_CHUNK (R409). RECOV_CHUNK copies a recovery chunk into the staging area. -/
  | recovChunk (len : BitVec 8) (i : BitVec 6) (data : List Byte)
  /-- RECOV_VERIFY (R409). RECOV_CMD 0x1 verifies the staged image and runs it if it passes. -/
  | recovVerify
  /-- RECOV_DISCARD (R409). RECOV_CMD 0x2 discards the staged bytes. -/
  | recovDiscard
  /-- GET_VERSION (R419). SPDM GET_VERSION is answered. -/
  | getVersion (via : Via)
  /-- GET_CAPABILITIES (R419). SPDM GET_CAPABILITIES is answered. -/
  | getCapabilities (via : Via)
  /-- NEGOTIATE_ALGORITHMS (R419). SPDM NEGOTIATE_ALGORITHMS is answered. -/
  | negotiateAlgorithms (via : Via)
  /-- GET_DIGESTS (R416). SPDM GET_DIGESTS reports slot 0's digest. -/
  | getDigests (via : Via)
  /-- GET_CERTIFICATE (R416). SPDM GET_CERTIFICATE returns the slot 0 chain. -/
  | getCertificate (via : Via) (off len : BitVec 16)
  /-- CHALLENGE (R419). SPDM CHALLENGE is answered with an identity-key signature. -/
  | challenge (via : Via) (nonce : DWord)
  /-- GET_MEASUREMENTS (R420). SPDM GET_MEASUREMENTS returns measurement blocks taken at one instant. -/
  | getMeasurements (via : Via) (index : Byte) (sign : Bool) (nonce : DWord)
  /-- KEY_EXCHANGE (R419). SPDM KEY_EXCHANGE on the DOE starts a secured session. -/
  | keyExchange (via : Via) (share : DWord)
  /-- FINISH (R419). SPDM FINISH completes a secured session. -/
  | finish (via : Via) (session : Nat) (ok : Bool)
  /-- END_SESSION (R413). SPDM END_SESSION ends a session and destroys its keys. -/
  | endSession (via : Via) (session : Nat)
  /-- HEARTBEAT (R419). SPDM HEARTBEAT is answered. -/
  | heartbeat (via : Via) (session : Nat)
  /-- SET_ENDPOINT_ID (R418). MCTP Set Endpoint ID is answered. -/
  | setEndpointId (via : Via) (eid : Byte)
  /-- GET_ENDPOINT_ID (R418). MCTP Get Endpoint ID is answered. -/
  | getEndpointId (via : Via)
  /-- GET_MCTP_VERSION_SUPPORT (R418). MCTP Get MCTP Version Support is answered. -/
  | getMctpVersionSupport (via : Via)
  /-- GET_MESSAGE_TYPE_SUPPORT (R418). MCTP Get Message Type Support is answered. -/
  | getMessageTypeSupport (via : Via)
  /-- CLK_MONITOR_WINDOW (R435). A 10 µs monitor window ends and sources qualify, fail or are switched. -/
  | clkMonitorWindow (c : MonCounts)
  /-- CLOCK_EDGE_LOSS (R436). A source shows no edge for 50 ns or its monitor PLL unlocks and it fails. -/
  | clockEdgeLoss (k : Fin 4)
  /-- CLK_FAIL_RESET_EXPIRY (R440). No qualified source returns within CLK_FAIL_RESET and the clock-failure reset fires. -/
  | clkFailResetExpiry
  /-- REFCLK_QUALIFY_TIMEOUT (R434). REFCLK_156 fails to qualify within 100 ms and the release sequence stops. -/
  | refclkQualifyTimeout
  /-- CLK_CFG_WRITE (R437). A CLK_CFG write changes the timing ports and disqualifies the old port's clock. -/
  | clkCfgWrite (value : Word)
  /-- CLK_EVENT_CLEAR (R469). A W1C write clears CLK_EVENT bits. -/
  | clkEventClear (value : Word)
  /-- PWR_STATE_REQUEST (R444). A PWR_STATE.REQ write requests Sleep, Deep-sleep or Run. -/
  | pwrStateRequest (i : Island) (value : Word)
  /-- SG_STATE_WRITE (R443). A SG_SLEEP or SG_DEEP write requests a Spindle group's state. -/
  | sgStateWrite (n : BayId) (value : Word)
  /-- POWER_ENTRY_DONE (R444). An island's entry condition holds and it enters Sleep or Deep-sleep. -/
  | powerEntryDone (i : Island)
  /-- POWER_ENTRY_TIMEOUT (R444). The entry condition does not hold within 100 µs and REFUSED is set. -/
  | powerEntryTimeout (i : Island)
  /-- THROTTLE_BOUNDARY (R466). A 10 ms boundary arrives and the throttle level follows the demand. -/
  | throttleBoundary
  /-- VIN_MEASURE (R471). Every 10 µs input voltage and current are measured. -/
  | vinMeasure (v a : BitVec 16)
  /-- POWER_STATUS_UPDATE (R471). Every 1 ms temperatures and mean power are written to PIN_STAT. -/
  | powerStatusUpdate (logic : BitVec 8) (watts : BitVec 16)
  /-- INPUT_FAULT (R460). The input is out of range for 5 µs and the input-fault reset fires. -/
  | inputFault
  /-- INPUT_RECOVERED (R460). The input stays in range for 10 ms and conversion or the undervoltage cause resumes. -/
  | inputRecovered
  /-- CRITICAL_UNDERVOLTAGE (R460). The input is below 38 V for 100 µs and Footway mode is entered. -/
  | criticalUndervoltage
  /-- FOOTWAY_ENTRY_DONE (R496). Spindle groups reach Deep-sleep and units are gated, completing entry. -/
  | footwayEntryDone
  /-- CRITICAL_TEMPERATURE (R468). A sensor stays at its critical limit for 1 ms and Footway mode is entered. -/
  | criticalTemperature (dram : Bool)
  /-- THERMAL_TRIP (R468). A sensor reaches the trip limit and the device stops and holds in reset. -/
  | thermalTrip
  /-- POWER_STAGE_FAULT (R459). A power stage enters FAULT and removes its rail. -/
  | powerStageFault (i : Fin 398) (fault : BitVec 8)
  /-- RAIL_BROWN_OUT (R459). A rail is below 90 % for 1 µs and its brown-out reset source fires. -/
  | railBrownOut (u : ResetUnit)
  /-- PSTAGE_MARGIN (R471). PSTAGE_CMD 0x1 starts a power stage margin measurement. -/
  | pstageMargin
  /-- PSTAGE_RECALIBRATE (R471). PSTAGE_CMD 0x2 recalibrates a power stage. -/
  | pstageRecalibrate
  /-- POWER_ON (R448). PWRGOOD rises, the straps are sampled and an L0 reset begins. -/
  | powerOn
  /-- PORST_N_ASSERT (R448). PORST_N is asserted past its filter and an L0 reset follows. -/
  | porstNAssert
  /-- WARM_RST_N_ASSERT (R449). WARM_RST_N is asserted and its mapped reset fires. -/
  | warmRstNAssert
  /-- HP_PERST_N_ASSERT (R537). HP_PERST_N holds the host port in reset. -/
  | hpPerstNAssert
  /-- HP_PERST_N_DEASSERT (R537). HP_PERST_N deasserts and the host port trains. -/
  | hpPerstNDeassert
  /-- PSU_WARN_N_ASSERT (R465). PSU_WARN_N asserts, raising throttle demand and slowing the wake budget. -/
  | psuWarnNAssert
  /-- PSU_WARN_N_DEASSERT (R463). PSU_WARN_N deasserts and the supply demand returns to 0. -/
  | psuWarnNDeassert
  /-- HOME_TRACKER_PARITY_ERROR (R449). A home-tracker parity or double-bit error fires its mapped reset. -/
  | homeTrackerParityError (n : BayId)
  /-- DIRECTORY_CACHE_PARITY_ERROR (R70). A directory-cache parity error fires its mapped reset. -/
  | directoryCacheParityError (n : BayId)
  /-- ARBITER_PARITY_ERROR (R449). A parity error in Deck arbiter state fires its mapped reset. -/
  | arbiterParityError (slice : Fin 5)
  /-- MAP_COPY_PARITY_ERROR (R449). A parity error in a unit's map copy fires its mapped reset. -/
  | mapCopyParityError (group : Bool) (i : Fin 24)
  /-- TREADLE_PARITY_ERROR (R348). A Treadle scoreboard parity error fires its mapped reset. -/
  | treadleParityError
  /-- HEDDLE_PARITY_ERROR (R449). A parity error in Heddle state fires its mapped reset. -/
  | heddleParityError (n : BayId)
  /-- REPLAY_BUFFER_ERROR (R449). A double-bit error in a Pier's replay buffer or credit state fires its mapped reset. -/
  | replayBufferError (p : PierId)
  /-- WEFT_LOCK_UP (R453). No unfenced Weft core retires an instruction for 100 ms and the lock-up reset fires. -/
  | weftLockUp
  /-- WATCHDOG_EXPIRY (R452). The watchdog period expires, escalating from event to Footway to reset. -/
  | watchdogExpiry (slot : Bool)
  /-- WDT_KICK (R452). A write to WDT_KICK restarts the watchdog and clears its cause. -/
  | wdtKick
  /-- RST_CMD_L0 (R470). RST_CMD with LEVEL 0 performs a cold reset. -/
  | rstCmdL0 (confirm : Byte)
  /-- RST_CMD_L1 (R470). RST_CMD with LEVEL 1 performs a warm device reset. -/
  | rstCmdL1 (confirm : Byte)
  /-- RST_CMD_L2 (R470). RST_CMD with LEVEL 2 performs a Warp reset. -/
  | rstCmdL2 (confirm : Byte)
  /-- RST_CTRL_L3 (R455). RST_CTRL REQ 3 resets the page's Bay or Pier-group island. -/
  | rstCtrlL3 (page : Fin 5120) (value : Word)
  /-- RST_CTRL_L4 (R454). RST_CTRL REQ 4 resets the page's unit. -/
  | rstCtrlL4 (page : Fin 5120) (value : Word)
  /-- HOLD_RELEASE (R454). Writing HOLD 0 releases a unit held in reset. -/
  | holdRelease (page : Fin 5120)
  /-- RESET_RELEASE (R455). An L3 or L4 reset is released after its reset time. -/
  | resetRelease (u : ResetUnit)
  /-- RELEASE_STEP (R457). A release-sequence step's condition is met and the next step begins. -/
  | releaseStep
  /-- STACK_TRAINING_DONE (R103). A stack finishes training and its shell is READY or in FAULT. -/
  | stackTrainingDone (n : BayId) (fault : BitVec 8)
  /-- LANE_CALIBRATION_DONE (R445). A Pier group's lane shells finish calibration and ports may leave DISABLED. -/
  | laneCalibrationDone (g : GroupId)
  /-- BRIDGE_BEAT_FAIL (R480). A bridge beat fails its CRC and is replayed, fencing the bridge past its limits. -/
  | bridgeBeatFail (k : Fin 10) (again : Bool)
  /-- MACHINE_CHECK (R472). A Weft core reports an uncorrectable error and stops, and a repeat fences it. -/
  | machineCheck (core : Fin 16)
  /-- BAY_RETIRE_CMD (R475). BAY_RETIRE_CMD retires a Bay. -/
  | bayRetireCmd (confirm : Byte) (n : BitVec 5)
  /-- EPART_FENCE (R482). EPART_CMD fences an electrical partition and powers its Spans off. -/
  | epartFence (confirm : Byte) (part : Fin 4)
  /-- LPART_FENCE (R483). LPART_CMD fences a logical partition. -/
  | lpartFence (confirm : Byte) (part : Fin 8)
  /-- FOOT_ENTER (R495). FOOT_CMD 1 commands entry to Footway mode. -/
  | footEnter (confirm : Byte)
  /-- FOOT_EXIT (R498). FOOT_CMD 2 leaves Footway mode when no cause remains. -/
  | footExit (confirm : Byte)
  /-- BTEST_START (R487). BTEST_CMD start takes a Bay offline and begins its stack test. -/
  | btestStart (confirm : Byte) (n : BitVec 5) (mode : Fin 4)
  /-- BTEST_ABORT (R487). BTEST_CMD abort ends a running stack test. -/
  | btestAbort (confirm : Byte)
  /-- BTEST_DONE (R487). A stack test ends, its result is recorded and the Bay comes up. -/
  | btestDone (rows : List Nat)
  /-- LOOP_START (R488). LOOP_CMD START begins a lane loopback. -/
  | loopStart (p : PierId) (value : Word)
  /-- LOOP_ABORT (R488). LOOP_CMD ABORT ends a lane loopback. -/
  | loopAbort (p : PierId) (value : Word)
  /-- LOOP_DONE (R488). A loopback's duration expires and it ends. -/
  | loopDone (p : PierId) (errors : BitVec 32)
  /-- DPATH_START (R489). DPATH_CMD START sends test cells to an output port. -/
  | dpathStart (port : BitVec 6)
  /-- DPATH_DONE (R489). All returned test cells are checked and the result recorded. -/
  | dpathDone (bad : BitVec 11)
  /-- WEFT_FENCE_WRITE (R479). A WEFT_FENCE write fences or unfences Weft cores. -/
  | weftFenceWrite (value : Word)
  /-- TRACE_SPLIT_WRITE (R493). A TRACE_SPLIT write divides the trace SRAM or is rejected. -/
  | traceSplitWrite (value : Word)
  /-- TRACE_ENABLE (R493). Setting TRACE_CTRL.EN enables the Hub trace after its size check. -/
  | traceEnable (value : Word)
  /-- ERR_STAT_CLEAR (R522). A W1C write clears ERR_STAT bits and updates ERR_FIRST. -/
  | errStatClear (page : Fin 5120) (value : Word)
  /-- ERR_INJECT (R519). An ERR_INJ write sets an ERR_STAT bit as injected. -/
  | errInject (page : Fin 5120) (value : Word)
  /-- COUNTER_CLEAR (R519). BLK_CTRL.CNT_CLR sets every counter of the page to zero. -/
  | counterClear (page : Fin 5120)
  /-- FAULT_INFO_READ (R86). Reading FAULT_INFO returns and clears it and FAULT_ADDR. -/
  | faultInfoRead (m : Master) (page : FaultPage)
  /-- UE_INFO_READ (R106). Reading UE_INFO returns and clears it and UE_ADDR. -/
  | ueInfoRead (m : Master) (n : BayId)
  /-- LOOM_FAULT_INFO_READ (R245). Reading LOOM_FAULT_INFO returns and clears it and LOOM_FAULT_ID. -/
  | loomFaultInfoRead (m : Master) (n : BayId)
  /-- HED_FAULT_INFO_READ (R277). Reading HED_FAULT_INFO returns and clears it and HED_FAULT_ADDR. -/
  | hedFaultInfoRead (m : Master) (n : BayId)
  /-- SP_FAULT_INFO_READ (R316). Reading SP_FAULT_INFO returns and clears it, SP_FAULT_PC and SP_FAULT_ADDR. -/
  | spFaultInfoRead (m : Master) (n : BayId)
  /-- CODEC_FAULT_INFO_READ (R336). Reading CODEC_FAULT_INFO returns and clears it and CODEC_FAULT_ADDR. -/
  | codecFaultInfoRead (m : Master) (n : BayId)
  /-- STUCK_INFO_READ (R148). Reading STUCK_INFO returns and clears the stuck-head record. -/
  | stuckInfoRead (m : Master) (slice : Fin 5)
  /-- RC_COUNTER_READ (R14). A read of an RC counter returns and clears it, latching the upper word. -/
  | rcCounterRead (m : Master) (addr : BitVec 26) (size : Fin 9)
  /-- GPIO_MUX_WRITE (R492). A GPIO_MUX write selects the function of GPIO6 and GPIO7. -/
  | gpioMuxWrite (value : Word)
  /-- PPS_CFG_WRITE (R543). A PPS_CFG write configures the PPS output from the next second. -/
  | ppsCfgWrite (value : Word)
  /-- ALERT_HOLD_EXPIRY (R538). ALERT_N's 10 µs minimum assertion ends and it deasserts if no cause remains. -/
  | alertHoldExpiry
  /-- MEM_RD (R511). A CXL.mem MemRd is issued into the device as RD, RD_S or RD_M. -/
  | memRd (ctag : BitVec 16) (dpa : BitVec 48) (mv : MetaValue)
  /-- MEM_RD_DATA (R511). A CXL.mem MemRdData is issued as RD_S. -/
  | memRdData (ctag : BitVec 16) (dpa : BitVec 48)
  /-- MEM_INV (R511). A CXL.mem MemInv is issued as OWN or answered at once. -/
  | memInv (ctag : BitVec 16) (dpa : BitVec 48) (mv : MetaValue)
  /-- MEM_WR (R511). A CXL.mem MemWr is issued as WB or WR. -/
  | memWr (ctag : BitVec 16) (dpa : BitVec 48) (mv : MetaValue) (bad : Bool) (data : Line)
  /-- MEM_WR_PTL (R511). A CXL.mem MemWrPtl is issued as WR_P. -/
  | memWrPtl (ctag : BitVec 16) (dpa : BitVec 48) (mask : BitVec 64) (bad : Bool) (data : Line)
  /-- BI_RSP (R511). A BIRspI or BIRspS from the host is issued as BI_ACK. -/
  | biRsp (laddr : BitVec 42)
  /-- HOST_RETRY (R512). HP_RETRY.INTERVAL passes and a retried CXL.mem request is reissued. -/
  | hostRetry (ctag : BitVec 16)
  /-- HOST_LINK_TRAINED (R504). The host link trains and CXL.mem is enabled or not. -/
  | hostLinkTrained (flit : Fin 3) (width : Byte) (rate : Byte)
  /-- HOST_LINK_DOWN (R513). The host link goes down, destroying IDE keys and flushing port 288. -/
  | hostLinkDown
  /-- IDE_INTEGRITY_FAIL (R513). An IDE integrity failure destroys the keys and takes the host port down. -/
  | ideIntegrityFail
  /-- HDM_DECODER_COMMIT (R509). The host commits an HDM decoder, which fails beyond the stack tier. -/
  | hdmDecoderCommit (n : Fin 4) (base size : BitVec 48) (ways gran : Nat)
  /-- IDENTIFY_MEMORY_DEVICE (R507). Mailbox Identify Memory Device is answered. -/
  | identifyMemoryDevice
  /-- GET_SUPPORTED_LOGS (R507). Mailbox Get Supported Logs is answered. -/
  | getSupportedLogs
  /-- GET_LOG (R507). Mailbox Get Log is answered. -/
  | getLog
  /-- GET_EVENT_RECORDS (R508). Mailbox Get Event Records returns event records. -/
  | getEventRecords (log : Fin 4)
  /-- CLEAR_EVENT_RECORDS (R508). Mailbox Clear Event Records clears records. -/
  | clearEventRecords (log : Fin 4) (all : Bool) (handles : List Nat)
  /-- GET_TIMESTAMP (R507). Mailbox Get Timestamp is answered. -/
  | getTimestamp
  /-- SET_TIMESTAMP (R507). Mailbox Set Timestamp is performed. -/
  | setTimestamp (value : DWord)
  /-- GET_DEVICE_INFORMATION (R507). Vendor command 0xC000 returns device information. -/
  | getDeviceInformation
  /-- READ_REGISTER (R507). Vendor command 0xC001 reads a BAR0 register. -/
  | readRegister (core : Fin 16) (off : BitVec 26) (size : Byte)
  /-- WRITE_REGISTER (R507). Vendor command 0xC002 writes a BAR0 register. -/
  | writeRegister (core : Fin 16) (off : BitVec 26) (size : Byte) (value : DWord)
  /-- ADD_TRUST_ANCHOR (R507). Vendor command 0xC003 adds a trust anchor. -/
  | addTrustAnchor (cert : List Byte)
  /-- CLEAR_TRUST_ANCHORS (R507). Vendor command 0xC004 clears the trust anchors. -/
  | clearTrustAnchors
  /-- WRITE_FLASH_IMAGE (R507). Vendor command 0xC005 writes data into the flash image slot. -/
  | writeFlashImage (off : BitVec 32) (data : List Byte)
  /-- READ_REPAIR_LOG (R507). Vendor command 0xC006 returns repair log entries. -/
  | readRepairLog (index : BitVec 16)
  /-- SMBUS_STATUS_READ (R516). An SMBus block read with command 0x20 returns the hardware status block. -/
  | smbusStatusRead
  /-- SMBUS_MCTP_PACKET (R515). An MCTP packet arrives on the SMBus and is PEC-checked and relayed. -/
  | smbusMctpPacket (packet : List Byte) (pecOk : Bool)
  /-- JTAG_INSTRUCTION (R427). A JTAG instruction is loaded and acts or decodes as BYPASS by consent. -/
  | jtagInstruction (i : Jtag)
  /-- DEBUG_ACCESS (R427). A debug-port access is performed if a class opens it or is refused. -/
  | debugAccess (op : DebugOp)
  /-- REGISTER_READ (R18). A register read is performed at the Weft root, latching the upper word of a 64-bit register, enabling a sleeping block's clock, or reading zero and recording a page-unavailable or unassigned-page error. -/
  | registerRead (m : Master) (addr : BitVec 26) (size : Fin 9)
  /-- MCTP_OVER_PCIE_VDM (R514). An MCTP packet arrives on the host port over PCIe VDM and is relayed by firmware. -/
  | mctpOverPcieVdm (packet : List Byte)
  /-- IDE_KEY_MANAGEMENT (R513). A PCIe IDE or CXL IDE key-management message arrives inside a secured SPDM session and its keys are installed in the host port's IDE engine. -/
  | ideKeyManagement (session : Nat) (stream : Fin 2)
  /-- DOE_DISCOVERY (R513). A DOE discovery data object on DOE instance 0 is answered. -/
  | doeDiscovery (index : Byte)
  /-- CDAT (R513). A CDAT table request on DOE instance 0 is answered with the DSMAS range, latency and bandwidth. -/
  | cdat
  /-- DOE_ABORT (R527). The host aborts a DOE exchange and DOE_ABORT_CNT is incremented. -/
  | doeAbort
  /-- GPIO_SAMPLE (R543). Every 1 µs the levels of GPIO0 to GPIO7 are sampled into GPIO_IN. -/
  | gpioSample (levels : Byte)
  /-- KNOWN_ANSWER_TEST_DONE (R486). A Spindle's known-answer test ends after up to 10 µs, is repeated or fences the Spindle on failure, and releases a launch waiting for it. -/
  | knownAnswerTestDone (n : BayId) (k : Fin 64) (pass : Bool)
deriving DecidableEq, Repr

end Sys2Proof
end

