-- ==== Sys2Proof/Decode.lean ====
section
/-!
DEFINITION. Decode.lean: the commands that words spell. The rows of the operation table of this block give no bits: what a row is
about arrives as a message, a pin or a register access, and the operands of the row's command name it. So no word spells a command.
-/
namespace Sys2Proof

/-- The command that a word spells by the table's bits: none, as the table gives no row any bits (log entry 1). -/
def decodeTableWord (_nbits _w : Nat) : Option Instr := none

end Sys2Proof
end

