-- ==== Sys2Proof/Machine/Bits.lean ====
section
/-!
DEFINITION. Machine/Bits.lean: bit fields (R8), byte order (R9), masks, and the CRC-32 of R557.
-/
namespace Sys2Proof.Machine

/-- Field [hi:lo] of v, as a number (R8). -/
def fld {w : Nat} (v : BitVec w) (hi lo : Nat) : Nat := (v.toNat >>> lo) % 2 ^ (hi + 1 - lo)

/-- Bit n of v. -/
def bit {w : Nat} (v : BitVec w) (n : Nat) : Bool := v.toNat.testBit n

/-- v with field [hi:lo] replaced by the low bits of x. -/
def setFld {w : Nat} (v : BitVec w) (hi lo x : Nat) : BitVec w :=
  let m : BitVec w := BitVec.ofNat w ((2 ^ (hi + 1 - lo) - 1) * 2 ^ lo)
  (v &&& ~~~m) ||| (BitVec.ofNat w ((x % 2 ^ (hi + 1 - lo)) * 2 ^ lo))

/-- v with bit n set to b. -/
def setBit {w : Nat} (v : BitVec w) (n : Nat) (b : Bool) : BitVec w := setFld v n n (if b then 1 else 0)

/-- A truth value as a number. -/
def b2n (b : Bool) : Nat := if b then 1 else 0

/-- Field [hi:lo] of a number. -/
def nfld (v hi lo : Nat) : Nat := (v >>> lo) % 2 ^ (hi + 1 - lo)

/-- Byte i of a value (R9). -/
def byteOf {w : Nat} (v : BitVec w) (i : Nat) : Byte := BitVec.ofNat 8 (v.toNat >>> (8 * i))

/-- n bytes of a value from byte i, as a number, little-endian (R9). -/
def bytesAt {w : Nat} (v : BitVec w) (i n : Nat) : Nat := (v.toNat >>> (8 * i)) % 2 ^ (8 * n)

/-- The low k bits of n bytes from byte i: a field under reserved bits, which are ignored (R16). -/
def bitsAt {w : Nat} (v : BitVec w) (i n k : Nat) : Nat := bytesAt v i n % 2 ^ k

/-- The number that a list of bytes spells, little-endian (R9). -/
def leNat : List Byte → Nat
  | [] => 0
  | b :: r => b.toNat + 256 * leNat r

/-- The n bytes of a number, little-endian (R9). -/
def leBytes : Nat → Nat → List Byte
  | 0, _ => []
  | n + 1, v => BitVec.ofNat 8 v :: leBytes n (v / 256)

/-- The line that 64 bytes spell. -/
def lineOfBytes (bs : List Byte) : Line := BitVec.ofNat 512 (leNat bs)

/-- The bytes of a line. -/
def lineBytes (l : Line) : List Byte := leBytes 64 l.toNat

/-- The bit mask of a byte mask: byte i enabled for each bit i of m. -/
def byteMask (m : BitVec 64) : Line :=
  lineOfBytes ((List.range 64).map (fun i => if m.toNat.testBit i then 0xFF#8 else 0x00#8))

/-- Masked merge of new bytes into an old line (R88). -/
def mergeLine (old new : Line) (m : BitVec 64) : Line :=
  (old &&& ~~~byteMask m) ||| (new &&& byteMask m)

/-- Sign-extend the low w bits of v to an integer. -/
def sx (w v : Nat) : Int := if v % 2 ^ w < 2 ^ (w - 1) then (v % 2 ^ w : Nat) else ((v % 2 ^ w : Nat) : Int) - (2 ^ w : Nat)

/-- The low w bits of an integer, two's complement. -/
def toBits (w : Nat) (x : Int) : Nat := (x % (2 ^ w : Nat)).toNat

/-- Round n up to a multiple of m. -/
def alignUp (n m : Nat) : Nat := (n + m - 1) / m * m

/-- One reflected CRC-32 step. -/
def crc32Bit (c : Nat) : Nat := if c % 2 = 1 then (c / 2) ^^^ 0xEDB88320 else c / 2

/-- One byte into a reflected CRC-32. -/
def crc32Byte (c : Nat) (b : Byte) : Nat :=
  (List.range 8).foldl (fun a _ => crc32Bit a) (c ^^^ b.toNat)

/-- R557: the CRC-32 of IEEE 802.3 over bytes in order. -/
def crc32 (bs : List Byte) : Nat := (bs.foldl crc32Byte 0xFFFFFFFF) ^^^ 0xFFFFFFFF

/-- One bit of a 16-bit CRC, most significant bit first. -/
def crc16Bit (poly c bitIn : Nat) : Nat :=
  let fb := ((c >>> 15) % 2) ^^^ bitIn
  let c' := (c <<< 1) % 65536
  if fb = 1 then c' ^^^ poly else c'

/-- A byte, most significant bit first, into a 16-bit CRC. -/
def crc16Byte (poly c : Nat) (b : Byte) : Nat :=
  (List.range 8).foldl (fun a i => crc16Bit poly a ((b.toNat >>> (7 - i)) % 2)) c

/-- R192: the line check, a CRC-16 with polynomial 0x8BB7 and initial value 0 over bytes in order. -/
def lineCheck (bs : List Byte) : Nat := bs.foldl (crc16Byte 0x8BB7) 0

/-- The 16-bit interleave hash of R52 and R111: the low n bits of x, most significant first. -/
def hash16 (poly : Nat) : Nat → Nat → Nat → Nat
  | 0, _, h => h
  | n + 1, x, h => hash16 poly n x (crc16Bit poly h ((x >>> n) % 2))

/-- R52: the polynomial a HASH_SEL value selects. -/
def hashPoly (sel : Nat) : Nat :=
  match sel with
  | 0 => 0x1021
  | 1 => 0x8005
  | 2 => 0x3D65
  | _ => 0x0589

/-- A number in a fixed range around a pointer: the distance from p to x going up, modulo n. -/
def ringDist (n p x : Nat) : Nat := (x + n - p % n) % n

end Sys2Proof.Machine
end

