-- ==== Sys2Proof/Machine/Arith.lean ====
section
/-!
DEFINITION. Machine/Arith.lean: number formats (R220), rounding (R225), the exact accumulator (R223, R224), and the
element operations of reductions and atomics (R221, R236, R242). Values are exact integers until they are narrowed.
-/
namespace Sys2Proof.Machine

/-- A float format of R220: bytes, fraction bits, exponent bits, bias, and whether it has infinities. -/
structure FF where
  size : Nat
  mant : Nat
  exp : Nat
  bias : Nat
  inf : Bool
deriving DecidableEq, Repr

/-- FP32. -/
def FF.fp32 : FF := { size := 4, mant := 23, exp := 8, bias := 127, inf := true }
/-- BF16. -/
def FF.bf16 : FF := { size := 2, mant := 7, exp := 8, bias := 127, inf := true }
/-- FP16. -/
def FF.fp16 : FF := { size := 2, mant := 10, exp := 5, bias := 15, inf := true }
/-- E4M3. -/
def FF.e4m3 : FF := { size := 1, mant := 3, exp := 4, bias := 7, inf := false }
/-- E5M2. -/
def FF.e5m2 : FF := { size := 1, mant := 2, exp := 5, bias := 15, inf := true }

/-- R220: the float format of an FMT code. -/
def FF.ofCode (c : Nat) : Option FF :=
  match c with
  | 0 => some .fp32 | 1 => some .bf16 | 2 => some .fp16 | 3 => some .e4m3 | 4 => some .e5m2 | _ => none

/-- R220: the size in bytes of an integer FMT code. -/
def intSize (c : Nat) : Option Nat :=
  match c with
  | 5 => some 4 | 6 => some 1 | 7 => some 8 | _ => none

/-- R220: the size in bytes of an element of an FMT code, 0 for RAW and reserved codes. -/
def fmtSize (c : Nat) : Nat :=
  match FF.ofCode c with
  | some f => f.size
  | none => (intSize c).getD 0

/-- R220: the significand bits. -/
def FF.p (f : FF) : Nat := f.mant + 1
/-- R220: the smallest normal exponent. -/
def FF.emin (f : FF) : Int := 1 - (f.bias : Int)
/-- R220: the largest exponent. -/
def FF.emax (f : FF) : Int := (2 ^ f.exp : Nat) - (if f.inf then 2 else 1) - (f.bias : Int)
/-- The largest significand at the largest exponent: E4M3's all-ones pattern is its NaN. -/
def FF.maxSig (f : FF) : Nat := 2 ^ f.p - (if f.inf then 1 else 2)
/-- R220: the default NaN. -/
def FF.nan (f : FF) : Nat :=
  if f.inf then (2 ^ f.exp - 1) * 2 ^ f.mant + 2 ^ (f.mant - 1) else 2 ^ (f.exp + f.mant) - 1
/-- The sign bit's weight. -/
def FF.signW (f : FF) : Nat := 2 ^ (f.exp + f.mant)
/-- The infinity of a sign, or E4M3's largest finite value (R226). -/
def FF.infOr (f : FF) (neg : Bool) : Nat :=
  (if neg then f.signW else 0) + (if f.inf then (2 ^ f.exp - 1) * 2 ^ f.mant else 2 ^ (f.exp + f.mant) - 2)

/-- What a bit pattern stands for: the finite value is ± m × 2^e. -/
inductive FVal where
  | nan
  | inf (neg : Bool)
  | fin (neg : Bool) (m : Nat) (e : Int)
deriving DecidableEq, Repr

/-- The value of a bit pattern. -/
def FF.decode (f : FF) (b : Nat) : FVal :=
  let neg := b.testBit (f.exp + f.mant)
  let e := nfld b (f.exp + f.mant - 1) f.mant
  let m := nfld b (f.mant - 1) 0
  if f.inf ∧ e = 2 ^ f.exp - 1 then (if m = 0 then .inf neg else .nan)
  else if ¬f.inf ∧ e = 2 ^ f.exp - 1 ∧ m = 2 ^ f.mant - 1 then .nan
  else if e = 0 then .fin neg m (f.emin - f.mant)
  else .fin neg (2 ^ f.mant + m) ((e : Int) - f.bias - f.mant)

/-- The number of bits of n. -/
def bitlength (n : Nat) : Nat := if n = 0 then 0 else Nat.log2 n + 1

/-- R225: the rounding of m × 2^scale / n to nearest even: significand and exponent of its last bit. -/
def roundSig (p : Nat) (emin : Int) (m n : Nat) (scale : Int) : Nat × Int :=
  let k0 : Int := (bitlength m : Int) - bitlength n
  let k := if m <<< (-k0).toNat < n <<< k0.toNat then k0 - 1 else k0
  let q := max (k + scale) emin - (p - 1)
  let shift := q - scale
  let num := m <<< (-shift).toNat
  let den := n <<< shift.toNat
  let r := num / den
  let rem := num - r * den
  let r := if 2 * rem > den ∨ (2 * rem = den ∧ r % 2 = 1) then r + 1 else r
  if r = 2 ^ p then (r / 2, q + 1) else (r, q)

/-- A rounded float: its pattern and whether it overflowed (R226). -/
def FF.round (f : FF) (neg : Bool) (m n : Nat) (scale : Int) : Nat × Bool :=
  let s := if neg then f.signW else 0
  if m = 0 then (s, false)
  else
    let (r, q) := roundSig f.p f.emin m n scale
    let top := f.emax - (f.p - 1)
    if q > top ∨ (q = top ∧ r > f.maxSig) then (f.infOr neg, true)
    else if r < 2 ^ f.mant then (s + r, false)
    else (s + ((q + f.mant + f.bias).toNat) * 2 ^ f.mant + (r - 2 ^ f.mant), false)

/-- Round an exact integer v × 2^scale / n; zero gives +0 (R225). -/
def FF.ofInt (f : FF) (v : Int) (n : Nat) (scale : Int) : Nat × Bool :=
  f.round (decide (v < 0)) v.natAbs n scale

/-- R225 step 6: the nearest integer to v / n, ties to even. -/
def nearest (v : Int) (n : Nat) : Int :=
  let r := v.natAbs / n
  let rem := v.natAbs % n
  let r := if 2 * rem > n ∨ (2 * rem = n ∧ r % 2 = 1) then r + 1 else r
  if v < 0 then -(r : Int) else r

/-- Saturate to w bits of two's complement: the pattern and whether it was clamped (R226). -/
def satInt (w : Nat) (v : Int) : Nat × Bool :=
  let hi : Int := (2 ^ (w - 1) : Nat) - 1
  let lo : Int := -(2 ^ (w - 1) : Nat)
  if v > hi then (toBits w hi, true) else if v < lo then (toBits w lo, true) else (toBits w v, false)

/-! ### Exact accumulators (R223, R224) -/

/-- A slot or slot pair as numbers: the value bits as a pattern of n bits, and the flags NAN, PINF, NINF, OVF in bits n+3
down to n. -/
structure Accum where
  n : Nat
  v : Nat
  nan : Bool
  pinf : Bool
  ninf : Bool
  ovf : Bool
deriving DecidableEq, Repr

/-- The value bits of a layout: 600 for an FP32 pair, 316 otherwise. -/
def accBits (pair : Bool) : Nat := if pair then 600 else 316

/-- Read a slot or pair. -/
def Accum.ofRaw (pair : Bool) (raw : Nat) : Accum :=
  let n := accBits pair
  { n := n, v := raw % 2 ^ n, nan := raw.testBit (n + 3), pinf := raw.testBit (n + 2), ninf := raw.testBit (n + 1),
    ovf := raw.testBit n }

/-- The bits of a slot or pair. -/
def Accum.raw (a : Accum) : Nat :=
  a.v + 2 ^ a.n * (b2n a.ovf + 2 * b2n a.ninf + 4 * b2n a.pinf + 8 * b2n a.nan)

/-- The sum held, as an integer. -/
def Accum.val (a : Accum) : Int := sx a.n a.v

/-- Add an exact integer; OVF keeps the low bits (R224). -/
def Accum.addInt (a : Accum) (x : Int) : Accum :=
  let s := a.val + x
  let out : Bool := decide (s ≥ (2 ^ (a.n - 1) : Nat)) || decide (s < -((2 ^ (a.n - 1) : Nat) : Int))
  { a with v := toBits a.n s, ovf := a.ovf || out }

/-- R223: the exponent of the least significant bit of a float sum. -/
def accScale (pair : Bool) : Int := if pair then -149 else -133

/-- R224: add a float element to a sum. -/
def Accum.addFloat (a : Accum) (f : FF) (b : Nat) : Accum :=
  match f.decode b with
  | .nan => { a with nan := true }
  | .inf false => { a with pinf := true }
  | .inf true => { a with ninf := true }
  | .fin neg m e =>
    let x : Int := ((m <<< (e - accScale (decide (a.n = 600))).toNat : Nat) : Int)
    a.addInt (if neg then -x else x)

/-- R221: where a float pattern stands in the order of MAX and MIN. -/
def FF.key (f : FF) (b : Nat) : Int :=
  let mag := b % f.signW
  if b.testBit (f.exp + f.mant) then -(mag : Int) - 1 else mag

/-- The order key of an element of format code c. -/
def orderKey (c b : Nat) : Int :=
  match FF.ofCode c with
  | some f => f.key b
  | none => sx (8 * (intSize c).getD 4) b

/-- Is the element a NaN? -/
def isNaN (c b : Nat) : Bool :=
  match FF.ofCode c with
  | some f => f.decode b = .nan
  | none => false

/-- Is the element ±0, or an integer zero? -/
def isZero (c b : Nat) : Bool :=
  match FF.ofCode c with
  | some f => b % f.signW = 0
  | none => b = 0

/-- R221: the operations of a reduction. -/
inductive RedOp where
  | sum | mean | max | min | and | or | xor | count
deriving DecidableEq, Repr

/-- R221: the operation of an OP code. -/
def RedOp.ofCode (c : Nat) : Option RedOp :=
  match c with
  | 0 => some .sum | 1 => some .mean | 2 => some .max | 3 => some .min | 4 => some .and | 5 => some .or | 6 => some .xor
  | 7 => some .count | _ => none

/-- R221: is the combination of OP, SFMT and DFMT allowed? -/
def redCombo (op : RedOp) (sf df : Nat) : Bool :=
  match op with
  | .sum | .mean | .max | .min => (decide (sf ≤ 4) && decide (df ≤ 4)) || ((sf = 5 || sf = 6) && (df = 5 || df = 6))
  | .and | .or | .xor => decide (sf ≤ 6) && df = sf
  | .count => decide (sf ≤ 6) && df = 5

/-- R223: does an element take a slot pair? -/
def usesPair (op : RedOp) (sf : Nat) : Bool := (op = .sum || op = .mean) && sf = 0

/-- R223, R230: what a value slot starts as. -/
def slotInit (op : RedOp) : Nat := if op = .and then 2 ^ 32 - 1 else 0

/-- R224: add one element of SFMT to a raw slot (or pair). -/
def slotAdd (op : RedOp) (sf raw b : Nat) : Nat :=
  let a := Accum.ofRaw (usesPair op sf) raw
  match op with
  | .sum | .mean =>
    match FF.ofCode sf with
    | some f => (a.addFloat f b).raw
    | none => (a.addInt (sx (8 * fmtSize sf) b)).raw
  | .count => if isNaN sf b || isZero sf b then raw else (a.addInt 1).raw
  | .max =>
    if isNaN sf b then { a with nan := true }.raw
    else if ¬a.v.testBit 32 ∨ orderKey sf (a.v % 2 ^ 32) < orderKey sf b then { a with v := 2 ^ 32 + b }.raw else raw
  | .min =>
    if isNaN sf b then { a with nan := true }.raw
    else if ¬a.v.testBit 32 ∨ orderKey sf b < orderKey sf (a.v % 2 ^ 32) then { a with v := 2 ^ 32 + b }.raw else raw
  | .and => { a with v := a.v &&& b }.raw
  | .or => { a with v := a.v ||| b }.raw
  | .xor => { a with v := a.v ^^^ b }.raw

/-- R240: combine a staged slot (or pair) into a slot under OP; flags are ORed. -/
def slotFold (op : RedOp) (sf raw staged : Nat) : Nat :=
  let a := Accum.ofRaw (usesPair op sf) raw
  let b := Accum.ofRaw (usesPair op sf) staged
  let j := { a with nan := a.nan || b.nan, pinf := a.pinf || b.pinf, ninf := a.ninf || b.ninf, ovf := a.ovf || b.ovf }
  match op with
  | .sum | .mean | .count => (j.addInt b.val).raw
  | .max =>
    if b.v.testBit 32 ∧ (¬a.v.testBit 32 ∨ orderKey sf (a.v % 2 ^ 32) < orderKey sf (b.v % 2 ^ 32))
    then { j with v := b.v }.raw else j.raw
  | .min =>
    if b.v.testBit 32 ∧ (¬a.v.testBit 32 ∨ orderKey sf (b.v % 2 ^ 32) < orderKey sf (a.v % 2 ^ 32))
    then { j with v := b.v }.raw else j.raw
  | .and => { j with v := a.v &&& b.v }.raw
  | .or => { j with v := a.v ||| b.v }.raw
  | .xor => { j with v := a.v ^^^ b.v }.raw

/-- R226: an element's pattern and whether it is saturated. -/
abbrev Elem := Nat × Bool

/-- The infinity of a sign in format f; saturated for E4M3 (R225 step 2, R226). -/
def FF.inf? (f : FF) (neg : Bool) : Elem := (f.infOr neg, !f.inf)

/-- Convert the exact value of one pattern into a format (R225 step 5). -/
def convert (sf df b : Nat) : Elem :=
  match FF.ofCode sf, FF.ofCode df with
  | some f, some g =>
    if sf = df then (b, false)
    else match f.decode b with
      | .nan => (g.nan, false)
      | .inf neg => g.inf? neg
      | .fin neg m e => g.round neg m 1 e
  | _, _ => if sf = df then (b, false) else satInt (8 * fmtSize df) (sx (8 * fmtSize sf) b)

/-- R225 step 6: round into an integer format of w bits. -/
def roundInt (w : Nat) (a : Accum) (n : Nat) : Elem :=
  let hi := 2 ^ (w - 1) - 1
  let lo := 2 ^ (w - 1)
  if a.nan ∨ (a.pinf ∧ a.ninf) then (0, true)
  else if a.pinf then (hi, true)
  else if a.ninf then (lo, true)
  else if a.ovf then (if a.v.testBit 315 then (lo, true) else (hi, true))
  else satInt w (nearest a.val n)

/-- R225: round a slot (or pair) into DFMT; n is the divisor of a MEAN. -/
def roundSlot (op : RedOp) (sf df n raw : Nat) : Elem :=
  let a := Accum.ofRaw (usesPair op sf) raw
  let d := if op = .mean then n else 1
  match FF.ofCode df with
  | some g =>
    if a.nan ∨ (a.pinf ∧ a.ninf) ∨ a.ovf then (g.nan, false)
    else if a.pinf then g.inf? false
    else if a.ninf then g.inf? true
    else if op = .and ∨ op = .or ∨ op = .xor then (a.v % 2 ^ (8 * g.size), false)
    else if op = .max ∨ op = .min then convert sf df (a.v % 2 ^ 32)
    else g.ofInt a.val d (accScale (usesPair op sf))
  | none =>
    if op = .and ∨ op = .or ∨ op = .xor then (a.v % 2 ^ (8 * fmtSize df), false)
    else if op = .max ∨ op = .min then convert sf df (a.v % 2 ^ (8 * fmtSize sf))
    else roundInt (8 * fmtSize df) a d

/-- R225: is OVF set in a slot (or pair)? -/
def slotOvf (op : RedOp) (sf raw : Nat) : Bool := (Accum.ofRaw (usesPair op sf) raw).ovf

/-- Elements of size b bytes of a line, in order. -/
def lineElems (b : Nat) (l : Line) : List Nat := (List.range (64 / b)).map (fun i => bytesAt l (i * b) b)

/-- The line that elements of size b bytes spell. -/
def elemsLine (b : Nat) (es : List Nat) : Line := lineOfBytes (es.flatMap (fun e => leBytes b e))

/-- R236: one element of an undeclared reduce-store: the operation on the exact values, rounded once. -/
def redElem (op : RedOp) (c x y : Nat) : Elem := roundSlot op c c 1 (slotAdd op c (slotAdd op c (slotInit op) x) y)

/-- R242: an FP32 sum, rounded once; a NaN result is 0x7FC00000. A zero sum is -0 only where both operands are -0. -/
def fp32Add (x y : Nat) : Nat :=
  match FF.fp32.decode x, FF.fp32.decode y with
  | .nan, _ | _, .nan => FF.fp32.nan
  | .inf a, .inf b => if a = b then FF.fp32.infOr a else FF.fp32.nan
  | .inf a, _ => FF.fp32.infOr a
  | _, .inf b => FF.fp32.infOr b
  | .fin a m e, .fin b k g =>
    let u : Int := ((m <<< (e + 149).toNat : Nat) : Int)
    let v : Int := ((k <<< (g + 149).toNat : Nat) : Int)
    let sum := (if a then -u else u) + (if b then -v else v)
    if sum = 0 then (if a ∧ b then FF.fp32.signW else 0) else (FF.fp32.ofInt sum 1 (-149)).1

/-- R242: the atomic operations. -/
inductive AtomOp where
  | fadd | xadd | swap | cas | min | max | and | or | xor
deriving DecidableEq, Repr

/-- R242: the atomic operation of an AOP code. -/
def AtomOp.ofCode (c : Nat) : Option AtomOp :=
  match c with
  | 0 => some .fadd | 1 => some .xadd | 2 => some .swap | 3 => some .cas | 4 => some .min | 5 => some .max | 6 => some .and
  | 7 => some .or | 8 => some .xor | _ => none

/-- R242: is the combination of AOP, FMT and size in bytes allowed? -/
def atomCombo (op : AtomOp) (fmt size : Nat) : Bool :=
  match op with
  | .fadd | .min | .max => (fmt = 5 && size = 4) || (fmt = 7 && size = 8) || (fmt = 0 && size = 4)
  | .xadd => decide (fmt ≤ 2) && size = 4
  | .swap | .cas => fmt = 8 && (size = 4 || size = 8 || size = 16)
  | .and | .or | .xor => fmt = 8 && (size = 4 || size = 8)

/-- R242: what an atomic stores, from the stored value, the operand and the compare value (XADD apart). -/
def atomResult (op : AtomOp) (fmt size old x cmp : Nat) : Nat :=
  match op with
  | .fadd => if fmt = 0 then fp32Add old x else (old + x) % 2 ^ (8 * size)
  | .xadd => old
  | .swap => x
  | .cas => if old = cmp then x else old
  | .min => if isNaN fmt x then old else if isNaN fmt old then x else if orderKey fmt x < orderKey fmt old then x else old
  | .max => if isNaN fmt x then old else if isNaN fmt old then x else if orderKey fmt old < orderKey fmt x then x else old
  | .and => old &&& x
  | .or => old ||| x
  | .xor => old ^^^ x

end Sys2Proof.Machine
end

