-- ==== Sys2Proof/Machine/Regs.lean ====
section
/-!
DEFINITION. Machine/Regs.lean: the register tables of the manual, one RegSpec per register or register array.
A RegSpec gives the page class, the offset of element 0, the distance between elements, the number of elements,
whether it is 64 bits wide, the access type of R14, the value after an L0 reset (R15), the bits a write stores,
the value ranges outside which a field's value is a reserved encoding (R17), the selector that banks it, and the
reset levels (bit m for level m) that keep it.
-/
namespace Sys2Proof.Machine

/-- R14: the access types. -/
inductive Acc where
  | ro | rw | w1c | rc | wo | rws
deriving DecidableEq, Repr

/-- A field [hi:lo] and the least and the greatest value of a range of its values that are no reserved encodings (R17); a field may
have several. -/
structure FieldRange where
  hi : Nat
  lo : Nat
  least : Nat
  most : Nat
deriving DecidableEq, Repr

/-- One row of a register table (R12). cls is the block class of R524, plus 0x100 on the Hub (R525); 0x200 is the page
header of R519 and 0x1FF the recovery window of R409. bank: 0 none, 1 COMP_SEL, 2 STREAM_SEL, 3 MIG_SEL, 4 COH_SEL,
5 none, 6 SP_SEL, 7 KS_SEL, 8 PSTAGE_SEL. -/
structure RegSpec where
  cls : Nat
  off : Nat
  stride : Nat
  count : Nat
  wide : Bool
  acc : Acc
  reset : Nat
  wmask : Nat
  legal : List FieldRange
  bank : Nat
  keep : Nat
deriving DecidableEq, Repr

/-- spec/02_memory_model.md R57: RT_CMD. -/
def Reg.RT.RT_CMD : RegSpec := ⟨0x110, 0x40, 4, 1, false, .wo, 0x0, 0x0, [], 0, 0⟩
/-- spec/02_memory_model.md R57: RT_STAT. -/
def Reg.RT.RT_STAT : RegSpec := ⟨0x110, 0x44, 4, 1, false, .ro, 0x0, 0x0, [], 0, 0⟩
/-- spec/02_memory_model.md R57: HASH_CFG. -/
def Reg.RT.HASH_CFG : RegSpec := ⟨0x110, 0x48, 4, 1, false, .ro, 0, 0x0, [], 0, 0⟩
/-- spec/02_memory_model.md R57: DEAD_SOURCE. -/
def Reg.RT.DEAD_SOURCE : RegSpec := ⟨0x110, 0x4c, 4, 1, false, .wo, 0x0, 0x0, [], 0, 0⟩
/-- spec/02_memory_model.md R57: HANDOFF_TIMEOUT. -/
def Reg.RT.HANDOFF_TIMEOUT : RegSpec := ⟨0x110, 0x50, 4, 1, false, .rw, 0x7d0, 0xffff, [⟨15, 0, 100, 65535⟩], 0, 0⟩
/-- spec/02_memory_model.md R57: RT_DATA. -/
def Reg.RT.RT_DATA : RegSpec := ⟨0x110, 0x60, 4, 8, false, .rw, 0x0, 0xffffffff, [], 0, 0⟩
/-- spec/02_memory_model.md R57: RT_UPDATE_CNT. -/
def Reg.RT.RT_UPDATE_CNT : RegSpec := ⟨0x110, 0x800, 8, 1, true, .ro, 0, 0x0, [], 0, 0⟩
/-- spec/02_memory_model.md R57: RT_REJECT_CNT. -/
def Reg.RT.RT_REJECT_CNT : RegSpec := ⟨0x110, 0x808, 8, 1, true, .ro, 0, 0x0, [], 0, 0⟩
/-- spec/02_memory_model.md R57: HANDOFF_CNT. -/
def Reg.RT.HANDOFF_CNT : RegSpec := ⟨0x110, 0x810, 8, 1, true, .ro, 0, 0x0, [], 0, 0⟩
/-- spec/02_memory_model.md R57: HANDOFF_CANCEL_CNT. -/
def Reg.RT.HANDOFF_CANCEL_CNT : RegSpec := ⟨0x110, 0x818, 8, 1, true, .ro, 0, 0x0, [], 0, 0⟩
/-- spec/02_memory_model.md R85: RECALL_TIMEOUT. -/
def Reg.Home.RECALL_TIMEOUT : RegSpec := ⟨0x10, 0x40, 4, 1, false, .rw, 0xc8, 0xfff, [⟨11, 0, 10, 2000⟩], 0, 0⟩
/-- spec/02_memory_model.md R85: SWEEP_STAT. -/
def Reg.Home.SWEEP_STAT : RegSpec := ⟨0x10, 0x44, 4, 1, false, .ro, 0x0, 0x0, [], 0, 0⟩
/-- spec/02_memory_model.md R85: SWEEP_SET. -/
def Reg.Home.SWEEP_SET : RegSpec := ⟨0x10, 0x48, 4, 1, false, .ro, 0x0, 0x0, [], 0, 0⟩
/-- spec/02_memory_model.md R85: FAULT_ADDR. -/
def Reg.Home.FAULT_ADDR : RegSpec := ⟨0x10, 0x50, 8, 1, true, .rc, 0x0, 0x0, [], 0, 0⟩
/-- spec/02_memory_model.md R85: FAULT_INFO. -/
def Reg.Home.FAULT_INFO : RegSpec := ⟨0x10, 0x58, 4, 1, false, .rc, 0x0, 0x0, [], 0, 0⟩
/-- spec/02_memory_model.md R85: STATUS_CNT. -/
def Reg.Home.STATUS_CNT : RegSpec := ⟨0x10, 0x800, 8, 13, true, .ro, 0, 0x0, [], 0, 0⟩
/-- spec/02_memory_model.md R85: DIRC_HIT_CNT. -/
def Reg.Home.DIRC_HIT_CNT : RegSpec := ⟨0x10, 0x880, 8, 1, true, .ro, 0, 0x0, [], 0, 0⟩
/-- spec/02_memory_model.md R85: DIRC_MISS_CNT. -/
def Reg.Home.DIRC_MISS_CNT : RegSpec := ⟨0x10, 0x888, 8, 1, true, .ro, 0, 0x0, [], 0, 0⟩
/-- spec/02_memory_model.md R85: RECALL_CNT. -/
def Reg.Home.RECALL_CNT : RegSpec := ⟨0x10, 0x890, 8, 1, true, .ro, 0, 0x0, [], 0, 0⟩
/-- spec/02_memory_model.md R85: RECALL_TIMEOUT_CNT. -/
def Reg.Home.RECALL_TIMEOUT_CNT : RegSpec := ⟨0x10, 0x898, 8, 1, true, .ro, 0, 0x0, [], 0, 0⟩
/-- spec/02_memory_model.md R85: STALE_WB_CNT. -/
def Reg.Home.STALE_WB_CNT : RegSpec := ⟨0x10, 0x8a0, 8, 1, true, .ro, 0, 0x0, [], 0, 0⟩
/-- spec/02_memory_model.md R85: POISON_MARK_CNT. -/
def Reg.Home.POISON_MARK_CNT : RegSpec := ⟨0x10, 0x8a8, 8, 1, true, .ro, 0, 0x0, [], 0, 0⟩
/-- spec/02_memory_model.md R85: SWEEP_CNT. -/
def Reg.Home.SWEEP_CNT : RegSpec := ⟨0x10, 0x8b0, 8, 1, true, .ro, 0, 0x0, [], 0, 0⟩
/-- spec/02_memory_model.md R85: SAME_CYCLE_CNT. -/
def Reg.Home.SAME_CYCLE_CNT : RegSpec := ⟨0x10, 0x8b8, 8, 1, true, .ro, 0, 0x0, [], 0, 0⟩
/-- spec/02_memory_model.md R85: DIR_LOSS_CNT. -/
def Reg.Home.DIR_LOSS_CNT : RegSpec := ⟨0x10, 0x8c0, 8, 1, true, .ro, 0, 0x0, [], 0, 0⟩
/-- spec/02_memory_model.md R85: UNDECL_RS_CNT. -/
def Reg.Home.UNDECL_RS_CNT : RegSpec := ⟨0x10, 0x8c8, 8, 1, true, .ro, 0, 0x0, [], 0, 0⟩
/-- spec/03_bays_and_tiers.md R104: PHY_SHELL_STAT. -/
def Reg.MC.PHY_SHELL_STAT : RegSpec := ⟨0x12, 0x40, 4, 1, false, .ro, 0x0, 0x0, [], 0, 0⟩
/-- spec/03_bays_and_tiers.md R104: MC_CTRL. -/
def Reg.MC.MC_CTRL : RegSpec := ⟨0x12, 0x44, 4, 1, false, .rw, 0x201430f8, 0xfffff0ff, [⟨31, 24, 1, 255⟩, ⟨23, 16, 5, 40⟩, ⟨4, 0, 1, 24⟩], 0, 0⟩
/-- spec/03_bays_and_tiers.md R104: STACK_TEMP. -/
def Reg.MC.STACK_TEMP : RegSpec := ⟨0x12, 0x48, 4, 1, false, .ro, 0x0, 0x0, [], 0, 0⟩
/-- spec/03_bays_and_tiers.md R104: REFRESH_STAT. -/
def Reg.MC.REFRESH_STAT : RegSpec := ⟨0x12, 0x4c, 4, 1, false, .ro, 0x0, 0x0, [], 0, 0⟩
/-- spec/03_bays_and_tiers.md R104: SCRUB_POS. -/
def Reg.MC.SCRUB_POS : RegSpec := ⟨0x12, 0x50, 4, 1, false, .ro, 0x0, 0x0, [], 0, 24⟩
/-- spec/03_bays_and_tiers.md R104: REPAIR_STAT. -/
def Reg.MC.REPAIR_STAT : RegSpec := ⟨0x12, 0x54, 4, 1, false, .ro, 0x0, 0x0, [], 0, 30⟩
/-- spec/03_bays_and_tiers.md R104: REPAIR_CMD. -/
def Reg.MC.REPAIR_CMD : RegSpec := ⟨0x12, 0x58, 4, 1, false, .wo, 0x0, 0x0, [], 0, 0⟩
/-- spec/03_bays_and_tiers.md R104: REPAIR_ADDR. -/
def Reg.MC.REPAIR_ADDR : RegSpec := ⟨0x12, 0x60, 8, 1, true, .rw, 0x0, 0x1fffffffff, [], 0, 0⟩
/-- spec/03_bays_and_tiers.md R104: MARGIN_CMD. -/
def Reg.MC.MARGIN_CMD : RegSpec := ⟨0x12, 0x68, 4, 1, false, .wo, 0x0, 0x0, [], 0, 0⟩
/-- spec/03_bays_and_tiers.md R104: MARGIN_RES. -/
def Reg.MC.MARGIN_RES : RegSpec := ⟨0x12, 0x6c, 4, 1, false, .ro, 0x0, 0x0, [], 0, 0⟩
/-- spec/03_bays_and_tiers.md R104: FILL_BASE. -/
def Reg.MC.FILL_BASE : RegSpec := ⟨0x12, 0x70, 8, 1, true, .rw, 0x0, 0xffffffffffff, [], 0, 0⟩
/-- spec/03_bays_and_tiers.md R104: FILL_LIMIT. -/
def Reg.MC.FILL_LIMIT : RegSpec := ⟨0x12, 0x78, 8, 1, true, .rw, 0x0, 0xffffffffffff, [], 0, 0⟩
/-- spec/03_bays_and_tiers.md R104: FILL_PATTERN. -/
def Reg.MC.FILL_PATTERN : RegSpec := ⟨0x12, 0x80, 8, 1, true, .rw, 0x0, 0xffffffffffffffff, [], 0, 0⟩
/-- spec/03_bays_and_tiers.md R104: FILL_CMD. -/
def Reg.MC.FILL_CMD : RegSpec := ⟨0x12, 0x88, 4, 1, false, .wo, 0x0, 0x0, [], 0, 0⟩
/-- spec/03_bays_and_tiers.md R104: FILL_STAT. -/
def Reg.MC.FILL_STAT : RegSpec := ⟨0x12, 0x8c, 4, 1, false, .ro, 0x0, 0x0, [], 0, 0⟩
/-- spec/03_bays_and_tiers.md R104: UE_ADDR. -/
def Reg.MC.UE_ADDR : RegSpec := ⟨0x12, 0x90, 8, 1, true, .rc, 0x0, 0x0, [], 0, 0⟩
/-- spec/03_bays_and_tiers.md R104: UE_INFO. -/
def Reg.MC.UE_INFO : RegSpec := ⟨0x12, 0x98, 4, 1, false, .rc, 0x0, 0x0, [], 0, 0⟩
/-- spec/03_bays_and_tiers.md R104: CE_CNT. -/
def Reg.MC.CE_CNT : RegSpec := ⟨0x12, 0x800, 8, 1, true, .ro, 0, 0x0, [], 0, 0⟩
/-- spec/03_bays_and_tiers.md R104: UE_CNT. -/
def Reg.MC.UE_CNT : RegSpec := ⟨0x12, 0x808, 8, 1, true, .ro, 0, 0x0, [], 0, 0⟩
/-- spec/03_bays_and_tiers.md R104: SCRUB_CE_CNT. -/
def Reg.MC.SCRUB_CE_CNT : RegSpec := ⟨0x12, 0x810, 8, 1, true, .ro, 0, 0x0, [], 0, 0⟩
/-- spec/03_bays_and_tiers.md R104: SCRUB_UE_CNT. -/
def Reg.MC.SCRUB_UE_CNT : RegSpec := ⟨0x12, 0x818, 8, 1, true, .ro, 0, 0x0, [], 0, 0⟩
/-- spec/03_bays_and_tiers.md R104: SCRUB_PASS_CNT. -/
def Reg.MC.SCRUB_PASS_CNT : RegSpec := ⟨0x12, 0x820, 8, 1, true, .ro, 0, 0x0, [], 0, 0⟩
/-- spec/03_bays_and_tiers.md R104: REFRESH_CNT. -/
def Reg.MC.REFRESH_CNT : RegSpec := ⟨0x12, 0x828, 8, 1, true, .ro, 0, 0x0, [], 0, 0⟩
/-- spec/03_bays_and_tiers.md R104: CATCHUP_CNT. -/
def Reg.MC.CATCHUP_CNT : RegSpec := ⟨0x12, 0x830, 8, 1, true, .ro, 0, 0x0, [], 0, 0⟩
/-- spec/03_bays_and_tiers.md R104: REPAIR_CNT. -/
def Reg.MC.REPAIR_CNT : RegSpec := ⟨0x12, 0x838, 8, 1, true, .ro, 0, 0x0, [], 0, 0⟩
/-- spec/03_bays_and_tiers.md R104: LANE_MARK_CNT. -/
def Reg.MC.LANE_MARK_CNT : RegSpec := ⟨0x12, 0x840, 8, 1, true, .ro, 0, 0x0, [], 0, 0⟩
/-- spec/03_bays_and_tiers.md R104: FILL_LINE_CNT. -/
def Reg.MC.FILL_LINE_CNT : RegSpec := ⟨0x12, 0x848, 8, 1, true, .ro, 0, 0x0, [], 0, 0⟩
/-- spec/03_bays_and_tiers.md R104: CE_TBIN. -/
def Reg.MC.CE_TBIN : RegSpec := ⟨0x12, 0x850, 8, 8, true, .ro, 0, 0x0, [], 0, 0⟩
/-- spec/03_bays_and_tiers.md R104: UE_TBIN. -/
def Reg.MC.UE_TBIN : RegSpec := ⟨0x12, 0x890, 8, 8, true, .ro, 0, 0x0, [], 0, 0⟩
/-- spec/03_bays_and_tiers.md R115: OB_CFG. -/
def Reg.OB.OB_CFG : RegSpec := ⟨0x4, 0x40, 4, 1, false, .rw, 0x4000200, 0xfff0fff, [], 0, 0⟩
/-- spec/03_bays_and_tiers.md R115: OB_STAT. -/
def Reg.OB.OB_STAT : RegSpec := ⟨0x4, 0x44, 4, 1, false, .ro, 0x0, 0x0, [], 0, 0⟩
/-- spec/03_bays_and_tiers.md R115: OB_HWM. -/
def Reg.OB.OB_HWM : RegSpec := ⟨0x4, 0x48, 4, 1, false, .rc, 0x0, 0x0, [], 0, 0⟩
/-- spec/03_bays_and_tiers.md R115: OB_ALLOC_CNT. -/
def Reg.OB.OB_ALLOC_CNT : RegSpec := ⟨0x4, 0x800, 8, 1, true, .ro, 0, 0x0, [], 0, 0⟩
/-- spec/03_bays_and_tiers.md R115: OB_WAIT_CNT. -/
def Reg.OB.OB_WAIT_CNT : RegSpec := ⟨0x4, 0x808, 8, 1, true, .ro, 0, 0x0, [], 0, 0⟩
/-- spec/03_bays_and_tiers.md R115: OB_TIMEOUT_CNT. -/
def Reg.OB.OB_TIMEOUT_CNT : RegSpec := ⟨0x4, 0x810, 8, 1, true, .ro, 0, 0x0, [], 0, 0⟩
/-- spec/03_bays_and_tiers.md R115: TRAY_RD_CNT. -/
def Reg.Tray.TRAY_RD_CNT : RegSpec := ⟨0x13, 0x800, 8, 1, true, .ro, 0, 0x0, [], 0, 0⟩
/-- spec/03_bays_and_tiers.md R115: TRAY_WR_CNT. -/
def Reg.Tray.TRAY_WR_CNT : RegSpec := ⟨0x13, 0x808, 8, 1, true, .ro, 0, 0x0, [], 0, 0⟩
/-- spec/03_bays_and_tiers.md R115: TRAY_RMW_CNT. -/
def Reg.Tray.TRAY_RMW_CNT : RegSpec := ⟨0x13, 0x810, 8, 1, true, .ro, 0, 0x0, [], 0, 0⟩
/-- spec/03_bays_and_tiers.md R115: TRAY_ERR_CNT. -/
def Reg.Tray.TRAY_ERR_CNT : RegSpec := ⟨0x13, 0x818, 8, 1, true, .ro, 0, 0x0, [], 0, 0⟩
/-- spec/03_bays_and_tiers.md R115: LATE_RSP_CNT. -/
def Reg.Tray.LATE_RSP_CNT : RegSpec := ⟨0x13, 0x820, 8, 1, true, .ro, 0, 0x0, [], 0, 0⟩
/-- spec/03_bays_and_tiers.md R120: STREAM_SEL. -/
def Reg.Stream.STREAM_SEL : RegSpec := ⟨0x116, 0x40, 4, 1, false, .rw, 0x0, 0xff, [], 0, 0⟩
/-- spec/03_bays_and_tiers.md R120: WIN_BASE. -/
def Reg.Stream.WIN_BASE : RegSpec := ⟨0x116, 0x48, 8, 1, true, .rw, 0x0, 0xffffffffffff, [], 2, 0⟩
/-- spec/03_bays_and_tiers.md R120: WIN_CFG. -/
def Reg.Stream.WIN_CFG : RegSpec := ⟨0x116, 0x50, 4, 1, false, .rw, 0x2, 0x8000001f, [⟨4, 0, 2, 16⟩], 2, 0⟩
/-- spec/03_bays_and_tiers.md R120: WIN_SLOT_SIZE. -/
def Reg.Stream.WIN_SLOT_SIZE : RegSpec := ⟨0x116, 0x54, 4, 1, false, .rw, 0x0, 0xffffffff, [⟨31, 0, 1, 4294967295⟩], 2, 0⟩
/-- spec/03_bays_and_tiers.md R120: STREAM_BUDGET. -/
def Reg.Stream.STREAM_BUDGET : RegSpec := ⟨0x116, 0x58, 4, 1, false, .rw, 0x20014, 0xfffff, [⟨15, 0, 1, 65535⟩], 2, 0⟩
/-- spec/03_bays_and_tiers.md R120: WIN_STAT. -/
def Reg.Stream.WIN_STAT : RegSpec := ⟨0x116, 0x5c, 4, 1, false, .ro, 0x0, 0x0, [], 2, 0⟩
/-- spec/03_bays_and_tiers.md R120: SLOT_STAT. -/
def Reg.Stream.SLOT_STAT : RegSpec := ⟨0x116, 0x60, 8, 1, true, .ro, 0x0, 0x0, [], 2, 0⟩
/-- spec/03_bays_and_tiers.md R120: STALL_CNT. -/
def Reg.Stream.STALL_CNT : RegSpec := ⟨0x116, 0x800, 16, 5, true, .ro, 0, 0x0, [], 2, 0⟩
/-- spec/03_bays_and_tiers.md R120: STALL_US. -/
def Reg.Stream.STALL_US : RegSpec := ⟨0x116, 0x808, 16, 5, true, .ro, 0, 0x0, [], 2, 0⟩
/-- spec/04_deck.md R147: PORT_STAT. -/
def Reg.Port.PORT_STAT : RegSpec := ⟨0x8, 0x40, 4, 1, false, .ro, 0x0, 0x0, [], 0, 0⟩
/-- spec/04_deck.md R147: PORT_CTRL. -/
def Reg.Port.PORT_CTRL : RegSpec := ⟨0x8, 0x44, 4, 1, false, .rw, 0x0, 0x1, [], 0, 0⟩
/-- spec/04_deck.md R147: LIM_RSV. -/
def Reg.Port.LIM_RSV : RegSpec := ⟨0x8, 0x48, 4, 1, false, .rw, 0x1000400, 0xffffffff, [], 0, 0⟩
/-- spec/04_deck.md R147: LIM_SUM. -/
def Reg.Port.LIM_SUM : RegSpec := ⟨0x8, 0x4c, 4, 1, false, .ro, 0x6000, 0x0, [], 0, 0⟩
/-- spec/04_deck.md R147: CLASS_LIM. -/
def Reg.Port.CLASS_LIM : RegSpec := ⟨0x8, 0x50, 4, 8, false, .rw, 0x6000500, 0xffffffff, [], 0, 0⟩
/-- spec/04_deck.md R147: VOQ_CAP. -/
def Reg.Port.VOQ_CAP : RegSpec := ⟨0x8, 0x70, 4, 8, false, .rw, 0x400, 0xffff, [], 0, 0⟩
/-- spec/04_deck.md R147: SAMPLE_CFG. -/
def Reg.Port.SAMPLE_CFG : RegSpec := ⟨0x8, 0x90, 4, 8, false, .rw, 0x1, 0xc0ffffff, [⟨23, 0, 1, 16777215⟩], 0, 0⟩
/-- spec/04_deck.md R147: SHAPER. -/
def Reg.Port.SHAPER : RegSpec := ⟨0x8, 0xd0, 4, 24, false, .rw, 0x0, 0xffffffff, [], 0, 0⟩
/-- spec/04_deck.md R147: POL_CMD. -/
def Reg.Port.POL_CMD : RegSpec := ⟨0x8, 0x130, 4, 1, false, .wo, 0x0, 0x0, [], 0, 0⟩
/-- spec/04_deck.md R147: POL_STAT. -/
def Reg.Port.POL_STAT : RegSpec := ⟨0x8, 0x134, 4, 1, false, .ro, 0x0, 0x0, [], 0, 0⟩
/-- spec/04_deck.md R147: POL_DATA. -/
def Reg.Port.POL_DATA : RegSpec := ⟨0x8, 0x140, 4, 4, false, .rw, 0x0, 0xffffffff, [], 0, 0⟩
/-- spec/04_deck.md R147: POL_CNT. -/
def Reg.Port.POL_CNT : RegSpec := ⟨0x8, 0x180, 8, 3, true, .ro, 0, 0x0, [], 0, 0⟩
/-- spec/04_deck.md R147: RX_MSG_CNT. -/
def Reg.Port.RX_MSG_CNT : RegSpec := ⟨0x8, 0x800, 8, 8, true, .ro, 0, 0x0, [], 0, 0⟩
/-- spec/04_deck.md R147: RX_BYTE_CNT. -/
def Reg.Port.RX_BYTE_CNT : RegSpec := ⟨0x8, 0x840, 8, 8, true, .ro, 0, 0x0, [], 0, 0⟩
/-- spec/04_deck.md R147: YELLOW_CNT. -/
def Reg.Port.YELLOW_CNT : RegSpec := ⟨0x8, 0x880, 8, 8, true, .ro, 0, 0x0, [], 0, 0⟩
/-- spec/04_deck.md R147: RED_CNT. -/
def Reg.Port.RED_CNT : RegSpec := ⟨0x8, 0x8c0, 8, 8, true, .ro, 0, 0x0, [], 0, 0⟩
/-- spec/04_deck.md R147: LAND_WAIT_CNT. -/
def Reg.Port.LAND_WAIT_CNT : RegSpec := ⟨0x8, 0x900, 8, 1, true, .ro, 0, 0x0, [], 0, 0⟩
/-- spec/04_deck.md R147: FLUSH_CNT. -/
def Reg.Port.FLUSH_CNT : RegSpec := ⟨0x8, 0x908, 8, 1, true, .ro, 0, 0x0, [], 0, 0⟩
/-- spec/04_deck.md R147: FLUSH_REQ_CNT. -/
def Reg.Port.FLUSH_REQ_CNT : RegSpec := ⟨0x8, 0x910, 8, 1, true, .ro, 0, 0x0, [], 0, 0⟩
/-- spec/04_deck.md R147: FLUSH_DISCARD_CNT. -/
def Reg.Port.FLUSH_DISCARD_CNT : RegSpec := ⟨0x8, 0x918, 8, 1, true, .ro, 0, 0x0, [], 0, 0⟩
/-- spec/04_deck.md R147: RETURN_CMP_CNT. -/
def Reg.Port.RETURN_CMP_CNT : RegSpec := ⟨0x8, 0x920, 8, 1, true, .ro, 0, 0x0, [], 0, 0⟩
/-- spec/04_deck.md R147: DP_ERR_CNT. -/
def Reg.Port.DP_ERR_CNT : RegSpec := ⟨0x8, 0x928, 8, 1, true, .ro, 0, 0x0, [], 0, 0⟩
/-- spec/04_deck.md R147: SAMPLE_TAKEN_CNT. -/
def Reg.Port.SAMPLE_TAKEN_CNT : RegSpec := ⟨0x8, 0x930, 8, 1, true, .ro, 0, 0x0, [], 0, 0⟩
/-- spec/04_deck.md R147: ZERO_CLASS_CNT. -/
def Reg.Port.ZERO_CLASS_CNT : RegSpec := ⟨0x8, 0x938, 8, 1, true, .ro, 0, 0x0, [], 0, 0⟩
/-- spec/04_deck.md R147: DEMOTE_CNT. -/
def Reg.Port.DEMOTE_CNT : RegSpec := ⟨0x8, 0x940, 8, 1, true, .ro, 0, 0x0, [], 0, 0⟩
/-- spec/04_deck.md R147: HOLD_CYC_CNT. -/
def Reg.Port.HOLD_CYC_CNT : RegSpec := ⟨0x8, 0x948, 8, 1, true, .ro, 0, 0x0, [], 0, 0⟩
/-- spec/04_deck.md R147: WAKE_TIMEOUT_CNT. -/
def Reg.Port.WAKE_TIMEOUT_CNT : RegSpec := ⟨0x8, 0x950, 8, 1, true, .ro, 0, 0x0, [], 0, 0⟩
/-- spec/04_deck.md R148: SLICE_STAT. -/
def Reg.Slice.SLICE_STAT : RegSpec := ⟨0x1, 0x40, 4, 1, false, .ro, 0x0, 0x0, [], 0, 0⟩
/-- spec/04_deck.md R148: STUCK_TIME. -/
def Reg.Slice.STUCK_TIME : RegSpec := ⟨0x1, 0x44, 4, 1, false, .rw, 0x64, 0xffff, [⟨15, 0, 1, 65535⟩], 0, 0⟩
/-- spec/04_deck.md R148: TC_MODE. -/
def Reg.Slice.TC_MODE : RegSpec := ⟨0x1, 0x48, 4, 1, false, .rw, 0x0, 0xff, [], 0, 0⟩
/-- spec/04_deck.md R148: BE_QUANTUM. -/
def Reg.Slice.BE_QUANTUM : RegSpec := ⟨0x1, 0x4c, 4, 8, false, .rw, 0x10, 0xfff, [⟨11, 0, 1, 4095⟩], 0, 0⟩
/-- spec/04_deck.md R148: ARB_CTRL. -/
def Reg.Slice.ARB_CTRL : RegSpec := ⟨0x1, 0x6c, 4, 1, false, .rw, 0x3e8, 0xffff, [⟨15, 0, 1, 65535⟩], 0, 0⟩
/-- spec/04_deck.md R148: STUCK_INFO. -/
def Reg.Slice.STUCK_INFO : RegSpec := ⟨0x1, 0x70, 4, 1, false, .rc, 0x0, 0x0, [], 0, 0⟩
/-- spec/04_deck.md R148: CELL_CNT. -/
def Reg.Slice.CELL_CNT : RegSpec := ⟨0x1, 0x800, 8, 1, true, .ro, 0, 0x0, [], 0, 0⟩
/-- spec/04_deck.md R148: ARB_MISMATCH_CNT. -/
def Reg.Slice.ARB_MISMATCH_CNT : RegSpec := ⟨0x1, 0x808, 8, 1, true, .ro, 0, 0x0, [], 0, 0⟩
/-- spec/04_deck.md R148: STUCK_CNT. -/
def Reg.Slice.STUCK_CNT : RegSpec := ⟨0x1, 0x810, 8, 1, true, .ro, 0, 0x0, [], 0, 0⟩
/-- spec/04_deck.md R148: DETOUR_CELL_CNT. -/
def Reg.Slice.DETOUR_CELL_CNT : RegSpec := ⟨0x1, 0x818, 8, 1, true, .ro, 0, 0x0, [], 0, 0⟩
/-- spec/04_deck.md R148: TAG_ERR_CNT. -/
def Reg.Slice.TAG_ERR_CNT : RegSpec := ⟨0x1, 0x820, 8, 1, true, .ro, 0, 0x0, [], 0, 0⟩
/-- spec/04_deck.md R149: HIST_CTRL. -/
def Reg.Hist.HIST_CTRL : RegSpec := ⟨0xa, 0x40, 4, 1, false, .rw, 0x3f600064, 0xbfffffff, [⟨29, 24, 0, 55⟩, ⟨29, 24, 63, 63⟩, ⟨19, 0, 1, 1048575⟩], 0, 0⟩
/-- spec/04_deck.md R149: HIST_LAST. -/
def Reg.Hist.HIST_LAST : RegSpec := ⟨0xa, 0x44, 4, 1, false, .ro, 0x0, 0x0, [], 0, 0⟩
/-- spec/04_deck.md R149: HIST_CLR. -/
def Reg.Hist.HIST_CLR : RegSpec := ⟨0xa, 0x48, 4, 1, false, .wo, 0x0, 0x0, [], 0, 0⟩
/-- spec/04_deck.md R149: DEPTH. -/
def Reg.Hist.DEPTH : RegSpec := ⟨0xa, 0x800, 8, 128, true, .ro, 0, 0x0, [], 0, 0⟩
/-- spec/04_deck.md R149: DELAY. -/
def Reg.Hist.DELAY : RegSpec := ⟨0xa, 0xc00, 8, 128, true, .ro, 0, 0x0, [], 0, 0⟩
/-- spec/04_deck.md R150: SMP_CTRL. -/
def Reg.Smp.SMP_CTRL : RegSpec := ⟨0x106, 0x40, 4, 1, false, .rw, 0x0, 0xc0000000, [], 0, 0⟩
/-- spec/04_deck.md R150: RING_BASE. -/
def Reg.Smp.RING_BASE : RegSpec := ⟨0x106, 0x44, 4, 1, false, .rw, 0x0, 0x3fffe0, [], 0, 0⟩
/-- spec/04_deck.md R150: RING_ENTRIES. -/
def Reg.Smp.RING_ENTRIES : RegSpec := ⟨0x106, 0x48, 4, 1, false, .rw, 0x2, 0xffff, [⟨15, 0, 2, 26214⟩], 0, 0⟩
/-- spec/04_deck.md R150: WR_IDX. -/
def Reg.Smp.WR_IDX : RegSpec := ⟨0x106, 0x4c, 4, 1, false, .ro, 0x0, 0x0, [], 0, 0⟩
/-- spec/04_deck.md R150: RD_IDX. -/
def Reg.Smp.RD_IDX : RegSpec := ⟨0x106, 0x50, 4, 1, false, .rw, 0x0, 0xffff, [], 0, 0⟩
/-- spec/04_deck.md R150: SAMPLE_REC_CNT. -/
def Reg.Smp.SAMPLE_REC_CNT : RegSpec := ⟨0x106, 0x800, 8, 1, true, .ro, 0, 0x0, [], 0, 0⟩
/-- spec/04_deck.md R150: SAMPLE_LOST_CNT. -/
def Reg.Smp.SAMPLE_LOST_CNT : RegSpec := ⟨0x106, 0x808, 8, 1, true, .ro, 0, 0x0, [], 0, 0⟩
/-- spec/05_piers_and_jargar_link.md R181: PIER_CFG. -/
def Reg.Pier.PIER_CFG : RegSpec := ⟨0xc, 0x40, 4, 1, false, .rw, 0x0, 0x77f, [⟨1, 0, 0, 2⟩, ⟨3, 2, 0, 2⟩, ⟨5, 4, 0, 2⟩], 0, 0⟩
/-- spec/05_piers_and_jargar_link.md R181: LANE_CFG. -/
def Reg.Pier.LANE_CFG : RegSpec := ⟨0xc, 0x44, 4, 1, false, .rw, 0x10000100, 0xffff0100, [⟨31, 16, 1, 65535⟩], 0, 0⟩
/-- spec/05_piers_and_jargar_link.md R181: REPLAY_CFG. -/
def Reg.Pier.REPLAY_CFG : RegSpec := ⟨0xc, 0x48, 4, 1, false, .rw, 0x864080a, 0xffffffff, [⟨31, 24, 1, 255⟩, ⟨23, 16, 10, 255⟩, ⟨15, 8, 1, 255⟩, ⟨7, 0, 1, 255⟩], 0, 0⟩
/-- spec/05_piers_and_jargar_link.md R181: RETRAIN_CFG. -/
def Reg.Pier.RETRAIN_CFG : RegSpec := ⟨0xc, 0x4c, 4, 1, false, .rw, 0x3, 0xf, [⟨3, 0, 1, 15⟩], 0, 0⟩
/-- spec/05_piers_and_jargar_link.md R181: LINK_CTRL. -/
def Reg.Pier.LINK_CTRL : RegSpec := ⟨0xc, 0x50, 4, 4, false, .rw, 0x0, 0x1, [], 0, 0⟩
/-- spec/05_piers_and_jargar_link.md R181: LINK_STAT. -/
def Reg.Pier.LINK_STAT : RegSpec := ⟨0xc, 0x60, 4, 4, false, .ro, 0x0, 0x0, [], 0, 0⟩
/-- spec/05_piers_and_jargar_link.md R181: SPARE_STAT. -/
def Reg.Pier.SPARE_STAT : RegSpec := ⟨0xc, 0x70, 4, 1, false, .ro, 0xff, 0x0, [], 0, 0⟩
/-- spec/05_piers_and_jargar_link.md R181: MARGIN_CMD. -/
def Reg.Pier.MARGIN_CMD : RegSpec := ⟨0xc, 0x74, 4, 1, false, .wo, 0x0, 0x0, [], 0, 0⟩
/-- spec/05_piers_and_jargar_link.md R181: LANE_SHELL. -/
def Reg.Pier.LANE_SHELL : RegSpec := ⟨0xc, 0x80, 4, 9, false, .ro, 0x0, 0x0, [], 0, 0⟩
/-- spec/05_piers_and_jargar_link.md R181: LANE_MARGIN. -/
def Reg.Pier.LANE_MARGIN : RegSpec := ⟨0xc, 0xc0, 4, 9, false, .ro, 0x0, 0x0, [], 0, 0⟩
/-- spec/05_piers_and_jargar_link.md R181: TX_FLIT_CNT. -/
def Reg.Pier.TX_FLIT_CNT : RegSpec := ⟨0xc, 0x800, 64, 4, true, .ro, 0, 0x0, [], 0, 0⟩
/-- spec/05_piers_and_jargar_link.md R181: RX_FLIT_CNT. -/
def Reg.Pier.RX_FLIT_CNT : RegSpec := ⟨0xc, 0x808, 64, 4, true, .ro, 0, 0x0, [], 0, 0⟩
/-- spec/05_piers_and_jargar_link.md R181: CRC_ERR_CNT. -/
def Reg.Pier.CRC_ERR_CNT : RegSpec := ⟨0xc, 0x810, 64, 4, true, .ro, 0, 0x0, [], 0, 0⟩
/-- spec/05_piers_and_jargar_link.md R181: REPLAY_CNT. -/
def Reg.Pier.REPLAY_CNT : RegSpec := ⟨0xc, 0x818, 64, 4, true, .ro, 0, 0x0, [], 0, 0⟩
/-- spec/05_piers_and_jargar_link.md R181: RETRAIN_CNT. -/
def Reg.Pier.RETRAIN_CNT : RegSpec := ⟨0xc, 0x820, 64, 4, true, .ro, 0, 0x0, [], 0, 0⟩
/-- spec/05_piers_and_jargar_link.md R181: PROTO_ERR_CNT. -/
def Reg.Pier.PROTO_ERR_CNT : RegSpec := ⟨0xc, 0x828, 64, 4, true, .ro, 0, 0x0, [], 0, 0⟩
/-- spec/05_piers_and_jargar_link.md R181: PARKED_DROP_CNT. -/
def Reg.Pier.PARKED_DROP_CNT : RegSpec := ⟨0xc, 0x830, 64, 4, true, .ro, 0, 0x0, [], 0, 0⟩
/-- spec/05_piers_and_jargar_link.md R181: TAG_FAIL_CNT. -/
def Reg.Pier.TAG_FAIL_CNT : RegSpec := ⟨0xc, 0x838, 64, 4, true, .ro, 0, 0x0, [], 0, 0⟩
/-- spec/05_piers_and_jargar_link.md R181: FEC_SYM_CNT. -/
def Reg.Pier.FEC_SYM_CNT : RegSpec := ⟨0xc, 0x900, 8, 9, true, .ro, 0, 0x0, [], 0, 0⟩
/-- spec/05_piers_and_jargar_link.md R181: FEC_UNCORR_CNT. -/
def Reg.Pier.FEC_UNCORR_CNT : RegSpec := ⟨0xc, 0x948, 8, 1, true, .ro, 0, 0x0, [], 0, 0⟩
/-- spec/05_piers_and_jargar_link.md R181: SPARE_CNT. -/
def Reg.Pier.SPARE_CNT : RegSpec := ⟨0xc, 0x950, 8, 1, true, .ro, 0, 0x0, [], 0, 0⟩
/-- spec/05_piers_and_jargar_link.md R182: FAULT_ADDR. -/
def Reg.PG.FAULT_ADDR : RegSpec := ⟨0x9, 0x40, 8, 1, true, .rc, 0x0, 0x0, [], 0, 0⟩
/-- spec/05_piers_and_jargar_link.md R182: FAULT_INFO. -/
def Reg.PG.FAULT_INFO : RegSpec := ⟨0x9, 0x48, 4, 1, false, .rc, 0x0, 0x0, [], 0, 0⟩
/-- spec/05_piers_and_jargar_link.md R182: CAP_HOLD_CNT. -/
def Reg.PG.CAP_HOLD_CNT : RegSpec := ⟨0x9, 0x800, 8, 1, true, .ro, 0, 0x0, [], 0, 0⟩
/-- spec/05_piers_and_jargar_link.md R182: CAP_HOLD_CYC_CNT. -/
def Reg.PG.CAP_HOLD_CYC_CNT : RegSpec := ⟨0x9, 0x808, 8, 1, true, .ro, 0, 0x0, [], 0, 0⟩
/-- spec/05_piers_and_jargar_link.md R182: CAP_FAIL_CNT. -/
def Reg.PG.CAP_FAIL_CNT : RegSpec := ⟨0x9, 0x810, 8, 1, true, .ro, 0, 0x0, [], 0, 0⟩
/-- spec/05_piers_and_jargar_link.md R182: LINE_WAIT_CNT. -/
def Reg.PG.LINE_WAIT_CNT : RegSpec := ⟨0x9, 0x818, 8, 1, true, .ro, 0, 0x0, [], 0, 0⟩
/-- spec/05_piers_and_jargar_link.md R182: LINE_FULL_CYC_CNT. -/
def Reg.PG.LINE_FULL_CYC_CNT : RegSpec := ⟨0x9, 0x820, 8, 1, true, .ro, 0, 0x0, [], 0, 0⟩
/-- spec/05_piers_and_jargar_link.md R182: INGRESS_REFUSE_CNT. -/
def Reg.PG.INGRESS_REFUSE_CNT : RegSpec := ⟨0x9, 0x828, 8, 1, true, .ro, 0, 0x0, [], 0, 0⟩
/-- spec/05_piers_and_jargar_link.md R183: ADMIT_CTRL. -/
def Reg.Admit.ADMIT_CTRL : RegSpec := ⟨0x112, 0x40, 4, 1, false, .rw, 0x0, 0x1, [], 0, 0⟩
/-- spec/05_piers_and_jargar_link.md R183: ADMIT. -/
def Reg.Admit.ADMIT : RegSpec := ⟨0x112, 0x100, 4, 128, false, .rw, 0x0, 0xffffffff, [], 0, 0⟩
/-- spec/06_transactions_and_trestles.md R216: TR_CFG. -/
def Reg.Tr.TR_CFG : RegSpec := ⟨0x3, 0x40, 4, 1, false, .rw, 0xa040001, 0xff1f0001, [⟨31, 24, 1, 255⟩, ⟨20, 16, 1, 16⟩], 0, 0⟩
/-- spec/06_transactions_and_trestles.md R216: TR_STAT. -/
def Reg.Tr.TR_STAT : RegSpec := ⟨0x3, 0x44, 4, 1, false, .ro, 0x0, 0x0, [], 0, 0⟩
/-- spec/06_transactions_and_trestles.md R216: BULK_TX_CNT. -/
def Reg.Tr.BULK_TX_CNT : RegSpec := ⟨0x3, 0x800, 8, 1, true, .ro, 0, 0x0, [], 0, 0⟩
/-- spec/06_transactions_and_trestles.md R216: BULK_RX_CNT. -/
def Reg.Tr.BULK_RX_CNT : RegSpec := ⟨0x3, 0x808, 8, 1, true, .ro, 0, 0x0, [], 0, 0⟩
/-- spec/06_transactions_and_trestles.md R216: REC_TX_CNT. -/
def Reg.Tr.REC_TX_CNT : RegSpec := ⟨0x3, 0x810, 8, 1, true, .ro, 0, 0x0, [], 0, 0⟩
/-- spec/06_transactions_and_trestles.md R216: REC_RX_CNT. -/
def Reg.Tr.REC_RX_CNT : RegSpec := ⟨0x3, 0x818, 8, 1, true, .ro, 0, 0x0, [], 0, 0⟩
/-- spec/06_transactions_and_trestles.md R216: MERGE_CNT. -/
def Reg.Tr.MERGE_CNT : RegSpec := ⟨0x3, 0x820, 8, 1, true, .ro, 0, 0x0, [], 0, 0⟩
/-- spec/06_transactions_and_trestles.md R216: CAP_HOLD_CNT. -/
def Reg.Tr.CAP_HOLD_CNT : RegSpec := ⟨0x3, 0x828, 8, 1, true, .ro, 0, 0x0, [], 0, 0⟩
/-- spec/06_transactions_and_trestles.md R216: CAP_FAIL_CNT. -/
def Reg.Tr.CAP_FAIL_CNT : RegSpec := ⟨0x3, 0x830, 8, 1, true, .ro, 0, 0x0, [], 0, 0⟩
/-- spec/06_transactions_and_trestles.md R216: TIMEOUT_CNT. -/
def Reg.Tr.TIMEOUT_CNT : RegSpec := ⟨0x3, 0x838, 8, 1, true, .ro, 0, 0x0, [], 0, 0⟩
/-- spec/06_transactions_and_trestles.md R216: LATE_RSP_CNT. -/
def Reg.Tr.LATE_RSP_CNT : RegSpec := ⟨0x3, 0x840, 8, 1, true, .ro, 0, 0x0, [], 0, 0⟩
/-- spec/06_transactions_and_trestles.md R216: REMAP_CNT. -/
def Reg.Tr.REMAP_CNT : RegSpec := ⟨0x3, 0x848, 8, 1, true, .ro, 0, 0x0, [], 0, 0⟩
/-- spec/06_transactions_and_trestles.md R216: TRUNK_DOWN_REQ_CNT. -/
def Reg.Tr.TRUNK_DOWN_REQ_CNT : RegSpec := ⟨0x3, 0x850, 8, 1, true, .ro, 0, 0x0, [], 0, 0⟩
/-- spec/06_transactions_and_trestles.md R217: ROUTE_CMD. -/
def Reg.Route.ROUTE_CMD : RegSpec := ⟨0x114, 0x40, 4, 1, false, .wo, 0x0, 0x0, [], 0, 0⟩
/-- spec/06_transactions_and_trestles.md R217: ROUTE_STAT. -/
def Reg.Route.ROUTE_STAT : RegSpec := ⟨0x114, 0x44, 4, 1, false, .ro, 0x0, 0x0, [], 0, 0⟩
/-- spec/06_transactions_and_trestles.md R217: ROUTE_DATA. -/
def Reg.Route.ROUTE_DATA : RegSpec := ⟨0x114, 0x48, 4, 1, false, .rw, 0x0, 0x8000007f, [], 0, 0⟩
/-- spec/06_transactions_and_trestles.md R217: TG_DATA0. -/
def Reg.Route.TG_DATA0 : RegSpec := ⟨0x114, 0x50, 4, 1, false, .rw, 0x0, 0x1f, [], 0, 0⟩
/-- spec/06_transactions_and_trestles.md R217: TG_DATA. -/
def Reg.Route.TG_DATA : RegSpec := ⟨0x114, 0x54, 4, 8, false, .rw, 0x0, 0x1ff01ff, [], 0, 0⟩
/-- spec/06_transactions_and_trestles.md R218: MC_CMD. -/
def Reg.Mcast.MC_CMD : RegSpec := ⟨0x115, 0x40, 4, 1, false, .wo, 0x0, 0x0, [], 0, 0⟩
/-- spec/06_transactions_and_trestles.md R218: MC_STAT. -/
def Reg.Mcast.MC_STAT : RegSpec := ⟨0x115, 0x44, 4, 1, false, .ro, 0x0, 0x0, [], 0, 0⟩
/-- spec/06_transactions_and_trestles.md R218: MC_DATA. -/
def Reg.Mcast.MC_DATA : RegSpec := ⟨0x115, 0x80, 4, 16, false, .rw, 0x0, 0xffffffff, [], 0, 0⟩
/-- spec/06_transactions_and_trestles.md R218: MC_RX_CNT. -/
def Reg.Mcast.MC_RX_CNT : RegSpec := ⟨0x115, 0x800, 8, 1, true, .ro, 0, 0x0, [], 0, 0⟩
/-- spec/06_transactions_and_trestles.md R218: MC_COPY_CNT. -/
def Reg.Mcast.MC_COPY_CNT : RegSpec := ⟨0x115, 0x808, 8, 1, true, .ro, 0, 0x0, [], 0, 0⟩
/-- spec/06_transactions_and_trestles.md R218: MC_REMOTE_CNT. -/
def Reg.Mcast.MC_REMOTE_CNT : RegSpec := ⟨0x115, 0x810, 8, 1, true, .ro, 0, 0x0, [], 0, 0⟩
/-- spec/06_transactions_and_trestles.md R218: MC_DOWN_CNT. -/
def Reg.Mcast.MC_DOWN_CNT : RegSpec := ⟨0x115, 0x818, 8, 1, true, .ro, 0, 0x0, [], 0, 0⟩
/-- spec/06_transactions_and_trestles.md R218: MC_KEY_FAULT_CNT. -/
def Reg.Mcast.MC_KEY_FAULT_CNT : RegSpec := ⟨0x115, 0x820, 8, 1, true, .ro, 0, 0x0, [], 0, 0⟩
/-- spec/06_transactions_and_trestles.md R219: TRAY_SCRUB. -/
def Reg.Tray.TRAY_SCRUB : RegSpec := ⟨0x13, 0x40, 4, 1, false, .rw, 0x800000a8, 0x8000ffff, [⟨15, 0, 1, 65535⟩], 0, 0⟩
/-- spec/06_transactions_and_trestles.md R219: TSCRUB_CORR_CNT. -/
def Reg.Tray.TSCRUB_CORR_CNT : RegSpec := ⟨0x13, 0x828, 8, 1, true, .ro, 0, 0x0, [], 0, 0⟩
/-- spec/06_transactions_and_trestles.md R219: TSCRUB_UNC_CNT. -/
def Reg.Tray.TSCRUB_UNC_CNT : RegSpec := ⟨0x13, 0x830, 8, 1, true, .ro, 0, 0x0, [], 0, 0⟩
/-- spec/06_transactions_and_trestles.md R219: TRAY_POISON_WR_CNT. -/
def Reg.Tray.TRAY_POISON_WR_CNT : RegSpec := ⟨0x13, 0x838, 8, 1, true, .ro, 0, 0x0, [], 0, 0⟩
/-- spec/06_transactions_and_trestles.md R219: LCHK_ERR_CNT. -/
def Reg.PG.LCHK_ERR_CNT : RegSpec := ⟨0x9, 0x830, 8, 1, true, .ro, 0, 0x0, [], 0, 0⟩
/-- spec/06_transactions_and_trestles.md R219: TIMEOUT_SCAN_CNT. -/
def Reg.PG.TIMEOUT_SCAN_CNT : RegSpec := ⟨0x9, 0x838, 8, 1, true, .ro, 0, 0x0, [], 0, 0⟩
/-- spec/07_loom.md R245: LOOM_CTRL. -/
def Reg.Loom.LOOM_CTRL : RegSpec := ⟨0x14, 0x40, 4, 1, false, .rw, 0x2, 0xf, [], 0, 0⟩
/-- spec/07_loom.md R245: LOOM_STAT. -/
def Reg.Loom.LOOM_STAT : RegSpec := ⟨0x14, 0x44, 4, 1, false, .ro, 0x0, 0x0, [], 0, 0⟩
/-- spec/07_loom.md R245: LOOM_FAULT_INFO. -/
def Reg.Loom.LOOM_FAULT_INFO : RegSpec := ⟨0x14, 0x48, 4, 1, false, .rc, 0x0, 0x0, [], 0, 0⟩
/-- spec/07_loom.md R245: LOOM_FAULT_ID. -/
def Reg.Loom.LOOM_FAULT_ID : RegSpec := ⟨0x14, 0x4c, 4, 1, false, .rc, 0x0, 0x0, [], 0, 0⟩
/-- spec/07_loom.md R245: RSD_ADD_CNT. -/
def Reg.Loom.RSD_ADD_CNT : RegSpec := ⟨0x14, 0x800, 8, 1, true, .ro, 0, 0x0, [], 0, 0⟩
/-- spec/07_loom.md R245: RSD_DUP_CNT. -/
def Reg.Loom.RSD_DUP_CNT : RegSpec := ⟨0x14, 0x808, 8, 1, true, .ro, 0, 0x0, [], 0, 0⟩
/-- spec/07_loom.md R245: RID_MISS_CNT. -/
def Reg.Loom.RID_MISS_CNT : RegSpec := ⟨0x14, 0x810, 8, 1, true, .ro, 0, 0x0, [], 0, 0⟩
/-- spec/07_loom.md R245: LINE_DONE_CNT. -/
def Reg.Loom.LINE_DONE_CNT : RegSpec := ⟨0x14, 0x818, 8, 1, true, .ro, 0, 0x0, [], 0, 0⟩
/-- spec/07_loom.md R245: RED_DONE_CNT. -/
def Reg.Loom.RED_DONE_CNT : RegSpec := ⟨0x14, 0x820, 8, 1, true, .ro, 0, 0x0, [], 0, 0⟩
/-- spec/07_loom.md R245: RED_FAIL_CNT. -/
def Reg.Loom.RED_FAIL_CNT : RegSpec := ⟨0x14, 0x828, 8, 1, true, .ro, 0, 0x0, [], 0, 0⟩
/-- spec/07_loom.md R245: FOLD_CNT. -/
def Reg.Loom.FOLD_CNT : RegSpec := ⟨0x14, 0x830, 8, 1, true, .ro, 0, 0x0, [], 0, 0⟩
/-- spec/07_loom.md R245: FOLD_REJECT_CNT. -/
def Reg.Loom.FOLD_REJECT_CNT : RegSpec := ⟨0x14, 0x838, 8, 1, true, .ro, 0, 0x0, [], 0, 0⟩
/-- spec/07_loom.md R245: PUSH_CNT. -/
def Reg.Loom.PUSH_CNT : RegSpec := ⟨0x14, 0x840, 8, 1, true, .ro, 0, 0x0, [], 0, 0⟩
/-- spec/07_loom.md R245: ATOM_CNT. -/
def Reg.Loom.ATOM_CNT : RegSpec := ⟨0x14, 0x848, 8, 1, true, .ro, 0, 0x0, [], 0, 0⟩
/-- spec/07_loom.md R245: XADD_CNT. -/
def Reg.Loom.XADD_CNT : RegSpec := ⟨0x14, 0x850, 8, 1, true, .ro, 0, 0x0, [], 0, 0⟩
/-- spec/07_loom.md R245: SAT_CNT. -/
def Reg.Loom.SAT_CNT : RegSpec := ⟨0x14, 0x858, 8, 1, true, .ro, 0, 0x0, [], 0, 0⟩
/-- spec/07_loom.md R245: OVF_CNT. -/
def Reg.Loom.OVF_CNT : RegSpec := ⟨0x14, 0x860, 8, 1, true, .ro, 0, 0x0, [], 0, 0⟩
/-- spec/07_loom.md R245: RES_ERR_CNT. -/
def Reg.Loom.RES_ERR_CNT : RegSpec := ⟨0x14, 0x868, 8, 1, true, .ro, 0, 0x0, [], 0, 0⟩
/-- spec/07_loom.md R245: LOOM_STALL_CYC_CNT. -/
def Reg.Loom.LOOM_STALL_CYC_CNT : RegSpec := ⟨0x14, 0x870, 8, 1, true, .ro, 0, 0x0, [], 0, 0⟩
/-- spec/07_loom.md R246: DECL_CMD. -/
def Reg.Decl.DECL_CMD : RegSpec := ⟨0x117, 0x40, 4, 1, false, .wo, 0x0, 0x0, [], 0, 0⟩
/-- spec/07_loom.md R246: DECL_STAT. -/
def Reg.Decl.DECL_STAT : RegSpec := ⟨0x117, 0x44, 4, 1, false, .ro, 0x0, 0x0, [], 0, 0⟩
/-- spec/07_loom.md R246: DECL_ADDR. -/
def Reg.Decl.DECL_ADDR : RegSpec := ⟨0x117, 0x48, 8, 1, true, .rw, 0x0, 0xffffffffffff, [], 0, 0⟩
/-- spec/07_loom.md R246: LOOM_GCFG. -/
def Reg.Decl.LOOM_GCFG : RegSpec := ⟨0x117, 0x50, 4, 1, false, .rw, 0xa, 0xff, [⟨7, 0, 5, 255⟩], 0, 0⟩
/-- spec/07_loom.md R246: QUOTA_SEL. -/
def Reg.Decl.QUOTA_SEL : RegSpec := ⟨0x117, 0x54, 4, 1, false, .rw, 0x0, 0xff, [], 0, 0⟩
/-- spec/07_loom.md R246: COLL_LO. -/
def Reg.Decl.COLL_LO : RegSpec := ⟨0x117, 0x58, 4, 1, false, .rw, 0x0, 0xfffff, [], 0, 0⟩
/-- spec/07_loom.md R246: COLL_HI. -/
def Reg.Decl.COLL_HI : RegSpec := ⟨0x117, 0x5c, 4, 1, false, .rw, 0x0, 0xfffff, [], 0, 0⟩
/-- spec/07_loom.md R246: POOL_LO. -/
def Reg.Decl.POOL_LO : RegSpec := ⟨0x117, 0x60, 4, 1, false, .rw, 0x0, 0xfffff, [], 0, 0⟩
/-- spec/07_loom.md R246: POOL_HI. -/
def Reg.Decl.POOL_HI : RegSpec := ⟨0x117, 0x64, 4, 1, false, .rw, 0x0, 0xfffff, [], 0, 0⟩
/-- spec/07_loom.md R246: QUOTA_CMD. -/
def Reg.Decl.QUOTA_CMD : RegSpec := ⟨0x117, 0x68, 4, 1, false, .wo, 0x0, 0x0, [], 0, 0⟩
/-- spec/07_loom.md R246: QUOTA_STAT. -/
def Reg.Decl.QUOTA_STAT : RegSpec := ⟨0x117, 0x6c, 4, 1, false, .ro, 0x0, 0x0, [], 0, 0⟩
/-- spec/07_loom.md R246: DECL_CNT. -/
def Reg.Decl.DECL_CNT : RegSpec := ⟨0x117, 0x800, 8, 1, true, .ro, 0, 0x0, [], 0, 0⟩
/-- spec/07_loom.md R246: DECL_REJECT_CNT. -/
def Reg.Decl.DECL_REJECT_CNT : RegSpec := ⟨0x117, 0x808, 8, 1, true, .ro, 0, 0x0, [], 0, 0⟩
/-- spec/07_loom.md R246: CANCEL_CNT. -/
def Reg.Decl.CANCEL_CNT : RegSpec := ⟨0x117, 0x810, 8, 1, true, .ro, 0, 0x0, [], 0, 0⟩
/-- spec/08_heddle.md R277: HED_CFG. -/
def Reg.Hed.HED_CFG : RegSpec := ⟨0x15, 0x40, 4, 1, false, .rw, 0x2, 0xf, [], 0, 0⟩
/-- spec/08_heddle.md R277: HED_STAT. -/
def Reg.Hed.HED_STAT : RegSpec := ⟨0x15, 0x44, 4, 1, false, .ro, 0x0, 0x0, [], 0, 0⟩
/-- spec/08_heddle.md R277: HED_FAULT_INFO. -/
def Reg.Hed.HED_FAULT_INFO : RegSpec := ⟨0x15, 0x48, 4, 1, false, .rc, 0x0, 0x0, [], 0, 0⟩
/-- spec/08_heddle.md R277: HED_FAULT_ADDR. -/
def Reg.Hed.HED_FAULT_ADDR : RegSpec := ⟨0x15, 0x50, 8, 1, true, .rc, 0x0, 0x0, [], 0, 0⟩
/-- spec/08_heddle.md R277: GATHER_CNT. -/
def Reg.Hed.GATHER_CNT : RegSpec := ⟨0x15, 0x800, 8, 1, true, .ro, 0, 0x0, [], 0, 0⟩
/-- spec/08_heddle.md R277: UPDATE_CNT. -/
def Reg.Hed.UPDATE_CNT : RegSpec := ⟨0x15, 0x808, 8, 1, true, .ro, 0, 0x0, [], 0, 0⟩
/-- spec/08_heddle.md R277: FILTER_CNT. -/
def Reg.Hed.FILTER_CNT : RegSpec := ⟨0x15, 0x810, 8, 1, true, .ro, 0, 0x0, [], 0, 0⟩
/-- spec/08_heddle.md R277: IDX_CNT. -/
def Reg.Hed.IDX_CNT : RegSpec := ⟨0x15, 0x818, 8, 1, true, .ro, 0, 0x0, [], 0, 0⟩
/-- spec/08_heddle.md R277: SORT_CYC_CNT. -/
def Reg.Hed.SORT_CYC_CNT : RegSpec := ⟨0x15, 0x820, 8, 1, true, .ro, 0, 0x0, [], 0, 0⟩
/-- spec/08_heddle.md R277: FETCH_CNT. -/
def Reg.Hed.FETCH_CNT : RegSpec := ⟨0x15, 0x828, 8, 1, true, .ro, 0, 0x0, [], 0, 0⟩
/-- spec/08_heddle.md R277: FETCH_RETRY_CNT. -/
def Reg.Hed.FETCH_RETRY_CNT : RegSpec := ⟨0x15, 0x830, 8, 1, true, .ro, 0, 0x0, [], 0, 0⟩
/-- spec/08_heddle.md R277: FETCH_FAIL_CNT. -/
def Reg.Hed.FETCH_FAIL_CNT : RegSpec := ⟨0x15, 0x838, 8, 1, true, .ro, 0, 0x0, [], 0, 0⟩
/-- spec/08_heddle.md R277: ROW_UPD_CNT. -/
def Reg.Hed.ROW_UPD_CNT : RegSpec := ⟨0x15, 0x840, 8, 1, true, .ro, 0, 0x0, [], 0, 0⟩
/-- spec/08_heddle.md R277: ROW_UPD_FAIL_CNT. -/
def Reg.Hed.ROW_UPD_FAIL_CNT : RegSpec := ⟨0x15, 0x848, 8, 1, true, .ro, 0, 0x0, [], 0, 0⟩
/-- spec/08_heddle.md R277: POOL_WAIT_CYC_CNT. -/
def Reg.Hed.POOL_WAIT_CYC_CNT : RegSpec := ⟨0x15, 0x850, 8, 1, true, .ro, 0, 0x0, [], 0, 0⟩
/-- spec/08_heddle.md R277: SCAN_BYTE_CNT. -/
def Reg.Hed.SCAN_BYTE_CNT : RegSpec := ⟨0x15, 0x858, 8, 1, true, .ro, 0, 0x0, [], 0, 0⟩
/-- spec/08_heddle.md R277: EMIT_CNT. -/
def Reg.Hed.EMIT_CNT : RegSpec := ⟨0x15, 0x860, 8, 1, true, .ro, 0, 0x0, [], 0, 0⟩
/-- spec/08_heddle.md R277: MIG_OUT_CNT. -/
def Reg.Hed.MIG_OUT_CNT : RegSpec := ⟨0x15, 0x868, 8, 1, true, .ro, 0, 0x0, [], 0, 0⟩
/-- spec/08_heddle.md R277: MIG_IN_CNT. -/
def Reg.Hed.MIG_IN_CNT : RegSpec := ⟨0x15, 0x870, 8, 1, true, .ro, 0, 0x0, [], 0, 0⟩
/-- spec/08_heddle.md R277: MIG_ABORT_CNT. -/
def Reg.Hed.MIG_ABORT_CNT : RegSpec := ⟨0x15, 0x878, 8, 1, true, .ro, 0, 0x0, [], 0, 0⟩
/-- spec/08_heddle.md R277: HOLD_CNT. -/
def Reg.Hed.HOLD_CNT : RegSpec := ⟨0x15, 0x880, 8, 1, true, .ro, 0, 0x0, [], 0, 0⟩
/-- spec/08_heddle.md R277: FWD_UPD_CNT. -/
def Reg.Hed.FWD_UPD_CNT : RegSpec := ⟨0x15, 0x888, 8, 1, true, .ro, 0, 0x0, [], 0, 0⟩
/-- spec/08_heddle.md R278: TBL_CMD. -/
def Reg.HReg.TBL_CMD : RegSpec := ⟨0x118, 0x40, 4, 1, false, .wo, 0x0, 0x0, [], 0, 0⟩
/-- spec/08_heddle.md R278: TBL_STAT. -/
def Reg.HReg.TBL_STAT : RegSpec := ⟨0x118, 0x44, 4, 1, false, .ro, 0x0, 0x0, [], 0, 0⟩
/-- spec/08_heddle.md R278: TBL_ADDR. -/
def Reg.HReg.TBL_ADDR : RegSpec := ⟨0x118, 0x48, 8, 1, true, .rw, 0x0, 0xffffffffffff, [], 0, 0⟩
/-- spec/08_heddle.md R278: RET_POP. -/
def Reg.HReg.RET_POP : RegSpec := ⟨0x118, 0x50, 8, 1, true, .rc, 0x0, 0x0, [], 0, 0⟩
/-- spec/08_heddle.md R278: REG_STAT. -/
def Reg.HReg.REG_STAT : RegSpec := ⟨0x118, 0x58, 4, 1, false, .ro, 0x0, 0x0, [], 0, 0⟩
/-- spec/08_heddle.md R278: MIG_SEL. -/
def Reg.HReg.MIG_SEL : RegSpec := ⟨0x118, 0x5c, 4, 1, false, .rw, 0x0, 0xff, [], 0, 0⟩
/-- spec/08_heddle.md R278: MIG_BASE. -/
def Reg.HReg.MIG_BASE : RegSpec := ⟨0x118, 0x60, 8, 1, true, .rw, 0x0, 0xffffffffffff, [], 3, 0⟩
/-- spec/08_heddle.md R278: MIG_SIZE. -/
def Reg.HReg.MIG_SIZE : RegSpec := ⟨0x118, 0x68, 4, 1, false, .rw, 0x0, 0xffff, [], 3, 0⟩
/-- spec/08_heddle.md R278: MIG_POLICY. -/
def Reg.HReg.MIG_POLICY : RegSpec := ⟨0x118, 0x6c, 4, 1, false, .rw, 0x10100010, 0xffffffff, [⟨31, 30, 0, 2⟩, ⟨29, 24, 9, 63⟩], 3, 0⟩
/-- spec/08_heddle.md R278: SKEW_WINDOW. -/
def Reg.HReg.SKEW_WINDOW : RegSpec := ⟨0x118, 0x70, 4, 1, false, .rw, 0x3e8, 0xffff, [⟨15, 0, 100, 65535⟩], 0, 0⟩
/-- spec/08_heddle.md R278: MIG_STAT. -/
def Reg.HReg.MIG_STAT : RegSpec := ⟨0x118, 0x74, 4, 1, false, .ro, 0x0, 0x0, [], 3, 0⟩
/-- spec/08_heddle.md R278: SKEW_FETCH. -/
def Reg.HReg.SKEW_FETCH : RegSpec := ⟨0x118, 0x800, 8, 24, true, .ro, 0, 0x0, [], 3, 0⟩
/-- spec/08_heddle.md R278: SKEW_UPD. -/
def Reg.HReg.SKEW_UPD : RegSpec := ⟨0x118, 0x900, 8, 24, true, .ro, 0, 0x0, [], 3, 0⟩
/-- spec/08_heddle.md R278: MIG_CNT. -/
def Reg.HReg.MIG_CNT : RegSpec := ⟨0x118, 0xa00, 8, 1, true, .ro, 0, 0x0, [], 0, 0⟩
/-- spec/08_heddle.md R278: MIG_BACK_CNT. -/
def Reg.HReg.MIG_BACK_CNT : RegSpec := ⟨0x118, 0xa08, 8, 1, true, .ro, 0, 0x0, [], 0, 0⟩
/-- spec/08_heddle.md R278: MIG_SKIP_CNT. -/
def Reg.HReg.MIG_SKIP_CNT : RegSpec := ⟨0x118, 0xa10, 8, 1, true, .ro, 0, 0x0, [], 0, 0⟩
/-- spec/08_heddle.md R278: INSTALL_CNT. -/
def Reg.HReg.INSTALL_CNT : RegSpec := ⟨0x118, 0xa18, 8, 1, true, .ro, 0, 0x0, [], 0, 0⟩
/-- spec/08_heddle.md R278: RETIRE_CNT. -/
def Reg.HReg.RETIRE_CNT : RegSpec := ⟨0x118, 0xa20, 8, 1, true, .ro, 0, 0x0, [], 0, 0⟩
/-- spec/08_heddle.md R278: BIND_CNT. -/
def Reg.HReg.BIND_CNT : RegSpec := ⟨0x118, 0xa28, 8, 1, true, .ro, 0, 0x0, [], 0, 0⟩
/-- spec/09_spindles.md R316: SP_SEL. -/
def Reg.Sp.SP_SEL : RegSpec := ⟨0x16, 0x40, 4, 1, false, .rw, 0x0, 0x3f, [], 0, 0⟩
/-- spec/09_spindles.md R316: SP_STAT. -/
def Reg.Sp.SP_STAT : RegSpec := ⟨0x16, 0x44, 4, 1, false, .ro, 0x10, 0x0, [], 6, 0⟩
/-- spec/09_spindles.md R316: SP_FAULT_INFO. -/
def Reg.Sp.SP_FAULT_INFO : RegSpec := ⟨0x16, 0x48, 4, 1, false, .rc, 0x0, 0x0, [], 0, 0⟩
/-- spec/09_spindles.md R316: SP_FAULT_PC. -/
def Reg.Sp.SP_FAULT_PC : RegSpec := ⟨0x16, 0x4c, 4, 1, false, .rc, 0x0, 0x0, [], 0, 0⟩
/-- spec/09_spindles.md R316: SP_FAULT_ADDR. -/
def Reg.Sp.SP_FAULT_ADDR : RegSpec := ⟨0x16, 0x50, 4, 1, false, .rc, 0x0, 0x0, [], 0, 0⟩
/-- spec/09_spindles.md R316: SP_OWNER. -/
def Reg.Sp.SP_OWNER : RegSpec := ⟨0x16, 0x54, 4, 1, false, .ro, 0x0, 0x0, [], 6, 0⟩
/-- spec/09_spindles.md R316: SP_FENCE. -/
def Reg.Sp.SP_FENCE : RegSpec := ⟨0x16, 0x58, 8, 1, true, .rws, 0x0, 0xffffffffffffffff, [], 0, 30⟩
/-- spec/09_spindles.md R316: SP_RESIDENT. -/
def Reg.Sp.SP_RESIDENT : RegSpec := ⟨0x16, 0x60, 4, 1, false, .ro, 0x0, 0x0, [], 6, 0⟩
/-- spec/09_spindles.md R316: RUN_CYC_CNT. -/
def Reg.Sp.RUN_CYC_CNT : RegSpec := ⟨0x16, 0x800, 8, 1, true, .ro, 0, 0x0, [], 6, 0⟩
/-- spec/09_spindles.md R316: DOT_CYC_CNT. -/
def Reg.Sp.DOT_CYC_CNT : RegSpec := ⟨0x16, 0x808, 8, 1, true, .ro, 0, 0x0, [], 6, 0⟩
/-- spec/09_spindles.md R316: BANK_BYTE_CNT. -/
def Reg.Sp.BANK_BYTE_CNT : RegSpec := ⟨0x16, 0x810, 8, 1, true, .ro, 0, 0x0, [], 6, 0⟩
/-- spec/09_spindles.md R316: BANK_WAIT_CYC_CNT. -/
def Reg.Sp.BANK_WAIT_CYC_CNT : RegSpec := ⟨0x16, 0x818, 8, 1, true, .ro, 0, 0x0, [], 6, 0⟩
/-- spec/09_spindles.md R316: REFRESH_STALL_CYC_CNT. -/
def Reg.Sp.REFRESH_STALL_CYC_CNT : RegSpec := ⟨0x16, 0x820, 8, 1, true, .ro, 0, 0x0, [], 6, 0⟩
/-- spec/09_spindles.md R316: EXP_STALL_CYC_CNT. -/
def Reg.Sp.EXP_STALL_CYC_CNT : RegSpec := ⟨0x16, 0x828, 8, 1, true, .ro, 0, 0x0, [], 6, 0⟩
/-- spec/09_spindles.md R316: STREAM_CNT. -/
def Reg.Sp.STREAM_CNT : RegSpec := ⟨0x16, 0x830, 8, 1, true, .ro, 0, 0x0, [], 6, 0⟩
/-- spec/09_spindles.md R316: LAUNCH_CNT. -/
def Reg.Sp.LAUNCH_CNT : RegSpec := ⟨0x16, 0x838, 8, 1, true, .ro, 0, 0x0, [], 6, 0⟩
/-- spec/09_spindles.md R316: LOAD_CNT. -/
def Reg.Sp.LOAD_CNT : RegSpec := ⟨0x16, 0x840, 8, 1, true, .ro, 0, 0x0, [], 6, 0⟩
/-- spec/09_spindles.md R316: FAULT_CNT. -/
def Reg.Sp.FAULT_CNT : RegSpec := ⟨0x16, 0x848, 8, 1, true, .ro, 0, 0x0, [], 6, 0⟩
/-- spec/09_spindles.md R316: REEXEC_CNT. -/
def Reg.Sp.REEXEC_CNT : RegSpec := ⟨0x16, 0x850, 8, 1, true, .ro, 0, 0x0, [], 6, 0⟩
/-- spec/09_spindles.md R316: SRAM_CE_CNT. -/
def Reg.Sp.SRAM_CE_CNT : RegSpec := ⟨0x16, 0x858, 8, 1, true, .ro, 0, 0x0, [], 6, 0⟩
/-- spec/09_spindles.md R316: COMB_OPEN_CNT. -/
def Reg.Sp.COMB_OPEN_CNT : RegSpec := ⟨0x16, 0x900, 8, 1, true, .ro, 0, 0x0, [], 0, 0⟩
/-- spec/09_spindles.md R316: COMB_DONE_CNT. -/
def Reg.Sp.COMB_DONE_CNT : RegSpec := ⟨0x16, 0x908, 8, 1, true, .ro, 0, 0x0, [], 0, 0⟩
/-- spec/09_spindles.md R316: COMB_FAIL_CNT. -/
def Reg.Sp.COMB_FAIL_CNT : RegSpec := ⟨0x16, 0x910, 8, 1, true, .ro, 0, 0x0, [], 0, 0⟩
/-- spec/09_spindles.md R316: PART_CNT. -/
def Reg.Sp.PART_CNT : RegSpec := ⟨0x16, 0x918, 8, 1, true, .ro, 0, 0x0, [], 0, 0⟩
/-- spec/09_spindles.md R316: PART_DUP_CNT. -/
def Reg.Sp.PART_DUP_CNT : RegSpec := ⟨0x16, 0x920, 8, 1, true, .ro, 0, 0x0, [], 0, 0⟩
/-- spec/09_spindles.md R316: COMB_WAIT_CYC_CNT. -/
def Reg.Sp.COMB_WAIT_CYC_CNT : RegSpec := ⟨0x16, 0x928, 8, 1, true, .ro, 0, 0x0, [], 0, 0⟩
/-- spec/09_spindles.md R316: FENCE_RECALL_CNT. -/
def Reg.Sp.FENCE_RECALL_CNT : RegSpec := ⟨0x16, 0x930, 8, 1, true, .ro, 0, 0x0, [], 0, 0⟩
/-- spec/09_spindles.md R317: COH_SEL. -/
def Reg.SpCtl.COH_SEL : RegSpec := ⟨0x11a, 0x40, 4, 1, false, .rw, 0x0, 0xff, [], 0, 0⟩
/-- spec/09_spindles.md R317: COH_MODE. -/
def Reg.SpCtl.COH_MODE : RegSpec := ⟨0x11a, 0x44, 4, 1, false, .rw, 0x0, 0x1, [], 4, 0⟩
/-- spec/09_spindles.md R317: COMB_CMD. -/
def Reg.SpCtl.COMB_CMD : RegSpec := ⟨0x11a, 0x48, 4, 1, false, .wo, 0x0, 0x0, [], 0, 0⟩
/-- spec/09_spindles.md R317: COMB_STAT. -/
def Reg.SpCtl.COMB_STAT : RegSpec := ⟨0x11a, 0x4c, 4, 1, false, .ro, 0x0, 0x0, [], 0, 0⟩
/-- spec/09_spindles.md R317: LAUNCH_DEV_CNT. -/
def Reg.SpCtl.LAUNCH_DEV_CNT : RegSpec := ⟨0x11a, 0x800, 8, 1, true, .ro, 0, 0x0, [], 0, 0⟩
/-- spec/09_spindles.md R317: LAUNCH_REJECT_CNT. -/
def Reg.SpCtl.LAUNCH_REJECT_CNT : RegSpec := ⟨0x11a, 0x808, 8, 1, true, .ro, 0, 0x0, [], 0, 0⟩
/-- spec/09_spindles.md R317: COMB_CANCEL_CNT. -/
def Reg.SpCtl.COMB_CANCEL_CNT : RegSpec := ⟨0x11a, 0x810, 8, 1, true, .ro, 0, 0x0, [], 0, 0⟩
/-- spec/10_compression.md R336: CODEC_STAT. -/
def Reg.Codec.CODEC_STAT : RegSpec := ⟨0x17, 0x40, 4, 1, false, .ro, 0x0, 0x0, [], 0, 0⟩
/-- spec/10_compression.md R336: CODEC_FAULT_INFO. -/
def Reg.Codec.CODEC_FAULT_INFO : RegSpec := ⟨0x17, 0x48, 4, 1, false, .rc, 0x0, 0x0, [], 0, 0⟩
/-- spec/10_compression.md R336: CODEC_FAULT_ADDR. -/
def Reg.Codec.CODEC_FAULT_ADDR : RegSpec := ⟨0x17, 0x50, 8, 1, true, .rc, 0x0, 0x0, [], 0, 0⟩
/-- spec/10_compression.md R336: BLK_CODED_CNT. -/
def Reg.Codec.BLK_CODED_CNT : RegSpec := ⟨0x17, 0x800, 8, 1, true, .ro, 0, 0x0, [], 0, 0⟩
/-- spec/10_compression.md R336: BLK_RAW_CNT. -/
def Reg.Codec.BLK_RAW_CNT : RegSpec := ⟨0x17, 0x808, 8, 1, true, .ro, 0, 0x0, [], 0, 0⟩
/-- spec/10_compression.md R336: IN_BYTE_CNT. -/
def Reg.Codec.IN_BYTE_CNT : RegSpec := ⟨0x17, 0x810, 8, 1, true, .ro, 0, 0x0, [], 0, 0⟩
/-- spec/10_compression.md R336: OUT_BYTE_CNT. -/
def Reg.Codec.OUT_BYTE_CNT : RegSpec := ⟨0x17, 0x818, 8, 1, true, .ro, 0, 0x0, [], 0, 0⟩
/-- spec/10_compression.md R336: HDR_ERR_CNT. -/
def Reg.Codec.HDR_ERR_CNT : RegSpec := ⟨0x17, 0x820, 8, 1, true, .ro, 0, 0x0, [], 0, 0⟩
/-- spec/10_compression.md R336: TBL_ERR_CNT. -/
def Reg.Codec.TBL_ERR_CNT : RegSpec := ⟨0x17, 0x828, 8, 1, true, .ro, 0, 0x0, [], 0, 0⟩
/-- spec/10_compression.md R336: CODE_ERR_CNT. -/
def Reg.Codec.CODE_ERR_CNT : RegSpec := ⟨0x17, 0x830, 8, 1, true, .ro, 0, 0x0, [], 0, 0⟩
/-- spec/10_compression.md R336: LEN_ERR_CNT. -/
def Reg.Codec.LEN_ERR_CNT : RegSpec := ⟨0x17, 0x838, 8, 1, true, .ro, 0, 0x0, [], 0, 0⟩
/-- spec/10_compression.md R336: POISON_BLK_CNT. -/
def Reg.Codec.POISON_BLK_CNT : RegSpec := ⟨0x17, 0x840, 8, 1, true, .ro, 0, 0x0, [], 0, 0⟩
/-- spec/10_compression.md R336: UE_BLK_CNT. -/
def Reg.Codec.UE_BLK_CNT : RegSpec := ⟨0x17, 0x848, 8, 1, true, .ro, 0, 0x0, [], 0, 0⟩
/-- spec/10_compression.md R336: TBL_MISS_CNT. -/
def Reg.Codec.TBL_MISS_CNT : RegSpec := ⟨0x17, 0x850, 8, 1, true, .ro, 0, 0x0, [], 0, 0⟩
/-- spec/10_compression.md R336: DEC_STALL_CYC_CNT. -/
def Reg.Codec.DEC_STALL_CYC_CNT : RegSpec := ⟨0x17, 0x858, 8, 1, true, .ro, 0, 0x0, [], 0, 0⟩
/-- spec/10_compression.md R337: CT_CMD. -/
def Reg.CTab.CT_CMD : RegSpec := ⟨0x119, 0x40, 4, 1, false, .wo, 0x0, 0x0, [], 0, 0⟩
/-- spec/10_compression.md R337: CT_STAT. -/
def Reg.CTab.CT_STAT : RegSpec := ⟨0x119, 0x44, 4, 1, false, .ro, 0x0, 0x0, [], 0, 0⟩
/-- spec/10_compression.md R337: CT_ADDR. -/
def Reg.CTab.CT_ADDR : RegSpec := ⟨0x119, 0x48, 8, 1, true, .rw, 0x0, 0xffffffffffff, [], 0, 0⟩
/-- spec/10_compression.md R337: CT_USED. -/
def Reg.CTab.CT_USED : RegSpec := ⟨0x119, 0x50, 4, 1, false, .ro, 0x0, 0x0, [], 0, 0⟩
/-- spec/10_compression.md R337: CT_INSTALL_CNT. -/
def Reg.CTab.CT_INSTALL_CNT : RegSpec := ⟨0x119, 0x800, 8, 1, true, .ro, 0, 0x0, [], 0, 0⟩
/-- spec/10_compression.md R337: CT_REJECT_CNT. -/
def Reg.CTab.CT_REJECT_CNT : RegSpec := ⟨0x119, 0x808, 8, 1, true, .ro, 0, 0x0, [], 0, 0⟩
/-- spec/10_compression.md R337: CT_REMOVE_CNT. -/
def Reg.CTab.CT_REMOVE_CNT : RegSpec := ⟨0x119, 0x810, 8, 1, true, .ro, 0, 0x0, [], 0, 0⟩
/-- spec/11_treadle_and_drafts.md R371: NEXT_ADDR. -/
def Reg.Trd.NEXT_ADDR : RegSpec := ⟨0x11b, 0x40, 8, 1, true, .rw, 0x0, 0xffffffffffff, [], 0, 0⟩
/-- spec/11_treadle_and_drafts.md R371: NEXT_TIME. -/
def Reg.Trd.NEXT_TIME : RegSpec := ⟨0x11b, 0x48, 8, 1, true, .rw, 0x0, 0xffffffffffffffff, [], 0, 0⟩
/-- spec/11_treadle_and_drafts.md R371: NEXT_STAT. -/
def Reg.Trd.NEXT_STAT : RegSpec := ⟨0x11b, 0x50, 4, 1, false, .ro, 0x0, 0x0, [], 0, 0⟩
/-- spec/11_treadle_and_drafts.md R371: TRD_CMD. -/
def Reg.Trd.TRD_CMD : RegSpec := ⟨0x11b, 0x54, 4, 1, false, .wo, 0x0, 0x0, [], 0, 0⟩
/-- spec/11_treadle_and_drafts.md R371: TRD_STAT. -/
def Reg.Trd.TRD_STAT : RegSpec := ⟨0x11b, 0x58, 4, 1, false, .ro, 0x0, 0x0, [], 0, 0⟩
/-- spec/11_treadle_and_drafts.md R371: ACT_ID. -/
def Reg.Trd.ACT_ID : RegSpec := ⟨0x11b, 0x5c, 4, 1, false, .ro, 0x0, 0x0, [], 0, 0⟩
/-- spec/11_treadle_and_drafts.md R371: ACT_TIME. -/
def Reg.Trd.ACT_TIME : RegSpec := ⟨0x11b, 0x60, 8, 1, true, .ro, 0x0, 0x0, [], 0, 0⟩
/-- spec/11_treadle_and_drafts.md R371: TAKEOVER_CNT. -/
def Reg.Trd.TAKEOVER_CNT : RegSpec := ⟨0x11b, 0x800, 8, 1, true, .ro, 0, 0x0, [], 0, 0⟩
/-- spec/11_treadle_and_drafts.md R371: DRAFT_REJECT_CNT. -/
def Reg.Trd.DRAFT_REJECT_CNT : RegSpec := ⟨0x11b, 0x808, 8, 1, true, .ro, 0, 0x0, [], 0, 0⟩
/-- spec/11_treadle_and_drafts.md R371: DISPATCH_CNT. -/
def Reg.Trd.DISPATCH_CNT : RegSpec := ⟨0x11b, 0x810, 8, 1, true, .ro, 0, 0x0, [], 0, 0⟩
/-- spec/11_treadle_and_drafts.md R371: TASK_FAIL_CNT. -/
def Reg.Trd.TASK_FAIL_CNT : RegSpec := ⟨0x11b, 0x818, 8, 1, true, .ro, 0, 0x0, [], 0, 0⟩
/-- spec/11_treadle_and_drafts.md R371: TASK_SKIP_CNT. -/
def Reg.Trd.TASK_SKIP_CNT : RegSpec := ⟨0x11b, 0x820, 8, 1, true, .ro, 0, 0x0, [], 0, 0⟩
/-- spec/11_treadle_and_drafts.md R371: TASK_ABANDON_CNT. -/
def Reg.Trd.TASK_ABANDON_CNT : RegSpec := ⟨0x11b, 0x828, 8, 1, true, .ro, 0, 0x0, [], 0, 0⟩
/-- spec/11_treadle_and_drafts.md R371: SLOT_MISS_CNT. -/
def Reg.Trd.SLOT_MISS_CNT : RegSpec := ⟨0x11b, 0x830, 8, 1, true, .ro, 0, 0x0, [], 0, 0⟩
/-- spec/11_treadle_and_drafts.md R371: WATCH_FULL_CNT. -/
def Reg.Trd.WATCH_FULL_CNT : RegSpec := ⟨0x11b, 0x838, 8, 1, true, .ro, 0, 0x0, [], 0, 0⟩
/-- spec/11_treadle_and_drafts.md R371: STATUS_WR_FAIL_CNT. -/
def Reg.Trd.STATUS_WR_FAIL_CNT : RegSpec := ⟨0x11b, 0x840, 8, 1, true, .ro, 0, 0x0, [], 0, 0⟩
/-- spec/11_treadle_and_drafts.md R371: SCHED_REROUTE_CNT. -/
def Reg.Trd.SCHED_REROUTE_CNT : RegSpec := ⟨0x11b, 0x848, 8, 1, true, .ro, 0, 0x0, [], 0, 0⟩
/-- spec/11_treadle_and_drafts.md R373: FT_NS. -/
def Reg.FT.FT_NS : RegSpec := ⟨0x11c, 0x40, 8, 1, true, .ro, 0x0, 0x0, [], 0, 0⟩
/-- spec/11_treadle_and_drafts.md R373: FT_FRAC. -/
def Reg.FT.FT_FRAC : RegSpec := ⟨0x11c, 0x48, 4, 1, false, .ro, 0x0, 0x0, [], 0, 0⟩
/-- spec/11_treadle_and_drafts.md R373: TIME_CFG. -/
def Reg.FT.TIME_CFG : RegSpec := ⟨0x11c, 0x4c, 4, 1, false, .rw, 0x32, 0x870000ff, [⟨7, 0, 1, 255⟩], 0, 0⟩
/-- spec/11_treadle_and_drafts.md R373: TIME_INTERVAL. -/
def Reg.FT.TIME_INTERVAL : RegSpec := ⟨0x11c, 0x50, 4, 1, false, .rw, 0x3e8, 0xfffff, [⟨19, 0, 250, 1000000⟩], 0, 0⟩
/-- spec/11_treadle_and_drafts.md R373: TIME_STAT. -/
def Reg.FT.TIME_STAT : RegSpec := ⟨0x11c, 0x54, 4, 1, false, .ro, 0x1ff, 0x0, [], 0, 0⟩
/-- spec/11_treadle_and_drafts.md R373: OFFSET_LAST. -/
def Reg.FT.OFFSET_LAST : RegSpec := ⟨0x11c, 0x58, 8, 1, true, .ro, 0x0, 0x0, [], 0, 0⟩
/-- spec/11_treadle_and_drafts.md R373: DELAY_LAST. -/
def Reg.FT.DELAY_LAST : RegSpec := ⟨0x11c, 0x60, 8, 1, true, .ro, 0x0, 0x0, [], 0, 0⟩
/-- spec/11_treadle_and_drafts.md R373: SET_NS. -/
def Reg.FT.SET_NS : RegSpec := ⟨0x11c, 0x68, 8, 1, true, .rw, 0x0, 0xffffffffffffffff, [], 0, 0⟩
/-- spec/11_treadle_and_drafts.md R373: SET_FRAC. -/
def Reg.FT.SET_FRAC : RegSpec := ⟨0x11c, 0x70, 4, 1, false, .rw, 0x0, 0xffff, [], 0, 0⟩
/-- spec/11_treadle_and_drafts.md R373: ASYM. -/
def Reg.FT.ASYM : RegSpec := ⟨0x11c, 0x74, 4, 1, false, .rw, 0x0, 0xffff, [], 0, 0⟩
/-- spec/11_treadle_and_drafts.md R373: ADJ. -/
def Reg.FT.ADJ : RegSpec := ⟨0x11c, 0x78, 8, 1, true, .rw, 0x0, 0xffffffffffffffff, [], 0, 0⟩
/-- spec/11_treadle_and_drafts.md R373: TIME_CMD. -/
def Reg.FT.TIME_CMD : RegSpec := ⟨0x11c, 0x80, 4, 1, false, .wo, 0x0, 0x0, [], 0, 0⟩
/-- spec/11_treadle_and_drafts.md R373: EXCH_CNT. -/
def Reg.FT.EXCH_CNT : RegSpec := ⟨0x11c, 0x800, 8, 1, true, .ro, 0, 0x0, [], 0, 0⟩
/-- spec/11_treadle_and_drafts.md R373: EXCH_FAIL_CNT. -/
def Reg.FT.EXCH_FAIL_CNT : RegSpec := ⟨0x11c, 0x808, 8, 1, true, .ro, 0, 0x0, [], 0, 0⟩
/-- spec/11_treadle_and_drafts.md R373: STEP_CNT. -/
def Reg.FT.STEP_CNT : RegSpec := ⟨0x11c, 0x810, 8, 1, true, .ro, 0, 0x0, [], 0, 0⟩
/-- spec/11_treadle_and_drafts.md R373: SYNC_LOSS_CNT. -/
def Reg.FT.SYNC_LOSS_CNT : RegSpec := ⟨0x11c, 0x818, 8, 1, true, .ro, 0, 0x0, [], 0, 0⟩
/-- spec/11_treadle_and_drafts.md R374: STAMP_NS. -/
def Reg.Pier.STAMP_NS : RegSpec := ⟨0xc, 0x100, 8, 1, true, .ro, 0x0, 0x0, [], 0, 0⟩
/-- spec/11_treadle_and_drafts.md R374: STAMP_SEQ. -/
def Reg.Pier.STAMP_SEQ : RegSpec := ⟨0xc, 0x108, 4, 1, false, .ro, 0x0, 0x0, [], 0, 0⟩
/-- spec/11_treadle_and_drafts.md R374: STAMP_INFO. -/
def Reg.Pier.STAMP_INFO : RegSpec := ⟨0xc, 0x10c, 4, 1, false, .rc, 0x0, 0x0, [], 0, 0⟩
/-- spec/11_treadle_and_drafts.md R374: GATE_STAT. -/
def Reg.Pier.GATE_STAT : RegSpec := ⟨0xc, 0x140, 4, 8, false, .ro, 0x80000000, 0x0, [], 0, 0⟩
/-- spec/11_treadle_and_drafts.md R374: GATE_LOAD_CNT. -/
def Reg.Pier.GATE_LOAD_CNT : RegSpec := ⟨0xc, 0x958, 8, 1, true, .ro, 0, 0x0, [], 0, 0⟩
/-- spec/11_treadle_and_drafts.md R374: GUARD_CYC_CNT. -/
def Reg.Pier.GUARD_CYC_CNT : RegSpec := ⟨0xc, 0x960, 8, 1, true, .ro, 0, 0x0, [], 0, 0⟩
/-- spec/11_treadle_and_drafts.md R374: STAMP_LOST_CNT. -/
def Reg.Pier.STAMP_LOST_CNT : RegSpec := ⟨0xc, 0x968, 8, 1, true, .ro, 0, 0x0, [], 0, 0⟩
/-- spec/12_compositions.md R400: COMP_SEL. -/
def Reg.Comp.COMP_SEL : RegSpec := ⟨0x111, 0x40, 4, 1, false, .rw, 0x0, 0xff, [], 0, 0⟩
/-- spec/12_compositions.md R400: COMP_CMD. -/
def Reg.Comp.COMP_CMD : RegSpec := ⟨0x111, 0x44, 4, 1, false, .wo, 0x0, 0x0, [], 0, 0⟩
/-- spec/12_compositions.md R400: COMP_STAT. -/
def Reg.Comp.COMP_STAT : RegSpec := ⟨0x111, 0x48, 4, 1, false, .ro, 0x0, 0x0, [], 0, 0⟩
/-- spec/12_compositions.md R400: COMP_CFG. -/
def Reg.Comp.COMP_CFG : RegSpec := ⟨0x111, 0x4c, 4, 1, false, .rw, 0x0, 0x1, [], 1, 0⟩
/-- spec/12_compositions.md R400: SNAP_ADDR. -/
def Reg.Comp.SNAP_ADDR : RegSpec := ⟨0x111, 0x50, 8, 1, true, .rw, 0x0, 0xffffffffffff, [], 1, 0⟩
/-- spec/12_compositions.md R400: SNAP_CFG. -/
def Reg.Comp.SNAP_CFG : RegSpec := ⟨0x111, 0x58, 4, 1, false, .rw, 0x3e8, 0xffff, [⟨15, 0, 1, 65535⟩], 1, 0⟩
/-- spec/12_compositions.md R400: MAP_CTRL. -/
def Reg.Comp.MAP_CTRL : RegSpec := ⟨0x111, 0x5c, 4, 1, false, .rw, 0x3e8, 0x7ff, [⟨10, 0, 100, 1000⟩], 0, 0⟩
/-- spec/12_compositions.md R400: MAP_CMD. -/
def Reg.Comp.MAP_CMD : RegSpec := ⟨0x111, 0x60, 4, 1, false, .wo, 0x0, 0x0, [], 0, 0⟩
/-- spec/12_compositions.md R400: MAP_STAT. -/
def Reg.Comp.MAP_STAT : RegSpec := ⟨0x111, 0x64, 4, 1, false, .ro, 0x0, 0x0, [], 0, 0⟩
/-- spec/12_compositions.md R400: MEMB_CMD. -/
def Reg.Comp.MEMB_CMD : RegSpec := ⟨0x111, 0x68, 4, 1, false, .wo, 0x0, 0x0, [], 0, 0⟩
/-- spec/12_compositions.md R400: MEMB_DATA. -/
def Reg.Comp.MEMB_DATA : RegSpec := ⟨0x111, 0x6c, 4, 1, false, .rw, 0x0, 0x1ff, [], 0, 0⟩
/-- spec/12_compositions.md R400: RCT_CMD. -/
def Reg.Comp.RCT_CMD : RegSpec := ⟨0x111, 0x70, 4, 1, false, .wo, 0x0, 0x0, [], 0, 0⟩
/-- spec/12_compositions.md R400: RCT_STAT. -/
def Reg.Comp.RCT_STAT : RegSpec := ⟨0x111, 0x74, 4, 1, false, .ro, 0x0, 0x0, [], 0, 0⟩
/-- spec/12_compositions.md R400: RCT_DATA. -/
def Reg.Comp.RCT_DATA : RegSpec := ⟨0x111, 0x78, 4, 4, false, .rw, 0x0, 0xffffffff, [], 0, 0⟩
/-- spec/12_compositions.md R400: REV_CMD. -/
def Reg.Comp.REV_CMD : RegSpec := ⟨0x111, 0x88, 4, 1, false, .wo, 0x0, 0x0, [], 0, 0⟩
/-- spec/12_compositions.md R400: REV_STAT. -/
def Reg.Comp.REV_STAT : RegSpec := ⟨0x111, 0x8c, 4, 1, false, .ro, 0x0, 0x0, [], 0, 0⟩
/-- spec/12_compositions.md R400: REV_DATA0. -/
def Reg.Comp.REV_DATA0 : RegSpec := ⟨0x111, 0x90, 4, 1, false, .rw, 0x0, 0x87ffffff, [], 0, 0⟩
/-- spec/12_compositions.md R400: REV_DATA1. -/
def Reg.Comp.REV_DATA1 : RegSpec := ⟨0x111, 0x94, 4, 1, false, .rw, 0x0, 0x7ffffff, [], 0, 0⟩
/-- spec/12_compositions.md R400: REV_PEND. -/
def Reg.Comp.REV_PEND : RegSpec := ⟨0x111, 0x98, 8, 1, true, .ro, 0x0, 0x0, [], 0, 0⟩
/-- spec/12_compositions.md R400: SP_GRANT. -/
def Reg.Comp.SP_GRANT : RegSpec := ⟨0x111, 0x100, 8, 24, true, .rw, 0x0, 0xffffffffffffffff, [], 1, 0⟩
/-- spec/12_compositions.md R400: PORT_GRANT. -/
def Reg.Comp.PORT_GRANT : RegSpec := ⟨0x111, 0x1c0, 4, 9, false, .rw, 0x0, 0xffffffff, [], 1, 0⟩
/-- spec/12_compositions.md R400: BAY_SHARE. -/
def Reg.Comp.BAY_SHARE : RegSpec := ⟨0x111, 0x200, 4, 6, false, .rw, 0x0, 0x1f1f1f1f, [⟨4, 0, 0, 16⟩, ⟨12, 8, 0, 16⟩, ⟨20, 16, 0, 16⟩, ⟨28, 24, 0, 16⟩], 1, 0⟩
/-- spec/12_compositions.md R400: PIER_SHARE. -/
def Reg.Comp.PIER_SHARE : RegSpec := ⟨0x111, 0x220, 4, 18, false, .rw, 0x0, 0x1f1f1f1f, [⟨4, 0, 0, 16⟩, ⟨12, 8, 0, 16⟩, ⟨20, 16, 0, 16⟩, ⟨28, 24, 0, 16⟩], 1, 0⟩
/-- spec/12_compositions.md R400: BAY_SHARE_US. -/
def Reg.Comp.BAY_SHARE_US : RegSpec := ⟨0x111, 0x800, 8, 1, true, .ro, 0, 0x0, [], 1, 0⟩
/-- spec/12_compositions.md R400: SPINDLE_US. -/
def Reg.Comp.SPINDLE_US : RegSpec := ⟨0x111, 0x808, 8, 1, true, .ro, 0, 0x0, [], 1, 0⟩
/-- spec/12_compositions.md R400: PIER_US. -/
def Reg.Comp.PIER_US : RegSpec := ⟨0x111, 0x810, 8, 1, true, .ro, 0, 0x0, [], 1, 0⟩
/-- spec/12_compositions.md R400: STACK_GIB_US. -/
def Reg.Comp.STACK_GIB_US : RegSpec := ⟨0x111, 0x818, 8, 1, true, .ro, 0, 0x0, [], 1, 0⟩
/-- spec/12_compositions.md R400: TRAY_GIB_US. -/
def Reg.Comp.TRAY_GIB_US : RegSpec := ⟨0x111, 0x820, 8, 1, true, .ro, 0, 0x0, [], 1, 0⟩
/-- spec/12_compositions.md R400: DEV_EVENT_MS. -/
def Reg.Comp.DEV_EVENT_MS : RegSpec := ⟨0x111, 0x828, 8, 1, true, .ro, 0, 0x0, [], 1, 0⟩
/-- spec/12_compositions.md R400: SNAP_CNT. -/
def Reg.Comp.SNAP_CNT : RegSpec := ⟨0x111, 0x830, 8, 1, true, .ro, 0, 0x0, [], 1, 0⟩
/-- spec/12_compositions.md R400: SNAP_FAIL_CNT. -/
def Reg.Comp.SNAP_FAIL_CNT : RegSpec := ⟨0x111, 0x838, 8, 1, true, .ro, 0, 0x0, [], 1, 0⟩
/-- spec/12_compositions.md R400: MAP_SWITCH_CNT. -/
def Reg.Comp.MAP_SWITCH_CNT : RegSpec := ⟨0x111, 0x840, 8, 1, true, .ro, 0, 0x0, [], 0, 0⟩
/-- spec/12_compositions.md R400: REVOKE_CNT. -/
def Reg.Comp.REVOKE_CNT : RegSpec := ⟨0x111, 0x848, 8, 1, true, .ro, 0, 0x0, [], 0, 0⟩
/-- spec/12_compositions.md R400: DEV_EVENT_CNT. -/
def Reg.Comp.DEV_EVENT_CNT : RegSpec := ⟨0x111, 0x850, 8, 1, true, .ro, 0, 0x0, [], 0, 0⟩
/-- spec/13_keystone.md R409: RECOV_STAT. -/
def Reg.Recov.RECOV_STAT : RegSpec := ⟨0x1ff, 0x0, 4, 1, false, .ro, 0x10000000, 0x0, [], 0, 0⟩
/-- spec/13_keystone.md R409: RECOV_CHUNK. -/
def Reg.Recov.RECOV_CHUNK : RegSpec := ⟨0x1ff, 0x4, 4, 1, false, .wo, 0x0, 0x0, [], 0, 0⟩
/-- spec/13_keystone.md R409: RECOV_CMD. -/
def Reg.Recov.RECOV_CMD : RegSpec := ⟨0x1ff, 0x8, 4, 1, false, .wo, 0x0, 0x0, [], 0, 0⟩
/-- spec/13_keystone.md R430: KS_STAT. -/
def Reg.KS.KS_STAT : RegSpec := ⟨0x120, 0x40, 4, 1, false, .ro, 0, 0x0, [], 0, 0⟩
/-- spec/13_keystone.md R430: KS_CMD. -/
def Reg.KS.KS_CMD : RegSpec := ⟨0x120, 0x44, 4, 1, false, .wo, 0x0, 0x0, [], 0, 0⟩
/-- spec/13_keystone.md R430: KS_CMD_STAT. -/
def Reg.KS.KS_CMD_STAT : RegSpec := ⟨0x120, 0x48, 4, 1, false, .ro, 0x0, 0x0, [], 0, 0⟩
/-- spec/13_keystone.md R430: KS_ADDR. -/
def Reg.KS.KS_ADDR : RegSpec := ⟨0x120, 0x50, 8, 1, true, .rw, 0x0, 0xffffffffffff, [], 0, 0⟩
/-- spec/13_keystone.md R430: KS_SEL. -/
def Reg.KS.KS_SEL : RegSpec := ⟨0x120, 0x58, 4, 1, false, .rw, 0x0, 0xff, [], 0, 0⟩
/-- spec/13_keystone.md R430: CONSENT_STAT. -/
def Reg.KS.CONSENT_STAT : RegSpec := ⟨0x120, 0x5c, 4, 1, false, .ro, 0x0, 0x0, [], 7, 0⟩
/-- spec/13_keystone.md R430: COMP_NONCE. -/
def Reg.KS.COMP_NONCE : RegSpec := ⟨0x120, 0x60, 8, 1, true, .ro, 0x0, 0x0, [], 7, 0⟩
/-- spec/13_keystone.md R430: SERIAL. -/
def Reg.KS.SERIAL : RegSpec := ⟨0x120, 0x68, 8, 1, true, .ro, 0, 0x0, [], 0, 0⟩
/-- spec/13_keystone.md R430: FW_VERSION. -/
def Reg.KS.FW_VERSION : RegSpec := ⟨0x120, 0x70, 4, 1, false, .ro, 0, 0x0, [], 0, 0⟩
/-- spec/13_keystone.md R430: TIME_FLOOR. -/
def Reg.KS.TIME_FLOOR : RegSpec := ⟨0x120, 0x78, 8, 1, true, .ro, 0x0, 0x0, [], 0, 0⟩
/-- spec/13_keystone.md R430: TOKEN_END. -/
def Reg.KS.TOKEN_END : RegSpec := ⟨0x120, 0x80, 8, 1, true, .ro, 0x0, 0x0, [], 7, 0⟩
/-- spec/13_keystone.md R430: TOKEN_INSTALL_CNT. -/
def Reg.KS.TOKEN_INSTALL_CNT : RegSpec := ⟨0x120, 0x800, 8, 1, true, .ro, 0, 0x0, [], 0, 0⟩
/-- spec/13_keystone.md R430: TOKEN_REJECT_CNT. -/
def Reg.KS.TOKEN_REJECT_CNT : RegSpec := ⟨0x120, 0x808, 8, 1, true, .ro, 0, 0x0, [], 0, 0⟩
/-- spec/13_keystone.md R430: TOKEN_LAPSE_CNT. -/
def Reg.KS.TOKEN_LAPSE_CNT : RegSpec := ⟨0x120, 0x810, 8, 1, true, .ro, 0, 0x0, [], 0, 0⟩
/-- spec/13_keystone.md R430: SAMPLE_DENY_CNT. -/
def Reg.KS.SAMPLE_DENY_CNT : RegSpec := ⟨0x120, 0x818, 8, 1, true, .ro, 0, 0x0, [], 0, 0⟩
/-- spec/13_keystone.md R430: DEBUG_DENY_CNT. -/
def Reg.KS.DEBUG_DENY_CNT : RegSpec := ⟨0x120, 0x820, 8, 1, true, .ro, 0, 0x0, [], 0, 0⟩
/-- spec/13_keystone.md R430: SPDM_MSG_CNT. -/
def Reg.KS.SPDM_MSG_CNT : RegSpec := ⟨0x120, 0x828, 8, 1, true, .ro, 0, 0x0, [], 0, 0⟩
/-- spec/13_keystone.md R430: SPDM_ERR_CNT. -/
def Reg.KS.SPDM_ERR_CNT : RegSpec := ⟨0x120, 0x830, 8, 1, true, .ro, 0, 0x0, [], 0, 0⟩
/-- spec/13_keystone.md R430: KEYGEN_CNT. -/
def Reg.KS.KEYGEN_CNT : RegSpec := ⟨0x120, 0x838, 8, 1, true, .ro, 0, 0x0, [], 0, 0⟩
/-- spec/13_keystone.md R430: KEYGEN_FAIL_CNT. -/
def Reg.KS.KEYGEN_FAIL_CNT : RegSpec := ⟨0x120, 0x840, 8, 1, true, .ro, 0, 0x0, [], 0, 0⟩
/-- spec/13_keystone.md R430: ENT_FAIL_CNT. -/
def Reg.KS.ENT_FAIL_CNT : RegSpec := ⟨0x120, 0x848, 8, 1, true, .ro, 0, 0x0, [], 0, 0⟩
/-- spec/14_clocks_resets_power.md R469: CLK_CFG. -/
def Reg.Clk.CLK_CFG : RegSpec := ⟨0x121, 0x40, 4, 1, false, .rw, 0x1ff01ff, 0x81ff01ff, [], 0, 0⟩
/-- spec/14_clocks_resets_power.md R469: CLK_STAT. -/
def Reg.Clk.CLK_STAT : RegSpec := ⟨0x121, 0x44, 4, 1, false, .ro, 0x0, 0x0, [], 0, 0⟩
/-- spec/14_clocks_resets_power.md R469: CLK_MON_CFG. -/
def Reg.Clk.CLK_MON_CFG : RegSpec := ⟨0x121, 0x48, 4, 1, false, .rw, 0x6403e8, 0xffffffff, [⟨15, 0, 100, 10000⟩], 0, 0⟩
/-- spec/14_clocks_resets_power.md R469: CLK_EVENT. -/
def Reg.Clk.CLK_EVENT : RegSpec := ⟨0x121, 0x4c, 4, 1, false, .w1c, 0x0, 0x1f, [], 0, 0⟩
/-- spec/14_clocks_resets_power.md R469: CLK_FAIL_CNT. -/
def Reg.Clk.CLK_FAIL_CNT : RegSpec := ⟨0x121, 0x800, 8, 4, true, .ro, 0, 0x0, [], 0, 0⟩
/-- spec/14_clocks_resets_power.md R469: CLK_SWITCH_CNT. -/
def Reg.Clk.CLK_SWITCH_CNT : RegSpec := ⟨0x121, 0x820, 8, 1, true, .ro, 0, 0x0, [], 0, 0⟩
/-- spec/14_clocks_resets_power.md R469: SAFE_US_CNT. -/
def Reg.Clk.SAFE_US_CNT : RegSpec := ⟨0x121, 0x828, 8, 1, true, .ro, 0, 0x0, [], 0, 0⟩
/-- spec/14_clocks_resets_power.md R469: HOLDOVER_US_CNT. -/
def Reg.Clk.HOLDOVER_US_CNT : RegSpec := ⟨0x121, 0x830, 8, 1, true, .ro, 0, 0x0, [], 0, 0⟩
/-- spec/14_clocks_resets_power.md R470: RST_CMD. -/
def Reg.Rst.RST_CMD : RegSpec := ⟨0x122, 0x40, 4, 1, false, .wo, 0x0, 0x0, [], 0, 0⟩
/-- spec/14_clocks_resets_power.md R470: RST_STAT. -/
def Reg.Rst.RST_STAT : RegSpec := ⟨0x122, 0x44, 4, 1, false, .ro, 0x0, 0x0, [], 0, 0⟩
/-- spec/14_clocks_resets_power.md R470: RST_MAP_LO. -/
def Reg.Rst.RST_MAP_LO : RegSpec := ⟨0x122, 0x48, 4, 1, false, .ro, 0, 0x0, [], 0, 0⟩
/-- spec/14_clocks_resets_power.md R470: RST_MAP_HI. -/
def Reg.Rst.RST_MAP_HI : RegSpec := ⟨0x122, 0x4c, 4, 1, false, .ro, 0, 0x0, [], 0, 0⟩
/-- spec/14_clocks_resets_power.md R470: STRAP_STAT. -/
def Reg.Rst.STRAP_STAT : RegSpec := ⟨0x122, 0x50, 4, 1, false, .ro, 0, 0x0, [], 0, 0⟩
/-- spec/14_clocks_resets_power.md R470: WDT_CFG. -/
def Reg.Rst.WDT_CFG : RegSpec := ⟨0x122, 0x54, 4, 1, false, .rw, 0xf4240, 0x80ffffff, [⟨23, 0, 1000, 16777215⟩], 0, 0⟩
/-- spec/14_clocks_resets_power.md R470: WDT_KICK. -/
def Reg.Rst.WDT_KICK : RegSpec := ⟨0x122, 0x58, 4, 1, false, .wo, 0x0, 0x0, [], 0, 0⟩
/-- spec/14_clocks_resets_power.md R470: WDT_STAT. -/
def Reg.Rst.WDT_STAT : RegSpec := ⟨0x122, 0x5c, 4, 1, false, .ro, 0x0, 0x0, [], 0, 0⟩
/-- spec/14_clocks_resets_power.md R470: RST_LOG_IDX. -/
def Reg.Rst.RST_LOG_IDX : RegSpec := ⟨0x122, 0x60, 4, 1, false, .rws, 0x0, 0xf, [], 0, 30⟩
/-- spec/14_clocks_resets_power.md R470: RST_LOG. -/
def Reg.Rst.RST_LOG : RegSpec := ⟨0x122, 0x100, 8, 16, true, .rws, 0x0, 0xffffffffffffffff, [], 0, 30⟩
/-- spec/14_clocks_resets_power.md R470: RST_CNT. -/
def Reg.Rst.RST_CNT : RegSpec := ⟨0x122, 0x800, 8, 4, true, .ro, 0, 0x0, [], 0, 0⟩
/-- spec/14_clocks_resets_power.md R470: ESCALATE_CNT. -/
def Reg.Rst.ESCALATE_CNT : RegSpec := ⟨0x122, 0x820, 8, 1, true, .ro, 0, 0x0, [], 0, 0⟩
/-- spec/14_clocks_resets_power.md R471: CURR_SLEW. -/
def Reg.Pwr.CURR_SLEW : RegSpec := ⟨0x123, 0x40, 4, 1, false, .rw, 0xc8, 0xffff, [⟨15, 0, 25, 1600⟩], 0, 0⟩
/-- spec/14_clocks_resets_power.md R471: CURR_BURST. -/
def Reg.Pwr.CURR_BURST : RegSpec := ⟨0x123, 0x44, 4, 1, false, .rw, 0x64, 0xffff, [⟨15, 0, 100, 1000⟩], 0, 0⟩
/-- spec/14_clocks_resets_power.md R471: WAKE_CHARGE. -/
def Reg.Pwr.WAKE_CHARGE : RegSpec := ⟨0x123, 0x48, 4, 1, false, .rw, 0xa3e1860, 0xffffffff, [], 0, 0⟩
/-- spec/14_clocks_resets_power.md R471: WAKE_CHARGE2. -/
def Reg.Pwr.WAKE_CHARGE2 : RegSpec := ⟨0x123, 0x4c, 4, 1, false, .rw, 0x401, 0xffff, [], 0, 0⟩
/-- spec/14_clocks_resets_power.md R471: GOV_STAT. -/
def Reg.Pwr.GOV_STAT : RegSpec := ⟨0x123, 0x50, 4, 1, false, .ro, 0x64, 0x0, [], 0, 0⟩
/-- spec/14_clocks_resets_power.md R471: PWR_CAP. -/
def Reg.Pwr.PWR_CAP : RegSpec := ⟨0x123, 0x54, 4, 1, false, .rw, 0x992, 0xffff, [⟨15, 0, 500, 2450⟩], 0, 0⟩
/-- spec/14_clocks_resets_power.md R471: THR_CFG. -/
def Reg.Pwr.THR_CFG : RegSpec := ⟨0x123, 0x58, 4, 1, false, .rw, 0x5a6404, 0xffff07, [⟨23, 16, 60, 95⟩, ⟨15, 8, 70, 105⟩], 0, 0⟩
/-- spec/14_clocks_resets_power.md R471: THR_STAT. -/
def Reg.Pwr.THR_STAT : RegSpec := ⟨0x123, 0x5c, 4, 1, false, .ro, 0x0, 0x0, [], 0, 0⟩
/-- spec/14_clocks_resets_power.md R471: VIN_STAT. -/
def Reg.Pwr.VIN_STAT : RegSpec := ⟨0x123, 0x60, 4, 1, false, .ro, 0x0, 0x0, [], 0, 0⟩
/-- spec/14_clocks_resets_power.md R471: PIN_STAT. -/
def Reg.Pwr.PIN_STAT : RegSpec := ⟨0x123, 0x64, 4, 1, false, .ro, 0x0, 0x0, [], 0, 0⟩
/-- spec/14_clocks_resets_power.md R471: PSTAGE_SEL. -/
def Reg.Pwr.PSTAGE_SEL : RegSpec := ⟨0x123, 0x68, 4, 1, false, .rw, 0x0, 0x1ff, [⟨8, 0, 0, 397⟩], 0, 0⟩
/-- spec/14_clocks_resets_power.md R471: PSTAGE_SHELL. -/
def Reg.Pwr.PSTAGE_SHELL : RegSpec := ⟨0x123, 0x6c, 4, 1, false, .ro, 0x0, 0x0, [], 8, 0⟩
/-- spec/14_clocks_resets_power.md R471: PSTAGE_MARGIN. -/
def Reg.Pwr.PSTAGE_MARGIN : RegSpec := ⟨0x123, 0x70, 4, 1, false, .ro, 0x0, 0x0, [], 8, 0⟩
/-- spec/14_clocks_resets_power.md R471: PSTAGE_CMD. -/
def Reg.Pwr.PSTAGE_CMD : RegSpec := ⟨0x123, 0x74, 4, 1, false, .wo, 0x0, 0x0, [], 0, 0⟩
/-- spec/14_clocks_resets_power.md R471: WAKE_GRANT_CNT. -/
def Reg.Pwr.WAKE_GRANT_CNT : RegSpec := ⟨0x123, 0x800, 8, 1, true, .ro, 0, 0x0, [], 0, 0⟩
/-- spec/14_clocks_resets_power.md R471: WAKE_WAIT_US_CNT. -/
def Reg.Pwr.WAKE_WAIT_US_CNT : RegSpec := ⟨0x123, 0x808, 8, 1, true, .ro, 0, 0x0, [], 0, 0⟩
/-- spec/14_clocks_resets_power.md R471: THR_CHANGE_CNT. -/
def Reg.Pwr.THR_CHANGE_CNT : RegSpec := ⟨0x123, 0x810, 8, 1, true, .ro, 0, 0x0, [], 0, 0⟩
/-- spec/14_clocks_resets_power.md R471: THR_MS. -/
def Reg.Pwr.THR_MS : RegSpec := ⟨0x123, 0x818, 8, 8, true, .ro, 0, 0x0, [], 0, 0⟩
/-- spec/14_clocks_resets_power.md R471: PSU_WARN_CNT. -/
def Reg.Pwr.PSU_WARN_CNT : RegSpec := ⟨0x123, 0x858, 8, 1, true, .ro, 0, 0x0, [], 0, 0⟩
/-- spec/14_clocks_resets_power.md R471: VIN_LOW_CNT. -/
def Reg.Pwr.VIN_LOW_CNT : RegSpec := ⟨0x123, 0x860, 8, 1, true, .ro, 0, 0x0, [], 0, 0⟩
/-- spec/15_faults_and_footway.md R500: FAULT_CFG. -/
def Reg.Flt.FAULT_CFG : RegSpec := ⟨0x124, 0x40, 4, 1, false, .rw, 0x403, 0xff03, [⟨15, 8, 1, 255⟩], 0, 0⟩
/-- spec/15_faults_and_footway.md R500: BAY_RETIRED. -/
def Reg.Flt.BAY_RETIRED : RegSpec := ⟨0x124, 0x44, 4, 1, false, .ro, 0x0, 0x0, [], 0, 0⟩
/-- spec/15_faults_and_footway.md R500: BAY_EXCLUDE. -/
def Reg.Flt.BAY_EXCLUDE : RegSpec := ⟨0x124, 0x48, 4, 1, false, .rws, 0x0, 0xffffff, [], 0, 30⟩
/-- spec/15_faults_and_footway.md R500: PERM_PEND. -/
def Reg.Flt.PERM_PEND : RegSpec := ⟨0x124, 0x4c, 4, 1, false, .w1c, 0x0, 0xffffff, [], 0, 0⟩
/-- spec/15_faults_and_footway.md R500: BAY_RETIRE_CMD. -/
def Reg.Flt.BAY_RETIRE_CMD : RegSpec := ⟨0x124, 0x50, 4, 1, false, .wo, 0x0, 0x0, [], 0, 0⟩
/-- spec/15_faults_and_footway.md R500: BRIDGE_STAT. -/
def Reg.Flt.BRIDGE_STAT : RegSpec := ⟨0x124, 0x54, 4, 1, false, .ro, 0x0, 0x0, [], 0, 0⟩
/-- spec/15_faults_and_footway.md R500: SPAN_FENCED. -/
def Reg.Flt.SPAN_FENCED : RegSpec := ⟨0x124, 0x58, 4, 1, false, .ro, 0x0, 0x0, [], 0, 0⟩
/-- spec/15_faults_and_footway.md R500: WEFT_FENCE. -/
def Reg.Flt.WEFT_FENCE : RegSpec := ⟨0x124, 0x5c, 4, 1, false, .rws, 0x0, 0xfffe, [], 0, 30⟩
/-- spec/15_faults_and_footway.md R500: EPART_MAP. -/
def Reg.Flt.EPART_MAP : RegSpec := ⟨0x124, 0x60, 4, 1, false, .rw, 0xe4, 0xff, [], 0, 0⟩
/-- spec/15_faults_and_footway.md R500: EPART_CMD. -/
def Reg.Flt.EPART_CMD : RegSpec := ⟨0x124, 0x64, 4, 1, false, .wo, 0x0, 0x0, [], 0, 0⟩
/-- spec/15_faults_and_footway.md R500: LPART_MAP. -/
def Reg.Flt.LPART_MAP : RegSpec := ⟨0x124, 0x68, 4, 6, false, .rw, 0x0, 0x77777777, [], 0, 0⟩
/-- spec/15_faults_and_footway.md R500: LPART_CMD. -/
def Reg.Flt.LPART_CMD : RegSpec := ⟨0x124, 0x80, 4, 1, false, .wo, 0x0, 0x0, [], 0, 0⟩
/-- spec/15_faults_and_footway.md R500: LPART_FENCED. -/
def Reg.Flt.LPART_FENCED : RegSpec := ⟨0x124, 0x84, 4, 1, false, .ro, 0x0, 0x0, [], 0, 0⟩
/-- spec/15_faults_and_footway.md R500: FOOT_CMD. -/
def Reg.Flt.FOOT_CMD : RegSpec := ⟨0x124, 0x88, 4, 1, false, .wo, 0x0, 0x0, [], 0, 0⟩
/-- spec/15_faults_and_footway.md R500: FOOT_STAT. -/
def Reg.Flt.FOOT_STAT : RegSpec := ⟨0x124, 0x8c, 4, 1, false, .ro, 0x0, 0x0, [], 0, 0⟩
/-- spec/15_faults_and_footway.md R500: BTEST_CMD. -/
def Reg.Flt.BTEST_CMD : RegSpec := ⟨0x124, 0x90, 4, 1, false, .wo, 0x0, 0x0, [], 0, 0⟩
/-- spec/15_faults_and_footway.md R500: BTEST_STAT. -/
def Reg.Flt.BTEST_STAT : RegSpec := ⟨0x124, 0x94, 4, 1, false, .ro, 0x0, 0x0, [], 0, 0⟩
/-- spec/15_faults_and_footway.md R500: KAT_CFG. -/
def Reg.Flt.KAT_CFG : RegSpec := ⟨0x124, 0x98, 4, 1, false, .rw, 0x64, 0x3ff, [⟨9, 0, 10, 1000⟩], 0, 0⟩
/-- spec/15_faults_and_footway.md R500: FAULT_LOG_IDX. -/
def Reg.Flt.FAULT_LOG_IDX : RegSpec := ⟨0x124, 0x9c, 4, 1, false, .rws, 0x0, 0xf, [], 0, 30⟩
/-- spec/15_faults_and_footway.md R500: FAULT_LOG. -/
def Reg.Flt.FAULT_LOG : RegSpec := ⟨0x124, 0x100, 8, 16, true, .rws, 0x0, 0xffffffffffffffff, [], 0, 30⟩
/-- spec/15_faults_and_footway.md R500: BAY_RETIRE_CNT. -/
def Reg.Flt.BAY_RETIRE_CNT : RegSpec := ⟨0x124, 0x800, 8, 1, true, .ro, 0, 0x0, [], 0, 0⟩
/-- spec/15_faults_and_footway.md R500: SPINDLE_FENCE_CNT. -/
def Reg.Flt.SPINDLE_FENCE_CNT : RegSpec := ⟨0x124, 0x808, 8, 1, true, .ro, 0, 0x0, [], 0, 0⟩
/-- spec/15_faults_and_footway.md R500: WEFT_FENCE_CNT. -/
def Reg.Flt.WEFT_FENCE_CNT : RegSpec := ⟨0x124, 0x810, 8, 1, true, .ro, 0, 0x0, [], 0, 0⟩
/-- spec/15_faults_and_footway.md R500: BRIDGE_FENCE_CNT. -/
def Reg.Flt.BRIDGE_FENCE_CNT : RegSpec := ⟨0x124, 0x818, 8, 1, true, .ro, 0, 0x0, [], 0, 0⟩
/-- spec/15_faults_and_footway.md R500: SPAN_FAULT_CNT. -/
def Reg.Flt.SPAN_FAULT_CNT : RegSpec := ⟨0x124, 0x820, 8, 1, true, .ro, 0, 0x0, [], 0, 0⟩
/-- spec/15_faults_and_footway.md R500: BRIDGE_REPLAY_CNT. -/
def Reg.Flt.BRIDGE_REPLAY_CNT : RegSpec := ⟨0x124, 0x828, 8, 10, true, .ro, 0, 0x0, [], 0, 0⟩
/-- spec/15_faults_and_footway.md R500: KAT_CNT. -/
def Reg.Flt.KAT_CNT : RegSpec := ⟨0x124, 0x878, 8, 1, true, .ro, 0, 0x0, [], 0, 0⟩
/-- spec/15_faults_and_footway.md R500: KAT_FAIL_CNT. -/
def Reg.Flt.KAT_FAIL_CNT : RegSpec := ⟨0x124, 0x880, 8, 1, true, .ro, 0, 0x0, [], 0, 0⟩
/-- spec/15_faults_and_footway.md R500: KAT_LATE_CNT. -/
def Reg.Flt.KAT_LATE_CNT : RegSpec := ⟨0x124, 0x888, 8, 1, true, .ro, 0, 0x0, [], 0, 0⟩
/-- spec/15_faults_and_footway.md R500: RES_TBIN. -/
def Reg.Flt.RES_TBIN : RegSpec := ⟨0x124, 0x890, 8, 8, true, .ro, 0, 0x0, [], 0, 0⟩
/-- spec/15_faults_and_footway.md R500: FOOT_ENTRY_CNT. -/
def Reg.Flt.FOOT_ENTRY_CNT : RegSpec := ⟨0x124, 0x8d0, 8, 1, true, .ro, 0, 0x0, [], 0, 0⟩
/-- spec/15_faults_and_footway.md R500: FOOT_US_CNT. -/
def Reg.Flt.FOOT_US_CNT : RegSpec := ⟨0x124, 0x8d8, 8, 1, true, .ro, 0, 0x0, [], 0, 0⟩
/-- spec/15_faults_and_footway.md R500: FOOT_REFUSE_CNT. -/
def Reg.Flt.FOOT_REFUSE_CNT : RegSpec := ⟨0x124, 0x8e0, 8, 1, true, .ro, 0, 0x0, [], 0, 0⟩
/-- spec/15_faults_and_footway.md R501: TRACE_SPLIT. -/
def Reg.Diag.TRACE_SPLIT : RegSpec := ⟨0x107, 0x40, 4, 1, false, .rw, 0x8, 0x1f, [⟨4, 0, 0, 16⟩], 0, 0⟩
/-- spec/15_faults_and_footway.md R501: TRACE_CTRL. -/
def Reg.Diag.TRACE_CTRL : RegSpec := ⟨0x107, 0x44, 4, 1, false, .rw, 0x0, 0xc0000000, [], 0, 0⟩
/-- spec/15_faults_and_footway.md R501: TRACE_ENTRIES. -/
def Reg.Diag.TRACE_ENTRIES : RegSpec := ⟨0x107, 0x48, 4, 1, false, .rw, 0x2, 0x3ffff, [⟨17, 0, 2, 131072⟩], 0, 0⟩
/-- spec/15_faults_and_footway.md R501: TRACE_WR. -/
def Reg.Diag.TRACE_WR : RegSpec := ⟨0x107, 0x4c, 4, 1, false, .ro, 0x0, 0x0, [], 0, 0⟩
/-- spec/15_faults_and_footway.md R501: TRACE_RD. -/
def Reg.Diag.TRACE_RD : RegSpec := ⟨0x107, 0x50, 4, 1, false, .rw, 0x0, 0x3ffff, [], 0, 0⟩
/-- spec/15_faults_and_footway.md R501: GPIO_MUX. -/
def Reg.Diag.GPIO_MUX : RegSpec := ⟨0x107, 0x54, 4, 1, false, .rw, 0x0, 0x3, [⟨1, 0, 0, 2⟩], 0, 0⟩
/-- spec/15_faults_and_footway.md R501: DPATH_CMD. -/
def Reg.Diag.DPATH_CMD : RegSpec := ⟨0x107, 0x58, 4, 1, false, .wo, 0x0, 0x0, [], 0, 0⟩
/-- spec/15_faults_and_footway.md R501: DPATH_STAT. -/
def Reg.Diag.DPATH_STAT : RegSpec := ⟨0x107, 0x5c, 4, 1, false, .ro, 0x0, 0x0, [], 0, 0⟩
/-- spec/15_faults_and_footway.md R501: TRACE_REC_CNT. -/
def Reg.Diag.TRACE_REC_CNT : RegSpec := ⟨0x107, 0x800, 8, 1, true, .ro, 0, 0x0, [], 0, 0⟩
/-- spec/15_faults_and_footway.md R501: TRACE_LOST_CNT. -/
def Reg.Diag.TRACE_LOST_CNT : RegSpec := ⟨0x107, 0x808, 8, 1, true, .ro, 0, 0x0, [], 0, 0⟩
/-- spec/15_faults_and_footway.md R501: TIMER_DEFER_CNT. -/
def Reg.Diag.TIMER_DEFER_CNT : RegSpec := ⟨0x107, 0x810, 8, 1, true, .ro, 0, 0x0, [], 0, 0⟩
/-- spec/15_faults_and_footway.md R501: DPATH_ERR_CNT. -/
def Reg.Diag.DPATH_ERR_CNT : RegSpec := ⟨0x107, 0x818, 8, 1, true, .ro, 0, 0x0, [], 0, 0⟩
/-- spec/15_faults_and_footway.md R502: LOOP_CMD. -/
def Reg.Pier.LOOP_CMD : RegSpec := ⟨0xc, 0x78, 4, 1, false, .wo, 0x0, 0x0, [], 0, 0⟩
/-- spec/15_faults_and_footway.md R502: LOOP_STAT. -/
def Reg.Pier.LOOP_STAT : RegSpec := ⟨0xc, 0x7c, 4, 1, false, .ro, 0x0, 0x0, [], 0, 0⟩
/-- spec/15_faults_and_footway.md R502: LOOP_ERR_CNT. -/
def Reg.Pier.LOOP_ERR_CNT : RegSpec := ⟨0xc, 0x970, 8, 1, true, .ro, 0, 0x0, [], 0, 0⟩
/-- spec/15_faults_and_footway.md R502: SPARE_PRBS_ERR_CNT. -/
def Reg.Pier.SPARE_PRBS_ERR_CNT : RegSpec := ⟨0xc, 0x978, 8, 1, true, .ro, 0, 0x0, [], 0, 0⟩
/-- spec/15_faults_and_footway.md R502: CRC_TBIN. -/
def Reg.PG.CRC_TBIN : RegSpec := ⟨0x9, 0x840, 8, 8, true, .ro, 0, 0x0, [], 0, 0⟩
/-- spec/16_host_port_and_pages.md R519: BLK_ID. -/
def Reg.Hdr.BLK_ID : RegSpec := ⟨0x200, 0x0, 4, 1, false, .ro, 0, 0x0, [], 0, 0⟩
/-- spec/16_host_port_and_pages.md R519: BLK_VER. -/
def Reg.Hdr.BLK_VER : RegSpec := ⟨0x200, 0x4, 4, 1, false, .ro, 0xb0000100, 0x0, [], 0, 0⟩
/-- spec/16_host_port_and_pages.md R519: BLK_CTRL. -/
def Reg.Hdr.BLK_CTRL : RegSpec := ⟨0x200, 0x8, 4, 1, false, .rw, 0x1, 0x7, [], 0, 0⟩
/-- spec/16_host_port_and_pages.md R519: BLK_STAT. -/
def Reg.Hdr.BLK_STAT : RegSpec := ⟨0x200, 0xc, 4, 1, false, .ro, 0x0, 0x0, [], 0, 0⟩
/-- spec/16_host_port_and_pages.md R519: ERR_STAT. -/
def Reg.Hdr.ERR_STAT : RegSpec := ⟨0x200, 0x10, 4, 1, false, .w1c, 0x0, 0xffffffff, [], 0, 0⟩
/-- spec/16_host_port_and_pages.md R519: ERR_MASK. -/
def Reg.Hdr.ERR_MASK : RegSpec := ⟨0x200, 0x14, 4, 1, false, .rw, 0x0, 0xffffffff, [], 0, 0⟩
/-- spec/16_host_port_and_pages.md R519: ERR_INJ. -/
def Reg.Hdr.ERR_INJ : RegSpec := ⟨0x200, 0x18, 4, 1, false, .wo, 0x0, 0x0, [], 0, 0⟩
/-- spec/16_host_port_and_pages.md R519: ERR_FIRST. -/
def Reg.Hdr.ERR_FIRST : RegSpec := ⟨0x200, 0x1c, 4, 1, false, .ro, 0x0, 0x0, [], 0, 0⟩
/-- spec/16_host_port_and_pages.md R519: ERR_TIME. -/
def Reg.Hdr.ERR_TIME : RegSpec := ⟨0x200, 0x20, 8, 1, true, .ro, 0x0, 0x0, [], 0, 0⟩
/-- spec/16_host_port_and_pages.md R519: PWR_STATE. -/
def Reg.Hdr.PWR_STATE : RegSpec := ⟨0x200, 0x28, 4, 1, false, .rw, 0, 0x0, [], 0, 0⟩
/-- spec/16_host_port_and_pages.md R519: RST_CTRL. -/
def Reg.Hdr.RST_CTRL : RegSpec := ⟨0x200, 0x2c, 4, 1, false, .rw, 0, 0x0, [], 0, 0⟩
/-- spec/16_host_port_and_pages.md R527: HP_STAT. -/
def Reg.HP.HP_STAT : RegSpec := ⟨0x128, 0x40, 4, 1, false, .ro, 0x0, 0x0, [], 0, 0⟩
/-- spec/16_host_port_and_pages.md R527: HP_CFG. -/
def Reg.HP.HP_CFG : RegSpec := ⟨0x128, 0x44, 4, 1, false, .rw, 0x80000fff, 0x80007fff, [], 0, 0⟩
/-- spec/16_host_port_and_pages.md R527: HP_RETRY. -/
def Reg.HP.HP_RETRY : RegSpec := ⟨0x128, 0x48, 4, 1, false, .rw, 0xa, 0xffff, [⟨15, 0, 1, 1000⟩], 0, 0⟩
/-- spec/16_host_port_and_pages.md R527: MEM_RD_CNT. -/
def Reg.HP.MEM_RD_CNT : RegSpec := ⟨0x128, 0x800, 8, 1, true, .ro, 0, 0x0, [], 0, 0⟩
/-- spec/16_host_port_and_pages.md R527: MEM_WR_CNT. -/
def Reg.HP.MEM_WR_CNT : RegSpec := ⟨0x128, 0x808, 8, 1, true, .ro, 0, 0x0, [], 0, 0⟩
/-- spec/16_host_port_and_pages.md R527: BISNP_CNT. -/
def Reg.HP.BISNP_CNT : RegSpec := ⟨0x128, 0x810, 8, 1, true, .ro, 0, 0x0, [], 0, 0⟩
/-- spec/16_host_port_and_pages.md R527: HOST_POISON_CNT. -/
def Reg.HP.HOST_POISON_CNT : RegSpec := ⟨0x128, 0x818, 8, 1, true, .ro, 0, 0x0, [], 0, 0⟩
/-- spec/16_host_port_and_pages.md R527: HOST_WR_FAIL_CNT. -/
def Reg.HP.HOST_WR_FAIL_CNT : RegSpec := ⟨0x128, 0x820, 8, 1, true, .ro, 0, 0x0, [], 0, 0⟩
/-- spec/16_host_port_and_pages.md R527: HOST_RETRY_CNT. -/
def Reg.HP.HOST_RETRY_CNT : RegSpec := ⟨0x128, 0x828, 8, 1, true, .ro, 0, 0x0, [], 0, 0⟩
/-- spec/16_host_port_and_pages.md R527: LINK_DOWN_CNT. -/
def Reg.HP.LINK_DOWN_CNT : RegSpec := ⟨0x128, 0x830, 8, 1, true, .ro, 0, 0x0, [], 0, 0⟩
/-- spec/16_host_port_and_pages.md R527: HDM_KEY. -/
def Reg.HDM.HDM_KEY : RegSpec := ⟨0x129, 0x40, 4, 4, false, .rw, 0x0, 0xffffffff, [], 0, 0⟩
/-- spec/16_host_port_and_pages.md R527: FAULT_ADDR. -/
def Reg.HDM.FAULT_ADDR : RegSpec := ⟨0x129, 0x50, 8, 1, true, .rc, 0x0, 0x0, [], 0, 0⟩
/-- spec/16_host_port_and_pages.md R527: FAULT_INFO. -/
def Reg.HDM.FAULT_INFO : RegSpec := ⟨0x129, 0x58, 4, 1, false, .rc, 0x0, 0x0, [], 0, 0⟩
/-- spec/16_host_port_and_pages.md R527: IDE_STAT. -/
def Reg.IDE.IDE_STAT : RegSpec := ⟨0x12a, 0x40, 4, 1, false, .ro, 0x0, 0x0, [], 0, 0⟩
/-- spec/16_host_port_and_pages.md R527: IDE_FAIL_CNT. -/
def Reg.IDE.IDE_FAIL_CNT : RegSpec := ⟨0x12a, 0x800, 8, 1, true, .ro, 0, 0x0, [], 0, 0⟩
/-- spec/16_host_port_and_pages.md R527: DOE_OBJ_CNT. -/
def Reg.DOE.DOE_OBJ_CNT : RegSpec := ⟨0x12b, 0x800, 8, 1, true, .ro, 0, 0x0, [], 0, 0⟩
/-- spec/16_host_port_and_pages.md R527: DOE_ABORT_CNT. -/
def Reg.DOE.DOE_ABORT_CNT : RegSpec := ⟨0x12b, 0x808, 8, 1, true, .ro, 0, 0x0, [], 0, 0⟩
/-- spec/16_host_port_and_pages.md R527: MB_STAT. -/
def Reg.MB.MB_STAT : RegSpec := ⟨0x12c, 0x40, 4, 1, false, .ro, 0x0, 0x0, [], 0, 0⟩
/-- spec/16_host_port_and_pages.md R527: MB_CMD_CNT. -/
def Reg.MB.MB_CMD_CNT : RegSpec := ⟨0x12c, 0x800, 8, 1, true, .ro, 0, 0x0, [], 0, 0⟩
/-- spec/16_host_port_and_pages.md R527: EVENT_CNT. -/
def Reg.MB.EVENT_CNT : RegSpec := ⟨0x12c, 0x808, 8, 1, true, .ro, 0, 0x0, [], 0, 0⟩
/-- spec/16_host_port_and_pages.md R527: SMB_PKT_CNT. -/
def Reg.SMB.SMB_PKT_CNT : RegSpec := ⟨0x12d, 0x800, 8, 1, true, .ro, 0, 0x0, [], 0, 0⟩
/-- spec/16_host_port_and_pages.md R527: SMB_PEC_ERR_CNT. -/
def Reg.SMB.SMB_PEC_ERR_CNT : RegSpec := ⟨0x12d, 0x808, 8, 1, true, .ro, 0, 0x0, [], 0, 0⟩
/-- spec/16_host_port_and_pages.md R527: SMB_STATUS_RD_CNT. -/
def Reg.SMB.SMB_STATUS_RD_CNT : RegSpec := ⟨0x12d, 0x810, 8, 1, true, .ro, 0, 0x0, [], 0, 0⟩
/-- spec/17_package_and_pins.md R543: GPIO_CTRL. -/
def Reg.Diag.GPIO_CTRL : RegSpec := ⟨0x107, 0x60, 4, 1, false, .rw, 0xff0000, 0xffffff, [], 0, 0⟩
/-- spec/17_package_and_pins.md R543: GPIO_IN. -/
def Reg.Diag.GPIO_IN : RegSpec := ⟨0x107, 0x64, 4, 1, false, .ro, 0x0, 0x0, [], 0, 0⟩
/-- spec/17_package_and_pins.md R543: PPS_CFG. -/
def Reg.Diag.PPS_CFG : RegSpec := ⟨0x107, 0x68, 4, 1, false, .rw, 0x40000064, 0xc000ffff, [⟨15, 0, 1, 65535⟩], 0, 0⟩
/-- spec/03_bays_and_tiers.md R110, R115: TRAY_CFG. -/
def Reg.TMap.TRAY_CFG : RegSpec := ⟨0x113, 0x40, 4, 1, false, .rw, 0, 0x3f, [⟨5, 0, 0, 48⟩], 0, 0⟩
/-- spec/03_bays_and_tiers.md R110, R115: TRAY_SLOT. -/
def Reg.TMap.TRAY_SLOT : RegSpec := ⟨0x113, 0x100, 4, 48, false, .rw, 0, 0x1f01ff, [⟨8, 0, 0, 287⟩, ⟨20, 16, 0, 23⟩], 0, 0⟩

/-- The register tables, part 0. -/
def regTable0 : List RegSpec := [Reg.RT.RT_CMD, Reg.RT.RT_STAT, Reg.RT.HASH_CFG, Reg.RT.DEAD_SOURCE, Reg.RT.HANDOFF_TIMEOUT, Reg.RT.RT_DATA, Reg.RT.RT_UPDATE_CNT, Reg.RT.RT_REJECT_CNT, Reg.RT.HANDOFF_CNT, Reg.RT.HANDOFF_CANCEL_CNT, Reg.Home.RECALL_TIMEOUT, Reg.Home.SWEEP_STAT, Reg.Home.SWEEP_SET, Reg.Home.FAULT_ADDR, Reg.Home.FAULT_INFO, Reg.Home.STATUS_CNT, Reg.Home.DIRC_HIT_CNT, Reg.Home.DIRC_MISS_CNT, Reg.Home.RECALL_CNT, Reg.Home.RECALL_TIMEOUT_CNT, Reg.Home.STALE_WB_CNT, Reg.Home.POISON_MARK_CNT, Reg.Home.SWEEP_CNT, Reg.Home.SAME_CYCLE_CNT, Reg.Home.DIR_LOSS_CNT, Reg.Home.UNDECL_RS_CNT, Reg.MC.PHY_SHELL_STAT, Reg.MC.MC_CTRL, Reg.MC.STACK_TEMP, Reg.MC.REFRESH_STAT, Reg.MC.SCRUB_POS, Reg.MC.REPAIR_STAT, Reg.MC.REPAIR_CMD, Reg.MC.REPAIR_ADDR, Reg.MC.MARGIN_CMD, Reg.MC.MARGIN_RES, Reg.MC.FILL_BASE, Reg.MC.FILL_LIMIT, Reg.MC.FILL_PATTERN, Reg.MC.FILL_CMD]

/-- The register tables, part 1. -/
def regTable1 : List RegSpec := [Reg.MC.FILL_STAT, Reg.MC.UE_ADDR, Reg.MC.UE_INFO, Reg.MC.CE_CNT, Reg.MC.UE_CNT, Reg.MC.SCRUB_CE_CNT, Reg.MC.SCRUB_UE_CNT, Reg.MC.SCRUB_PASS_CNT, Reg.MC.REFRESH_CNT, Reg.MC.CATCHUP_CNT, Reg.MC.REPAIR_CNT, Reg.MC.LANE_MARK_CNT, Reg.MC.FILL_LINE_CNT, Reg.MC.CE_TBIN, Reg.MC.UE_TBIN, Reg.OB.OB_CFG, Reg.OB.OB_STAT, Reg.OB.OB_HWM, Reg.OB.OB_ALLOC_CNT, Reg.OB.OB_WAIT_CNT, Reg.OB.OB_TIMEOUT_CNT, Reg.Tray.TRAY_RD_CNT, Reg.Tray.TRAY_WR_CNT, Reg.Tray.TRAY_RMW_CNT, Reg.Tray.TRAY_ERR_CNT, Reg.Tray.LATE_RSP_CNT, Reg.Stream.STREAM_SEL, Reg.Stream.WIN_BASE, Reg.Stream.WIN_CFG, Reg.Stream.WIN_SLOT_SIZE, Reg.Stream.STREAM_BUDGET, Reg.Stream.WIN_STAT, Reg.Stream.SLOT_STAT, Reg.Stream.STALL_CNT, Reg.Stream.STALL_US, Reg.Port.PORT_STAT, Reg.Port.PORT_CTRL, Reg.Port.LIM_RSV, Reg.Port.LIM_SUM, Reg.Port.CLASS_LIM]

/-- The register tables, part 2. -/
def regTable2 : List RegSpec := [Reg.Port.VOQ_CAP, Reg.Port.SAMPLE_CFG, Reg.Port.SHAPER, Reg.Port.POL_CMD, Reg.Port.POL_STAT, Reg.Port.POL_DATA, Reg.Port.POL_CNT, Reg.Port.RX_MSG_CNT, Reg.Port.RX_BYTE_CNT, Reg.Port.YELLOW_CNT, Reg.Port.RED_CNT, Reg.Port.LAND_WAIT_CNT, Reg.Port.FLUSH_CNT, Reg.Port.FLUSH_REQ_CNT, Reg.Port.FLUSH_DISCARD_CNT, Reg.Port.RETURN_CMP_CNT, Reg.Port.DP_ERR_CNT, Reg.Port.SAMPLE_TAKEN_CNT, Reg.Port.ZERO_CLASS_CNT, Reg.Port.DEMOTE_CNT, Reg.Port.HOLD_CYC_CNT, Reg.Port.WAKE_TIMEOUT_CNT, Reg.Slice.SLICE_STAT, Reg.Slice.STUCK_TIME, Reg.Slice.TC_MODE, Reg.Slice.BE_QUANTUM, Reg.Slice.ARB_CTRL, Reg.Slice.STUCK_INFO, Reg.Slice.CELL_CNT, Reg.Slice.ARB_MISMATCH_CNT, Reg.Slice.STUCK_CNT, Reg.Slice.DETOUR_CELL_CNT, Reg.Slice.TAG_ERR_CNT, Reg.Hist.HIST_CTRL, Reg.Hist.HIST_LAST, Reg.Hist.HIST_CLR, Reg.Hist.DEPTH, Reg.Hist.DELAY, Reg.Smp.SMP_CTRL, Reg.Smp.RING_BASE]

/-- The register tables, part 3. -/
def regTable3 : List RegSpec := [Reg.Smp.RING_ENTRIES, Reg.Smp.WR_IDX, Reg.Smp.RD_IDX, Reg.Smp.SAMPLE_REC_CNT, Reg.Smp.SAMPLE_LOST_CNT, Reg.Pier.PIER_CFG, Reg.Pier.LANE_CFG, Reg.Pier.REPLAY_CFG, Reg.Pier.RETRAIN_CFG, Reg.Pier.LINK_CTRL, Reg.Pier.LINK_STAT, Reg.Pier.SPARE_STAT, Reg.Pier.MARGIN_CMD, Reg.Pier.LANE_SHELL, Reg.Pier.LANE_MARGIN, Reg.Pier.TX_FLIT_CNT, Reg.Pier.RX_FLIT_CNT, Reg.Pier.CRC_ERR_CNT, Reg.Pier.REPLAY_CNT, Reg.Pier.RETRAIN_CNT, Reg.Pier.PROTO_ERR_CNT, Reg.Pier.PARKED_DROP_CNT, Reg.Pier.TAG_FAIL_CNT, Reg.Pier.FEC_SYM_CNT, Reg.Pier.FEC_UNCORR_CNT, Reg.Pier.SPARE_CNT, Reg.PG.FAULT_ADDR, Reg.PG.FAULT_INFO, Reg.PG.CAP_HOLD_CNT, Reg.PG.CAP_HOLD_CYC_CNT, Reg.PG.CAP_FAIL_CNT, Reg.PG.LINE_WAIT_CNT, Reg.PG.LINE_FULL_CYC_CNT, Reg.PG.INGRESS_REFUSE_CNT, Reg.Admit.ADMIT_CTRL, Reg.Admit.ADMIT, Reg.Tr.TR_CFG, Reg.Tr.TR_STAT, Reg.Tr.BULK_TX_CNT, Reg.Tr.BULK_RX_CNT]

/-- The register tables, part 4. -/
def regTable4 : List RegSpec := [Reg.Tr.REC_TX_CNT, Reg.Tr.REC_RX_CNT, Reg.Tr.MERGE_CNT, Reg.Tr.CAP_HOLD_CNT, Reg.Tr.CAP_FAIL_CNT, Reg.Tr.TIMEOUT_CNT, Reg.Tr.LATE_RSP_CNT, Reg.Tr.REMAP_CNT, Reg.Tr.TRUNK_DOWN_REQ_CNT, Reg.Route.ROUTE_CMD, Reg.Route.ROUTE_STAT, Reg.Route.ROUTE_DATA, Reg.Route.TG_DATA0, Reg.Route.TG_DATA, Reg.Mcast.MC_CMD, Reg.Mcast.MC_STAT, Reg.Mcast.MC_DATA, Reg.Mcast.MC_RX_CNT, Reg.Mcast.MC_COPY_CNT, Reg.Mcast.MC_REMOTE_CNT, Reg.Mcast.MC_DOWN_CNT, Reg.Mcast.MC_KEY_FAULT_CNT, Reg.Tray.TRAY_SCRUB, Reg.Tray.TSCRUB_CORR_CNT, Reg.Tray.TSCRUB_UNC_CNT, Reg.Tray.TRAY_POISON_WR_CNT, Reg.PG.LCHK_ERR_CNT, Reg.PG.TIMEOUT_SCAN_CNT, Reg.Loom.LOOM_CTRL, Reg.Loom.LOOM_STAT, Reg.Loom.LOOM_FAULT_INFO, Reg.Loom.LOOM_FAULT_ID, Reg.Loom.RSD_ADD_CNT, Reg.Loom.RSD_DUP_CNT, Reg.Loom.RID_MISS_CNT, Reg.Loom.LINE_DONE_CNT, Reg.Loom.RED_DONE_CNT, Reg.Loom.RED_FAIL_CNT, Reg.Loom.FOLD_CNT, Reg.Loom.FOLD_REJECT_CNT]

/-- The register tables, part 5. -/
def regTable5 : List RegSpec := [Reg.Loom.PUSH_CNT, Reg.Loom.ATOM_CNT, Reg.Loom.XADD_CNT, Reg.Loom.SAT_CNT, Reg.Loom.OVF_CNT, Reg.Loom.RES_ERR_CNT, Reg.Loom.LOOM_STALL_CYC_CNT, Reg.Decl.DECL_CMD, Reg.Decl.DECL_STAT, Reg.Decl.DECL_ADDR, Reg.Decl.LOOM_GCFG, Reg.Decl.QUOTA_SEL, Reg.Decl.COLL_LO, Reg.Decl.COLL_HI, Reg.Decl.POOL_LO, Reg.Decl.POOL_HI, Reg.Decl.QUOTA_CMD, Reg.Decl.QUOTA_STAT, Reg.Decl.DECL_CNT, Reg.Decl.DECL_REJECT_CNT, Reg.Decl.CANCEL_CNT, Reg.Hed.HED_CFG, Reg.Hed.HED_STAT, Reg.Hed.HED_FAULT_INFO, Reg.Hed.HED_FAULT_ADDR, Reg.Hed.GATHER_CNT, Reg.Hed.UPDATE_CNT, Reg.Hed.FILTER_CNT, Reg.Hed.IDX_CNT, Reg.Hed.SORT_CYC_CNT, Reg.Hed.FETCH_CNT, Reg.Hed.FETCH_RETRY_CNT, Reg.Hed.FETCH_FAIL_CNT, Reg.Hed.ROW_UPD_CNT, Reg.Hed.ROW_UPD_FAIL_CNT, Reg.Hed.POOL_WAIT_CYC_CNT, Reg.Hed.SCAN_BYTE_CNT, Reg.Hed.EMIT_CNT, Reg.Hed.MIG_OUT_CNT, Reg.Hed.MIG_IN_CNT]

/-- The register tables, part 6. -/
def regTable6 : List RegSpec := [Reg.Hed.MIG_ABORT_CNT, Reg.Hed.HOLD_CNT, Reg.Hed.FWD_UPD_CNT, Reg.HReg.TBL_CMD, Reg.HReg.TBL_STAT, Reg.HReg.TBL_ADDR, Reg.HReg.RET_POP, Reg.HReg.REG_STAT, Reg.HReg.MIG_SEL, Reg.HReg.MIG_BASE, Reg.HReg.MIG_SIZE, Reg.HReg.MIG_POLICY, Reg.HReg.SKEW_WINDOW, Reg.HReg.MIG_STAT, Reg.HReg.SKEW_FETCH, Reg.HReg.SKEW_UPD, Reg.HReg.MIG_CNT, Reg.HReg.MIG_BACK_CNT, Reg.HReg.MIG_SKIP_CNT, Reg.HReg.INSTALL_CNT, Reg.HReg.RETIRE_CNT, Reg.HReg.BIND_CNT, Reg.Sp.SP_SEL, Reg.Sp.SP_STAT, Reg.Sp.SP_FAULT_INFO, Reg.Sp.SP_FAULT_PC, Reg.Sp.SP_FAULT_ADDR, Reg.Sp.SP_OWNER, Reg.Sp.SP_FENCE, Reg.Sp.SP_RESIDENT, Reg.Sp.RUN_CYC_CNT, Reg.Sp.DOT_CYC_CNT, Reg.Sp.BANK_BYTE_CNT, Reg.Sp.BANK_WAIT_CYC_CNT, Reg.Sp.REFRESH_STALL_CYC_CNT, Reg.Sp.EXP_STALL_CYC_CNT, Reg.Sp.STREAM_CNT, Reg.Sp.LAUNCH_CNT, Reg.Sp.LOAD_CNT, Reg.Sp.FAULT_CNT]

/-- The register tables, part 7. -/
def regTable7 : List RegSpec := [Reg.Sp.REEXEC_CNT, Reg.Sp.SRAM_CE_CNT, Reg.Sp.COMB_OPEN_CNT, Reg.Sp.COMB_DONE_CNT, Reg.Sp.COMB_FAIL_CNT, Reg.Sp.PART_CNT, Reg.Sp.PART_DUP_CNT, Reg.Sp.COMB_WAIT_CYC_CNT, Reg.Sp.FENCE_RECALL_CNT, Reg.SpCtl.COH_SEL, Reg.SpCtl.COH_MODE, Reg.SpCtl.COMB_CMD, Reg.SpCtl.COMB_STAT, Reg.SpCtl.LAUNCH_DEV_CNT, Reg.SpCtl.LAUNCH_REJECT_CNT, Reg.SpCtl.COMB_CANCEL_CNT, Reg.Codec.CODEC_STAT, Reg.Codec.CODEC_FAULT_INFO, Reg.Codec.CODEC_FAULT_ADDR, Reg.Codec.BLK_CODED_CNT, Reg.Codec.BLK_RAW_CNT, Reg.Codec.IN_BYTE_CNT, Reg.Codec.OUT_BYTE_CNT, Reg.Codec.HDR_ERR_CNT, Reg.Codec.TBL_ERR_CNT, Reg.Codec.CODE_ERR_CNT, Reg.Codec.LEN_ERR_CNT, Reg.Codec.POISON_BLK_CNT, Reg.Codec.UE_BLK_CNT, Reg.Codec.TBL_MISS_CNT, Reg.Codec.DEC_STALL_CYC_CNT, Reg.CTab.CT_CMD, Reg.CTab.CT_STAT, Reg.CTab.CT_ADDR, Reg.CTab.CT_USED, Reg.CTab.CT_INSTALL_CNT, Reg.CTab.CT_REJECT_CNT, Reg.CTab.CT_REMOVE_CNT, Reg.Trd.NEXT_ADDR, Reg.Trd.NEXT_TIME]

/-- The register tables, part 8. -/
def regTable8 : List RegSpec := [Reg.Trd.NEXT_STAT, Reg.Trd.TRD_CMD, Reg.Trd.TRD_STAT, Reg.Trd.ACT_ID, Reg.Trd.ACT_TIME, Reg.Trd.TAKEOVER_CNT, Reg.Trd.DRAFT_REJECT_CNT, Reg.Trd.DISPATCH_CNT, Reg.Trd.TASK_FAIL_CNT, Reg.Trd.TASK_SKIP_CNT, Reg.Trd.TASK_ABANDON_CNT, Reg.Trd.SLOT_MISS_CNT, Reg.Trd.WATCH_FULL_CNT, Reg.Trd.STATUS_WR_FAIL_CNT, Reg.Trd.SCHED_REROUTE_CNT, Reg.FT.FT_NS, Reg.FT.FT_FRAC, Reg.FT.TIME_CFG, Reg.FT.TIME_INTERVAL, Reg.FT.TIME_STAT, Reg.FT.OFFSET_LAST, Reg.FT.DELAY_LAST, Reg.FT.SET_NS, Reg.FT.SET_FRAC, Reg.FT.ASYM, Reg.FT.ADJ, Reg.FT.TIME_CMD, Reg.FT.EXCH_CNT, Reg.FT.EXCH_FAIL_CNT, Reg.FT.STEP_CNT, Reg.FT.SYNC_LOSS_CNT, Reg.Pier.STAMP_NS, Reg.Pier.STAMP_SEQ, Reg.Pier.STAMP_INFO, Reg.Pier.GATE_STAT, Reg.Pier.GATE_LOAD_CNT, Reg.Pier.GUARD_CYC_CNT, Reg.Pier.STAMP_LOST_CNT, Reg.Comp.COMP_SEL, Reg.Comp.COMP_CMD]

/-- The register tables, part 9. -/
def regTable9 : List RegSpec := [Reg.Comp.COMP_STAT, Reg.Comp.COMP_CFG, Reg.Comp.SNAP_ADDR, Reg.Comp.SNAP_CFG, Reg.Comp.MAP_CTRL, Reg.Comp.MAP_CMD, Reg.Comp.MAP_STAT, Reg.Comp.MEMB_CMD, Reg.Comp.MEMB_DATA, Reg.Comp.RCT_CMD, Reg.Comp.RCT_STAT, Reg.Comp.RCT_DATA, Reg.Comp.REV_CMD, Reg.Comp.REV_STAT, Reg.Comp.REV_DATA0, Reg.Comp.REV_DATA1, Reg.Comp.REV_PEND, Reg.Comp.SP_GRANT, Reg.Comp.PORT_GRANT, Reg.Comp.BAY_SHARE, Reg.Comp.PIER_SHARE, Reg.Comp.BAY_SHARE_US, Reg.Comp.SPINDLE_US, Reg.Comp.PIER_US, Reg.Comp.STACK_GIB_US, Reg.Comp.TRAY_GIB_US, Reg.Comp.DEV_EVENT_MS, Reg.Comp.SNAP_CNT, Reg.Comp.SNAP_FAIL_CNT, Reg.Comp.MAP_SWITCH_CNT, Reg.Comp.REVOKE_CNT, Reg.Comp.DEV_EVENT_CNT, Reg.Recov.RECOV_STAT, Reg.Recov.RECOV_CHUNK, Reg.Recov.RECOV_CMD, Reg.KS.KS_STAT, Reg.KS.KS_CMD, Reg.KS.KS_CMD_STAT, Reg.KS.KS_ADDR, Reg.KS.KS_SEL]

/-- The register tables, part 10. -/
def regTable10 : List RegSpec := [Reg.KS.CONSENT_STAT, Reg.KS.COMP_NONCE, Reg.KS.SERIAL, Reg.KS.FW_VERSION, Reg.KS.TIME_FLOOR, Reg.KS.TOKEN_END, Reg.KS.TOKEN_INSTALL_CNT, Reg.KS.TOKEN_REJECT_CNT, Reg.KS.TOKEN_LAPSE_CNT, Reg.KS.SAMPLE_DENY_CNT, Reg.KS.DEBUG_DENY_CNT, Reg.KS.SPDM_MSG_CNT, Reg.KS.SPDM_ERR_CNT, Reg.KS.KEYGEN_CNT, Reg.KS.KEYGEN_FAIL_CNT, Reg.KS.ENT_FAIL_CNT, Reg.Clk.CLK_CFG, Reg.Clk.CLK_STAT, Reg.Clk.CLK_MON_CFG, Reg.Clk.CLK_EVENT, Reg.Clk.CLK_FAIL_CNT, Reg.Clk.CLK_SWITCH_CNT, Reg.Clk.SAFE_US_CNT, Reg.Clk.HOLDOVER_US_CNT, Reg.Rst.RST_CMD, Reg.Rst.RST_STAT, Reg.Rst.RST_MAP_LO, Reg.Rst.RST_MAP_HI, Reg.Rst.STRAP_STAT, Reg.Rst.WDT_CFG, Reg.Rst.WDT_KICK, Reg.Rst.WDT_STAT, Reg.Rst.RST_LOG_IDX, Reg.Rst.RST_LOG, Reg.Rst.RST_CNT, Reg.Rst.ESCALATE_CNT, Reg.Pwr.CURR_SLEW, Reg.Pwr.CURR_BURST, Reg.Pwr.WAKE_CHARGE, Reg.Pwr.WAKE_CHARGE2]

/-- The register tables, part 11. -/
def regTable11 : List RegSpec := [Reg.Pwr.GOV_STAT, Reg.Pwr.PWR_CAP, Reg.Pwr.THR_CFG, Reg.Pwr.THR_STAT, Reg.Pwr.VIN_STAT, Reg.Pwr.PIN_STAT, Reg.Pwr.PSTAGE_SEL, Reg.Pwr.PSTAGE_SHELL, Reg.Pwr.PSTAGE_MARGIN, Reg.Pwr.PSTAGE_CMD, Reg.Pwr.WAKE_GRANT_CNT, Reg.Pwr.WAKE_WAIT_US_CNT, Reg.Pwr.THR_CHANGE_CNT, Reg.Pwr.THR_MS, Reg.Pwr.PSU_WARN_CNT, Reg.Pwr.VIN_LOW_CNT, Reg.Flt.FAULT_CFG, Reg.Flt.BAY_RETIRED, Reg.Flt.BAY_EXCLUDE, Reg.Flt.PERM_PEND, Reg.Flt.BAY_RETIRE_CMD, Reg.Flt.BRIDGE_STAT, Reg.Flt.SPAN_FENCED, Reg.Flt.WEFT_FENCE, Reg.Flt.EPART_MAP, Reg.Flt.EPART_CMD, Reg.Flt.LPART_MAP, Reg.Flt.LPART_CMD, Reg.Flt.LPART_FENCED, Reg.Flt.FOOT_CMD, Reg.Flt.FOOT_STAT, Reg.Flt.BTEST_CMD, Reg.Flt.BTEST_STAT, Reg.Flt.KAT_CFG, Reg.Flt.FAULT_LOG_IDX, Reg.Flt.FAULT_LOG, Reg.Flt.BAY_RETIRE_CNT, Reg.Flt.SPINDLE_FENCE_CNT, Reg.Flt.WEFT_FENCE_CNT, Reg.Flt.BRIDGE_FENCE_CNT]

/-- The register tables, part 12. -/
def regTable12 : List RegSpec := [Reg.Flt.SPAN_FAULT_CNT, Reg.Flt.BRIDGE_REPLAY_CNT, Reg.Flt.KAT_CNT, Reg.Flt.KAT_FAIL_CNT, Reg.Flt.KAT_LATE_CNT, Reg.Flt.RES_TBIN, Reg.Flt.FOOT_ENTRY_CNT, Reg.Flt.FOOT_US_CNT, Reg.Flt.FOOT_REFUSE_CNT, Reg.Diag.TRACE_SPLIT, Reg.Diag.TRACE_CTRL, Reg.Diag.TRACE_ENTRIES, Reg.Diag.TRACE_WR, Reg.Diag.TRACE_RD, Reg.Diag.GPIO_MUX, Reg.Diag.DPATH_CMD, Reg.Diag.DPATH_STAT, Reg.Diag.TRACE_REC_CNT, Reg.Diag.TRACE_LOST_CNT, Reg.Diag.TIMER_DEFER_CNT, Reg.Diag.DPATH_ERR_CNT, Reg.Pier.LOOP_CMD, Reg.Pier.LOOP_STAT, Reg.Pier.LOOP_ERR_CNT, Reg.Pier.SPARE_PRBS_ERR_CNT, Reg.PG.CRC_TBIN, Reg.Hdr.BLK_ID, Reg.Hdr.BLK_VER, Reg.Hdr.BLK_CTRL, Reg.Hdr.BLK_STAT, Reg.Hdr.ERR_STAT, Reg.Hdr.ERR_MASK, Reg.Hdr.ERR_INJ, Reg.Hdr.ERR_FIRST, Reg.Hdr.ERR_TIME, Reg.Hdr.PWR_STATE, Reg.Hdr.RST_CTRL, Reg.HP.HP_STAT, Reg.HP.HP_CFG, Reg.HP.HP_RETRY]

/-- The register tables, part 13. -/
def regTable13 : List RegSpec := [Reg.HP.MEM_RD_CNT, Reg.HP.MEM_WR_CNT, Reg.HP.BISNP_CNT, Reg.HP.HOST_POISON_CNT, Reg.HP.HOST_WR_FAIL_CNT, Reg.HP.HOST_RETRY_CNT, Reg.HP.LINK_DOWN_CNT, Reg.HDM.HDM_KEY, Reg.HDM.FAULT_ADDR, Reg.HDM.FAULT_INFO, Reg.IDE.IDE_STAT, Reg.IDE.IDE_FAIL_CNT, Reg.DOE.DOE_OBJ_CNT, Reg.DOE.DOE_ABORT_CNT, Reg.MB.MB_STAT, Reg.MB.MB_CMD_CNT, Reg.MB.EVENT_CNT, Reg.SMB.SMB_PKT_CNT, Reg.SMB.SMB_PEC_ERR_CNT, Reg.SMB.SMB_STATUS_RD_CNT, Reg.Diag.GPIO_CTRL, Reg.Diag.GPIO_IN, Reg.Diag.PPS_CFG, Reg.TMap.TRAY_CFG, Reg.TMap.TRAY_SLOT]

/-- Every register of the manual. -/
def regTable : List RegSpec :=
  regTable0 ++ regTable1 ++ regTable2 ++ regTable3 ++ regTable4 ++ regTable5 ++ regTable6 ++ regTable7 ++ regTable8 ++ regTable9 ++ regTable10 ++ regTable11 ++ regTable12 ++ regTable13

end Sys2Proof.Machine
end

