-- ==== Sys2Proof/Config.lean ====
section
/-!
DEFINITION. Config.lean: what one part fixes and the manual does not state (fuses, straps, its Node ID, its keys) and the
free values. Each is an opaque constant, so no statement can rest on one value of it.
-/
namespace Sys2Proof

/-- The n-th free value: a value the manual leaves open at some step. (DESIGN CHOICE: log entry 3.) -/
opaque Config.freeValue : Nat → BitVec 64

/-- A free line of data: what a read leaves open. -/
opaque Config.freeLine : Nat → BitVec 512

/-- The device's own Node ID (R49). The manual gives no register that holds it. -/
opaque Config.nodeId : BitVec 12

/-- The HASH_SEL fuse (R402). -/
opaque Config.hashSel : BitVec 2

/-- The SERIAL fuse (R402). -/
opaque Config.serial : BitVec 64

/-- The RESET_MAP fuse (R402, R449). -/
opaque Config.resetMap : BitVec 48

/-- The STACK_CFG fuse (R402). -/
opaque Config.stackCfg : BitVec 32

/-- The DEBUG_DISABLE fuse (R402). -/
opaque Config.debugDisable : Bool

/-- The ROOT_REVOKE fuse (R402). -/
opaque Config.rootRevoke : BitVec 4

/-- The number of SVN fuses blown (R402). -/
opaque Config.fusedSvn : Nat

/-- The straps as sampled at power-on (R456): BOOT_SRC, CLK_MODE, SMB_ADDR. -/
opaque Config.straps : BitVec 6

/-- The DRAM die that holds a Bay-local line (R88; the manual gives no mapping). -/
opaque Config.lineDie : Nat → Fin 16

/-- AES-256-XTS of a line under key number `key` and tweak `t` (R113): encryption, whose inverse is decryption. -/
opaque Config.xts (key t : Nat) : Equiv.Perm (BitVec 512)

/-- How many items a crossing holds before it is full (R42; the manual gives no figure: log entry 53). -/
opaque Config.crossingDepth : Nat

/-- Block i of the AES-256 counter stream of a key and IV (R175). -/
opaque Config.gcmStream (key iv : List (BitVec 8)) (i : Nat) : BitVec 128

/-- The GCM tag of a ciphertext under a key, IV and additional data (R175). -/
opaque Config.gcmTag (key iv : List (BitVec 8)) (aad : Nat) (ct : List (BitVec 128)) : BitVec 128

/-- HKDF-SHA-384 of a secret and a salt with the info "JARGAR LINK v1": 72 bytes (R174). -/
opaque Config.hkdf (secret salt : List (BitVec 8)) : List (BitVec 8)

/-- The n-th ephemeral P-384 key pair's public key, as 96 bytes (R174). -/
opaque Config.ephPublic : Nat → List (BitVec 8)

/-- The x-coordinate of the ECDH shared secret of the n-th ephemeral key pair and a peer's public key (R174). -/
opaque Config.ecdh : Nat → List (BitVec 8) → List (BitVec 8)

/-- The n-th nonce of 32 bytes from the entropy source (R174). -/
opaque Config.nonce : Nat → List (BitVec 8)

/-- The identity key of a link peer whose answer to CHALLENGE, the n-th free value, verifies under a chain that ends at a root in firmware's
trust-anchor list (R419): the list, and the answer. -/
opaque Config.spdmPeer : Nat → List (List (BitVec 8)) → List (BitVec 8) → Option (List (BitVec 8))

/-- What the LFSR of a Deck port's sampling holds at reset, and what follows a value of it (R143; the manual gives neither). -/
opaque Config.lfsrSeed : Nat → BitVec 32
/-- The next value of a sampling LFSR. -/
opaque Config.lfsrNext : BitVec 32 → BitVec 32

/-- How many copies a slice's sample lane takes in one ns (R143; the manual gives no figure). -/
opaque Config.laneDepth : Nat

/-- SHA-384 of some bytes (R402, R407, R420). -/
opaque Config.sha384 : List (BitVec 8) → BitVec 384

/-- What the boot flash holds when the part is delivered (R404). -/
opaque Config.flashByte : Nat → BitVec 8

/-- SHA-384 of each firmware signing key (R402). -/
opaque Config.rootHash : Fin 4 → BitVec 384

/-- Does an ECDSA P-384 signature verify: public key, message, signature (R405, R424)? -/
opaque Config.ecdsaVerify : List (BitVec 8) → List (BitVec 8) → List (BitVec 8) → Bool

/-- A signature by the identity key (R413, R419). -/
opaque Config.idSign : List (BitVec 8) → List (BitVec 8)

/-- The identity public key (R414). -/
opaque Config.idPublic : List (BitVec 8)

/-- Is a point on P-384 (R423)? -/
opaque Config.onCurve : List (BitVec 8) → Bool

/-- The public key of the leaf of a certificate chain (R407, R416). -/
opaque Config.leafKey : List (BitVec 8) → List (BitVec 8)

/-- SHA-384 of the boot ROM (R420). -/
opaque Config.romDigest : BitVec 384

/-- SHA-384 over every fuse field but ID_SEED, by the fused SVN (R420). -/
opaque Config.fuseDigest : Nat → BitVec 384

end Sys2Proof
end

