-- ==== Sys2Proof/Machine/State.lean ====
section
/-!
DEFINITION. Machine/State.lean: everything the manual gives the block, as plain data. What a register shows is held in the
register store `regs` under the register's own page and offset (Machine/Regs.lean); the structures below hold what no
register shows whole. INVENTORY.md lists every piece with its rule and its reset value.
-/
namespace Sys2Proof.Machine

open Sys2Proof

/-- Why the block stops. -/
inductive Fault where
  /-- Raised by no command: the block goes on whatever arrives. Safe. -/
  | never
deriving DecidableEq, Repr

/-- Why a command has no meaning here. -/
inductive Refusal where
  /-- Raised by Machine/Dispatch.lean for a command that is not modelled yet. Safe. -/
  | notModelled (mnemonic : String)
deriving DecidableEq, Repr

/-! ### The Weft -/

/-- R18: the upper word latched for one master and page. -/
structure Latch where
  master : Master
  page : Nat
  off : Nat
  upper : Word
deriving DecidableEq, Repr

/-- R18: the lower word staged for one master and page. -/
structure Staged where
  master : Master
  page : Nat
  off : Nat
  lower : Word
deriving DecidableEq, Repr

/-! ### Links (R158-R177) -/

/-- A link message waiting in an egress queue (R123): its traffic class and message class, the cells of the queue it takes, the
message, and the multicast store it is a copy of (R202). -/
structure Egress where
  tc : Nat
  cls : Nat
  cells : Nat
  msg : Msg
  mc : Option Nat
deriving DecidableEq, Repr

/-- A sequenced flit held in the replay buffer (R167): its SEQ, how often a replay began at it, when it was sent, the multicast
stores whose copies end in it, whether it is SECURED, and its slots as they go on the wire. -/
structure TxFlit where
  seq : Nat
  starts : Nat
  time : Nat
  mc : List Nat
  secured : Bool
  slots : List Slot
deriving DecidableEq, Repr

/-- A session's keys and salts, in the link key engine (R174). -/
structure SessKeys where
  txKey : List Byte
  rxKey : List Byte
  txSalt : List Byte
  rxSalt : List Byte
deriving DecidableEq, Repr

/-- One logical port's link (R166-R175). chain: the opcode, traffic class and TXID of a bulk body being received, and its
slots so far; txChain: the opcode, Trestle and TXID of the bodies whose last message is still to leave (R210). nak: the next flit sets NAK; crTurn: the virtual channel that the next flit reports first; owed: the flits still
to send so that the peer has the present ACK and every present credit report (R165, R166). eph: the ephemeral key pair of a SECURING;
auth: how far firmware has authenticated the peer (0 digests asked for, 1 certificate, 2 challenge sent, 3 authenticated), whose identity key is
peerKey; keys: the session's (R174). rxPos and cwBad: the place of
the next flit in 512 codewords, and whether the codeword that it begins in cannot be corrected (R155, R157); txBits and txLen: the
payload bits sent and not yet in a codeword; lockAt: when LOCK began (R156). rxStamp: when the header of the message in progress
arrived (R179, R198), in Fabric Time. nakTime: when NAK was last set; ackTime: since when ACK has not advanced over a held flit (R168). -/
structure Link where
  state : LinkState
  fault : Nat
  tries : List Nat
  signal : Bool
  rxNext : Nat
  awaiting : Bool
  rxPart : List Slot
  txNext : Nat
  ackNext : Nat
  replay : List TxFlit
  nakAt : Option (Nat × Nat)
  sent : SMap Nat
  ret : SMap Nat
  freed : SMap Nat
  got : SMap Nat
  egress : List Egress
  peer : Option Identify
  own : Option Nat
  theirs : Option Nat
  rxCount : Nat
  txCount : Nat
  shared : Bool
  peerZero : Bool
  ownZero : Bool
  tagFails : List Nat
  laneBad : Bool
  chain : List (Nat × Nat × Nat × List Slot)
  txChain : List (Nat × Nat × Nat)
  nak : Bool
  crTurn : Nat
  owed : Nat
  eph : Option Nat
  auth : Nat
  peerKey : List Byte
  keys : Option SessKeys
  rxPos : Nat
  cwBad : Bool
  txBits : Nat
  txLen : Nat
  lockAt : Nat
  rxStamp : Nat
  nakTime : Nat
  ackTime : Nat
deriving DecidableEq, Repr

/-- A link after reset: DISABLED, every count zero (R169). -/
def Link.init : Link :=
  { state := .disabled, fault := 0, tries := [], signal := false, rxNext := 0, awaiting := false, rxPart := [],
    txNext := 0, ackNext := 0, replay := [], nakAt := none, sent := [], ret := [], freed := [], got := [], egress := [], peer := none, own := none, theirs := none,
    rxCount := 0, txCount := 0, shared := false, peerZero := false, ownZero := false, tagFails := [],
    laneBad := false, chain := [], txChain := [], nak := false, crTurn := 0, owed := 0, eph := none, auth := 0, peerKey := [], keys := none,
    rxPos := 0, cwBad := false, txBits := 0, txLen := 0, lockAt := 0, rxStamp := 0, nakTime := 0, ackTime := 0 }

/-- One Pier's spare lane pair and loopback (R176, R488). -/
structure PierSt where
  spareRx : Option Nat
  spareTx : Option Nat
  sparing : Option (Nat × Nat)
  switched : Bool
  spareBad : Bool
  loop : Option (Nat × Nat)
  -- R176: corrected symbols of each lane in the last ms, with their times
  symHits : SMap (List (Nat × Nat))
deriving DecidableEq, Repr

/-- A Pier after reset: no lane replaced. -/
def PierSt.init : PierSt :=
  { spareRx := none, spareTx := none, sparing := none, switched := false, spareBad := false, loop := none, symHits := [] }

/-! ### The Deck (R121-R150) -/

/-- A message in a virtual output queue or in staging (R124): input and output Deck port, class, arrival and destination
logical port (0x1FF none), and whether it has been reported stuck (R137). size: its slots as they arrived (0: as its message has them); late: it waits in its unit for staging (R123); joins: it lies
in the cell of the item before it; shut: its last cell is closed (R122); sent: its cells that have crossed; waited: the ns it has
waited as a head (R137); path: the error its beats or its tag meet on the way (R142); mc: the multicast store it is a copy of. -/
structure VoqItem where
  inp : Nat
  out : Nat
  tc : Nat
  cls : Nat
  arr : Nat
  dst : Nat
  time : Nat
  stuck : Bool
  msg : Msg
  size : Nat := 0
  late : Bool := false
  joins : Bool := false
  shut : Bool := false
  sent : Nat := 0
  waited : Nat := 0
  path : Option PathErr := none
  mc : Option Nat := none
deriving DecidableEq, Repr

/-- A message in a landing queue (R128): its slots there, whether it is a red request that its policer holds (R135), and whether its wait
for the line order has been counted (R182). -/
structure LandItem where
  msg : Msg
  size : Nat
  held : Bool := false
  waited : Bool := false
deriving DecidableEq, Repr

/-- The arbiters of the Deck's outputs (R130-R133): the rotating pointer of each output and class; each input's rotating order of
outputs; the class whose turn it is at each output, and the cells left to it; the cycles for which a slice moves no cell; and the
shapers of R136: each Pier and class's level, in thousandths of a byte, and when it was filled. -/
structure ArbSt where
  ptr : SMap Nat
  acc : SMap Nat
  turn : SMap Nat
  credit : SMap Nat
  stall : SMap Nat
  tokens : SMap (Int × Nat)
deriving DecidableEq, Repr

/-- The arbiters after reset. -/
def ArbSt.init : ArbSt := { ptr := [], acc := [], turn := [], credit := [], stall := [], tokens := [] }

/-- A Capstone store held at its ingress Pier group with its earlier requests, in arrival order (R79): tag, and status once
completed. vc, size: the virtual channel and slots it arrived on and with; red: its policer holds it (R135). -/
structure CapHold where
  req : Req
  waits : List (BitVec 12 × Option Status)
  vc : Nat
  size : Nat
  red : Bool
deriving DecidableEq, Repr

/-- The requests of one Source on one logical port since its last Capstone store (R79). -/
structure CapWindow where
  port : Nat
  src : NodeId
  reqs : List (BitVec 12 × Option Status)
deriving DecidableEq, Repr

/-- A policer (R134, R135): its entry, its two buckets in bytes times 2^0, and its byte counters. -/
structure Policer where
  w0 : Word
  w1 : Word
  w2 : Word
  w3 : Word
  c : Int
  p : Int
  filled : Nat
  green : Nat
  yellow : Nat
  red : Nat
deriving DecidableEq, Repr

/-- A policer after reset: disabled. -/
def Policer.init : Policer :=
  { w0 := 0, w1 := 0, w2 := 0, w3 := 0, c := 0, p := 0, filled := 0, green := 0, yellow := 0, red := 0 }

/-- The sampler (R143-R145): the next record number, the copies lost since the last record, per port and class the messages to go until
the next sample, each port's LFSR, and the copies on each slice's sample lane. -/
structure Sampler where
  seq : Nat
  lost : Nat
  gap : SMap Nat
  lfsr : SMap (BitVec 32)
  lane : SMap Nat
deriving DecidableEq, Repr

/-! ### Homes and stacks (R61-R109) -/

/-- What a home transaction is for: a request, the recalls of a disable (R60), one line of a fill (R108), or the recalls of
a FENCE launch (R307; out: on a range that the launch writes). -/
inductive Work where
  | req (r : Req)
  | disable
  | fill (pattern : DWord)
  | fence (launch : Nat) (out : Bool)
  | scrub
deriving DecidableEq, Repr

/-- A transaction in a home tracker (R78): the line it is on (Bay-local for the stack) and its local offset, the region entry and index it was checked against, the
symbol errors its access meets, the ports whose recall answers it awaits, and whether its requester is answered. -/
structure Txn where
  bay : Nat
  line : Nat
  addr : Nat
  work : Work
  errs : Errs
  ent : RtEntry
  idx : Nat
  await : NSet
  kind : RecallKind
  active : Bool
  answered : Bool
deriving DecidableEq, Repr

/-- A row tracked for automatic repair (R100): its corrected lines, each with the time of its last correction. -/
structure RowTrack where
  row : Nat
  lines : SMap Nat
  last : Nat
deriving DecidableEq, Repr

/-- A soft repair (R100): bank (32 pch + bank), row, and the spare row it uses. -/
structure Repair where
  bank : Nat
  row : Nat
  spare : Nat
deriving DecidableEq, Repr

/-- A line write that the memory controller has still to issue (R92): its Bay-local offset, since when it waits, and whether a fill's
(R109). -/
structure QWrite where
  off : Nat
  time : Nat
  fill : Bool
deriving DecidableEq, Repr

/-- A fill in progress (R108): the map index of the covering entry, the entry, and the bounds. -/
structure Fill where
  idx : Nat
  ent : RtEntry
  base : Nat
  limit : Nat
deriving DecidableEq, Repr

/-- One Bay's base die and controller state that no register shows (R78, R83, R90, R94, R100). -/
structure BaySt where
  sweep : NSet
  swPos : Nat
  swMark : Nat
  swRound : Bool
  ptr : Nat
  marks : List (Nat × Nat × Nat)
  laneHits : List (Nat × Nat × Nat × Nat × Nat)
  rows : List RowTrack
  repairs : List Repair
  repairing : List Nat
  scrubLine : Nat
  debt : SMap Nat
  acts : SMap Nat
  neighbours : NSet
  openRows : SMap Nat
  fill : Option Fill
  margin : Bool
  lost : NSet
  actWin : Nat
  -- R92: writes not yet issued; R95: when each pseudo-channel was last refreshed
  wq : List QWrite
  refTimes : SMap (List Nat)
  -- R100: ns in Run or Sleep while rows are tracked; R558: a sample has been taken since reset or Deep-sleep
  clock : Nat
  sampled : Bool
  -- R102: hard repairs of the DRAM dies, and the repair log of the boot flash with the times of the repairs
  hard : List Repair
  repairLog : List (Repair × Nat)
deriving DecidableEq, Repr

/-- A Bay after reset. -/
def BaySt.init : BaySt :=
  { sweep := [], swPos := 0, swMark := 0, swRound := false, ptr := 0, marks := [], laneHits := [], rows := [], repairs := [], repairing := [], scrubLine := 0,
    debt := [], acts := [], neighbours := [], openRows := [], fill := none, margin := false, lost := [], actWin := 0, wq := [], refTimes := [], clock := 0,
    sampled := false, hard := [], repairLog := [] }

/-! ### Regions, maps and compositions (R53-R60, R375-R393) -/

/-- A disabled, empty entry. -/
def RtEntry.none : RtEntry :=
  { base := 0, limit := 0, key := 0, mode := .disabled, tier := .stack, comp := 0, owner := 0, own := .free, peer := 0,
    hseq := 0 }

/-- A disabled, empty range-check entry. -/
def RctEntry.none : RctEntry := { base := 0, limit := 0, en := false, readOnly := false, comp := 0 }

/-- One bank of the map (R384). -/
structure MapBank where
  rt : SMap RtEntry
  rct : SMap RctEntry
deriving DecidableEq, Repr

/-- An empty bank. -/
def MapBank.empty : MapBank := { rt := [], rct := [] }

/-- Where a map switch or copy stands (R384, R386). -/
inductive MapPhase where
  | idle | checking | draining | rebuilding | copying
deriving DecidableEq, Repr

/-- A pending handoff (R66): the entry's index and the class of the OFFER that began it. -/
structure Handoff where
  index : Nat
  tc : BitVec 3
deriving DecidableEq, Repr

/-- A handoff's write of an entry (R65, R66) that waits for the requests checked against the old entry (R59), and what is sent once
it has completed. commit: it ends the handoff. -/
structure HandWrite where
  index : Nat
  marked : List (Origin × BitVec 12)
  commit : Bool
  sends : List (NodeId × Hand)
deriving DecidableEq, Repr

/-- A Region Table or range-check command in progress (R59, R384, R392): the entry, the map, the operation, whether it waits
for the next map, and the requests checked against the old entry. -/
structure MapCmd where
  index : Nat
  next : Bool
  op : Nat
  waiting : Bool
  marked : List (Origin × BitVec 12)
deriving DecidableEq, Repr

/-- A revocation entry (R389): ALL, its range, whether it is in force, the epoch of its map, and the origins and tags its
revocation waits for. -/
structure RevEntry where
  all : Bool
  base : Nat
  limit : Nat
  inForce : Bool
  epoch : Nat
  marked : List (Origin × BitVec 12)
deriving DecidableEq, Repr

/-- An entry not in force. -/
def RevEntry.none : RevEntry := { all := false, base := 0, limit := 0, inForce := false, epoch := 0, marked := [] }

/-- The map, the epoch, the commands that act on them, handoffs and revocations. -/
structure RegionSt where
  cur : MapBank
  nxt : MapBank
  old : MapBank
  epoch : Nat
  draining : Bool
  phase : MapPhase
  rtCmd : Option MapCmd
  rctCmd : Option MapCmd
  handoffs : List Handoff
  handWrites : List HandWrite
  handPorts : List (NodeId × BitVec 27 × Nat)
  revs : SMap RevEntry
  members : SMap Nat
deriving DecidableEq, Repr

/-- The regions after reset: no entry, epoch 0 (R385). -/
def RegionSt.init : RegionSt :=
  { cur := .empty, nxt := .empty, old := .empty, epoch := 0, draining := false, phase := .idle, rtCmd := none, rctCmd := none,
    handoffs := [], handWrites := [], handPorts := [], revs := [], members := [] }

/-! ### Multicast and Trestles (R199-R215) -/

/-- A multicast entry (R199). -/
structure McEntry where
  key : Word
  en : Bool
  comp : CompId
  remote : BitVec 64
  members : BitVec 288
deriving DecidableEq, Repr

/-- An empty entry. -/
def McEntry.none : McEntry := { key := 0, en := false, comp := 0, remote := 0, members := 0 }

/-- A multicast store being replicated (R201, R202): the member links whose ACK it awaits, the remote answers awaited,
whether a member was down or a remote device failed, and the remote devices for which the Trestle has still to take its copy. -/
structure McOut where
  id : Nat
  req : Req
  ports : NSet
  remotes : Nat
  bad : Bool
  dests : List NodeId
deriving DecidableEq, Repr

/-- A route (R217). -/
structure Route where
  en : Bool
  tc : BitVec 3
  tgrp : Nat
deriving DecidableEq, Repr

/-- A record of a transfer with the requests it answers, each with its own sequence, and how many of them have timed out
(R207, R211, R215). -/
structure XRec where
  seq : Nat
  record : Rec
  reqs : List (Nat × Req)
  late : Nat
  mc : Option Nat
deriving DecidableEq, Repr

/-- A transfer of a local Trestle (R208, R210): open until sent, then outstanding until answered. -/
structure Xfer where
  span : Nat
  num : Nat
  flow : Nat
  port : Nat
  dest : NodeId
  src : NodeId
  trunk : Nat
  group : Nat
  sent : Bool
  mc : Bool
  tc : BitVec 3
  target : Nat
  readClose : Bool
  opened : Nat
  coalesce : Nat
  recs : List XRec
deriving DecidableEq, Repr

/-- A Capstone store held by a local Trestle (R212) with its record sequence, the record sequences it waits for and their statuses. -/
structure TrCap where
  span : Nat
  flow : Nat
  req : Req
  seq : Nat
  waits : List (Nat × Option Status)
deriving DecidableEq, Repr

/-- A flow (R207): ingress port and destination device, with the next record sequence and the store records since its last
Capstone store. -/
structure Flow where
  span : Nat
  port : Nat
  dest : NodeId
  seq : Nat
  window : List (Nat × Option Status)
deriving DecidableEq, Repr

/-- A request that waits in a local Trestle for a remap (R213): its Span, its flow, and for the record of an MC_WR the multicast store and the
remote device. -/
structure TrHeld where
  span : Nat
  flow : Nat
  req : Req
  mc : Option (Nat × NodeId)
deriving DecidableEq, Repr

/-- A transfer being replayed by the receiving Trestle (R214): the next record to issue, and the answers so far. -/
structure RxXfer where
  span : Nat
  id : Nat
  port : Nat
  bulk : Bulk
  next : Nat
  answers : List (Option RecAns)
deriving DecidableEq, Repr

/-- The Trestles and the multicast queue. -/
structure TrestleSt where
  routes : SMap Route
  groups : SMap (List Word)
  flows : List Flow
  xfers : List Xfer
  caps : List TrCap
  held : List TrHeld
  rx : List RxXfer
  remap : NSet
  num : SMap Nat
  rxNum : Nat
  mc : SMap McEntry
  mcOut : List McOut
  mcNum : Nat
deriving DecidableEq, Repr

/-- The Trestles after reset. -/
def TrestleSt.init : TrestleSt :=
  { routes := [], groups := [], flows := [], xfers := [], caps := [], held := [], rx := [], remap := [], num := [], rxNum := 0,
    mc := [], mcOut := [], mcNum := 0 }

/-! ### Tray engines (R110-R114, R205) -/

/-- What a tray transaction does next (R112): read, write, or patrol scrub; row and rowHold: it stands for a row transaction
that waits for, or holds, its lines (R249). -/
inductive TrayPhase where
  | queued | reading | writing | scrubbing | row | rowHold
deriving DecidableEq, Repr

/-- A transaction of a tray engine: the Bay, the tray slot, the first tray line and how many, the request (none for a patrol
scrub), the composition whose key covers it, the index and entry it was checked against, whether it was given up, and the row
transaction it is part of. -/
structure TrayTxn where
  bay : Nat
  slot : Nat
  line : Nat
  len : Nat
  phase : TrayPhase
  ttag : Nat
  req : Option Req
  comp : CompId
  idx : Nat
  ent : RtEntry
  late : Bool
  answer : Option Line
  row : Option Nat := none
deriving DecidableEq, Repr

/-- The tray engines: transactions in arrival order, the next tag of each Bay, and the patrol position of each slot. -/
structure TraySt where
  txns : List TrayTxn
  next : SMap Nat
  scrub : SMap Nat
deriving DecidableEq, Repr

/-- The tray engines after reset. -/
def TraySt.init : TraySt := { txns := [], next := [], scrub := [] }

/-! ### Looms (R223-R246) -/

/-- A composition's slot ranges (R228): first slot and first slot after, of COLL and POOL. -/
structure Quota where
  collLo : Nat
  collHi : Nat
  poolLo : Nat
  poolHi : Nat
deriving DecidableEq, Repr

/-- A REDUCE body or descriptor (R238). -/
structure Reduce where
  sfmt : Nat
  dfmt : Nat
  op : Nat
  wrDest : Bool
  mcEn : Bool
  up : Bool
  comp : Nat
  rid : Nat
  count : Nat
  dest : Nat
  lines : Nat
  mcGroup : Nat
  nchild : Nat
  slotBase : Nat
  slotsPerBay : Nat
  stageBase : Nat
  parent : Nat
  parentContrib : Nat
  parentSlot : Nat
  timeout : Nat
  divisor : Nat
  stageStride : Nat
deriving DecidableEq, Repr

/-- R233: the state of a reduction table entry; gone: cleared or freed. -/
inductive RedState where
  | opened | done | failed (st : Status) | gone
deriving DecidableEq, Repr

/-- One Loom's entry of a reduction: its state, its lines and how many have completed, each line's poison reading (1 clean,
2 poisoned, R231), the unit requests outstanding, the pushes made, the first failure of the present push (R240), and the
lines whose result has been rounded. -/
structure RedBay where
  st : RedState
  need : Nat
  doneLines : Nat
  reading : SMap Nat
  out : Nat
  pushes : Nat
  pushBad : Option Status
deriving DecidableEq, Repr

/-- A reduction: its body, the Draft task that declared it (none: DECL_CMD), whether it is installed, its entries by Bay, the status of its
failed MC_WR (R238), and the Bays whose entries have failed, with what status (R233). -/
structure Red where
  body : Reduce
  task : Option TaskRef
  installed : Bool
  bays : List RedBay
  mcBad : Option Status
  fails : List (Nat × Status)
deriving DecidableEq, Repr

/-- The Looms: accumulator slots and the slots whose residue is wrong (key Bay · 2^20 + slot), quotas in force, reductions, and the address
of the descriptor that a declaration command reads (R229). -/
structure LoomSt where
  slots : SMap Nat
  bad : NSet
  quota : SMap Quota
  reds : List Red
  declAddr : Nat
deriving DecidableEq, Repr

/-- The Looms after an L0 reset: every slot zero (R227). -/
def LoomSt.init : LoomSt := { slots := [], bad := [], quota := [], reds := [], declAddr := 0 }

/-! ### Device units' requests (R201, R250) -/

/-- What a device unit's request is for. -/
inductive UnitOp where
  | redWrite (rid n : Nat)
  | redMc (rid n : Nat)
  | push (rid n : Nat)
  | pushCap (rid n : Nat)
  | snapLine (comp : Nat)
  | batch (id i : Nat)
  | status
  | draftRec (flag : Nat) (key : Word) (value : DWord)
  | plain
  | debug
deriving DecidableEq, Repr

/-- An outstanding request of a device unit. -/
structure UnitReq where
  id : Nat
  op : UnitOp
  req : Req
deriving DecidableEq, Repr

/-! ### Fuses, straps and tokens (R402, R425, R456) -/

/-- What the fuses and straps hold (R402, R456). -/
structure Fuses where
  hashSel : BitVec 2
  serial : BitVec 64
  resetMap : BitVec 48
  stackCfg : BitVec 32
  debugDisable : Bool
  rootRevoke : BitVec 4
  svn : Nat
  straps : BitVec 6
deriving DecidableEq, Repr

/-- The part's own fuses and straps. -/
def Fuses.ofPart : Fuses :=
  { hashSel := Config.hashSel, serial := Config.serial, resetMap := Config.resetMap, stackCfg := Config.stackCfg
    debugDisable := Config.debugDisable, rootRevoke := Config.rootRevoke, svn := Config.fusedSvn, straps := Config.straps }

/-- An installed debug token (R424-R426). -/
structure Token where
  installed : Bool
  classes : Nat
  notBefore : Nat
  notAfter : Nat
  hash : BitVec 384
deriving DecidableEq, Repr

/-- No token. -/
def Token.none : Token := { installed := false, classes := 0, notBefore := 0, notAfter := 0, hash := 0 }

/-! ### Notifications (R508) -/

/-- One event record: its code, its log (0 Informational, 1 Warning, 2 Failure) and its data. -/
structure EventRec where
  code : Nat
  log : Nat
  handle : Nat
  data : List Nat
deriving DecidableEq, Repr

/-- The CXL event logs: the records, the next handle, and the records each log has lost. -/
structure EventLogs where
  recs : List EventRec
  next : Nat
  lost : SMap Nat
deriving DecidableEq, Repr

/-- Empty logs. -/
def EventLogs.init : EventLogs := { recs := [], next := 1, lost := [] }

/-! ### Batches of a unit's requests (R34, R250) -/

/-- What goes on when the last request of a batch has completed. hold: nothing until a command of its own. -/
inductive Owner where
  | hold
  | decl
  | draftHead
  | bcastRead (t : TaskRef)
  | bcastSend (t : TaskRef)
  | bcastFlag (t : TaskRef)
  | moveRead (t : TaskRef)
  | moveWrite (t : TaskRef)
  | gate (t : TaskRef)
  | signal (t : TaskRef)
  | endWith (t : TaskRef) (st : Status)
  | moveHead (t : TaskRef)
  | ctImage
  | streamTable (t : TaskRef)
  | streamHeads (t : TaskRef)
  | streamWrote (t : TaskRef) (off : Nat)
  | streamRead (t : TaskRef)
  | tblDesc
  | hedLists (t : TaskRef)
  | hedOut (t : TaskRef)
  | spHead (t : TaskRef)
  | spImage (t : TaskRef)
  | spPut (n k run : Nat)
  | combOut (id : Nat)
  | ksKey
  | ksToken
deriving DecidableEq, Repr

/-- A batch: how many requests, and the completions so far by their place in it. -/
structure Batch where
  id : Nat
  owner : Owner
  need : Nat
  got : SMap (Option Cmp)
deriving DecidableEq, Repr

/-! ### Drafts and the Treadle (R338-R350) -/

/-- A task of a loaded Draft (R341): fate 0 not run, 1 ran, 2 skipped (R343). -/
structure TaskSt where
  kind : Nat
  tflags : Nat
  comp : Nat
  slot : Nat
  preds : List Nat
  body : Line
  slotOpen : Bool
  dispatched : Bool
  begun : Bool
  miss : Bool
  fate : Nat
  st : Option Status
deriving DecidableEq, Repr

/-- A Draft in the Treadle (R340, R347). -/
structure DraftSt where
  uid : Nat
  id : Nat
  slotLen : Nat
  statusBase : Nat
  doneFlag : Nat
  doneKey : Word
  tasks : List TaskSt
  act : Nat
  stopped : Bool
  lastEnd : Nat
deriving DecidableEq, Repr

/-- The pending Draft (R345, R346): where it is, when it activates, the batches that read its header and the rest, and the
Draft once it is READY. -/
structure PendDraft where
  addr : Nat
  time : Nat
  head : Nat
  rest : Option Nat
  ready : Option DraftSt
deriving DecidableEq, Repr

/-- A wait-on-flag task (R358): its word, the read outstanding, and the Bay whose watch it holds. -/
structure WaitSt where
  t : TaskRef
  addr : Nat
  read : Option Nat
  watch : Option Nat
  tried : Bool
deriving DecidableEq, Repr

/-- The Treadle. reports: ends that units have reported and it has not yet acted on (R339). -/
structure TreadleSt where
  active : Option DraftSt
  old : List DraftSt
  pend : Option PendDraft
  uid : Nat
  reports : List (TaskRef × Status)
  waits : List WaitSt
deriving DecidableEq, Repr

/-- The Treadle after reset. -/
def TreadleSt.init : TreadleSt := { active := none, old := [], pend := none, uid := 0, reports := [], waits := [] }

/-- A broadcast step in progress (R239): its lines' Bays, the status that ends it, and the devices whose writes were all OK. -/
structure Bcast where
  t : TaskRef
  upTo : Nat
  st : Status
deriving DecidableEq, Repr

/-! ### Streams (R116-R120, R353-R356) -/

/-- A code table image (R323). lens: the code length of each symbol. -/
structure CodeImage where
  tid : Nat
  layout : Nat
  hmode : Nat
  thresh : Nat
  nblk : Nat
  dataBase : Nat
  hdrBase : Nat
  lens : List Nat
deriving DecidableEq, Repr

/-- What a decode found when it started: the cause and the read's status of R330, cause 0 where it has its table (R326). -/
structure TabHeld where
  cause : Nat
  st : Status
  img : Option CodeImage
deriving DecidableEq, Repr

/-- One block of a layer still to be read by a fill: its place in the layer, how often its read was reissued, the batch that
reads or writes it, its header, whether its read has passed and its lines are being written, and the code table with which its
decode has started. -/
structure StreamJob where
  off : Nat
  tries : Nat
  batch : Nat
  head : Nat
  writing : Bool
  tab : Option CodeImage
deriving DecidableEq, Repr

/-- A layer of a stream task (R354). -/
structure Layer where
  src : Nat
  bytes : Nat
  coded : Bool
  tid : Nat
  dst : Nat
deriving DecidableEq, Repr

/-- A stream task in progress: its layers, the next to fill, the layer in each slot, the blocks of the fill in progress and
what happened during it (R119), the layer being sent, its headers, its code tables and stores, the layer that failed and its status, and the
stalls that have begun. -/
structure StreamSt where
  t : TaskRef
  comp : Nat
  stored : Bool
  group : Nat
  key : Word
  flag : Nat
  layers : List Layer
  next : Nat
  slots : List (Option Nat)
  jobs : List StreamJob
  retried : Bool
  replays : Nat
  charges : SMap Nat
  sending : Option Nat
  words : List (Status × Nat)
  tabs : List TabHeld
  sends : Option (Option Nat)
  stop : Status
  sent : Nat
  failed : Option (Nat × Status)
  stall : Option Nat
  full : Option Nat
  st : Status
deriving DecidableEq, Repr

/-! ### Moves (R352) -/

/-- A move in progress: the tables and the headers of its blocks, the status of each source line so far, and the lines being
written. -/
structure MoveSt where
  t : TaskRef
  tabs : List TabHeld
  words : List (Status × Nat)
  sts : List Status
  wrote : List Nat
deriving DecidableEq, Repr

/-! ### Gates, stamps and Fabric Time (R361-R374) -/

/-- A gate control list (R367). -/
structure GateList where
  base : Nat
  cycle : Nat
  entries : List Nat
deriving DecidableEq, Repr

/-- One class's gate of a Pier: the pending list, the operational list, and the entry in effect. -/
structure GateSt where
  pend : Option GateList
  oper : Option GateList
  idx : Nat
deriving DecidableEq, Repr

/-- No list. -/
def GateSt.init : GateSt := { pend := none, oper := none, idx := 0 }

/-- A transmit stamp (R374). -/
structure Stamp where
  time : Nat
  seq : Nat
  kind : TimeKind
  port : Nat
deriving DecidableEq, Repr

/-- An exchange in progress (R364). -/
structure Exch where
  port : Nat
  seq : Nat
  t1 : Option Nat
  t2 : Option (Nat × Nat)
deriving DecidableEq, Repr

/-- Fabric Time's bookkeeping: the adjustment still to be slewed, whether it has been set on a root, runs of good and bad
exchanges, and the exchange in progress. -/
structure TimeSt where
  adj : Int
  set : Bool
  good : Nat
  bad : Nat
  exch : Option Exch
  seq : Nat
  fups : List (Nat × Nat)
deriving DecidableEq, Repr

/-- After reset. -/
def TimeSt.init : TimeSt := { adj := 0, set := false, good := 0, bad := 0, exch := none, seq := 0, fups := [] }

/-! ### Code tables (R323-R327) -/

/-- An installed code table: its composition, TID and image address. -/
structure CodeTab where
  comp : Nat
  tid : Nat
  addr : Nat
deriving DecidableEq, Repr

/-- A code-table command in progress: the composition, TID and batch. -/
structure CtCmd where
  comp : Nat
  tid : Nat
  addr : Nat
  batch : Nat
deriving DecidableEq, Repr

/-- The code-table registry, and the tables each Bay has cached: (Bay, composition, TID, image). -/
structure CodecSt where
  tabs : List CodeTab
  cmd : Option CtCmd
  cache : List (Nat × Nat × Nat × List Line)
deriving DecidableEq, Repr

/-- The registry after reset. -/
def CodecSt.init : CodecSt := { tabs := [], cmd := none, cache := [] }

/-! ### The Heddles (R247-R280) -/

/-- A version record (R251): state 0 CURRENT, 1 DRAINING, 2 RETIRED. stride: its table's stride, as the install read it. -/
structure VerRec where
  id : Nat
  comp : Nat
  tid : Nat
  addr : Nat
  version : Nat
  count : Nat
  state : Nat
  stride : Nat
deriving DecidableEq, Repr

/-- A table command in progress. -/
structure TblCmd where
  comp : Nat
  tid : Nat
  addr : Nat
  batch : Nat
deriving DecidableEq, Repr

/-- A redirect entry (R268): version record, physical row, composition, and the new place and its size. -/
structure Redirect where
  ver : Nat
  row : Nat
  comp : Nat
  place : Nat
  size : Nat
deriving DecidableEq, Repr

/-- A unique row of a batch: where it is, the positions that name it, the part it belongs to (R248), how often its fetch was
reissued, the row operation outstanding, and what its fetch or update ended with. -/
structure HedRow where
  phys : Nat
  pos : List Nat
  part : Nat
  tries : Nat
  op : Option Nat
  st : Option Status
  data : Nat
  pooled : Bool
deriving DecidableEq, Repr

/-- A task at its lead Heddle. stage: 0 bound, 1 reading its lists, 2 at the sorter, 3 fetching, updating or scanning,
4 writing its outputs, 5 ended, 6 sorted and waiting for its composition's POOL range. desc: its Table Descriptor or predicate
program; lists: the lines of its lists; scans: the Bays still scanning; outs: the fabric addresses of its output writes, in order;
since: when its wait for the POOL range began; cnt and st: what its flag says. -/
structure HedTask where
  t : TaskRef
  kind : Nat
  lead : Nat
  comp : Nat
  ver : Option Nat
  stage : Nat
  desc : Option Line
  lists : List Line
  rows : List HedRow
  scans : List Nat
  outs : List Nat
  since : Nat
  cnt : Nat
  st : Status
deriving DecidableEq, Repr

/-- A row update on its way to the row's home (R262). data: the gradient as FP32 patterns, or an overwrite's bytes. -/
structure RowUpd where
  id : Nat
  t : TaskRef
  i : Nat
  comp : Nat
  ver : Nat
  phys : Nat
  place : Nat
  uop : Nat
  fmt : Nat
  size : Nat
  stride : Nat
  acc : Bool
  scale : Nat
  decay : Nat
  data : List Nat
deriving DecidableEq, Repr

/-- What a row transaction is for: a gather's row, an update, a migration's copy, or a filter's record. -/
inductive RowFor where
  | fetch (t : TaskRef) (i : Nat)
  | update (u : RowUpd)
  | copy (mig : Nat)
  | scan (t : TaskRef) (i : Nat)
deriving DecidableEq, Repr

/-- A row transaction (R249): its home, its local offset and size, whether it holds its lines, the masks and data of its writes
(none while it reads), the line accesses of the present phase and their answers, and its end. -/
structure RowOp where
  id : Nat
  use : RowFor
  comp : Nat
  bay : Nat
  tray : Bool
  addr : Nat
  size : Nat
  locked : Bool
  writing : Bool
  wr : List (BitVec 64 × Line)
  need : Nat
  got : SMap (Option (Status × Line))
  fin : Option Status
deriving DecidableEq, Repr

/-- A migration of a row (R271): phase 0 sent, 1 copying, 2 writing, 3 reported. -/
structure Mig where
  id : Nat
  ver : Nat
  row : Nat
  comp : Nat
  src : Nat
  dst : Nat
  o : Nat
  t : Nat
  size : Nat
  back : Bool
  phase : Nat
  start : Nat
  batch : Option Nat
  held : List RowUpd
deriving DecidableEq, Repr

/-- A candidate row of one Heddle's space-saving count (R267). -/
structure Hot where
  lead : Nat
  ver : Nat
  row : Nat
  n : Nat
deriving DecidableEq, Repr

/-- The Heddles and their registry. -/
structure HedSt where
  recs : List VerRec
  nextRec : Nat
  retired : List Nat
  retWait : List Nat
  cmd : Option TblCmd
  redir : List Redirect
  valid : NSet
  tasks : List HedTask
  sorter : List (Nat × TaskRef)
  poolQ : List TaskRef
  upds : List RowUpd
  ops : List RowOp
  next : Nat
  migs : List Mig
  win : SMap Nat
  hot : List Hot
  freed : List (Nat × Nat × Nat)
deriving DecidableEq, Repr

/-- The Heddles after an L0 reset. -/
def HedSt.init : HedSt :=
  { recs := [], nextRec := 0, retired := [], retWait := [], cmd := none, redir := [], valid := [], tasks := [], sorter := [], poolQ := [], upds := [], ops := []
    next := 0, migs := [], win := [], hot := [], freed := [] }

/-! ### The Spindles (R281-R317) -/

/-- A stream started and not completed (R290, R292): its ticket, the 32 B of its descriptor, and whether its fabric writes or
its partial have been sent. -/
structure SpStream where
  ticket : Nat
  desc : List Byte
  sent : Bool
deriving DecidableEq, Repr

/-- One Spindle (R281). regs: x1 to x31; launch: the launch whose part runs; run: a number for this run of a part; last: the
status of the last part; owner: the composition of its SRAM contents; resident: IMAGE_ID, image address and composition of its
text; qr and oa: the query registers' bytes and the accumulators' words; done: the statuses of completed tickets; exiting:
SP.EXIT waits for streams; entry: when the program was entered; upper: the word that SP.RDCNT latched; kat: 0 none, 1 due,
2 running, 3 running again (R486); halted: by the debug port (R426). -/
structure SpUnit where
  regs : SMap Nat
  pc : Nat
  launch : Option Nat
  run : Nat
  last : Nat
  owner : Nat
  resident : Option (Nat × Nat × Nat)
  qr : SMap Byte
  oa : SMap Nat
  tickets : Nat
  streams : List SpStream
  done : SMap Nat
  exiting : Option Status
  entry : Nat
  upper : Nat
  reexec : Bool
  kat : Nat
  halted : Bool
deriving DecidableEq, Repr

/-- A Spindle after reset: idle, all contents zero (R304). -/
def SpUnit.init : SpUnit :=
  { regs := [], pc := 0, launch := none, run := 0, last := 0, owner := 0, resident := none, qr := [], oa := [], tickets := 0
    streams := [], done := [], exiting := none, entry := 0, upper := 0, reexec := false, kat := 0, halted := false }

/-- A launch in progress (R301, R307). stage: 1 reading, 2 reading its image, 3 waiting for its Spindles, 4 waiting for the
issuer's requests, 5 recalling, 6 running, 7 recalling again, 8 waiting for its combine. head: what stage 1 has read; image:
the text and data; ranges: base, length, OUT; waits: the issuer's requests, by port; parts: each Spindle's end;
slotWait: since when its combine waits for its slots (R313). -/
structure Launch where
  id : Nat
  t : TaskRef
  bay : Nat
  comp : Nat
  fence : Bool
  stage : Nat
  body : Line
  head : List Byte
  image : List Byte
  ranges : List (Nat × Nat × Bool)
  comb : Option Nat
  combSt : Option Status
  waits : List (Nat × NodeId × BitVec 12 × Option Status)
  parts : SMap (Option Status)
  slotWait : Option Nat := none
deriving DecidableEq, Repr

/-- A combine that is not FREE (R312-R315): state 1 OPEN, 2 DONE, 3 FAILED; its descriptor, the parts present, its status,
and whether its output is being written. -/
structure Comb where
  id : Nat
  state : Nat
  desc : List Byte
  comp : Nat
  parts : NSet
  st : Status
  writing : Bool
deriving DecidableEq, Repr

/-- A partial on its way to the combining Loom (R314). -/
structure PartMsg where
  bay : Nat
  sp : Nat
  run : Nat
  ticket : Nat
  comb : Option Nat
  idx : Nat
  data : List Byte
deriving DecidableEq, Repr

/-- The Spindles, the launches and the combine table. -/
structure SpSt where
  units : SMap SpUnit
  launches : List Launch
  combs : List Comb
  parts : List PartMsg
  next : Nat
deriving DecidableEq, Repr

/-- The Spindles after reset. -/
def SpSt.init : SpSt := { units := [], launches := [], combs := [], parts := [], next := 1 }

/-! ### Keystone (R401-R431) -/

/-- Keystone. boot: 0 booting, 1 firmware runs, 2 waiting for recovery, 3 stopped by a fuse error (R402); header: of the running
image; drbg: generation requests since the last reseed; tkeys: tenant keys; lapsed: compositions whose token has reached its end;
sessions: SPDM sessions, and whether each is finished; eids: endpoint IDs by binding; cmd: a KS_CMD in progress and its
composition; recov: STATE, bytes staged in 4 KiB units and BOOT_FAIL of RECOV_STAT; stage: the staging area; flash: the image
slot and certificate area. -/
structure KsSt where
  boot : Nat
  header : List Byte
  recovery : Bool
  bootFail : Nat
  idCert : Bool
  entFail : Bool
  drbg : Nat
  tkeys : SMap (List Byte)
  lapsed : NSet
  sessions : List (Nat × Bool)
  nextSes : Nat
  eids : SMap Nat
  anchors : List (List Byte)
  cmd : Option (Nat × Nat)
  recov : Nat × Nat × Nat
  stage : SMap Byte
  flash : SMap Byte
deriving DecidableEq, Repr

/-- Keystone after reset: the boot has yet to run. -/
def KsSt.init : KsSt :=
  { boot := 0, header := [], recovery := false, bootFail := 0, idCert := false, entFail := false, drbg := 0, tkeys := [], lapsed := []
    sessions := [], nextSes := 0, eids := [], anchors := [], cmd := none, recov := (1, 0, 0), stage := [], flash := [] }

/-! ### Clocks, power and resets (R432-R471) -/

/-- The clock generator: CLK_STAT.SEL, the qualified sources (0 REFCLK_156, 1 CXL_REFCLK, 2 primary, 3 backup), their runs of
good windows, the counts they are compared with when ROSC judges, and SAFE with HOLDOVER. -/
structure ClkSt where
  sel : Nat
  good : NSet
  runs : SMap Nat
  refs : SMap Nat
  safe : Bool
deriving DecidableEq, Repr

/-- The clocks after reset. -/
def ClkSt.init : ClkSt := { sel := 0, good := [], runs := [], refs := [], safe := false }

/-- The power controller: the governor's budget in units of 0.25 x 10^-8 A, the entries requested of islands (Island.key, 1
Sleep, 2 Deep-sleep), PSU_WARN_N, whether the input was below 39 V at the last boundary, whether conversion is stopped by an
input fault, and whether the device has tripped. -/
structure PwrSt where
  budget : Nat
  req : SMap Nat
  warn : Bool
  low : Bool
  stopped : Bool
  tripped : Bool
deriving DecidableEq, Repr

/-- The power controller after reset: the budget full at CURR_BURST's reset value (R461). -/
def PwrSt.init : PwrSt := { budget := 400000000, req := [], warn := false, low := false, stopped := false, tripped := false }

/-- A reset of a sleeping island, which is woken first (R445): its unit, level and source. -/
structure ResetWait where
  unit : ResetUnit
  level : Nat
  source : Nat
deriving DecidableEq, Repr

/-- The reset controller: whether the release stopped at its clocks step (R434), the Bays trained and the groups calibrated since
the release began, the resets that wait for a wake, the units that only HOLD keeps in reset (R454), and the Node IDs removed from
the latched admission set (R484). -/
structure RstSt where
  stuck : Bool
  trained : NSet
  calibrated : NSet
  waits : List ResetWait
  holding : List ResetUnit
  removed : NSet
deriving DecidableEq, Repr

/-- The reset controller after reset. -/
def RstSt.init : RstSt := { stuck := false, trained := [], calibrated := [], waits := [], holding := [], removed := [] }

/-! ### Faults and tests (R472-R500) -/

/-- A stack test (R487): its Bay, mode, and whether it took the Bay offline. -/
structure BTest where
  bay : Nat
  mode : Nat
  offline : Bool
deriving DecidableEq, Repr

/-- The fault histories (class 0x7 to 0xA by unit, in µs), the replays of each bridge in the last second and in a row, the test
in progress, the Deck path test's output port, and the Weft cores that have stopped. -/
structure FltSt where
  hist : SMap (List Nat)
  bridge : SMap (List Nat)
  beats : SMap Nat
  btest : Option BTest
  dpath : Option Nat
  cores : NSet
deriving DecidableEq, Repr

/-- After reset: no history. -/
def FltSt.init : FltSt := { hist := [], bridge := [], beats := [], btest := none, dpath := none, cores := [] }

/-! ### The host port and the pins (R503-R516, R534-R543) -/

/-- An HDM decoder (R509): the first DPA and the size it maps, its interleave ways and granularity, and whether it is committed. -/
structure HdmDec where
  base : Nat
  size : Nat
  ways : Nat
  gran : Nat
  on : Bool
deriving DecidableEq, Repr

/-- A CXL.mem request in flight: the host's own tag, its kind (0 read, 1 write, 2 ownership, 3 writeback), the fabric request
(the line only, for a writeback), and whether it waits to be reissued, and since when (R512). -/
structure HostReq where
  ctag : Nat
  kind : Nat
  req : Req
  waiting : Bool
  since : Nat
deriving DecidableEq, Repr

/-- The host port: its decoders, the requests in flight, the messages the device has sent to it, the next tag, the IDE keys held
(0 CXL.io, 1 CXL.cachemem), HP_PERST_N, and the mailbox's timestamp: what it was set to, and when. -/
structure HostSt where
  decs : SMap HdmDec
  reqs : List HostReq
  inbox : List Msg
  tag : Nat
  keys : NSet
  perst : Bool
  stamp : Nat × Nat
deriving DecidableEq, Repr

/-- The host port after reset. -/
def HostSt.init : HostSt :=
  { decs := [], reqs := [], inbox := [], tag := 0, keys := [], perst := false, stamp := (0, 0) }

/-- The pins: PPS_CFG as it applies, the end of a pulse in progress, and the JTAG instruction. -/
structure PinSt where
  pps : DWord
  pulse : Option Nat
  jtag : Jtag
deriving DecidableEq, Repr

/-- The pins after reset. -/
def PinSt.init : PinSt := { pps := 0x40000064, pulse := none, jtag := .idcode }

/-- R419: what Keystone answers to an SPDM request. -/
inductive SpdmRsp where
  | version | capabilities | algorithms
  | digests (ds : List (BitVec 384))
  | certificate (bs : List Byte)
  | challengeAuth (nonce : DWord) (sig : List Byte)
  | measurements (blocks : List (Nat × List Byte)) (sig : List Byte)
  | keyExchange (session : Nat) (share : DWord) (sig : List Byte)
  | finish (session : Nat)
  | endSession (session : Nat)
  | heartbeat (session : Nat)
  | error
deriving DecidableEq, Repr

/-- R418: what the device answers to an MCTP control command. -/
inductive MctpRsp where
  | endpointId (eid : Nat)
  | versions
  | types (ts : List Nat)
  | error
deriving DecidableEq, Repr

/-- R507: a mailbox return code. -/
inductive MboxCode where
  | success | invalidInput | unsupported | busy
deriving DecidableEq, Repr

/-! ### What the block sends out -/

/-- What leaves the block, in order. -/
inductive Output where
  | msg (port : Nat) (m : Msg) (lchk : Option Nat)
  | flit (port : Nat) (ctrl : DWord) (slots : List Slot) (crc : Nat)
  | lanes (port : Nat) (pam : List (List Nat))
  | markers (port : Nat) (words : List Nat)
  | equalize (port : Nat) (training saved : Bool) (taps : List Int)
  | spare (pier : Nat) (lane : Option Nat)
  | spdmReq (port : Nat) (code : Nat)
  | ctrl (port : Nat) (c : LinkCtrl)
  | replay (port : Nat) (seq : Nat)
  | nak (port : Nat) (ack : Nat)
  | regRead (m : Master) (v : DWord)
  | irq (weft : Bool) (vector : Nat)
  | drop (m : Msg)
  | nmi
  | spdm (via : Via) (r : SpdmRsp)
  | mctp (via : Via) (r : MctpRsp)
  | mailbox (code : MboxCode) (data : List Nat)
  | memData (ctag grant : Nat) (poison : Bool) (l : Line)
  | memCmp (ctag grant : Nat)
  | biSnp (inv : Bool) (laddr : BitVec 42)
  | hdmError (dec : Nat)
  | smbus (bs : List Byte)
  | doe (bs : List Byte)
  | debug (v : Line)
  | pps
  | relayed (via : Via) (packet : List Byte)
deriving DecidableEq, Repr

/-! ### The state -/

/-- The block's state. -/
structure State where
  -- The queue of commands that wait, first in first out (the model's own)
  pending : List Instr
  -- The register store: every register of every page (listed below one by one) (R520)
  regs : SMap DWord
  -- The stacks' bytes, directory areas included (R50, R52)
  mem : List Host.Cell
  -- The poison mark of each stack line (R84)
  poison : NSet
  -- The symbol errors that stored lines hold (R89)
  upsets : SMap Syms
  -- What has left the block, in order (the model's own record of its outputs)
  out : List Output
  -- The count of free values used (the model's own; no statement rests on it)
  free : Nat
  -- The block's clock in ns (the model's own)
  now : Nat
  -- The Node ID that the fuses give (R49)
  node : NodeId
  -- The latched upper words of R18, by master and page (R18)
  latches : List Latch
  -- The staged lower words of R18, by master and page (R18)
  staged : List Staged
  -- The link of each logical port, 0 to 287 (R169)
  links : SMap Link
  -- The spare lane pair and loopback of each Pier, 0 to 71 (R176, R488)
  piers : SMap PierSt
  -- The landing queues of each logical port, by virtual channel (R128)
  landing : SMap (List LandItem)
  -- The virtual output queues and the staging of every Deck port (R123, R124)
  voqs : List VoqItem
  -- The Capstone stores held at their ingress (R79)
  capHolds : List CapHold
  -- The stores of each Source and logical port since its last Capstone store (R79)
  capWins : List CapWindow
  -- The 1,024 policers of each Pier group (R134, R135)
  policers : SMap Policer
  -- The policer map of each Pier group (R134)
  polMap : SMap Nat
  -- The sampler's counts, LFSRs and lanes (R143, R145)
  sampler : Sampler
  -- The trace SRAM, written by the sampler and the Hub trace (R144, R493)
  trace : SMap Byte
  -- When each slice last had an arbiter mismatch (R133)
  arbLast : SMap Nat
  -- The Deck's arbiters and shapers (R130, R131, R136)
  arb : ArbSt
  -- The completions whose beats or tag will fail on the Deck's data path (R142)
  marred : List (Nat × BitVec 12 × Bool)
  -- The ports, Bays and Trestles that flush (R138, R139)
  flushing : List FlushUnit
  -- The home trackers' transactions (R78, R85)
  txns : List Txn
  -- Each Bay's base die and controller (R78, R83, R90, R92, R94, R95, R100)
  bays : SMap BaySt
  -- The maps, the epoch, handoffs, revocations and the membership table (R53, R66, R384, R389, R399)
  reg : RegionSt
  -- The Trestles and the multicast table (R199, R206)
  tr : TrestleSt
  -- The tray engines (R112, R205)
  tray : TraySt
  -- The power state of each island: 0 Run, 1 Sleep, 2 Deep-sleep, 3 off (R41, R442)
  islands : SMap Nat
  -- The units held in reset (R446, R457)
  held : List ResetUnit
  -- The items that wait in the crossings of sleeping islands (R42, R43)
  crossing : List (Island × VoqItem)
  -- Fabric Time in 2^-16 ns (R361)
  ft : Nat
  -- ALERT_N asserted (R538)
  alert : Bool
  -- The 10 us hold of ALERT_N has not passed (R538)
  alertHold : Bool
  -- The ms of the last device event that DEV_EVENT_MS counted (R396)
  devMs : Nat
  -- The composition table: 1 LIVE (R375)
  comps : SMap Nat
  -- Errors that the end of the command handles (the model's own; empty between commands unless more than 64 arose)
  events : List Event
  -- Completions of device units' requests that the end of the command hands to their units (R34)
  unitDone : List (Nat × Cmp)
  -- The outstanding requests of device units (R195, R201)
  unitReqs : List UnitReq
  -- The Looms (R223, R227, R228, R233)
  loom : LoomSt
  -- The Spindles' SRAM bytes (R281, R283)
  sram : List Host.Cell
  -- The generation of each composition's key (R113, R377)
  keyGen : SMap Nat
  -- The generation of the key that each XTS engine holds (R45, R113)
  xts : SMap Nat
  -- Commands that the block has set itself, done before time passes (DEBUG steps of a reset) (R445)
  resume : List Instr
  -- The fuses and straps as latched (R402, R456)
  fuses : Fuses
  -- The debug token of each composition (R424)
  tokens : SMap Token
  -- TIME_FLOOR (R429)
  timeFloor : Nat
  -- The next number of a unit's request (the model's own name for it) (R195)
  unitNext : Nat
  -- The gate state of each Pier and class that GATE_STATE forces (R367, R371)
  gates : SMap Nat
  -- The return tables: requests to be completed when a flush ends (R139)
  returns : List (Nat × Req)
  -- The CXL event logs (R508)
  logs : EventLogs
  -- What each meter holds below its unit (R394)
  meterRem : SMap Nat
  -- SEQ of each composition's next snapshot (R398)
  snapSeq : SMap Nat
  -- The units that a test occupies (R487)
  testing : NSet
  -- The batches of requests of device units in progress (R34, R250)
  batches : List Batch
  -- The next batch number (the model's own)
  batchNext : Nat
  -- The Treadle (R338, R345)
  trd : TreadleSt
  -- The broadcast steps in progress (R239)
  bcasts : List Bcast
  -- The stream tasks in progress (R353, R354)
  streams : List StreamSt
  -- The gate control lists of each Pier and class (R367)
  glists : SMap GateSt
  -- The transmit stamp queue of each Pier (R374)
  stamps : SMap (List Stamp)
  -- Fabric Time's bookkeeping (R364, R365)
  time : TimeSt
  -- The code-table registry and the Bays' caches (R325, R326)
  codec : CodecSt
  -- The wake governor's queue (R462)
  govQ : List Island
  -- The islands granted and not yet in Run (R461)
  granted : List Island
  -- The moves in progress (R352)
  moves : List MoveSt
  -- The Heddles and their registry (R251, R258, R268)
  hed : HedSt
  -- The Spindles, launches and combines (R281, R301, R312)
  sp : SpSt
  -- Keystone (R401)
  ks : KsSt
  -- The clock generator (R433)
  clk : ClkSt
  -- The power controller (R460, R461)
  pwr : PwrSt
  -- The reset controller (R446, R457)
  rst : RstSt
  -- Fault histories and tests (R472, R487)
  flt : FltSt
  -- The host port (R503, R509)
  host : HostSt
  -- The pins (R534, R541)
  pins : PinSt
deriving DecidableEq, Repr

/-- The units that a reset of the whole device holds until the release sequence lets them go (R457). -/
def heldAtReset : List ResetUnit := .device :: ((List.range 24).map ResetUnit.bay ++ (List.range 24).map ResetUnit.group)

/-- The block in reset, before step 1 of the release sequence (R457): every register at its reset value, every Bay and Pier group off
and held, nothing listed, nothing waiting. The release begins when power is good (POWER_ON). -/
def State.reset : State :=
  { pending := [], regs := [], mem := [], poison := [], upsets := [], out := [], free := 0, now := 0, node := Config.nodeId,
    latches := [], staged := [], links := [], piers := [], landing := [], voqs := [], capHolds := [], capWins := [],
    policers := [], polMap := [], sampler := { seq := 0, lost := 0, gap := [], lfsr := [], lane := [] }, trace := [], arbLast := [], arb := .init, marred := [], flushing := [],
    txns := [], bays := [], reg := .init, tr := .init, tray := .init, islands := (List.range 48).map (fun k => (k, 3)), held := heldAtReset, crossing := []
    , ft := 0, alert := false, alertHold := false, devMs := 0, comps := []
    , events := [], unitDone := [], unitReqs := [], loom := .init, sram := [], keyGen := [], xts := [], resume := [], fuses := .ofPart, tokens := [], timeFloor := 0, unitNext := 0, gates := [], returns := [], logs := .init, meterRem := [], snapSeq := []
    , testing := []
    , batches := [], batchNext := 0, trd := .init, bcasts := [], streams := [], glists := [], stamps := []
    , time := .init, codec := .init, govQ := [], granted := []
    , moves := [], hed := .init, sp := .init
    , ks := .init, clk := .init, pwr := .init, rst := .init, flt := .init, host := .init, pins := .init
  }

end Sys2Proof.Machine
end

