-- ==== Sys2Proof/Machine/Ops.lean ====
section
/-!
DEFINITION. Machine/Ops.lean: the named operations every family shares: register pages and the register store (R12-R18,
R39, R517-R527), error status and its reporting (R519-R523), counters, free values, outputs, and stack memory bytes.
-/
namespace Sys2Proof.Machine

open Sys2Proof

/-! ### Register pages -/

/-- R517: the page number (BAR0 offset >> 12) of die d, class c, instance i. -/
def pageOf (d c i : Nat) : Nat := d * 1024 + c * 16 + i

/-- A page of Bay n in class c (R524). -/
def pgBay (c n : Nat) : Nat := pageOf (n / 6) c (n % 6)
/-- The home-tracker page of Bay n. -/
def pgHome (n : Nat) : Nat := pgBay 0x10 n
/-- The directory-cache page of Bay n. -/
def pgDirc (n : Nat) : Nat := pgBay 0x11 n
/-- The memory-controller page of Bay n. -/
def pgMC (n : Nat) : Nat := pgBay 0x12 n
/-- The tray-engine page of Bay n. -/
def pgTray (n : Nat) : Nat := pgBay 0x13 n
/-- The Loom page of Bay n. -/
def pgLoom (n : Nat) : Nat := pgBay 0x14 n
/-- The Heddle page of Bay n. -/
def pgHed (n : Nat) : Nat := pgBay 0x15 n
/-- The Spindle page of Bay n. -/
def pgSp (n : Nat) : Nat := pgBay 0x16 n
/-- The block-codec page of Bay n. -/
def pgCodec (n : Nat) : Nat := pgBay 0x17 n
/-- The page of Spindle group g of Bay n (R524). -/
def pgSpGroup (n g : Nat) : Nat := pageOf (n / 6) (0x18 + n % 6) g
/-- The page of Pier group g. -/
def pgPG (g : Nat) : Nat := pageOf (g / 6) 0x09 (g % 6)
/-- The Deck histogram page of Pier group g. -/
def pgHist (g : Nat) : Nat := pageOf (g / 6) 0x0A (g % 6)
/-- The page of Pier p (R524). -/
def pgPier (p : Nat) : Nat :=
  if p % 18 < 16 then pageOf (p / 18) 0x0C (p % 18) else pageOf (p / 18) 0x0D (p % 18 - 16)
/-- The Deck port page of Deck port i, 0 to 52 (R524, R525). -/
def pgPort (i : Nat) : Nat :=
  if i < 24 then pageOf (i / 6) 0x08 (i % 6)
  else if i < 48 then pageOf ((i - 24) / 6) 0x08 (6 + (i - 24) % 6)
  else if i < 52 then pageOf (i - 48) 0x08 12
  else pageOf 4 0x05 0
/-- The Span controller page of Span s. -/
def pgSpan (s : Nat) : Nat := pageOf s 0x00 0
/-- The Deck slice page of slice s, 4 for the Hub. -/
def pgSlice (s : Nat) : Nat := if s < 4 then pageOf s 0x01 0 else pageOf 4 0x04 0
/-- The Trestle page of Span s. -/
def pgTr (s : Nat) : Nat := pageOf s 0x03 0
/-- The outbound-tracker page of Span s. -/
def pgOB (s : Nat) : Nat := pageOf s 0x04 0
/-- A Hub page of class c. -/
def pgHub (c : Nat) : Nat := pageOf 4 c 0
/-- The Weft root's page. -/
def pgRoot : Nat := pgHub 0x00
/-- The page that holds a register of a Hub block (its class code is 0x100 + c). -/
def pgOfHub (r : RegSpec) : Nat := pgHub (r.cls - 0x100)

/-- The number of instances of a class on a die, 0 for none (R524, R525). -/
def instancesOf (d c : Nat) : Nat :=
  if d < 4 then
    if c = 0x00 ∨ c = 0x01 ∨ c = 0x03 ∨ c = 0x04 then 1
    else if c = 0x02 then 4
    else if c = 0x08 then 13
    else if c = 0x09 ∨ c = 0x0A then 6
    else if c = 0x0C then 16
    else if c = 0x0D then 2
    else if 0x10 ≤ c ∧ c ≤ 0x17 then 6
    else if 0x18 ≤ c ∧ c ≤ 0x1D then 8
    else 0
  else if d = 4 then
    if c = 0x02 then 16
    else if c = 0x08 then 4
    else if c ≤ 0x07 then 1
    else if 0x10 ≤ c ∧ c ≤ 0x1C then 1
    else if 0x20 ≤ c ∧ c ≤ 0x24 then 1
    else if 0x28 ≤ c ∧ c ≤ 0x2E then 1
    else 0
  else 0

/-- Does the directory assign the page (R517, R524, R525)? -/
def assigned (pg : Nat) : Bool := pg % 16 < instancesOf (pg / 1024) (pg / 16 % 64)

/-- The class code a RegSpec names for a page: span classes as they are (0x0D as 0x0C), Hub classes plus 0x100, the Hub's
slice and Deck port as the Span classes of their kind. -/
def pageClass (pg : Nat) : Nat :=
  let d := pg / 1024
  let c := pg / 16 % 64
  if d < 4 then (if c = 0x0D then 0x0C else if 0x18 ≤ c then 0x18 else c)
  else if c = 0x04 then 0x01
  else if c = 0x05 then 0x08
  else 0x100 + c

/-- R524: DEV_INDEX of a page. -/
def devIndex (pg : Nat) : Nat :=
  let d := pg / 1024
  let c := pg / 16 % 64
  let i := pg % 16
  if d = 4 then (if c = 0x05 then 0 else i)
  else if c = 0x00 ∨ c = 0x01 ∨ c = 0x03 ∨ c = 0x04 then d
  else if c = 0x02 then
    -- ascending bridge index of R480; the Hub bridges are 6 to 9
    (if i = 3 then 6 + d else
      match d, i with
      | 0, 0 => 0 | 0, 1 => 1 | 0, 2 => 2
      | 1, 0 => 0 | 1, 1 => 3 | 1, 2 => 4
      | 2, 0 => 1 | 2, 1 => 3 | 2, 2 => 5
      | 3, 0 => 2 | 3, 1 => 4 | _, _ => 5)
  else if c = 0x08 then
    (if i < 6 then 6 * d + i else if i < 12 then 24 + 6 * d + (i - 6) else 48 + d)
  else if c = 0x09 ∨ c = 0x0A then 6 * d + i
  else if c = 0x0C then 18 * d + i
  else if c = 0x0D then 18 * d + 16 + i
  else if 0x18 ≤ c then 8 * (c - 0x18) + i
  else 6 * d + i

/-- R520: BLK_ID of a page. -/
def blkId (pg : Nat) : Nat := pg * 4096 + devIndex pg

/-- R521: the ERR_STAT bits defined for a page; STATE_PARITY in the pages of the blocks that R449 names, and in those of the Spindle
groups for their SRAM (R524). -/
def errBits (pg : Nat) : NSet :=
  let c := pageClass pg
  let cmd : Bool := [0x12, 0x08, 0x0C, 0x106, 0x107, 0x110, 0x111, 0x114, 0x115, 0x116, 0x117, 0x118, 0x119, 0x11A, 0x11B,
    0x11C, 0x120, 0x122, 0x123, 0x124].contains c
  let crit : Bool := [0x10, 0x11, 0x01, 0x09, 0x0C, 0x15, 0x18, 0x11B].contains c
  (if cmd then [0] else []) ++ [1] ++ (if crit then [2] else []) ++
  (if c = 0x00 ∨ c = 0x100 then [3] else []) ++ (if c = 0x100 then [4, 5, 6] else []) ++
  (if c = 0x08 ∨ c = 0x01 then [8] else []) ++ (if c = 0x01 then [9] else []) ++
  (if c = 0x12 then [10] else []) ++ (if c = 0x14 then [11, 12] else []) ++
  (if c = 0x120 then [13] else []) ++ (if c = 0x124 then [14] else []) ++ (if c = 0x129 then [15] else [])

/-! ### The register store -/

/-- The store's key of a byte offset of a page, in a bank. -/
def regKey (pg off bank : Nat) : Nat := bank * 2 ^ 28 + pg * 4096 + off

/-- Does a register of this class lie on a page? -/
def RegSpec.onPage (r : RegSpec) (pg : Nat) : Bool := r.cls = 0x200 || r.cls = pageClass pg

/-- Does the byte offset fall on an element of the register (its first byte)? -/
def RegSpec.at (r : RegSpec) (off : Nat) : Bool :=
  r.off ≤ off && (off - r.off) % r.stride = 0 && (off - r.off) / r.stride < r.count

/-- The register at an offset of a page, if the tables give one (R12). -/
def regAt (pg off : Nat) : Option RegSpec := regTable.find? (fun r => r.onPage pg && r.at off)

/-- What an unlisted key reads as: the reset value the tables give (R15). -/
def regDefault (k : Nat) : DWord :=
  match regAt (k / 4096 % 65536) (k % 4096) with
  | some r => BitVec.ofNat 64 r.reset
  | none => 0

/-- Element i of register r of a page, in a bank. -/
def State.reg? (s : State) (pg : Nat) (r : RegSpec) (i bank : Nat) : DWord :=
  SMap.get (fun _ => BitVec.ofNat 64 r.reset) s.regs (regKey pg (r.off + r.stride * i) bank)

/-- Register r of a page. -/
def State.rg (s : State) (pg : Nat) (r : RegSpec) : DWord := s.reg? pg r 0 0

/-- Element i of register r of a page. -/
def State.rgi (s : State) (pg : Nat) (r : RegSpec) (i : Nat) : DWord := s.reg? pg r i 0

/-- Register r of a page in a bank (R120, R278, R316, R400, R430). -/
def State.rgb (s : State) (pg : Nat) (r : RegSpec) (bank : Nat) : DWord := s.reg? pg r 0 bank

/-- Write element i of register r of a page, in a bank. -/
def State.setReg (s : State) (pg : Nat) (r : RegSpec) (i bank : Nat) (v : DWord) : State :=
  { s with regs := SMap.set (fun _ => BitVec.ofNat 64 r.reset) s.regs (regKey pg (r.off + r.stride * i) bank) v }

/-- Write register r of a page. -/
def State.set (s : State) (pg : Nat) (r : RegSpec) (v : DWord) : State := s.setReg pg r 0 0 v

/-- Write register r of a page with a number. -/
def State.setN (s : State) (pg : Nat) (r : RegSpec) (v : Nat) : State := s.setReg pg r 0 0 (BitVec.ofNat 64 v)

/-- Replace field [hi:lo] of register r of a page. -/
def State.setF (s : State) (pg : Nat) (r : RegSpec) (hi lo v : Nat) : State :=
  s.set pg r (setFld (s.rg pg r) hi lo v)

/-- Register r of a Hub page. -/
def State.hub (s : State) (r : RegSpec) : DWord := s.rg (pgOfHub r) r

/-- Write register r of a Hub page. -/
def State.setHub (s : State) (r : RegSpec) (v : DWord) : State := s.set (pgOfHub r) r v

/-- Replace field [hi:lo] of a Hub register. -/
def State.setHubF (s : State) (r : RegSpec) (hi lo v : Nat) : State := s.setF (pgOfHub r) r hi lo v

/-- R519: are the counters of the page frozen? -/
def State.frozen (s : State) (pg : Nat) : Bool := bit (s.rg pg Reg.Hdr.BLK_CTRL) 2

/-- Add n to element i of counter r of a page, in a bank; counters wrap at 2^64 and stop under CNT_FREEZE (R519). -/
def State.count (s : State) (pg : Nat) (r : RegSpec) (i bank n : Nat) : State :=
  if s.frozen pg then s else s.setReg pg r i bank (s.reg? pg r i bank + BitVec.ofNat 64 n)

/-- Count one event in counter r of a page. -/
def State.bump (s : State) (pg : Nat) (r : RegSpec) : State := s.count pg r 0 0 1

/-- Count one event in element i of counter r of a page. -/
def State.bumpI (s : State) (pg : Nat) (r : RegSpec) (i : Nat) : State := s.count pg r i 0 1

/-- Count n events in counter r of a page. -/
def State.addN (s : State) (pg : Nat) (r : RegSpec) (n : Nat) : State := s.count pg r 0 0 n

/-- Count one event in a Hub counter. -/
def State.bumpHub (s : State) (r : RegSpec) : State := s.bump (pgOfHub r) r

/-! ### Outputs and free values -/


/-- Send something out of the block. -/
def State.emit (s : State) (o : Output) : State := { s with out := s.out ++ [o] }

/-- The next free value, and the state that has used it up. -/
def State.fresh (s : State) : DWord × State := (Config.freeValue s.free, { s with free := s.free + 1 })

/-- R411: the DRBG serves one request. -/
def State.drbgUse (s : State) : State := { s with ks := { s.ks with drbg := s.ks.drbg + 1 } }

/-- R411: a nonce from the DRBG. -/
def State.nonce (s : State) : DWord × State := s.drbgUse.fresh

/-- R411, R413: a key is generated, or its generation fails (R412). -/
def State.keygen (s : State) : Bool × State :=
  if s.ks.entFail then (false, s.drbgUse.bumpHub Reg.KS.KEYGEN_FAIL_CNT) else (true, s.drbgUse.bumpHub Reg.KS.KEYGEN_CNT)

/-- A free number below n. -/
def State.freshBelow (s : State) (n : Nat) : Nat × State := ((Config.freeValue s.free).toNat % n, { s with free := s.free + 1 })

/-- R485: count one event in the temperature bin of a logic junction. No register gives an island's temperature: the bin is
a free value. -/
def State.binned (s : State) (pg : Nat) (r : RegSpec) : State :=
  let (b, s) := s.freshBelow 8
  s.bumpI pg r b

/-! ### Errors and their reporting (R519-R523) -/

/-- R519: BLK_STAT.ERR_PENDING of a page. -/
def State.errPending (s : State) (pg : Nat) : Bool :=
  decide ((s.rg pg Reg.Hdr.ERR_STAT &&& ~~~(s.rg pg Reg.Hdr.ERR_MASK)).toNat % 2 ^ 32 ≠ 0)

/-- R523: is any error pending on a page whose INT_EN is 1? -/
def State.errSummary (s : State) (pg : Nat) : Bool := s.errPending pg && bit (s.rg pg Reg.Hdr.BLK_CTRL) 0

/-- R538: assert ALERT_N, for at least 10 us. -/
def State.raiseAlert (s : State) : State := if s.alert then s else { s with alert := true, alertHold := true }

/-- R519: does the page assert ALERT_N? -/
def State.pageAlerts (s : State) (pg : Nat) : Bool := s.errPending pg && bit (s.rg pg Reg.Hdr.BLK_CTRL) 1

/-- R522: capture bit b in ERR_FIRST and ERR_TIME. inj: the bit was injected (R519). -/
def State.captureErr (s : State) (pg b : Nat) (inj : Bool) (info : Nat) : State :=
  (s.setN pg Reg.Hdr.ERR_FIRST (2 ^ 31 + b2n inj * 2 ^ 30 + b % 32 * 2 ^ 24 + info % 2 ^ 24)).setN pg Reg.Hdr.ERR_TIME
    (s.ft / 65536)

/-- R519-R523: set ERR_STAT bit b of a page, capture it if it is the first, and report it. -/
def State.recordErr (s : State) (pg b : Nat) (inj : Bool) (info : Nat) : State :=
  let was := s.rg pg Reg.Hdr.ERR_STAT
  if bit was b then s
  else
    let pend := s.errSummary pg
    let s := s.set pg Reg.Hdr.ERR_STAT (setBit was b true)
    let s := if bit (s.rg pg Reg.Hdr.ERR_FIRST) 31 then s else s.captureErr pg b inj info
    let s := if s.errSummary pg && !pend then (s.emit (.irq true 0)).emit (.irq false 2) else s
    if s.pageAlerts pg then s.raiseAlert else s

/-- The millisecond of Fabric Time (R396). -/
def State.ms (s : State) : Nat := s.ft / 65536 / 1000000

/-- R396, R397: mark the current millisecond as a device event, once, for the device and for every live composition. -/
def State.markDevEvent (s : State) : State :=
  if s.devMs = s.ms + 1 then s
  else
    let s := { s with devMs := s.ms + 1 }
    let s := s.bumpHub Reg.Comp.DEV_EVENT_CNT
    (s.comps.filter (fun e => e.2 = 1)).foldl (fun s e => s.count (pgOfHub Reg.Comp.DEV_EVENT_MS) Reg.Comp.DEV_EVENT_MS 0 e.1 1) s

/-- R396: does an error on this page concern a unit that one composition may hold alone (a Spindle, a logical port)? -/
def ownedByTenant (pg : Nat) : Bool := pageClass pg = 0x0C || pageClass pg = 0x16 || pageClass pg = 0x18

/-- A unit's error: ERR_STAT bit b of its page (R521), and a device event where the unit is shared (R396). The write
rejections, overruns and access errors of bits 0, 1 and 3 to 6 are no errors of a unit. -/
def State.setErr (s : State) (pg b info : Nat) : State :=
  let s := s.recordErr pg b false info
  if ownedByTenant pg || b ≤ 1 || (3 ≤ b && b ≤ 6) then s else s.markDevEvent

/-- R17, R521: a write to the page is rejected or ignored. -/
def State.writeRejected (s : State) (pg : Nat) : State := s.setErr pg 1 0

/-- R58 and its like: a command is written while its BUSY is 1. -/
def State.overrun (s : State) (pg : Nat) : State := s.setErr pg 0 0

/-! ### Notifications (R508) -/

/-- R508: firmware places a notification in a log of 64 records; a full log loses it. A record raises MSI-X vector 1. -/
def State.notify (s : State) (code log : Nat) (data : List Nat) : State :=
  let l := s.logs
  if 64 ≤ (l.recs.filter (fun r => r.log = log)).length then
    { s with logs := { l with lost := SMap.set (fun _ => 0) l.lost log (SMap.get (fun _ => 0) l.lost log + 1) } }
  else
    let r : EventRec := { code := code, log := log, handle := l.next, data := data }
    (({ s with logs := { l with recs := l.recs ++ [r], next := l.next % 65535 + 1 } }).bumpHub Reg.MB.EVENT_CNT).emit (.irq false 1)

/-! ### First-failure records (R85, R86, R106) -/

/-- Record v in an RC record register whose VALID bit is n, and addr beside it, unless one is recorded (R86). -/
def State.recordFirst (s : State) (pg : Nat) (info addr : RegSpec) (n : Nat) (v a : Nat) : State :=
  if bit (s.rg pg info) n then s else (s.setN pg info v).setN pg addr a

/-! ### Statuses -/

/-- R62: the 4-bit code of a status. -/
def Status.code : Status → Nat
  | .ok => 0 | .poison => 1 | .keyFault => 2 | .rangeFault => 3 | .revoked => 4 | .epochStale => 5 | .notHome => 6
  | .unmapped => 7 | .portDown => 8 | .timeout => 9 | .integrity => 10 | .busyRetry => 11 | .nondeterministic => 12

/-- R62: the status of a code; the device never returns 0xD to 0xF. -/
def Status.ofCode (n : Nat) : Option Status :=
  match n with
  | 0 => some .ok | 1 => some .poison | 2 => some .keyFault | 3 => some .rangeFault | 4 => some .revoked
  | 5 => some .epochStale | 6 => some .notHome | 7 => some .unmapped | 8 => some .portDown | 9 => some .timeout
  | 10 => some .integrity | 11 => some .busyRetry | 12 => some .nondeterministic | _ => none

/-- R63: was the request performed? -/
def Status.done (st : Status) : Bool := st = .ok || st = .nondeterministic

/-! ### The local map (R50-R52, R110, R111, R285, R286) -/

/-- One past the populated stack tier (R50). -/
def stackEnd : Nat := 0x01B000000000
/-- The tray tier's base (R50). -/
def trayBase : Nat := 0x100000000000
/-- The size of one Bay's stack. -/
def baySize : Nat := 0x1200000000

/-- R50, R51: what a local offset holds. -/
inductive Place where
  | stack
  | mirror
  | spindle (n k off : Nat)
  | loom (n off : Nat)
  | tray
  | hole
deriving DecidableEq, Repr

/-- R50: the local map. n: TRAY_CFG.N. -/
def placeOf (n a : Nat) : Place :=
  if a < stackEnd then .stack
  else if 0x020000000000 ≤ a ∧ a < 0x020004000000 then .mirror
  else if 0x020010000000 ≤ a ∧ a < 0x020028000000 then
    .spindle ((a - 0x020010000000) / 0x1000000) ((a - 0x020010000000) % 0x1000000 / 0x40000) ((a - 0x020010000000) % 0x40000)
  else if 0x020040000000 ≤ a ∧ a < 0x020070000000 then
    (if (a - 0x020040000000) % 0x2000000 < 0x1800000
     then .loom ((a - 0x020040000000) / 0x2000000) ((a - 0x020040000000) % 0x2000000) else .hole)
  else if trayBase ≤ a ∧ a < trayBase + n * 2 ^ 42 then .tray
  else .hole

/-- R52: the Bay that homes a stack-tier offset. -/
def bayOf (sel a : Nat) : Nat :=
  let b := a / 4096
  (b % 24 + hash16 (hashPoly sel) 25 (b / 24) 0 % 24) % 24

/-- R52: the offset within that Bay's stack. -/
def bayOff (a : Nat) : Nat := a / 4096 / 24 * 4096 + a % 4096

/-- R286: the stack-tier offset of a Bay-local offset. -/
def stackAddr (sel n o : Nat) : Nat :=
  let set := o / 4096
  let slot := (n + 24 - hash16 (hashPoly sel) 25 set 0 % 24) % 24
  (24 * set + slot) * 4096 + o % 4096

/-- R111: the tray slot of a tray-tier offset under N slots. -/
def traySlotOf (sel n a : Nat) : Nat :=
  let b := (a - trayBase) / 4096
  (b % n + hash16 (hashPoly sel) 30 (b / n) 0 % n) % n

/-- R111: the tray offset sent for a tray-tier offset. -/
def trayOffset (n a : Nat) : Nat := (a - trayBase) / 4096 / n * 4096 + (a - trayBase) % 4096

/-- R285: the Spindle region of a Bay-local offset. -/
def regionOf (o : Nat) : Nat := o / 4096 % 64
/-- R285: the pseudo-channel. -/
def pchOf (o : Nat) : Nat := regionOf o / 2
/-- R285: the bank. -/
def bankOf (o : Nat) : Nat :=
  let rb := o / 2 ^ 18
  16 * (regionOf o % 2) + (((rb % 4 * 4) + o / 64 % 64 / 16) ^^^ (rb / 4 % 16))
/-- R285: the row. -/
def rowOf (o : Nat) : Nat := o / 2 ^ 18 / 4
/-- R285: the region-local offset. -/
def regionOff (o : Nat) : Nat := o / 2 ^ 18 * 4096 + o % 4096
/-- One number for a row of a Bay: pseudo-channel, bank and row. -/
def rowKey (o : Nat) : Nat := (pchOf o * 32 + bankOf o) * 2 ^ 17 + rowOf o

/-- R286, inverted: the Bay-local offset of region-local offset r of Spindle k. -/
def regionToBay (k r : Nat) : Nat := ((r / 4096) * 64 + k) * 4096 + r % 4096

/-! ### Stack memory -/

/-- The memory key of byte o of Bay n. -/
def memKey (n o : Nat) : Nat := n * 2 ^ 37 + o

/-- What a byte of stack that nothing has written reads as (DESIGN CHOICE: log entry 2). -/
def memDefault (_ : Nat) : Byte := 0

/-- The canonical form of the stack memory. -/
abbrev Memory.wf (m : List Host.Cell) : Prop := SMap.wf memDefault m = true

/-- One byte of a Bay's stack. -/
def State.byte (s : State) (n o : Nat) : Byte := SMap.get memDefault s.mem (memKey n o)

/-- Write bytes from a memory key up. -/
def writeBytes (m : List Host.Cell) (k : Nat) : List Byte → List Host.Cell
  | [] => m
  | b :: r => writeBytes (SMap.set memDefault m k b) (k + 1) r

/-- The bytes of memory from a key up. -/
def readBytes (m : List Host.Cell) (k n : Nat) : List Byte := (List.range n).map (fun i => SMap.get memDefault m (k + i))

/-- The stored data of line o (64 B aligned) of Bay n. -/
def State.rawLine (s : State) (n o : Nat) : Line := lineOfBytes (readBytes s.mem (memKey n o) 64)

/-- Store data in line o of Bay n. -/
def State.putLine (s : State) (n o : Nat) (l : Line) : State :=
  { s with mem := writeBytes s.mem (memKey n o) (lineBytes l) }

/-- The number of a line: Bay and Bay-local line. -/
def lineKey (n o : Nat) : Nat := memKey n (o / 64 * 64)

/-- Is line o of Bay n poisoned (R84)? -/
def State.poisoned (s : State) (n o : Nat) : Bool := NSet.has (lineKey n o) s.poison

end Sys2Proof.Machine
end

