-- ==== Sys2Proof/Machine/Stack.lean ====
section
/-!
DEFINITION. Machine/Stack.lean: the base die and memory controller of a Bay: decoding a line (R88-R91), die-lane marks,
error counts (R98, R99, R106), and row repair (R100, R101). Every access to a stored line goes through this file.
-/
namespace Sys2Proof.Machine

open Sys2Proof

/-- One Bay's controller state. -/
def State.bay (s : State) (n : Nat) : BaySt := SMap.get (fun _ => BaySt.init) s.bays n

/-- Replace one Bay's controller state. -/
def State.setBay (s : State) (n : Nat) (b : BaySt) : State := { s with bays := SMap.set (fun _ => BaySt.init) s.bays n b }

/-- Something this command must end with (Machine/Settle.lean). -/
def State.raise (s : State) (e : Event) : State := { s with events := s.events ++ [e] }

/-- R106: the present temperature bin of a Bay. -/
def State.tbin (s : State) (n : Nat) : Nat := fld (s.rg (pgMC n) Reg.MC.STACK_TEMP) 18 16

/-- R106: the bin of a DRAM temperature. -/
def tempBin (t : Nat) : Nat :=
  if t < 40 then 0 else if t < 50 then 1 else if t < 60 then 2 else if t < 70 then 3 else if t < 80 then 4
  else if t < 85 then 5 else if t < 90 then 6 else 7

/-- The DRAM die of a Bay-local offset. -/
def dieOf (o : Nat) : Nat := (Config.lineDie (o / 64)).val

/-- The first offset of the 1 KiB row that holds a Bay-local offset (R285). -/
def rowBase (o : Nat) : Nat := o / 1024 * 1024

/-- R58 of the bank numbering: pseudo-channel and bank of an offset as one number. -/
def bankKey (o : Nat) : Nat := pchOf o * 32 + bankOf o

/-- REPAIR_STAT follows the soft repair table and the marks (R104). -/
def State.syncRepair (s : State) (n : Nat) : State :=
  s.setN (pgMC n) Reg.MC.REPAIR_STAT ((s.bay n).repairs.length % 2048 + (s.bay n).marks.length % 256 * 65536)

/-- R106: record an event of a Bay's stack in UE_INFO and UE_ADDR, unless one is recorded. UE_ADDR takes the offset of the line met, for a
repair not made too (DESIGN CHOICE: log entry 59). -/
def State.recordUe (s : State) (n o kind : Nat) : State :=
  s.recordFirst (pgMC n) Reg.MC.UE_INFO Reg.MC.UE_ADDR 31
    (2 ^ 31 + kind * 2 ^ 28 + pchOf o * 2 ^ 16 + dieOf o * 2 ^ 12) (o / 64 * 64)

/-- R91: write line o of Bay n as poisoned; POISON_MARK_CNT counts it (R85). -/
def State.poisonLine (s : State) (n o : Nat) : State :=
  let k := lineKey n o
  let s := { s.putLine n (o / 64 * 64) 0 with poison := NSet.insert k s.poison, upsets := SMap.set (fun _ => []) s.upsets k [] }
  s.bump (pgHome n) Reg.Home.POISON_MARK_CNT

/-- Store a line whole: poison and stored errors are gone (R84). -/
def State.storeLine (s : State) (n o : Nat) (l : Line) : State :=
  let k := lineKey n o
  { s.putLine n (o / 64 * 64) l with poison := NSet.erase k s.poison, upsets := SMap.set (fun _ => []) s.upsets k [] }

/-! ### Row repair -/

/-- How many of a bank's spare rows are used by a soft or a hard repair (R100, R102). -/
def BaySt.spareNext (b : BaySt) (bank : Nat) : Nat := ((b.repairs ++ b.hard).filter (fun r => r.bank = bank)).length

/-- How many of a bank's spare rows are used or promised. -/
def BaySt.sparesUsed (b : BaySt) (bank : Nat) : Nat :=
  b.spareNext bank + (b.repairing.filter (fun o => bankKey o = bank)).length

/-- R474, R500: an entry of FAULT_LOG: class, action, KIND and INSTANCE. -/
def State.faultLog (s : State) (cls action kind inst : Nat) : State :=
  let i := fld (s.hub Reg.Flt.FAULT_LOG_IDX) 3 0
  let v := 2 ^ 63 + cls * 2 ^ 59 + action * 2 ^ 56 + kind * 2 ^ 52 + inst * 2 ^ 41 + s.ft / 65536 / 1024 % 2 ^ 41
  (s.setReg (pgOfHub Reg.Flt.FAULT_LOG) Reg.Flt.FAULT_LOG i 0 (BitVec.ofNat 64 v)).setHubF Reg.Flt.FAULT_LOG_IDX 3 0 (i + 1)

/-- R100, R101, R474: begin the repair of the row holding offset o of Bay n, or record that it is not made. cls: the fault class that
calls for it, 0xF for none. -/
def State.startRepair (s : State) (n o cls : Nat) : State :=
  let b := s.bay n
  if b.repairing.contains (rowBase o) then s
  else if b.sparesUsed (bankKey o) < 8 ∧ b.repairs.length + b.repairing.length < 1024 then
    let s := s.setBay n { b with repairing := b.repairing ++ [rowBase o], rows := b.rows.filter (fun r => r.row ≠ rowBase o) }
    if cls = 0xF then s else s.faultLog cls 3 2 n
  else
    ((s.recordUe n o 3).setErr (pgMC n) 10 0).raise (.bayFault n false)

/-- REPAIR_THRESH of a Bay (R105). -/
def State.repairThresh (s : State) (n : Nat) : Nat := fld (s.rg (pgMC n) Reg.MC.MC_CTRL) 15 12

/-- The scrub period in ns (R97). -/
def State.scrubPeriod (s : State) (n : Nat) : Nat := fld (s.rg (pgMC n) Reg.MC.MC_CTRL) 4 0 * 3600000000000

/-- The tracked row whose most recent counted error is the oldest (R100). -/
def oldestRow : List RowTrack → Option RowTrack
  | [] => none
  | r :: rs =>
    match oldestRow rs with
    | none => some r
    | some q => if q.last < r.last then some q else some r

/-- R100: count a corrected line in its row, and repair the row once the threshold is met. The scrub period is one of the Bay's time in
Run or Sleep (R97). -/
def State.trackRow (s : State) (n o : Nat) : State :=
  let b := s.bay n
  let th := s.repairThresh n
  let per := s.scrubPeriod n
  let row := rowBase o
  let old := match b.rows.find? (fun r => r.row = row) with
    | some r => r.lines.filter (fun (e : Nat × Nat) => b.clock ≤ e.2 + per)
    | none => []
  let lines := SMap.set (fun _ => 0) (old.filter (fun (e : Nat × Nat) => e.1 ≠ o / 64)) (o / 64) (b.clock + 1)
  let others := b.rows.filter (fun r => r.row ≠ row)
  let others := if others.length < 64 then others else
    match oldestRow others with
    | some v => others.filter (fun r => r ≠ v)
    | none => others
  let s := s.setBay n { b with rows := others ++ [{ row := row, lines := lines, last := b.clock }] }
  if th ≠ 0 ∧ th ≤ lines.length then s.startRepair n o 4 else s

/-! ### Die-lane marks (R90) -/

/-- How many lanes of a die and pseudo-channel are marked. -/
def BaySt.marked (b : BaySt) (die pch : Nat) : Nat := (b.marks.filter (fun m => m.1 = die ∧ m.2.1 = pch)).length

/-- Is one die-lane marked? -/
def BaySt.isMarked (b : BaySt) (die pch lane : Nat) : Bool := b.marks.contains (die, pch, lane)

/-- R90: count one corrected symbol on a die-lane, and mark the lane at 16 corrected lines of 4 rows within 1 s. -/
def State.countLane (s : State) (n o lane : Nat) : State :=
  let b := s.bay n
  let d := dieOf o
  let p := pchOf o
  if b.isMarked d p lane then s
  else
    let hits := (b.laneHits.filter (fun h => s.now ≤ h.2.2.2.2 + 1000000000)) ++ [(d, p, lane, rowBase o, s.now)]
    let mine := hits.filter (fun h => h.1 = d ∧ h.2.1 = p ∧ h.2.2.1 = lane)
    let rows := (mine.map (fun h => h.2.2.2.1)).eraseDups
    if 16 ≤ mine.length ∧ 4 ≤ rows.length ∧ bit (s.rg (pgMC n) Reg.MC.MC_CTRL) 7 then
      let rest := hits.filter (fun h => ¬(h.1 = d ∧ h.2.1 = p ∧ h.2.2.1 = lane))
      if b.marked d p < 2 then
        (((s.setBay n { b with laneHits := rest, marks := b.marks ++ [(d, p, lane)] }).bump (pgMC n) Reg.MC.LANE_MARK_CNT).syncRepair n).faultLog 4 0 2 n
      else (s.setBay n { b with laneHits := rest }).raise (.bayFault n false)
    else s.setBay n { b with laneHits := hits }

/-! ### Decoding a line -/

/-- What reading a line gives: its data, poison, or an uncorrectable error. -/
inductive LineRead where
  | data (l : Line)
  | poison
  | bad
deriving DecidableEq, Repr

/-- R89, R90: can the code correct these symbol errors with these marked symbols? -/
def correctable (errs : Syms) (erased : List Nat) : Bool :=
  let t := (errs.filter (fun e => !erased.contains e.val)).length
  errs.length ≤ 2 || (decide (0 < erased.length) && decide (2 * t + erased.length ≤ 8))

/-- The symbols in error when line o of Bay n is read: those stored and those this access meets. -/
def State.lineErrs (s : State) (n o : Nat) (errs : Syms) : Syms :=
  (SMap.get (fun _ => []) s.upsets (lineKey n o) ++ errs).eraseDups

/-- The marked symbols of line o of Bay n. -/
def State.erased (s : State) (n o : Nat) : List Nat :=
  ((s.bay n).marks.filter (fun m => m.1 = dieOf o ∧ m.2.1 = pchOf o)).map (fun m => m.2.2)

/-- Count an uncorrectable line of Bay n, poison it and repair its row (R91, R99, R100). kind: UE_INFO.KIND. -/
def State.lineLost (s : State) (n o kind : Nat) : State :=
  let s := s.bump (pgMC n) (if kind = 2 then Reg.MC.SCRUB_UE_CNT else Reg.MC.UE_CNT)
  let s := s.bumpI (pgMC n) Reg.MC.UE_TBIN (s.tbin n)
  let s := (s.recordUe n o kind).poisonLine n o
  let s := s.markDevEvent
  if s.repairThresh n = 0 then s else s.startRepair n o 5

/-- Count a corrected line of Bay n and write it back corrected (R98, R99, R90, R100). -/
def State.lineFixed (s : State) (n o kind : Nat) (errs : Syms) : State :=
  let s := { s with upsets := SMap.set (fun _ => []) s.upsets (lineKey n o) [] }
  let s := s.bump (pgMC n) (if kind = 2 then Reg.MC.SCRUB_CE_CNT else Reg.MC.CE_CNT)
  let s := s.bumpI (pgMC n) Reg.MC.CE_TBIN (s.tbin n)
  let s := errs.foldl (fun s e => s.countLane n o e.val) s
  s.trackRow n o

/-- R89: decode line o of Bay n. kind: 0 read, 1 merge, 2 scrub, 4 Spindle (R106). -/
def State.readLine (s : State) (n o kind : Nat) (errs : Syms) : LineRead × State :=
  let es := s.lineErrs n o errs
  if s.poisoned n o then (if es.length ≤ 1 then (.poison, s) else (.bad, s.lineLost n o kind))
  else if es = [] then (.data (s.rawLine n (o / 64 * 64)), s)
  else if correctable es (s.erased n o) then (.data (s.rawLine n (o / 64 * 64)), s.lineFixed n o kind es)
  else (.bad, s.lineLost n o kind)

/-- R88: a partial write: read, correct, merge, write. -/
def State.mergeIn (s : State) (n o kind : Nat) (errs : Syms) (mask : BitVec 64) (l : Line) : LineRead × State :=
  match s.readLine n o kind errs with
  | (.data old, s) => (.data old, s.storeLine n o (mergeLine old l mask))
  | r => r

/-- R101 step 3: one line of a repaired row, written to the spare row corrected or poisoned. -/
def State.repairLine (s : State) (n o : Nat) : State :=
  let es := s.lineErrs n o []
  let k := lineKey n o
  if s.poisoned n o then { s with upsets := SMap.set (fun _ => []) s.upsets k [] }
  else if es = [] ∨ correctable es (s.erased n o) then { s with upsets := SMap.set (fun _ => []) s.upsets k [] }
  else s.poisonLine n o

/-- The 16 lines of the row that starts at offset o. -/
def rowLines (o : Nat) : List Nat := (List.range 16).map (fun i => o + 64 * i)

/-- R101 steps 3 to 5: the oldest repair of Bay n in progress is made. -/
def State.finishRepair (s : State) (n : Nat) : State :=
  let b := s.bay n
  match b.repairing with
  | [] => s
  | o :: rest =>
    let r : Repair := { bank := bankKey o, row := rowOf o, spare := b.spareNext (bankKey o) }
    let s := s.setBay n { b with repairing := rest, repairs := b.repairs ++ [r], repairLog := b.repairLog ++ [(r, s.now)] }
    let s := (rowLines o).foldl (fun s l => s.repairLine n l) s
    (s.bump (pgMC n) Reg.MC.REPAIR_CNT).syncRepair n

/-- R101 step 1: does a repair hold line o of Bay n? -/
def State.rowHeld (s : State) (n o : Nat) : Bool := (s.bay n).repairing.contains (rowBase o)

end Sys2Proof.Machine
end

