-- ==== Sys2Proof/Machine/Slots.lean ====
section
/-!
DEFINITION. Machine/Slots.lean: messages by class, traffic class and size (R124, R161, R185, R210), and each message as the slots that
it is on a link (R161, R184-R193, R203, R210, R363, R418).
-/
namespace Sys2Proof.Machine

open Sys2Proof

/-! ### Messages by class, traffic class and size -/

/-- R185: does the request opcode carry data, and how many data slots? -/
def ReqOp.dataSlots : ReqOp → Nat
  | .rd | .rdS | .rdM | .own => 0
  | .atom => 1
  | _ => 4

/-- R185: does the opcode always take the parameter slot? -/
def ReqOp.px : ReqOp → Bool
  | .wrP | .capWr | .atom | .mcWr | .rsD | .rsU => true
  | _ => false

/-- R124: the message class. -/
def Msg.cls : Msg → Nat
  | .req _ | .bulk _ | .trayReq _ => 0
  | .cmp _ | .bulkRsp _ | .trayCmp _ => 1
  | .coh _ => 2
  | .hand _ | .timeX _ | .mctp _ _ => 3
  | .bulkPart rsp _ _ => if rsp then 1 else 0

/-- The line of a Writeback or Recall message. -/
def Coh.laddr : Coh → BitVec 42
  | .recall _ _ la | .biAck _ la | .wb _ la _ _ _ | .wbAck _ la _ => la

/-- The traffic class of a Writeback or Recall message. -/
def Coh.tc : Coh → BitVec 3
  | .recall _ tc _ | .biAck tc _ | .wb tc _ _ _ _ | .wbAck tc _ _ => tc

/-- The traffic class of a message; a bulk reply carries its transfer's. -/
def Msg.tc : Msg → Nat
  | .req r => r.tc.toNat
  | .bulk b => b.tc.toNat
  | .trayReq t => t.tc.toNat
  | .cmp c => c.tc.toNat
  | .bulkRsp b => b.tc.toNat
  | .trayCmp t => t.tc.toNat
  | .coh c => c.tc.toNat
  | .hand h => h.tc.toNat
  | .timeX t => t.tc.toNat
  | .mctp tc _ => tc.toNat
  | .bulkPart _ tc _ => tc.toNat

/-- R210: the body bytes of one record. -/
def Rec.size (r : Rec) : Nat :=
  16 + (if r.ext then 16 else 0) + 16 * (match r.op with
    | .atom => if fld r.opnd 7 6 = 2 ∧ fld r.opnd 11 8 = 3 then 2 else 1
    | op => op.dataSlots)

/-- R210: the body bytes of a transfer. -/
def Bulk.size (b : Bulk) : Nat := 32 + (b.records.map Rec.size).sum

/-- R210: the body bytes of a reply. -/
def BulkRsp.size (b : BulkRsp) : Nat :=
  16 + alignUp (4 * b.answers.length) 16 + 64 * (b.answers.filter (fun a => a.data.isSome)).length

/-- R193: is the opcode and OPND a 16 B compare-swap? -/
def casWide (op : ReqOp) (opnd : Word) : Bool := op = .atom && fld opnd 11 8 = 3 && fld opnd 7 6 = 2

/-- R185: the data slots of a request. -/
def Req.nData (r : Req) : Nat := if casWide r.op r.opnd then 2 else r.op.dataSlots

/-- R210: the slots of the last link message of a body of n slots. -/
def lastPart (n : Nat) : Nat := 1 + (n - 64 * ((n + 63) / 64 - 1))

/-- R161: the header and data slots of a link message; of a bulk body, those of its last link message (R210). -/
def Msg.slots : Msg → Nat
  | .req r => 1 + b2n r.op.px + r.nData
  | .cmp c => if c.data.isSome then 5 else 1
  | .coh (.wb _ _ _ _ _) => 5
  | .coh _ | .hand _ => 1
  | .trayReq t => 1 + 4 * t.data.length
  | .trayCmp t => 1 + 4 * t.data.length
  | .bulk b => lastPart (b.size / 16)
  | .bulkRsp b => lastPart (b.size / 16)
  | .timeX _ => 2
  | .mctp _ p => 1 + (p.length + 4 + 15) / 16
  | .bulkPart _ _ ss => ss.length

/-- R122: the cells of n slots. -/
def cellsOf (n : Nat) : Nat := (n + 15) / 16

/-! ### Writing -/

/-- A header slot: data slots, virtual channel, opcode, class byte, and bytes 4 to 15. -/
def header (vc dslots op cls rest : Nat) : Slot :=
  BitVec.ofNat 128 (dslots % 128 + vc % 8 * 2 ^ 13 + op % 256 * 2 ^ 16 + cls % 256 * 2 ^ 24 + rest % 2 ^ 96 * 2 ^ 32)

/-- R185: a request's opcode. -/
def ReqOp.code : ReqOp → Nat
  | .rd => 1 | .rdS => 2 | .rdM => 3 | .own => 4 | .wr => 8 | .wrP => 9 | .capWr => 0xA | .atom => 0xB | .mcWr => 0xC
  | .rsD => 0xD | .rsU => 0xE

/-- R185: the request of an opcode. -/
def ReqOp.ofCode (c : Nat) : Option ReqOp :=
  match c with
  | 1 => some .rd | 2 => some .rdS | 3 => some .rdM | 4 => some .own | 8 => some .wr | 9 => some .wrP | 0xA => some .capWr
  | 0xB => some .atom | 0xC => some .mcWr | 0xD => some .rsD | 0xE => some .rsU | _ => none

/-- The slots of a line, n of them. -/
def dataSlots (n : Nat) (l : Line) : List Slot := (List.range n).map (fun i => BitVec.ofNat 128 (l.toNat >>> (128 * i)))

/-- R186, R187: a request's slots; own: the receiving device. -/
def Req.wire (vc : Nat) (own : NodeId) (check : Bool) (r : Req) : List Slot :=
  let px := r.op.px || r.dnode ≠ own || (check && decide (r.nData ≠ 0))
  let d := dataSlots r.nData r.data
  let lchk := if check ∧ r.nData ≠ 0 then lineCheck (leBytes (16 * r.nData) r.data.toNat) else 0
  header vc (b2n px + r.nData) r.op.code (r.tc.toNat * 32 + r.colour.toNat * 8 + b2n px * 4)
      (r.epoch.toNat + r.tag.toNat * 2 ^ 8 + r.laddr.toNat * 2 ^ 20 + r.key.toNat * 2 ^ 64) ::
    (if px then [BitVec.ofNat 128 (r.mask.toNat + r.dnode.toNat * 2 ^ 64 + lchk * 2 ^ 80 + r.opnd.toNat * 2 ^ 96)] else []) ++ d

/-- R189: a completion's slots. -/
def Cmp.wire (vc : Nat) (check : Bool) (c : Cmp) : List Slot :=
  let lv := check && c.data.isSome
  let lchk := match c.data with | some d => if check then lineCheck (lineBytes d) else 0 | none => 0
  header vc (if c.data.isSome then 4 else 0) (if c.data.isSome then 0x21 else 0x20) (c.tc.toNat * 32 + c.status.code * 2)
      (c.tag.toNat + c.grant % 4 * 2 ^ 12 + b2n c.dw * 2 ^ 14 + b2n lv * 2 ^ 15 + lchk * 2 ^ 16) ::
    (match c.data with | some d => dataSlots 4 d | none => [])

/-- R190: a coherence message's slots. -/
def Coh.wire (vc : Nat) : Coh → List Slot
  | .recall k tc la => [header vc 0 (match k with | .inv => 0x30 | .down => 0x31) (tc.toNat * 32) (la.toNat * 2 ^ 32)]
  | .biAck tc la => [header vc 0 0x32 (tc.toNat * 32) (la.toNat * 2 ^ 32)]
  | .wb tc la keep _ d => header vc 4 0x33 (tc.toNat * 32 + b2n keep) (la.toNat * 2 ^ 32) :: dataSlots 4 d
  | .wbAck tc la st => [header vc 0 0x34 (tc.toNat * 32 + st.code * 2) (la.toNat * 2 ^ 32)]

/-- R191: a handoff message's opcode. -/
def HandOp.code : HandOp → Nat
  | .offer => 0x60 | .accept => 0x61 | .commit => 0x62 | .cancel => 0x63

/-- R191: a handoff message's slot. -/
def Hand.wire (vc : Nat) (h : Hand) : List Slot :=
  [header vc 0 h.op.code (h.tc.toNat * 32 + (if h.op = .cancel then h.status.code * 2 else 0))
    (h.node.toNat + h.hseq.toNat * 2 ^ 16 + h.granule.toNat * 2 ^ 32 + h.key.toNat * 2 ^ 64)]

/-- R203: a tray request's slots. -/
def TrayReq.wire (vc : Nat) (t : TrayReq) : List Slot :=
  header vc (4 * t.data.length) (match t.op with | .trd => 0x50 | .twr => 0x51 | .tscrub => 0x52) (t.tc.toNat * 32 + b2n t.poison)
      (t.ttag.toNat + t.len.toNat * 2 ^ 16 + t.tline.toNat * 2 ^ 32) :: t.data.flatMap (dataSlots 4)

/-- R203: a tray completion's slots. -/
def TrayCmp.wire (vc : Nat) (t : TrayCmp) : List Slot :=
  header vc (4 * t.data.length) (if t.data = [] then 0x58 else 0x59) (t.tc.toNat * 32 + t.status.code * 2)
      (t.ttag.toNat + t.pmask.toNat * 2 ^ 16 + t.umask.toNat * 2 ^ 32 + t.corr.toNat * 2 ^ 48 + t.unc.toNat * 2 ^ 64) ::
    t.data.flatMap (dataSlots 4)

/-- R363: the type of a time-exchange message. -/
def TimeKind.code : TimeKind → Nat
  | .req => 0 | .rsp => 1 | .fup => 2

/-- R363: a time-exchange message's slots. -/
def TimeX.wire (vc : Nat) (t : TimeX) : List Slot :=
  [header vc 1 0x68 (t.tc.toNat * 32 + t.kind.code * 4) (t.seq.toNat + fld t.rx 15 0 * 2 ^ 16 + fld t.rx 79 16 * 2 ^ 32),
   BitVec.ofNat 128 (fld t.t 79 16 + fld t.t 15 0 * 2 ^ 64 + b2n t.sync * 2 ^ 80 + b2n t.root * 2 ^ 81 + t.hops.toNat * 2 ^ 88)]

/-- Bytes as slots, the last padded with zeros. -/
def slotsOf (bs : List Byte) : List Slot :=
  (List.range ((bs.length + 15) / 16)).map (fun i => BitVec.ofNat 128 (leNat ((bs.drop (16 * i)).take 16)))

/-- R418: an MCTP packet's slots. -/
def mctpWire (vc : Nat) (tc : BitVec 3) (p : List Byte) : List Slot :=
  let d := slotsOf (leBytes 2 p.length ++ [0, 0] ++ p)
  header vc d.length 0x6E (tc.toNat * 32) 0 :: d

/-- R210: a record's bytes. -/
def Rec.bytes (r : Rec) : List Byte :=
  let n := if casWide r.op r.opnd then 2 else r.op.dataSlots
  [BitVec.ofNat 8 r.op.code, BitVec.ofNat 8 (b2n r.ext + 2 * r.tc.toNat + 16 * b2n (r.ext && decide (n ≠ 0))), r.epoch, 0] ++ leBytes 4 r.key.toNat ++
  leBytes 8 r.laddr.toNat ++
  (if r.ext then leBytes 8 r.mask.toNat ++ leBytes 2 r.dnode.toNat ++ leBytes 2 (lineCheck (leBytes (16 * n) r.data.toNat)) ++ leBytes 4 r.opnd.toNat else []) ++
  leBytes (16 * n) r.data.toNat

/-- R210: a transfer's body. -/
def Bulk.bytes (b : Bulk) : List Byte :=
  leBytes 4 b.seq.toNat ++ leBytes 2 b.src.toNat ++ leBytes 2 b.dnode.toNat ++ leBytes 2 b.records.length ++ leBytes 2 (b2n b.mc) ++
  leBytes 4 b.size ++ leBytes 8 b.deadline ++ leBytes 8 0 ++ b.records.flatMap Rec.bytes

/-- R210: a reply's body. -/
def BulkRsp.bytes (b : BulkRsp) : List Byte :=
  let e := b.answers.flatMap (fun a =>
    leBytes 2 (a.status.code + a.grant % 4 * 16 + b2n a.dw * 64 + b2n a.lchk.isSome * 128) ++
    leBytes 2 (match a.lchk with | some c => c.toNat | none => 0))
  leBytes 4 b.seq.toNat ++ leBytes 2 b.answers.length ++ leBytes 10 0 ++ e ++ leBytes (alignUp e.length 16 - e.length) 0 ++
  b.answers.flatMap (fun a => match a.data with | some d => lineBytes d | none => [])

/-- R210: the link messages of a body, each of at most 64 data slots, on virtual channel vc. -/
def chainOf (vc op : Nat) (tc : BitVec 3) (txid : BitVec 32) (body : List Slot) : List (List Slot) :=
  let k := (body.length + 63) / 64
  (List.range k).map (fun i =>
    let part := (body.drop (64 * i)).take 64
    header vc part.length op (tc.toNat * 32 + (if i + 1 = k then 2 else 0) + (if i = 0 then 1 else 0))
      (txid.toNat + 1024 * i * 2 ^ 32) :: part)

/-- R210: every link message of a bulk body. -/
def Bulk.chain (vc : Nat) (b : Bulk) : List (List Slot) := chainOf vc 0x40 b.tc b.txid (slotsOf b.bytes)
/-- R210: every link message of a bulk reply's body. -/
def BulkRsp.chain (vc : Nat) (b : BulkRsp) : List (List Slot) := chainOf vc 0x41 b.tc b.txid (slotsOf b.bytes)

/-- R162: the slots of a link message with its virtual channel in the header. -/
def onVc (vc : Nat) : List Slot → List Slot
  | [] => []
  | h :: r => setFld h 15 13 vc :: r

/-- A link message's slots, as the device puts them on virtual channel vc; of a bulk body, those of its last link message; own: the device's Node ID; check: line checks. -/
def Msg.wire (vc : Nat) (own : NodeId) (check : Bool) : Msg → List Slot
  | .req r => r.wire vc own check
  | .cmp c => c.wire vc check
  | .coh c => c.wire vc
  | .hand h => h.wire vc
  | .trayReq t => t.wire vc
  | .trayCmp t => t.wire vc
  | .timeX t => t.wire vc
  | .mctp tc p => mctpWire vc tc p
  | .bulk b => (b.chain vc).getLastD []
  | .bulkRsp b => (b.chain vc).getLastD []
  | .bulkPart _ _ ss => onVc vc ss

/-- The link messages of a message, the last completing it (R210). -/
def Msg.parts (m : Msg) : List Msg :=
  match m with
  | .bulk b => ((b.chain 0).dropLast.map (fun ss => Msg.bulkPart false b.tc ss)) ++ [m]
  | .bulkRsp b => ((b.chain 0).dropLast.map (fun ss => Msg.bulkPart true b.tc ss)) ++ [m]
  | _ => [m]

/-- The bytes of slots. -/
def bytesOfSlots (ss : List Slot) : List Byte := ss.flatMap (fun s => leBytes 16 s.toNat)

end Sys2Proof.Machine
end

