-- ==== Sys2Proof/Machine/Flit.lean ====
section
/-!
DEFINITION. Machine/Flit.lean: what goes on a Jargar link: codewords and lanes (R155), alignment markers (R156), flits, their control
word and CRC (R158-R160), link control messages (R173, R174, R176), secured flits (R175), and the codes of the Deck's data path (R142).
-/
namespace Sys2Proof.Machine

open Sys2Proof

/-! ### Codewords (R155) -/

/-- A product in GF(2^10), whose polynomial is IEEE 802.3's x^10 + x^3 + 1 (PRESUMED: log entry 69). -/
def gfMul (a b : Nat) : Nat :=
  (List.range 10).foldl (fun (p : Nat × Nat) i =>
    let (acc, x) := p
    (if b.testBit i then acc ^^^ x else acc, if x.testBit 9 then (2 * x) ^^^ 0x409 else 2 * x)) (0, a) |>.1

/-- The product of a polynomial, highest power first, and x + r. -/
def gfTimes (p : List Nat) (r : Nat) : List Nat := (p ++ [0]).zipWith (fun a b => a ^^^ b) (0 :: p.map (gfMul r))

/-- The generator of RS(544,514): its roots are the powers 0 to 29 of the field's element 2 (PRESUMED: log entry 69). -/
def rsGenerator : List Nat :=
  ((List.range 30).foldl (fun (p : List Nat × Nat) _ => (gfTimes p.1 p.2, gfMul 2 p.2)) ([1], 1)).1

/-- R155: the 30 check symbols of 514 data symbols. -/
def rsCheck (d : List Nat) : List Nat :=
  let g := rsGenerator.drop 1
  d.foldl (fun r x =>
    let f := x ^^^ r.headD 0
    (r.drop 1 ++ [0]).zipWith (fun a b => a ^^^ b) (g.map (gfMul f))) (List.replicate 30 0)

/-- R155: a codeword: its data symbols, then its check symbols. bits: 5,140 payload bits, the first the most significant. -/
def rsCodeword (bits : Nat) : List Nat :=
  let d := (List.range 514).map (fun i => bits / 2 ^ (5130 - 10 * i) % 1024)
  d ++ rsCheck d

/-- R155: a symbol as five PAM4 symbols, most significant bit first; Gray mapping as IEEE 802.3 has it (R151). -/
def pamOf (x : Nat) : List Nat :=
  (List.range 5).map (fun i => match x / 2 ^ (8 - 2 * i) % 4 with | 0 => 0 | 1 => 1 | 3 => 2 | _ => 3)

/-- R155: the lane of a port of w lanes that carries symbol i of a codeword. -/
def laneOfSymbol (w i : Nat) : Nat := i % w

/-- R155: what each of w lanes carries of a codeword. -/
def pamLanes (w : Nat) (cw : List Nat) : List (List Nat) :=
  (List.range w).map (fun j => ((List.range cw.length).filter (fun i => laneOfSymbol w i = j)).flatMap (fun i => pamOf (cw.getD i 0)))

/-- R155: the errors that the code corrects in one codeword. -/
def rsLimit : Nat := 15

/-- R155: the payload bits of a codeword. -/
def cwBits : Nat := 5140

/-! ### Alignment markers (R156) -/

/-- R156: an alignment marker of 120 bits. -/
def marker (count lane type : Nat) : Nat :=
  0xA53C960FF05AC3 * 2 ^ 64 + count % 65536 * 2 ^ 48 + lane % 16 * 2 ^ 44 + type % 16 * 2 ^ 40

/-- R156: the END markers of w lanes, of one count. -/
def endMarkers (w count : Nat) : List Nat := (List.range w).map (fun j => marker count j 1)

/-- R156: are these the END markers of w lanes? -/
def areEndMarkers (w : Nat) (ms : List (BitVec 120)) : Bool :=
  decide (ms.map (fun m => m.toNat) = endMarkers w (fld (ms.headD 0) 63 48))

/-! ### Flits (R158-R160) -/

/-- One bit of the CRC-64 of R160, most significant bit first. -/
def crc64Bit (c b : Nat) : Nat :=
  let c' := (c * 2) % 2 ^ 64
  if (c / 2 ^ 63) ^^^ b = 1 then c' ^^^ 0x42F0E1EBA9EA3693 else c'

/-- One byte of the CRC-64, most significant bit first. -/
def crc64Byte (c : Nat) (b : Byte) : Nat := (List.range 8).foldl (fun a i => crc64Bit a (b.toNat / 2 ^ (7 - i) % 2)) c

/-- R160: the CRC-64 of bytes. -/
def crc64 (bs : List Byte) : Nat := (bs.foldl crc64Byte (2 ^ 64 - 1)) ^^^ (2 ^ 64 - 1)

/-- R160: the CRC of a flit's control word and slots. -/
def flitCrc (ctrl : DWord) (slots : List Slot) : Nat := crc64 (leBytes 8 ctrl.toNat ++ bytesOfSlots slots)

/-- R158: a flit's 256 bytes. -/
def flitBytes (ctrl : DWord) (slots : List Slot) : List Byte :=
  leBytes 8 ctrl.toNat ++ bytesOfSlots slots ++ leBytes 8 (flitCrc ctrl slots)

/-- R160: does a flit's CRC hold? -/
def Flit.crcOk (f : Flit) : Bool := decide (f.slots.length = 15) && decide (f.crc.toNat = flitCrc f.ctrl f.slots)

/-- R159: the control word of a flit; crs: three credit reports, each a virtual channel and a count. -/
def ctrlWord (ftype seq ack : Nat) (nak : Bool) (crs : List (Nat × Nat)) : DWord :=
  let c := fun i => crs.getD i (0, 0)
  BitVec.ofNat 64 (ftype % 16 * 2 ^ 60 + seq % 4096 * 2 ^ 48 + ack % 4096 * 2 ^ 36 + b2n nak * 2 ^ 35 +
    (c 0).1 % 8 * 2 ^ 32 + (c 0).2 % 256 * 2 ^ 24 + (c 1).1 % 8 * 2 ^ 21 + (c 1).2 % 256 * 2 ^ 13 +
    (c 2).1 % 8 * 2 ^ 10 + (c 2).2 % 256 * 4)

/-- Slots, filled to n with NULL slots (R163). -/
def padTo (n : Nat) (ss : List Slot) : List Slot := ss ++ List.replicate (n - ss.length) 0

/-- R163: a slot stream cut into flits of n slots, the last filled with NULL slots; k bounds them. -/
def cutSlots (n : Nat) : Nat → List Slot → List (List Slot)
  | 0, _ => []
  | k + 1, ss => if ss = [] then [] else padTo n (ss.take n) :: cutSlots n k (ss.drop n)

/-! ### Link control messages (R173, R174, R176) -/

/-- R173: the IDENTIFY message. -/
def Identify.bytes (i : Identify) : List Byte :=
  [1, i.version] ++ leBytes 2 i.node.toNat ++
  [i.kind, i.mode, BitVec.ofNat 8 (b2n i.secCap + 2 * b2n i.secReq + 4 * b2n i.lineCheck + 8 * b2n i.kblock), i.width] ++
  leBytes 2 i.replayDepth.toNat ++ i.credits ++ [i.schedMask]

/-- R174: KEY_SHARE up to its signature. -/
def shareHead (node : NodeId) (nonce pubkey : List Byte) : List Byte := [3, 0] ++ leBytes 2 node.toNat ++ nonce ++ pubkey

/-- A message of 240 bytes, those not listed zero (R158, R173). -/
def ctrlBody (bs : List Byte) : List Byte := (bs ++ List.replicate (240 - bs.length) 0).take 240

/-- R173, R174, R176: a link control message's 240 bytes. -/
def LinkCtrl.bytes : LinkCtrl → List Byte
  | .identify i => ctrlBody i.bytes
  | .identifyAck r node => ctrlBody ([2, r] ++ leBytes 2 node.toNat)
  | .keyShare node nonce pubkey sig => ctrlBody (shareHead node nonce pubkey ++ sig)
  | .spareReq lane port => ctrlBody [5, lane, port]
  | .spareAck lane port => ctrlBody [6, lane, port]
  | .spareDone lane port => ctrlBody [7, lane, port]

/-- R173: read a link control message; none: its CTRL_OP is reserved. -/
def readCtrl (bs : List Byte) : Option LinkCtrl :=
  let b := fun i => bs.getD i 0
  let n := fun (o k : Nat) => leNat ((bs.drop o).take k)
  match (b 0).toNat with
  | 1 => some (.identify
      { version := b 1, node := BitVec.ofNat 12 (n 2 2), kind := b 4, mode := b 5, secCap := bit (b 6) 0, secReq := bit (b 6) 1
        lineCheck := bit (b 6) 2, kblock := bit (b 6) 3, width := b 7, replayDepth := BitVec.ofNat 16 (n 8 2)
        credits := (bs.drop 10).take 8, schedMask := b 0x12 })
  | 2 => some (.identifyAck (b 1) (BitVec.ofNat 12 (n 2 2)))
  | 3 => some (.keyShare (BitVec.ofNat 12 (n 2 2)) ((bs.drop 4).take 32) ((bs.drop 0x24).take 96) ((bs.drop 0x84).take 96))
  | 5 => some (.spareReq (b 1) (b 2))
  | 6 => some (.spareAck (b 1) (b 2))
  | 7 => some (.spareDone (b 1) (b 2))
  | _ => none

/-! ### Sessions (R174, R175) -/

/-- R174: the two directions' keys and salts, for the device and its peer. -/
def sessKeys (own peer : NodeId) (secret nonceOwn noncePeer : List Byte) : SessKeys :=
  let low : Bool := decide (own.toNat < peer.toNat)
  let salt := if low then nonceOwn ++ noncePeer else noncePeer ++ nonceOwn
  let k := Config.hkdf secret salt
  let (a, b, sa, sb) := (k.take 32, (k.drop 32).take 32, (k.drop 64).take 4, (k.drop 68).take 4)
  if low then { txKey := a, rxKey := b, txSalt := sa, rxSalt := sb } else { txKey := b, rxKey := a, txSalt := sb, rxSalt := sa }

/-- R175: the IV of the n-th sequenced flit of a direction. -/
def gcmIv (salt : List Byte) (n : Nat) : List Byte := salt ++ leBytes 8 n

/-- R175: slots encrypted, or decrypted, by AES-256 in counter mode. -/
def gcmMix (key iv : List Byte) (ss : List Slot) : List Slot :=
  (List.range ss.length).map (fun i => ss.getD i 0 ^^^ Config.gcmStream key iv i)

/-- R175: a SECURED flit's slots: 14 of ciphertext, then the tag. aad: CTRL [63:48]. -/
def gcmSeal (key iv : List Byte) (aad : Nat) (ss : List Slot) : List Slot :=
  let ct := gcmMix key iv ss
  ct ++ [Config.gcmTag key iv aad ct]

/-- R175: the plaintext of a SECURED flit, if its tag verifies. -/
def gcmOpen (key iv : List Byte) (aad : Nat) (ct : List Slot) (tag : Slot) : Option (List Slot) :=
  if Config.gcmTag key iv aad ct = tag then some (gcmMix key iv ct) else none

/-! ### The Deck's data path (R142) -/

/-- A number's n bytes, most significant first. -/
def beBytes (n v : Nat) : List Byte := (leBytes n v).reverse

/-- R142: does the CRC-16 of a beat, or of a routing tag, show the error? -/
def PathErr.seen : PathErr → Bool
  | .beat bits code => decide (lineCheck (beBytes 32 bits.toNat) ≠ code.toNat)
  | .tag bits code => decide (lineCheck (beBytes 4 bits.toNat) ≠ code.toNat)

end Sys2Proof.Machine
end

