-- ==== Sys2Proof/Machine/Voq.lean ====
section
/-!
DEFINITION. Machine/Voq.lean: the Deck's cells, virtual output queues and staging (R121-R124), and the sampling of what enters them
(R143-R145), with the consent that it needs (R426).
-/
namespace Sys2Proof.Machine

open Sys2Proof

/-! ### Time and consent -/

/-- Fabric Time in whole ns (R363). -/
def State.ns (s : State) : Nat := s.ft / 65536

/-- R375: is the composition live? -/
def State.live (s : State) (c : Nat) : Bool := SMap.get (fun _ => 0) s.comps c = 1

/-- A composition's debug token. -/
def State.token (s : State) (c : Nat) : Token := SMap.get (fun _ => Token.none) s.tokens c

/-- R426: the classes in force for a composition. -/
def State.classes (s : State) (c : Nat) : Nat :=
  let t := s.token c
  if s.live c ∧ t.installed ∧ t.notBefore ≤ s.timeFloor ∧ s.timeFloor < t.notAfter then
    (if s.fuses.debugDisable then t.classes % 32 &&& 0x13 else t.classes % 32)
  else 0

/-- R427: is device-wide debug open? -/
def State.debugOpen (s : State) : Bool :=
  !s.fuses.debugDisable && s.comps.all (fun e => if e.2 = 1 then (s.classes e.1).testBit 4 else e.2 = 0)

/-- R379: is logical port x granted to composition c? -/
def State.portGranted (s : State) (c x : Nat) : Bool :=
  bit (s.reg? (pgOfHub Reg.Comp.PORT_GRANT) Reg.Comp.PORT_GRANT (x / 32) c) (x % 32)

/-- R379: the live composition to which logical port x is granted. -/
def State.portComp (s : State) (x : Nat) : Option Nat :=
  (s.comps.find? (fun e => e.2 = 1 && s.portGranted e.1 x)).map (fun e => e.1)

/-- R426: may a message that arrived on logical port x (0x1FF: another input) be sampled? -/
def State.mayRecord (s : State) (x : Nat) : Bool :=
  s.debugOpen || (x ≤ 288 && match s.portComp x with | some c => (s.classes c).testBit 0 | none => false)

/-! ### Classes and channels (R132, R162) -/

/-- TC_MODE: is the traffic class Scheduled now (R132)? -/
def State.scheduled (s : State) (tc : Nat) : Bool :=
  let m := s.rg (pgSlice 4) Reg.Slice.TC_MODE
  bit m tc && !bit m 8

/-- R162: the link virtual channel of a message. -/
def State.vcOf (s : State) (cls tc : Nat) : Nat := 2 * cls + b2n (s.scheduled tc)

/-! ### Cells, queues and staging (R121-R124) -/

/-- The own staging of input i for the completions that a flush creates (R138), as an input of its own. -/
def flushInp (i : Nat) : Nat := 64 + i % 64

/-- The slice of a Deck input or output (R25): the Span's, or 4 for the Hub's. -/
def sliceOfPort (j : Nat) : Nat :=
  let i := j % 64
  if i < 24 then i / 6 else if i < 48 then (i - 24) / 6 else if i < 52 then i - 48 else 4

/-- The slots of a message as it lies in its cells: as it arrived, if it arrived on a link. -/
def VoqItem.slots (v : VoqItem) : Nat := if v.size = 0 then v.msg.slots else v.size

/-- R122: the cells that a message adds: none if it lies in the cell before it. -/
def VoqItem.cells (v : VoqItem) : Nat := if v.joins then 0 else cellsOf v.slots

/-- Are two items of one sub-queue: one input, output, traffic class and message class (R124)? -/
def VoqItem.sameQueue (v w : VoqItem) : Bool := v.inp = w.inp && v.out = w.out && v.tc = w.tc && v.cls = w.cls

/-- The messages of the sub-queue that v is of, in order. -/
def State.subQueue (s : State) (v : VoqItem) : List VoqItem := s.voqs.filter (fun w => w.sameQueue v && !w.late)

/-- The slots in the last cell of a sub-queue, and its last message. -/
def lastCell (q : List VoqItem) : Nat × Option VoqItem :=
  q.foldl (fun a w => (if w.joins then a.1 + w.slots else w.slots, some w)) (0, none)

/-- R122: may a message share the last cell of its sub-queue: that cell is not closed, has room, and holds messages of the same arrival
and destination logical port? -/
def State.mayJoin (s : State) (v : VoqItem) : Bool :=
  match lastCell (s.subQueue v) with
  | (n, some w) => !w.shut && w.arr = v.arr && w.dst = v.dst && decide (n + v.slots ≤ 16)
  | _ => false

/-- The cells that a message would add to its VOQ. -/
def State.needs (s : State) (v : VoqItem) : Nat := if s.mayJoin v then 0 else cellsOf v.slots

/-- The cells of one VOQ (R124): input, output, traffic class. Those of multicast stores are in no VOQ (R201). -/
def State.voqCells (s : State) (g out tc : Nat) : Nat :=
  ((s.voqs.filter (fun v => v.inp = g && v.out = out && v.tc = tc && !v.late && v.mc.isNone)).map VoqItem.cells).sum

/-- R123: the cells of a message class in the staging of an input that is no Pier group. -/
def State.staged? (s : State) (inp cls : Nat) : Nat :=
  ((s.voqs.filter (fun v => v.inp = inp && v.cls = cls && !v.late)).map VoqItem.cells).sum

/-- R123, R138: the cells of one message class that an input's staging holds: 32, and 64 of a flush's completions. -/
def stagingOf (inp : Nat) : Nat := if 64 ≤ inp then 64 else 32

/-- R123: may a unit submit a message now? Its class has free staging for every cell, and no message of the class waits before it. -/
def State.mayStage (s : State) (v : VoqItem) : Bool :=
  decide (v.inp < 24) || (s.voqs.all (fun w => !(w.late && w.inp = v.inp && w.cls = v.cls)) && decide (s.staged? v.inp v.cls + s.needs v ≤ stagingOf v.inp))

/-- Take an item out of the queues. A message that lay in its cell keeps the cell. -/
def removeItem (v : VoqItem) : List VoqItem → List VoqItem
  | [] => []
  | w :: r =>
    if w = v then (if v.joins then r else keepCell v r) else w :: removeItem v r
where
  /-- The next message of a sub-queue, if it lay in the cell of the one that has left, begins that cell now. -/
  keepCell (v : VoqItem) : List VoqItem → List VoqItem
    | [] => []
    | w :: r => if w.sameQueue v then { w with joins := false } :: r else w :: keepCell v r

/-- Take an item out of the queues. -/
def State.takeItem (s : State) (v : VoqItem) : State := { s with voqs := removeItem v s.voqs }

/-- R147: n slots of class tc are admitted at Deck port i: RX_MSG_CNT and RX_BYTE_CNT of the class. Ports 53 to 55 have no page. -/
def State.admitAt (s : State) (i tc n : Nat) : State :=
  if 52 < i then s
  else (s.bumpI (pgPort i) Reg.Port.RX_MSG_CNT tc).count (pgPort i) Reg.Port.RX_BYTE_CNT tc 0 (16 * n)

/-! ### Sampling (R143-R145) -/

/-- The bytes of a link message. -/
def State.msgBytes (s : State) (m : Msg) : List Byte :=
  bytesOfSlots (m.wire (s.vcOf m.cls m.tc) s.node false)

/-- Write bytes into the trace SRAM. -/
def State.traceWrite (s : State) (off : Nat) (bs : List Byte) : State := { s with trace := writeBytes s.trace off bs }

/-- R144: a sample record. -/
def State.sampleRecord (s : State) (v : VoqItem) (colour lost : Nat) : List Byte :=
  let bs := s.msgBytes v.msg
  let capt := min 128 bs.length
  let src := match v.msg with | .req r => r.src.toNat | _ => 0
  leBytes 8 s.ns ++ leBytes 2 (s.ft % 65536) ++ leBytes 1 v.inp ++ leBytes 1 v.out ++
  leBytes 2 (colour * 2 ^ 14 + v.cls * 2 ^ 12 + v.tc * 2 ^ 9 + v.arr % 512) ++ leBytes 2 src ++ leBytes 4 (bs.length % 2 ^ 20) ++
  leBytes 1 capt ++ leBytes 1 (b2n (decide (128 < bs.length))) ++ leBytes 2 (min 65535 (s.voqCells v.inp v.out v.tc)) ++
  leBytes 4 s.sampler.seq ++ leBytes 2 (min 65535 lost) ++ leBytes 2 0 ++ bs.take 128 ++ leBytes (128 - capt) 0

/-- R143: a copy takes a place on its slice's sample lane; none is left where the lane is full. -/
def State.laneTake (s : State) (sl : Nat) : Bool × State :=
  let n := SMap.get (fun _ => 0) s.sampler.lane sl
  if Config.laneDepth ≤ n then (false, s)
  else (true, { s with sampler := { s.sampler with lane := SMap.set (fun _ => 0) s.sampler.lane sl (n + 1) } })

/-- Count a lost copy (R143). -/
def State.sampleLost (s : State) : State :=
  { s with sampler := { s.sampler with lost := s.sampler.lost + 1 } }.bumpHub Reg.Smp.SAMPLE_LOST_CNT

/-- R145: put a record in the sample ring. -/
def State.samplePut (s : State) (v : VoqItem) (colour : Nat) : State :=
  let ctrl := s.hub Reg.Smp.SMP_CTRL
  let n := (s.hub Reg.Smp.RING_ENTRIES).toNat
  let w := (s.hub Reg.Smp.WR_IDX).toNat
  let r := (s.hub Reg.Smp.RD_IDX).toNat
  let full := (w + 1) % n = r
  if ¬bit ctrl 31 ∨ (full ∧ ¬bit ctrl 30) then s.sampleLost
  else
    let s := if full then s.setHub Reg.Smp.RD_IDX (BitVec.ofNat 64 ((r + 1) % n)) else s
    let s := s.traceWrite ((s.hub Reg.Smp.RING_BASE).toNat + 160 * w) (s.sampleRecord v colour s.sampler.lost)
    let s := { s with sampler := { s.sampler with seq := (s.sampler.seq + 1) % 2 ^ 32, lost := 0 } }
    (s.setHub Reg.Smp.WR_IDX (BitVec.ofNat 64 ((w + 1) % n))).bumpHub Reg.Smp.SAMPLE_REC_CNT

/-- R143: the next value of the LFSR of Deck port i. -/
def State.lfsrDraw (s : State) (i : Nat) : Nat × State :=
  let v := Config.lfsrNext (SMap.get Config.lfsrSeed s.sampler.lfsr i)
  (v.toNat, { s with sampler := { s.sampler with lfsr := SMap.set Config.lfsrSeed s.sampler.lfsr i v } })

/-- R143: the gap to the next sample of input i under SAMPLE_CFG v: N, or drawn from 1 to 2N - 1. -/
def State.nextGap (s : State) (i : Nat) (v : DWord) : Nat × State :=
  let n := fld v 23 0 + 1
  if bit v 30 then
    let (k, s) := s.lfsrDraw i
    (k % (2 * n - 1) + 1, s)
  else (n, s)

/-- Set the gap of an input and class. -/
def State.setGap (s : State) (inp tc g : Nat) : State :=
  { s with sampler := { s.sampler with gap := SMap.set (fun _ => 0) s.sampler.gap (inp * 8 + tc) g } }

/-- R143: a message has entered its VOQ: count it toward the sampling interval, and sample it when the interval ends. -/
def State.sampleTake (s : State) (v : VoqItem) : State :=
  let cfg := s.rgi (pgPort v.inp) Reg.Port.SAMPLE_CFG v.tc
  if 52 < v.inp ∨ ¬bit cfg 31 then s
  else
    let g := SMap.get (fun _ => 0) s.sampler.gap (v.inp * 8 + v.tc)
    if 1 < g then s.setGap v.inp v.tc (g - 1)
    else
      let (n, s) := s.nextGap v.inp cfg
      let s := s.setGap v.inp v.tc n
      if s.mayRecord v.arr then
        let colour := match v.msg with | .req r => r.colour.toNat | _ => 3
        let s := s.bump (pgPort v.inp) Reg.Port.SAMPLE_TAKEN_CNT
        match s.laneTake (sliceOfPort v.inp) with
        | (true, s) => s.samplePut v colour
        | (false, s) => s.sampleLost
      else s.bumpHub Reg.KS.SAMPLE_DENY_CNT

/-! ### Entering a VOQ -/

/-- R124, R143, R147: a message has entered the Deck at its input: it is counted, and sampled if its turn has come. -/
def State.entered (s : State) (v : VoqItem) : State := (s.admitAt v.inp v.tc v.slots).sampleTake v

/-- R122-R124: a message enters its VOQ, or, where its class has no staging free, waits in its unit. -/
def State.pushVoq (s : State) (v : VoqItem) : State :=
  if s.mayStage v then
    let v := { v with joins := s.mayJoin v }
    ({ s with voqs := s.voqs ++ [v] } : State).entered v
  else { s with voqs := s.voqs ++ [{ v with late := true }] }

/-- Put w in the place of v. -/
def putItem (v w : VoqItem) : List VoqItem → List VoqItem
  | [] => []
  | x :: r => if x = v then w :: r else x :: putItem v w r

/-- R123: staging has become free: the first message that waits in its unit for it is submitted. -/
def State.stageNext (s : State) : Option State :=
  match s.voqs.find? (fun v => v.late && (s.voqs.find? (fun w => w.late && w.inp = v.inp && w.cls = v.cls)) = some v &&
      decide (s.staged? v.inp v.cls + s.needs v ≤ stagingOf v.inp)) with
  | some v =>
    let w := { v with late := false, joins := s.mayJoin v }
    some (({ s with voqs := putItem v w s.voqs } : State).entered w)
  | none => none

/-- R123: every message that may be submitted is; k bounds them. -/
def State.stageAll : Nat → State → State
  | 0, s => s
  | k + 1, s => match s.stageNext with | some s => State.stageAll k s | none => s

end Sys2Proof.Machine
end

