-- ==== Sys2Proof/Machine/Link.lean ====
section
/-!
DEFINITION. Machine/Link.lean: sending on a logical port (R123, R155-R167, R174, R175): which ports are up, the way from a Deck input
to an egress queue, credits, gates, flits, codewords and the replay buffer.
-/
namespace Sys2Proof.Machine

open Sys2Proof

/-- The link of logical port x. -/
def State.link (s : State) (x : Nat) : Link := SMap.get (fun _ => Link.init) s.links x

/-- Replace the link of logical port x. -/
def State.setLink (s : State) (x : Nat) (l : Link) : State := { s with links := SMap.set (fun _ => Link.init) s.links x l }

/-- A Pier's spare lane and loopback state. -/
def State.pier (s : State) (p : Nat) : PierSt := SMap.get (fun _ => PierSt.init) s.piers p

/-- Replace a Pier's spare lane and loopback state. -/
def State.setPier (s : State) (p : Nat) (v : PierSt) : State := { s with piers := SMap.set (fun _ => PierSt.init) s.piers p v }

/-- PIER_CFG of the Pier of logical port x. -/
def State.pierCfg (s : State) (p : Nat) : DWord := s.rg (pgPier p) Reg.Pier.PIER_CFG
/-- SPLIT (R153). -/
def State.split (s : State) (p : Nat) : Nat := fld (s.pierCfg p) 1 0
/-- MODE (R177). -/
def State.pierMode (s : State) (p : Nat) : Nat := fld (s.pierCfg p) 3 2
/-- SEC (R181). -/
def State.pierSec (s : State) (p : Nat) : Nat := fld (s.pierCfg p) 5 4

/-- The logical ports a Pier's SPLIT makes (R153). -/
def State.pierPorts (s : State) (p : Nat) : List Nat :=
  match s.split p with
  | 0 => [4 * p]
  | 1 => [4 * p, 4 * p + 1]
  | 2 => [4 * p, 4 * p + 1, 4 * p + 2, 4 * p + 3]
  | _ => []

/-- The lanes of a logical port (R153). -/
def State.lanesOf (s : State) (x : Nat) : Nat :=
  match s.split (x / 4) with
  | 0 => 8 | 1 => 4 | 2 => 2 | _ => 0

/-- Does the logical port exist? -/
def State.portExists (s : State) (x : Nat) : Bool := (s.pierPorts (x / 4)).contains x

/-- Is a unit held in reset on its own (R44, R454)? -/
def State.isHeld (s : State) (u : ResetUnit) : Bool := s.held.contains u || s.held.contains .device

/-- Is Span s fenced (R481)? -/
def State.spanFenced (s : State) (sp : Nat) : Bool := s.held.contains (.span sp)

/-- Is Bay n out of reset, and its Span not fenced? -/
def State.bayUp (s : State) (n : Nat) : Bool := !(s.isHeld (.bay n) || s.spanFenced (n / 6))

/-- Is Pier group g out of reset, and its Span not fenced? -/
def State.groupUp (s : State) (g : Nat) : Bool := !(s.isHeld (.group g) || s.spanFenced (g / 6))

/-- PORT_CTRL.ADMIN_DOWN of Deck port i (R138). -/
def State.adminDown (s : State) (i : Nat) : Bool := bit (s.rg (pgPort i) Reg.Port.PORT_CTRL) 0

/-- R169: is the logical port up to the Deck for a message class (3 is Management)? -/
def State.portUp (s : State) (x cls : Nat) : Bool :=
  if x = 288 then bit (s.hub Reg.HP.HP_STAT) 31 && !s.isHeld .hostPort && !s.flushing.contains (.port 288)
  else if s.adminDown (x / 12) || !s.groupUp (x / 12) || s.flushing.contains (.port (Fin.ofNat 289 x)) then false
  else match (s.link x).state with
    | .active => true
    | .parked | .securing => cls = 3
    | _ => false

/-! ### The transmitter -/

/-- R192: the line check of a message that carries data. -/
def Msg.lchk : Msg → Option Nat
  | .cmp c => c.data.map (fun d => lineCheck (lineBytes d))
  | .req r => if r.op.dataSlots = 0 then none else some (lineCheck (lineBytes r.data))
  | _ => none

/-- R192: does the link carry line checks? -/
def Link.lineChecks (l : Link) : Bool :=
  match l.peer with
  | some i => i.lineCheck
  | none => false

/-- R167: the replay buffer of a logical port, in flits. -/
def State.replayDepth (s : State) (x : Nat) : Nat :=
  match s.split (x / 4) with
  | 0 => 512 | 1 => 256 | _ => 128

/-- Is the link running a secured session (R175)? -/
def Link.secured (l : Link) : Bool := l.shared

/-- R158: the slots that a sequenced flit of the link carries for messages. -/
def Link.perFlit (l : Link) : Nat := if l.shared then 14 else 15

/-- The flits that n slots take. -/
def Link.flitsFor (l : Link) (n : Nat) : Nat := (n + l.perFlit - 1) / l.perFlit

/-- R166: SEQ of the last sequenced flit accepted in order. -/
def Link.ack (l : Link) : Nat := (l.rxNext + 4095) % 4096

/-- R165: the three credit reports of the next flit. -/
def Link.reports (l : Link) : List (Nat × Nat) :=
  (List.range 3).map (fun i => ((l.crTurn + i) % 8, SMap.get (fun _ => 0) l.freed ((l.crTurn + i) % 8) % 256))

/-- R155: the port's bit stream goes on with a flit: its first byte first, each from bit 7 down. A codeword leaves on the lanes as soon as
its payload is there. -/
def State.sendBits (s : State) (x : Nat) (bs : List Byte) : State :=
  let l := s.link x
  let bits := l.txBits * 2 ^ 2048 + bs.foldl (fun a b => a * 256 + b.toNat) 0
  let n := l.txLen + 2048
  if cwBits ≤ n then
    (s.setLink x { l with txBits := bits % 2 ^ (n - cwBits), txLen := n - cwBits }).emit
      (.lanes x (pamLanes (s.lanesOf x) (rsCodeword (bits / 2 ^ (n - cwBits)))))
  else s.setLink x { l with txBits := bits, txLen := n }

/-- R158-R160, R165, R166: send one flit: its control word carries the present ACK, NAK and three credit reports. -/
def State.sendFlit (s : State) (x ftype seq : Nat) (slots : List Slot) : State :=
  let l := s.link x
  let ctrl := ctrlWord ftype seq l.ack l.nak l.reports
  let s := s.setLink x { l with nak := false, crTurn := (l.crTurn + 3) % 8, owed := l.owed - 1 }
  let s := if ftype ≤ 1 then s.bumpI (pgPier (x / 4)) Reg.Pier.TX_FLIT_CNT (x % 4) else s
  (s.emit (.flit x ctrl slots (flitCrc ctrl slots))).sendBits x (flitBytes ctrl slots)

/-- R159: an IDLE flit. -/
def State.sendIdle (s : State) (x : Nat) : State := s.sendFlit x 2 0 (List.replicate 15 0)

/-- Send a link control message (R173). -/
def State.sendCtrl (s : State) (x : Nat) (c : LinkCtrl) : State := (s.emit (.ctrl x c)).sendFlit x 3 0 (slotsOf c.bytes)

/-- Send a held flit: as it was built, under the present control fields (R168). -/
def State.sendHeld (s : State) (x : Nat) (f : TxFlit) : State := s.sendFlit x (b2n f.secured) f.seq f.slots

/-- R166, R167, R175: build the next sequenced flit of a link: mc: the multicast copies that end in it. -/
def Link.build (l : Link) (now : Nat) (slots : List Slot) (mc : List Nat) : TxFlit :=
  let wire := match l.keys with
    | some k => if l.shared then gcmSeal k.txKey (gcmIv k.txSalt l.txCount) (4096 + l.txNext) slots else slots
    | none => slots
  { seq := l.txNext, starts := 0, time := now, mc := mc, secured := l.shared, slots := wire }

/-- Send a new sequenced flit and hold it (R166, R167). -/
def State.sendNew (s : State) (x : Nat) (slots : List Slot) (mc : List Nat) : State :=
  let l := s.link x
  let f := l.build s.now slots mc
  (s.setLink x { l with txNext := (l.txNext + 1) % 4096, txCount := l.txCount + 1, replay := l.replay ++ [f]
                        ackTime := if l.replay = [] then s.now else l.ackTime }).sendHeld x f

/-- R163: send a stream of slots as new flits. ends: the multicast stores whose copies end in the stream, each with the number of slots
up to its end. -/
def State.sendSlots (s : State) (x : Nat) (slots : List Slot) (ends : List (Nat × Nat)) : State :=
  let k := (s.link x).perFlit
  let fs := cutSlots k (slots.length + 1) slots
  (List.range fs.length).foldl (fun s i =>
    s.sendNew x (fs.getD i []) ((ends.filter (fun e => (e.1 - 1) / k = i)).map (fun e => e.2))) s

/-- The gate state of a Pier: bit c is class c's gate (R136). Every gate is open while Scheduled service is suspended
(R369). -/
def State.gateMask (s : State) (p : Nat) : Nat :=
  if bit (s.rg (pgSlice 4) Reg.Slice.TC_MODE) 8 then 255 else SMap.get (fun _ => 255) s.gates p

/-- The key of a class's gate of a Pier. -/
def gateKey (p c : Nat) : Nat := p * 8 + c

/-- A class's gate of a Pier. -/
def State.gate (s : State) (p c : Nat) : GateSt := SMap.get (fun _ => GateSt.init) s.glists (gateKey p c)

/-- R367: the entries as they run within one cycle: (open, length), the last holding to the cycle's end and what lies beyond
it cut. t: how much of the cycle is left. -/
def gateRuns (t : Nat) : List Nat → List (Bool × Nat)
  | [] => []
  | [e] => [(e.testBit 31, t)]
  | e :: r => let n := min (e % 2 ^ 30) t; (e.testBit 31, n) :: gateRuns (t - n) r

/-- R369: how long a gate stays open, t ns into a list of runs; none: to the end of them. -/
def openFor (t : Nat) : List (Bool × Nat) → Option Nat
  | [] => none
  | (o, k) :: r => if t < k then (if o then (openFor 0 r).map (fun n => n + (k - t)) else some 0) else openFor (t - k) r

/-- Two cycles of a list as they run. -/
def GateList.twice (l : GateList) : List (Bool × Nat) := gateRuns l.cycle l.entries ++ gateRuns l.cycle l.entries

/-- R369: in how many ns a class's gate of Pier p next closes, by its operational list and by the pending one that cuts it; none: never,
as while Scheduled service is suspended. -/
def State.gateCloses (s : State) (p c : Nat) : Option Nat :=
  let g := s.gate p c
  if bit (s.rg (pgSlice 4) Reg.Slice.TC_MODE) 8 then none
  else
    let a := match g.oper with
      | some l => openFor (((s.ns : Int) - l.base) % (l.cycle : Int)).toNat l.twice
      | none => none
    match g.pend with
    | none => a
    | some l => if a.any (fun k => decide (k < l.base - s.ns)) then a else (openFor 0 l.twice).map (fun n => n + (l.base - s.ns))

/-- R153: the flit time of a logical port, in hundredths of a ns. -/
def State.flitTime (s : State) (x : Nat) : Nat := match s.split (x / 4) with | 0 => 121 | 1 => 242 | _ => 484

/-- R369: is a class's gate of logical port x open, and will the last of n flits have left before it next closes? -/
def State.gateLets (s : State) (x c n : Nat) : Bool :=
  (s.gateMask (x / 4)).testBit c && (s.gateCloses (x / 4) c).all (fun k => decide (n * s.flitTime x ≤ 100 * k))

/-- R179, R374: a time-exchange message leaves logical port x: its transmit stamp joins the Pier's queue of 16. -/
def State.stampTx (s : State) (x : Nat) (m : Msg) : State :=
  match m with
  | .timeX t =>
    let q := SMap.get (fun _ => []) s.stamps (x / 4)
    if 16 ≤ q.length then s.bump (pgPier (x / 4)) Reg.Pier.STAMP_LOST_CNT
    else { s with stamps := SMap.set (fun _ => []) s.stamps (x / 4) (q ++ [{ time := s.ft, seq := t.seq.toNat, kind := t.kind, port := x % 4 }]) }
  | _ => s

/-- A message's slots as logical port x sends it. -/
def State.txSlots (s : State) (x : Nat) (m : Msg) : List Slot := m.wire (s.vcOf m.cls m.tc) s.node (s.link x).lineChecks

/-- R210: the body that a link message of a bulk transfer or reply is part of: its opcode, its Trestle (of replies there is one on a link) and
its TXID. -/
def Msg.body? (m : Msg) : Option (Nat × Nat × Nat) :=
  match m with
  | .bulk b => some (0x40, b.txid.toNat / 4096 % 4, b.txid.toNat)
  | .bulkRsp b => some (0x41, 0, b.txid.toNat)
  | .bulkPart rsp _ ss => let t := fld (ss.headD 0) 63 32; some (if rsp then (0x41, 0, t) else (0x40, t / 4096 % 4, t))
  | _ => none

/-- R210: no other body of the same Trestle is part sent on the link. -/
def Link.bodyFree (l : Link) (m : Msg) : Bool :=
  match m.body? with
  | some k => l.txChain.all (fun e => e = k || decide (¬(e.1 = k.1 ∧ e.2.1 = k.2.1)))
  | none => true

/-- R210: the bodies part sent once a link message has left. -/
def Link.bodySent (l : Link) (m : Msg) : List (Nat × Nat × Nat) :=
  match m.body? with
  | some k => l.txChain.filter (fun e => e ≠ k) ++ (match m with | .bulkPart _ _ _ => [k] | _ => [])
  | none => l.txChain

/-- May an egress item leave now, after slots still to be put in flits: its class is up, its gate open, and it has credit and replay
space, and it parts no body of a transfer (R136, R163, R164, R210)? -/
def State.canSend (s : State) (x : Nat) (e : Egress) (before : Nat) : Bool :=
  let l := s.link x
  let v := s.vcOf e.cls e.tc
  let n := (s.txSlots x e.msg).length
  s.portUp x e.cls && l.bodyFree e.msg && s.gateLets x e.tc (l.flitsFor (before + n)) &&
    decide (SMap.get (fun _ => 0) l.sent v - SMap.get (fun _ => 0) l.ret v + n ≤ 128) &&
    decide (l.replay.length + l.flitsFor (before + n) ≤ s.replayDepth x)

/-- R369: does a head of logical port x's egress queues wait for its gate or its guard? -/
def State.gateWaits (s : State) (x : Nat) : Bool :=
  let l := s.link x
  (List.range 32).any (fun k => (l.egress.find? (fun e => e.tc = k / 4 && e.cls = k % 4)).any (fun e =>
    s.portUp x e.cls && !s.gateLets x e.tc (l.flitsFor (s.txSlots x e.msg).length)))

/-- What is known outside of a message that leaves. -/
def State.leaves (s : State) (x : Nat) (m : Msg) : State :=
  match m with
  | .bulkPart _ _ _ => s
  | m => (s.stampTx x m).emit (.msg x m (if (s.link x).lineChecks then m.lchk else none))

/-- The credit that an egress item takes as it starts (R164). -/
def State.transmit (s : State) (x : Nat) (e : Egress) : State :=
  let l := s.link x
  let v := s.vcOf e.cls e.tc
  (s.setLink x { l with sent := SMap.set (fun _ => 0) l.sent v (SMap.get (fun _ => 0) l.sent v + (s.txSlots x e.msg).length)
                        txChain := l.bodySent e.msg }).leaves x e.msg

/-- Try the egress items in order; one that stays holds back the later ones of its queue. The slots of those that leave go out in
flits. -/
def State.pumpItems (x : Nat) : List Egress → List (Nat × Nat) → List Slot → List (Nat × Nat) → State → State
  | [], _, ss, ends, s => if ss = [] then s else s.sendSlots x ss ends
  | e :: es, blocked, ss, ends, s =>
    if !blocked.contains (e.tc, e.cls) && s.canSend x e ss.length then
      let ss' := ss ++ s.txSlots x e.msg
      State.pumpItems x es blocked ss' (ends ++ (e.mc.toList.map (fun k => (ss'.length, k)))) (s.transmit x e)
    else
      let l := s.link x
      State.pumpItems x es ((e.tc, e.cls) :: blocked) ss ends (s.setLink x { l with egress := l.egress ++ [e] })

/-- Send what logical port x may send. -/
def State.pump (s : State) (x : Nat) : State :=
  let l := s.link x
  State.pumpItems x l.egress [] [] [] (s.setLink x { l with egress := [] })

/-! ### The crossbar (R26, R27, R130, R136, R480) -/

/-- R480: the two Spans that a bridge below 6 joins. -/
def bridgeEnds (k : Nat) : Nat × Nat := [(0, 1), (0, 2), (0, 3), (1, 2), (1, 3), (2, 3)].getD k (0, 0)

/-- R480: the bridge between two Spans. -/
def bridgeOf (a b : Nat) : Nat := ((List.range 6).find? (fun k => bridgeEnds k = (min a b, max a b))).getD 0

/-- R480: is a bridge not fenced? -/
def State.bridgeOk (s : State) (k : Nat) : Bool := !bit (s.hub Reg.Flt.BRIDGE_STAT) k

/-- R27: the Spans through whose slices two bridges lead from one Span to another. -/
def State.detours (s : State) (a b : Nat) : List Nat :=
  (List.range 4).filter (fun c => c ≠ a && c ≠ b && s.bridgeOk (bridgeOf a c) && s.bridgeOk (bridgeOf c b))

/-- R480: do two Spans keep a path of at most two unfenced Span-Span bridges? -/
def State.joined (s : State) (a b : Nat) : Bool :=
  s.bridgeOk (bridgeOf a b) || !(s.detours a b).isEmpty

/-- R27: the slices that a cell passes from a Deck input to an output: the two ports', and where the direct bridge is fenced that of
another Span, the two in turn (DESIGN CHOICE: log entry 70); none: there is no way. -/
def State.cellPath (s : State) (i o : Nat) : Option (List Nat) :=
  let a := sliceOfPort i
  let b := sliceOfPort o
  if a = b then some [a]
  else if a = 4 ∨ b = 4 then (if s.bridgeOk (6 + min a b) then some [a, b] else none)
  else if s.bridgeOk (bridgeOf a b) then some [a, b]
  else
    let cs := s.detours a b
    (cs[(s.rg (pgSlice a) Reg.Slice.DETOUR_CELL_CNT).toNat % max 1 cs.length]?).map (fun c => [a, c, b])

/-- RATE of the egress shaper of Pier p and class c, in thousandths of a byte per ns (R136). -/
def State.shaperRate (s : State) (p c : Nat) : Nat := fld (s.rgi (pgPort (p / 3)) Reg.Port.SHAPER (8 * (p % 3) + c)) 31 12

/-- R136: the level of a shaper's bucket now, in thousandths of a byte. -/
def State.shaperLevel (s : State) (p c : Nat) : Int :=
  let (l, t) := SMap.get (fun _ => ((0 : Int), 0)) s.arb.tokens (8 * p + c)
  let burst := fld (s.rgi (pgPort (p / 3)) Reg.Port.SHAPER (8 * (p % 3) + c)) 11 0
  min ((burst * 256000 : Nat) : Int) (l + ((s.shaperRate p c * (s.now - t) : Nat) : Int))

/-- Set the level of a shaper's bucket. -/
def State.setShaper (s : State) (p c : Nat) (l : Int) : State :=
  { s with arb := { s.arb with tokens := SMap.set (fun _ => ((0 : Int), 0)) s.arb.tokens (8 * p + c) (l, s.now) } }

/-- R136: does the shaper of Pier p and class c let a cell pass? A Scheduled class ignores it, and RATE 0 disables it. -/
def State.shaperOk (s : State) (p c : Nat) : Bool := s.scheduled c || s.shaperRate p c = 0 || decide (0 ≤ s.shaperLevel p c)

/-- R27, R133, R136: may a cell of an item cross now: it has a way, no slice on it stands still, and its class's shaper lets it pass? -/
def State.mayCross (s : State) (v : VoqItem) : Bool :=
  match s.cellPath v.inp v.out with
  | some p => p.all (fun sl => SMap.get (fun _ => 0) s.arb.stall sl = 0) && (decide (288 ≤ v.dst) || s.shaperOk (v.dst / 4) v.tc)
  | none => false

/-- R27, R136, R148: n cells of k slots in all cross: each slice on the way counts them, a detour is counted, and the shaper of a Pier is
charged. -/
def State.crossed (s : State) (v : VoqItem) (n k : Nat) : State :=
  let path := (s.cellPath v.inp v.out).getD []
  let s := path.foldl (fun s sl => s.addN (pgSlice sl) Reg.Slice.CELL_CNT n) s
  let s := if 2 < path.length then s.addN (pgSlice (sliceOfPort v.inp)) Reg.Slice.DETOUR_CELL_CNT n else s
  if v.dst < 288 ∧ ¬s.scheduled v.tc ∧ s.shaperRate (v.dst / 4) v.tc ≠ 0 then
    s.setShaper (v.dst / 4) v.tc (s.shaperLevel (v.dst / 4) v.tc - ((16000 * k : Nat) : Int))
  else s

/-! ### Taking a message out of the queues -/

/-- The port on which a request arrived, if on a logical port. -/
def Origin.port? : Origin → Option Nat
  | .port p => some p.val
  | _ => none

/-- The logical port a request arrived on, 0x1FF for none. -/
def Req.arr (r : Req) : Nat := (r.origin.port?).getD 0x1FF

/-- Take the first VOQ item that holds a message. -/
def State.takeMsg (s : State) (m : Msg) : State :=
  match s.voqs.find? (fun v => v.msg = m && v.mc.isNone) with
  | some v => s.takeItem v
  | none => s

/-- The VOQ item of a message that arrived on logical port x, or of one like it from elsewhere; no copy of a multicast store. -/
def State.waiting (s : State) (x : Nat) (m : Msg) : Option VoqItem :=
  match s.voqs.find? (fun v => v.arr = x && v.msg = m && v.mc.isNone) with
  | some v => some v
  | none => s.voqs.find? (fun v => v.msg = m && v.mc.isNone)

/-- Is the item a link message of a bulk body that is not its last (R210)? -/
def VoqItem.isPart (v : VoqItem) : Bool := match v.msg with | .bulkPart _ _ _ => true | _ => false

/-- The queues without the link messages of a bulk body that stand before its last one, v. -/
def dropParts (v : VoqItem) : List VoqItem → List VoqItem
  | [] => []
  | w :: r => if w = v then w :: r else if w.isPart && w.sameQueue v && w.arr = v.arr then dropParts v r else w :: dropParts v r

/-- Take a message that arrived on logical port x out of its queue in the Deck, if it waits there; of a bulk body, all its link
messages. -/
def State.takeFrom (s : State) (x : Nat) (m : Msg) : State :=
  match s.waiting x m with
  | some v =>
    let mine := s.voqs.filter (fun w => w = v || (w.isPart && w.sameQueue v && w.arr = v.arr))
    (({ s with voqs := dropParts v s.voqs } : State).takeItem v).crossed v ((mine.map (fun w => w.cells - w.sent)).sum) ((mine.map (fun w => w.slots - 16 * w.sent)).sum)
  | none => s

/-! ### From a Deck input to a logical port -/

/-- R123: the cells in the egress queue of a Pier's traffic class and message class, those of a message that has begun to cross
among them. -/
def State.egressCells (s : State) (p tc cls : Nat) : Nat :=
  ((List.range 4).map (fun q => (((s.link (4 * p + q)).egress.filter (fun e => e.tc = tc && e.cls = cls)).map (fun e => e.cells)).sum)).sum +
  ((s.voqs.filter (fun v => v.dst < 288 && v.dst / 4 = p && v.tc = tc && v.cls = cls && decide (0 < v.sent))).map VoqItem.cells).sum

/-- R123: has the egress queue of logical port x's Pier room for n cells? The host port's link has no such queue. -/
def State.egressRoom (s : State) (x tc cls n : Nat) : Bool := x = 288 || decide (s.egressCells (x / 4) tc cls + n ≤ 8)

/-- Put a message that has crossed the Deck in the egress queue of logical port x. -/
def State.toEgress (s : State) (x cells : Nat) (m : Msg) (mc : Option Nat) : State :=
  if x = 288 then { s with host := { s.host with inbox := s.host.inbox ++ [m] } }
  else
    let l := s.link x
    (s.setLink x { l with egress := l.egress ++ [{ tc := m.tc, cls := m.cls, cells := cells, msg := m, mc := mc }] }).pump x

/-- The queue item of a link message from Deck input i to logical port x. -/
def State.outItem (s : State) (i x : Nat) (m : Msg) (mc : Option Nat) : VoqItem :=
  { inp := i, out := (if x = 288 then 52 else x / 12), tc := m.tc, cls := m.cls, arr := 0x1FF, dst := x, time := s.now, stuck := false, msg := m, mc := mc }

/-- A link message enters the Deck at input i for logical port x. Where nothing waits before it and the egress queue has room, it crosses
at once (DESIGN CHOICE: log entry 70); otherwise it waits in its VOQ. -/
def State.sendPart (s : State) (i x : Nat) (m : Msg) (mc : Option Nat) : State :=
  let v := s.outItem i x m mc
  if s.voqs.any (fun w => w.sameQueue v) || !s.egressRoom x m.tc m.cls v.cells || !s.mayCross v then s.pushVoq v
  else ((s.entered v).crossed v v.cells v.slots).toEgress x v.cells m mc

/-- A unit at Deck input i sends a message to logical port x: discarded if the port does not carry its class (R138, R169, R196). -/
def State.sendVia (s : State) (i x : Nat) (m : Msg) (mc : Option Nat) : State :=
  if !s.portUp x m.cls then s.emit (.drop m)
  else if x = 288 then s.sendPart i x m mc
  else m.parts.foldl (fun s p => s.sendPart i x p mc) s

/-- Hand a message that a unit brings to the Deck at port i to logical port x. -/
def State.sendFrom (s : State) (i x : Nat) (m : Msg) : State := s.sendVia i x m none

/-- The Deck input of a logical port (288 is the host port). -/
def inputOfPort (x : Nat) : Nat := if x = 288 then 52 else x / 12

/-- The ingress of logical port x sends a message back on it. -/
def State.send (s : State) (x : Nat) (m : Msg) : State := s.sendVia (inputOfPort x) x m none

end Sys2Proof.Machine
end

