-- ==== Sys2Proof/Machine/Region.lean ====
section
/-!
DEFINITION. Machine/Region.lean: the map and the checks a request passes (R53, R54, R61, R67, R384, R385, R389, R393), and
the records of a refusal (R86).
-/
namespace Sys2Proof.Machine

open Sys2Proof

/-- HASH_SEL (R57): fixed when fuses load. -/
def State.sel (s : State) : Nat := s.fuses.hashSel.toNat

/-- The number of a granule: local offset bits [47:21] (R54). -/
def granule (a : Nat) : Nat := a / 2 ^ 21

/-- The local offset of a request's line (R186). -/
def Req.addr (r : Req) : Nat := r.laddr.toNat * 64

/-- The fabric address of a request's line (R49, R86). -/
def Req.fabric (r : Req) : Nat := r.dnode.toNat * 2 ^ 48 + r.addr

/-- Is the entry enabled (R53)? -/
def RtEntry.enabled (e : RtEntry) : Bool := e.mode ≠ .disabled

/-- Does the entry's range hold the granule? -/
def RtEntry.holds (e : RtEntry) (g : Nat) : Bool := decide (e.base.toNat ≤ g) && decide (g ≤ e.limit.toNat)

/-- An entry of a map bank. -/
def MapBank.entry (m : MapBank) (i : Nat) : RtEntry := SMap.get (fun _ => RtEntry.none) m.rt i

/-- A range-check entry of a map bank. -/
def MapBank.range (m : MapBank) (i : Nat) : RctEntry := SMap.get (fun _ => RctEntry.none) m.rct i

/-- Write an entry of a map bank. -/
def MapBank.setEntry (m : MapBank) (i : Nat) (e : RtEntry) : MapBank := { m with rt := SMap.set (fun _ => RtEntry.none) m.rt i e }

/-- Write a range-check entry of a map bank. -/
def MapBank.setRange (m : MapBank) (i : Nat) (e : RctEntry) : MapBank :=
  { m with rct := SMap.set (fun _ => RctEntry.none) m.rct i e }

/-- R53: the enabled entry of a map that covers a granule, with its index. -/
def MapBank.covering (m : MapBank) (g : Nat) : Option (Nat × RtEntry) :=
  m.rt.find? (fun e => e.2.enabled && e.2.holds g)

/-- The enabled entry of the current map that covers a local offset. -/
def State.covers (s : State) (a : Nat) : Option (Nat × RtEntry) := s.reg.cur.covering (granule a)

/-- R86: COMP_ID of the entry of the current map that covers a local offset; 0 where none does. -/
def State.compAtLine (s : State) (a : Nat) : Nat :=
  match s.covers a with
  | some (_, e) => e.comp.val
  | none => 0

/-- R385: the map a request's epoch selects: the bank and its epoch, or the status of check 4. -/
def State.selectMap (s : State) (e : Nat) : Except Status (MapBank × Nat) :=
  if e = s.reg.epoch then .ok (s.reg.cur, s.reg.epoch)
  else if s.reg.draining ∧ e = (s.reg.epoch + 255) % 256 then .ok (s.reg.old, e)
  else if ¬s.reg.draining ∧ e = (s.reg.epoch + 1) % 256 then .error .busyRetry
  else .error .epochStale

/-- R389: is the granule revoked for the map of an epoch? -/
def State.revoked (s : State) (ep g : Nat) : Bool :=
  s.reg.revs.any (fun r => r.2.inForce && (r.2.all || r.2.epoch = ep) && decide (r.2.base ≤ g) && decide (g ≤ r.2.limit))

/-- R379: is the composition fenced? -/
def State.fenced (s : State) (c : Nat) : Bool := bit (s.rgb (pgOfHub Reg.Comp.COMP_CFG) Reg.Comp.COMP_CFG c) 0

/-- R391: does the membership entry of a Source name the composition? -/
def State.memberOf (s : State) (src : NodeId) (c : Nat) : Bool := SMap.get (fun _ => 0) s.reg.members src.toNat = 256 + c

/-- R393: is a request admitted for a fenced composition under a map? -/
def State.admitted (s : State) (m : MapBank) (c : Nat) (src : NodeId) (g : Nat) (op : ReqOp) : Bool :=
  s.memberOf src c &&
  m.rct.any (fun e => e.2.en && e.2.comp.val = c && decide (e.2.base.toNat ≤ g) && decide (g ≤ e.2.limit.toNat) &&
    (!e.2.readOnly || op = .rd || op = .rdS))

/-! ### Shared-Coherent geometry (R67) -/

/-- The first local offset of a region. -/
def RtEntry.first (e : RtEntry) : Nat := e.base.toNat * 2 ^ 21
/-- The size of a region. -/
def RtEntry.size (e : RtEntry) : Nat := (e.limit.toNat + 1 - e.base.toNat) * 2 ^ 21

/-- R67: does a local offset lie in the region's directory area? -/
def RtEntry.inDirectory (e : RtEntry) (a : Nat) : Bool := decide (e.first + e.size - e.size / 32 ≤ a)

/-- R67: the Bay-local offset of the directory entry of the line at local offset a. -/
def RtEntry.dirOffset (e : RtEntry) (a : Nat) : Nat :=
  let s0 := e.first / 4096 / 24
  let m := e.size / 98304
  let set := a / 4096 / 24
  (s0 + m - m / 32) * 4096 + 2 * ((set - s0) * 64 + a / 64 % 64)

/-! ### Checks 4 to 11 -/

/-- A refusal: status, cause (R86), and the COMP_ID recorded. -/
structure Refuse where
  status : Status
  cause : Nat
  comp : Nat
deriving DecidableEq, Repr

/-- What passing the checks gives: the entry's index, the entry, and the map's epoch. -/
structure Pass where
  idx : Nat
  ent : RtEntry
  epoch : Nat
deriving DecidableEq, Repr

/-- R61: is the opcode a cacheable request? -/
def ReqOp.cacheable : ReqOp → Bool
  | .rdS | .rdM | .own => true
  | _ => false

/-- R250: the check of a device unit's access that carries no Region Key, for composition c. -/
def State.checkKeyless (s : State) (c : CompId) (a : Nat) : Except Refuse Pass :=
  match s.covers a with
  | none => .error ⟨.unmapped, 0xB, 0⟩
  | some (i, e) =>
    if e.comp ≠ c then .error ⟨.unmapped, 0xB, e.comp.val⟩
    else if s.revoked s.reg.epoch (granule a) then .error ⟨.revoked, 0x9, e.comp.val⟩
    else .ok ⟨i, e, s.reg.epoch⟩

/-- Check 9 of R61. -/
def ownerCheck (r : Req) (e : RtEntry) : Option Refuse :=
  if e.mode ≠ .owned then none
  else if e.own = .held ∧ e.owner = r.src then none
  else if e.own = .offered ∧ (e.owner = r.src ∨ e.peer = r.src) then some ⟨.busyRetry, 0x3, e.comp.val⟩
  else some ⟨.keyFault, 0x2, e.comp.val⟩

/-- R83: is a port in the sweep set of Bay n? -/
def State.inSweep (s : State) (n : Nat) (o : Origin) : Bool :=
  match o.port? with
  | some p => (s.bay n).sweep.contains p
  | none => false

/-- R61: checks 4 to 11 at the home of Bay n. -/
def State.checkHome (s : State) (n : Nat) (r : Req) : Except Refuse Pass :=
  match r.keyless with
  | some c => s.checkKeyless c r.addr
  | none =>
    match s.selectMap r.epoch.toNat with
    | .error st => .error ⟨st, 0xA, s.compAtLine r.addr⟩
    | .ok (m, ep) =>
      let g := granule r.addr
      match m.covering g with
      | none => .error ⟨.unmapped, 0xB, 0⟩
      | some (i, e) =>
        if s.revoked ep g then .error ⟨.revoked, 0x9, e.comp.val⟩
        else if r.src ≠ s.node ∧ s.fenced e.comp.val ∧ ¬s.admitted m e.comp.val r.src g r.op then
          .error ⟨.rangeFault, 0x8, e.comp.val⟩
        else if r.key ≠ e.key then .error ⟨.keyFault, 0x1, e.comp.val⟩
        else match ownerCheck r e with
          | some f => .error f
          | none =>
            if e.mode = .shared ∧ e.inDirectory r.addr then .error ⟨.rangeFault, 0x4, e.comp.val⟩
            else if e.mode = .shared ∧ r.op.cacheable ∧ s.inSweep n r.origin then .error ⟨.busyRetry, 0x5, e.comp.val⟩
            else .ok ⟨i, e, ep⟩

/-- R86: record a refusal in FAULT_INFO and FAULT_ADDR of a page, unless one is recorded. -/
def State.recordFault (s : State) (pg : Nat) (info addr : RegSpec) (f : Refuse) (src : NodeId) (fa : Nat) : State :=
  s.recordFirst pg info addr 20
    (f.status.code * 2 ^ 28 + f.cause * 2 ^ 24 + 2 ^ 20 + src.toNat * 2 ^ 8 + f.comp % 256) (fa % 2 ^ 60)

/-- R86: record a refusal at the home of Bay n. -/
def State.homeFault (s : State) (n : Nat) (f : Refuse) (src : NodeId) (fa : Nat) : State :=
  s.recordFault (pgHome n) Reg.Home.FAULT_INFO Reg.Home.FAULT_ADDR f src fa

/-- R178: record a refusal at the ingress of Pier group g. -/
def State.ingressFault (s : State) (g : Nat) (f : Refuse) (src : NodeId) (fa : Nat) : State :=
  s.recordFault (pgPG g) Reg.PG.FAULT_INFO Reg.PG.FAULT_ADDR f src fa

/-! ### The tray map (R110, R111) -/

/-- TRAY_CFG.N. -/
def State.trayN (s : State) : Nat := fld (s.hub Reg.TMap.TRAY_CFG) 5 0

/-- The logical port and Bay of a tray slot. -/
def State.traySlot (s : State) (k : Nat) : Nat × Nat :=
  let v := s.rgi (pgOfHub Reg.TMap.TRAY_SLOT) Reg.TMap.TRAY_SLOT k
  (fld v 8 0, fld v 20 16)

/-- The tray slot of a tray-tier offset. -/
def State.slotOf (s : State) (a : Nat) : Nat := traySlotOf s.sel s.trayN a

/-- R50: what holds a local offset. -/
def State.place (s : State) (a : Nat) : Place := placeOf s.trayN a

/-- R50, R51: the Bay that homes a local offset, if a Bay does. -/
def State.homeBay (s : State) (a : Nat) : Option Nat :=
  match s.place a with
  | .stack => some (bayOf s.sel a)
  | .spindle n _ _ => some n
  | .loom n _ => some n
  | .tray => some (s.traySlot (s.slotOf a)).2
  | .mirror | .hole => none

end Sys2Proof.Machine
end

