-- ==== Sys2Proof/Machine/Unit.lean ====
section
/-!
DEFINITION. Machine/Unit.lean: the requests that device units submit at their Deck ports (R201, R250, R560), where a request
goes in the Deck (R50, R206), and what comes back.
-/
namespace Sys2Proof.Machine

open Sys2Proof

/-- No route. -/
def Route.none : Route := { en := false, tc := 0, tgrp := 0 }

/-- The route to a device (R206). -/
def State.route (s : State) (d : Nat) : Route := SMap.get (fun _ => Route.none) s.tr.routes d

/-- The multicast queue of an ingress, as an output of the Deck here (R201). -/
def outMc : Nat := 56

/-- The Span of a Deck input: of its Pier group, Bay or Trestle. The Hub's units use Trestle T0 (log entry 12). -/
def spanOfIn (j : Nat) : Nat :=
  let inp := j % 64
  if inp < 24 then inp / 6 else if inp < 48 then (inp - 24) / 6 else if inp < 52 then inp - 48 else 0

/-- Checks 1 and 2 of R61, and the Deck output a request leaves by. -/
def State.outPort (s : State) (inp : Nat) (r : Req) : Except Status Nat :=
  if r.op = .mcWr then .ok outMc
  else if r.dnode ≠ s.node then (if (s.route r.dnode.toNat).en then .ok (48 + spanOfIn inp) else .error .notHome)
  else match s.place r.addr with
    | .mirror => .ok 52
    | .hole => .error .unmapped
    | _ => match s.homeBay r.addr with
      | some n => .ok (24 + n)
      | none => .error .unmapped

/-- Is a Deck output up? Bays and Trestles; the Hub port and the multicast queues always are. -/
def State.outUp (s : State) (o : Nat) : Bool :=
  if 24 ≤ o ∧ o < 48 then
    s.bayUp (o - 24) && !s.adminDown o && !s.flushing.contains (.deck (Fin.ofNat 53 o)) && !s.testing.contains (o - 24)
  else if 48 ≤ o ∧ o < 53 then
    !s.spanFenced (o - 48) && !s.adminDown o && !s.flushing.contains (.deck (Fin.ofNat 53 o)) &&
      !(decide (o < 52) && bit (s.hub Reg.Flt.FOOT_STAT) 31)
  else true

/-- A completion of a request. -/
def Req.cmp (r : Req) (st : Status) (grant : Nat) (dw : Bool) (data : Option Line) : Cmp :=
  { tc := r.tc, tag := r.tag, status := st, grant := grant, dw := dw, data := data }

/-- A device unit's request (R250, R560): the device's Node ID, traffic class 0, COLOUR 3, the current epoch. -/
def State.unitReq (s : State) (op : ReqOp) (dnode : NodeId) (a : Nat) (key : Word) (keyless : Option CompId) : Req :=
  { op := op, origin := .unit s.unitNext, src := s.node, tag := 0, dnode := dnode, laddr := BitVec.ofNat 42 (a / 64), tc := 0,
    colour := 3, epoch := BitVec.ofNat 8 s.reg.epoch, key := key, mask := 0, opnd := 0, data := 0, deadline := s.ns + 4000000,
    keyless := keyless }

/-- R188: an 8 B value at an 8 B aligned address, as mask and data of its line. -/
def flagMask (a : Nat) : BitVec 64 := BitVec.ofNat 64 (255 * 2 ^ (a % 64))
/-- R188: the value in its place. -/
def flagData (a : Nat) (v : DWord) : Line := BitVec.ofNat 512 (v.toNat * 2 ^ (8 * (a % 64)))

/-- Put a message in a VOQ from a Deck input that is not a Pier group (R123, R124). -/
def State.enqueue (s : State) (inp out : Nat) (m : Msg) : State :=
  s.pushVoq { inp := inp, out := out, tc := m.tc, cls := m.cls, arr := 0x1FF, dst := 0x1FF, time := s.now, stuck := false, msg := m }

/-- A device unit submits a request at Deck port inp, for the purpose op; while that port is down it completes with PORT_DOWN. -/
def State.submit (s : State) (inp : Nat) (op : UnitOp) (r : Req) : State :=
  let r := { r with origin := .unit s.unitNext }
  let q : UnitReq := { id := s.unitNext, op := op, req := r }
  let s := { s with unitNext := s.unitNext + 1, unitReqs := s.unitReqs ++ [q] }
  if 24 ≤ inp ∧ !s.outUp inp then { s with unitDone := s.unitDone ++ [(s.unitNext - 1, r.cmp .portDown 0 false none)] }
  else match s.outPort inp r with
  | .error st => { s with unitDone := s.unitDone ++ [(s.unitNext - 1, r.cmp st 0 false none)] }
  | .ok o =>
    if s.outUp o then s.enqueue inp o (.req r)
    else { s with unitDone := s.unitDone ++ [(s.unitNext - 1, r.cmp .portDown 0 false none)] }

/-- A device unit's MC_WR of a line's bytes to a group: its KEY is the group's (R560) unless one is given. -/
def State.unitMc (s : State) (group a : Nat) (mask : BitVec 64) (data : Line) (key : Option Word) : Req :=
  let e := SMap.get (fun _ => McEntry.none) s.tr.mc group
  let r : Req := s.unitReq .mcWr (BitVec.ofNat 12 group) a (key.getD e.key) none
  { r with mask := mask, data := data }

end Sys2Proof.Machine
end

