-- ==== Sys2Proof/Machine/Loom.lean ====
section
/-!
DEFINITION. Machine/Loom.lean: a Bay's Loom: accumulator slots and windows (R223, R227, R243), reductions and their lines
(R229-R233), pushes and folds (R240), undeclared reduce-stores (R236) and atomics (R242).
-/
namespace Sys2Proof.Machine

open Sys2Proof

/-! ### Slots -/

/-- The key of slot k of Bay n's Loom. -/
def slotKey (n k : Nat) : Nat := n * 2 ^ 20 + k

/-- Slot k of Bay n, 320 bits. -/
def State.slot (s : State) (n k : Nat) : Nat := SMap.get (fun _ => 0) s.loom.slots (slotKey n k)

/-- Write slot k of Bay n; its residue is right again (R244). -/
def State.setSlot (s : State) (n k v : Nat) : State :=
  { s with loom := { s.loom with slots := SMap.set (fun _ => 0) s.loom.slots (slotKey n k) (v % 2 ^ 320)
                                 bad := NSet.erase (slotKey n k) s.loom.bad } }

/-- Is the residue of slot k of Bay n known to be wrong (R244)? -/
def State.badSlot (s : State) (n k : Nat) : Bool := NSet.has (slotKey n k) s.loom.bad

/-- The slots an element takes (R223). -/
def elemWidth (pair : Bool) : Nat := if pair then 2 else 1

/-- Read an element's slot or slot pair. -/
def State.acc (s : State) (n k : Nat) (pair : Bool) : Nat :=
  if pair then s.slot n k + s.slot n (k + 1) * 2 ^ 320 else s.slot n k

/-- Write an element's slot or slot pair. -/
def State.setAcc (s : State) (n k : Nat) (pair : Bool) (v : Nat) : State :=
  if pair then (s.setSlot n k (v % 2 ^ 320)).setSlot n (k + 1) (v / 2 ^ 320) else s.setSlot n k v

/-- R244: mark the residue of slot k wrong; count it and set the residue bit. -/
def State.residueError (s : State) (n k : Nat) : State :=
  let s := { s with loom := { s.loom with bad := NSet.insert (slotKey n k) s.loom.bad } }
  (((s.bump (pgLoom n) Reg.Loom.RES_ERR_CNT).binned (pgHub 0x24) Reg.Flt.RES_TBIN).setErr (pgLoom n) 12 0).raise (.critical 0xD (.loom n))

/-- R245: record the first fault of a Loom. -/
def State.loomFault (s : State) (n : Nat) (st : Status) (cause : Nat) (src : NodeId) (rid contrib : Nat) : State :=
  s.recordFirst (pgLoom n) Reg.Loom.LOOM_FAULT_INFO Reg.Loom.LOOM_FAULT_ID 31
    (2 ^ 31 + st.code * 2 ^ 27 + cause * 2 ^ 23 + src.toNat) (rid % 65536 * 65536 + contrib % 4096)

/-- R226: count saturated elements of Bay n and set the saturation bit. -/
def State.saturated (s : State) (n k : Nat) : State :=
  if k = 0 then s else (s.addN (pgLoom n) Reg.Loom.SAT_CNT k).setErr (pgLoom n) 11 0

/-! ### Windows (R227, R243) -/

/-- Byte w of Bay n's accumulator window. -/
def State.winByte (s : State) (n w : Nat) : Byte :=
  if w < 0x1770000 then BitVec.ofNat 8 (s.slot n (w / 40) >>> (8 * (w % 40))) else 0

/-- The line at window offset w. -/
def State.winLine (s : State) (n w : Nat) : Line := lineOfBytes ((List.range 64).map (fun i => s.winByte n (w + i)))

/-- Write byte w of Bay n's accumulator window. -/
def State.setWinByte (s : State) (n w : Nat) (b : Byte) : State :=
  if w < 0x1770000 then
    s.setSlot n (w / 40) (setFld (BitVec.ofNat 320 (s.slot n (w / 40))) (8 * (w % 40) + 7) (8 * (w % 40)) b.toNat).toNat
  else s

/-- R243: a masked write of a line of the window. -/
def State.winWrite (s : State) (n w : Nat) (mask : BitVec 64) (l : Line) : State :=
  (List.range 64).foldl (fun s i => if mask.toNat.testBit i then s.setWinByte n (w + i) (byteOf l i) else s) s

/-- R244: does any slot of the window line have a wrong residue? -/
def State.winBad (s : State) (n w : Nat) : Bool :=
  (List.range 3).any (fun i => decide (40 * (w / 40 + i) < w + 64) && s.badSlot n (w / 40 + i))

/-! ### Reductions -/

/-- A value slot count per line of SFMT. -/
def Reduce.elems (b : Reduce) : Nat := 64 / fmtSize b.sfmt
/-- The operation; SUM where the code is reserved, which no declaration holds. -/
def Reduce.rop (b : Reduce) : RedOp := (RedOp.ofCode b.op).getD .sum
/-- R223: does an element take a pair? -/
def Reduce.pair (b : Reduce) : Bool := usesPair b.rop b.sfmt
/-- R230: the value slots of a line. -/
def Reduce.values (b : Reduce) : Nat := b.elems * elemWidth b.pair
/-- R230: the slots of a line's group. -/
def Reduce.group (b : Reduce) : Nat := b.values + (b.count + 319) / 320
/-- R231: the first contributor index of a child device. -/
def Reduce.leaf (b : Reduce) : Nat := b.count - b.nchild
/-- R238: the divisor. -/
def Reduce.div (b : Reduce) : Nat := if b.divisor = 0 then b.count else b.divisor

/-- R16, R238: read a REDUCE body; none: a reserved encoding or a combination R221 does not allow. -/
def Reduce.parse (l : Line) : Option Reduce :=
  let f := fun o n => bytesAt l o n
  let g := fun o n k => bitsAt l o n k
  let b : Reduce :=
    { sfmt := f 1 1 % 16, dfmt := f 1 1 / 16, op := f 2 1 % 16, wrDest := (f 2 1).testBit 4, mcEn := (f 2 1).testBit 5
      up := (f 2 1).testBit 6, comp := f 3 1, rid := f 4 2, count := g 6 2 13, dest := g 8 8 48, lines := g 0x10 4 24
      mcGroup := g 0x14 2 12, nchild := f 0x16 1, slotBase := g 0x18 4 20, slotsPerBay := g 0x1C 4 20, stageBase := g 0x20 4 20
      parent := g 0x24 2 12, parentContrib := g 0x26 2 12, parentSlot := g 0x28 4 20, timeout := f 0x2C 2, divisor := f 0x30 4
      stageStride := g 0x34 4 20 }
  match RedOp.ofCode b.op with
  | none => none
  | some op =>
    if f 0 1 = 0 ∧ redCombo op b.sfmt b.dfmt ∧ 1 ≤ b.count ∧ b.count ≤ 4096 ∧ 1 ≤ b.lines ∧ b.nchild ≤ 16 ∧ b.nchild ≤ b.count ∧
       b.stageBase % 8 = 0 ∧ b.parentSlot % 8 = 0 ∧ 1 ≤ b.timeout ∧ b.stageStride % 8 = 0
    then some b else none

/-- The local offset of Bay n's block in set st (R52). -/
def blockOf (sel n st : Nat) : Nat := stackAddr sel n (st * 4096)

/-- How many lines of [lo, hi) lie in the block of Bay n in set st. -/
def linesIn (sel n st lo hi : Nat) : Nat :=
  let b := blockOf sel n st
  (min (b + 4096) hi - max b lo) / 64

/-- R230: how many destination lines Bay n homes. -/
def Reduce.need (b : Reduce) (sel n : Nat) : Nat :=
  let hi := b.dest + 64 * b.lines
  let s0 := b.dest / 4096 / 24
  let s1 := (hi - 1) / 4096 / 24
  if s0 = s1 then linesIn sel n s0 b.dest hi
  else linesIn sel n s0 b.dest hi + 64 * (s1 - s0 - 1) + linesIn sel n s1 b.dest hi

/-- Is the local offset a destination line? -/
def Reduce.inDest (b : Reduce) (a : Nat) : Bool := decide (b.dest ≤ a) && decide (a < b.dest + 64 * b.lines)

/-- R230: the place of a destination line among those its Bay homes, in ascending offset. -/
def Reduce.lineIdx (b : Reduce) (sel n a : Nat) : Nat :=
  let s0 := b.dest / 4096 / 24
  let st := a / 4096 / 24
  let inBlk := (a - max (blockOf sel n st) b.dest) / 64
  if st = s0 then inBlk else linesIn sel n s0 b.dest (b.dest + 64 * b.lines) + 64 * (st - s0 - 1) + inBlk

/-- The local offset of the i-th destination line that Bay n homes. -/
def Reduce.lineAt (b : Reduce) (sel n i : Nat) : Nat :=
  let s0 := b.dest / 4096 / 24
  let k0 := linesIn sel n s0 b.dest (b.dest + 64 * b.lines)
  if i < k0 then max (blockOf sel n s0) b.dest + 64 * i
  else blockOf sel n (s0 + 1 + (i - k0) / 64) + 64 * ((i - k0) % 64)

/-- The first slot of line i's group. -/
def Reduce.slotAt (b : Reduce) (i : Nat) : Nat := b.slotBase + i * b.group

/-- No entry. -/
def RedBay.gone : RedBay := { st := .gone, need := 0, doneLines := 0, reading := [], out := 0, pushes := 0, pushBad := none }

/-- A reduction's entry in Bay n's Loom. -/
def Red.bay (r : Red) (n : Nat) : RedBay := r.bays.getD n .gone

/-- R229: the state of a RID in Bay n's Loom: undeclared until the declaration is installed. -/
def Red.stAt (r : Red) (n : Nat) : RedState := if r.installed then (r.bay n).st else .gone

/-- Replace a reduction's entry in Bay n's Loom. -/
def Red.setBay (r : Red) (n : Nat) (b : RedBay) : Red := { r with bays := r.bays.set n b }

/-- The reduction of a RID that some Loom holds. -/
def State.red (s : State) (rid : Nat) : Option Red := s.loom.reds.find? (fun r => r.body.rid = rid)

/-- Replace the reduction of a RID. -/
def State.setRed (s : State) (r : Red) : State :=
  { s with loom := { s.loom with reds := s.loom.reds.map (fun q => if q.body.rid = r.body.rid then r else q) } }

/-- Replace one Loom's entry of a reduction. -/
def State.setRedBay (s : State) (rid n : Nat) (b : RedBay) : State :=
  match s.red rid with
  | some r => s.setRed (r.setBay n b)
  | none => s

/-- Is contributor c's presence bit set for line i (R230)? -/
def State.present (s : State) (b : Reduce) (n i c : Nat) : Bool :=
  (s.slot n (b.slotAt i + b.values + c / 320)).testBit (c % 320)

/-- Set contributor c's presence bit for line i. -/
def State.setPresent (s : State) (b : Reduce) (n i c : Nat) : State :=
  let k := b.slotAt i + b.values + c / 320
  s.setSlot n k (s.slot n k ||| 2 ^ (c % 320))

/-- The contributors present for line i. -/
def State.presence (s : State) (b : Reduce) (n i : Nat) : Nat :=
  ((List.range b.count).filter (fun c => s.present b n i c)).length

/-- R233: an entry leaves OPEN for FAILED with a status, at Bay n. -/
def State.failRedBay (s : State) (rid n : Nat) (st : Status) : State :=
  match s.red rid with
  | none => s
  | some r =>
    let e := r.bay n
    if e.st = .opened then
      (s.setRed ({ r with fails := r.fails ++ [(n, st)] }.setBay n { e with st := .failed st })).bump (pgLoom n) Reg.Loom.RED_FAIL_CNT
    else s

/-- R233: an entry whose lines and requests are all done becomes DONE. -/
def State.checkRedDone (s : State) (rid n : Nat) : State :=
  match s.red rid with
  | none => s
  | some r =>
    let e := r.bay n
    if e.st = .opened ∧ e.doneLines = e.need ∧ e.out = 0 then
      (s.setRed (r.setBay n { e with st := .done })).bump (pgLoom n) Reg.Loom.RED_DONE_CNT
    else s

/-- One more unit request of an entry is outstanding. -/
def State.redOut (s : State) (rid n : Nat) : State :=
  match s.red rid with
  | some r => s.setRed (r.setBay n { r.bay n with out := (r.bay n).out + 1 })
  | none => s

/-! ### A completed line (R232) -/

/-- The bytes, masks and lines of a result of n bytes at local offset a: whole lines, or one masked line. -/
def resultLines (a : Nat) (bs : List Byte) : List (Nat × BitVec 64 × Line) :=
  if 64 ≤ bs.length then
    (List.range (bs.length / 64)).map (fun i => (a + 64 * i, BitVec.allOnes 64, lineOfBytes ((bs.drop (64 * i)).take 64)))
  else
    [(a / 64 * 64, BitVec.ofNat 64 ((2 ^ bs.length - 1) * 2 ^ (a % 64)), BitVec.ofNat 512 (leNat bs * 2 ^ (8 * (a % 64))))]

/-- R232: send one piece of a result: its write, or with WR_DEST 0 its multicast. -/
def State.sendResult (s : State) (b : Reduce) (n : Nat) (p : Nat × BitVec 64 × Line) : State :=
  if b.wrDest then
    let r := s.unitReq (if p.2.1 = BitVec.allOnes 64 then .wr else .wrP) s.node p.1 0 (some (Fin.ofNat 256 b.comp))
    (s.submit (24 + n) (.redWrite b.rid n) { r with mask := p.2.1, data := p.2.2 }).redOut b.rid n
  else if b.mcEn then
    (s.submit (24 + n) (.redMc b.rid n) (s.unitMc b.mcGroup p.1 p.2.1 p.2.2 none)).redOut b.rid n
  else s

/-- R225: the rounded elements of line i. -/
def State.roundLine (s : State) (b : Reduce) (n i : Nat) : List Elem :=
  (List.range b.elems).map (fun j => roundSlot b.rop b.sfmt b.dfmt b.div (s.acc n (b.slotAt i + j * elemWidth b.pair) b.pair))

/-- R225: how many of line i's slots have OVF set. -/
def State.ovfLine (s : State) (b : Reduce) (n i : Nat) : Nat :=
  ((List.range b.elems).filter (fun j => slotOvf b.rop b.sfmt (s.acc n (b.slotAt i + j * elemWidth b.pair) b.pair))).length

/-- R240 step 1: the bytes a Bay pushes: its value slots, line group by line group. -/
def State.pushBytes (s : State) (b : Reduce) (n need : Nat) : List Byte :=
  (List.range need).flatMap (fun i => (List.range b.values).flatMap (fun j => leBytes 40 (s.slot n (b.slotAt i + j))))

/-- Cut a byte string at local offset a into the lines it meets. -/
def cutLines : Nat → Nat → List Byte → List (Nat × BitVec 64 × Line)
  | 0, _, _ => []
  | k + 1, a, bs =>
    let t := bs.take (64 - a % 64)
    if t = [] then [] else
      (a / 64 * 64, BitVec.ofNat 64 ((2 ^ t.length - 1) * 2 ^ (a % 64)), BitVec.ofNat 512 (leNat t * 2 ^ (8 * (a % 64)))) ::
        cutLines k (a + t.length) (bs.drop (64 - a % 64))

/-- The local offset of Bay n's accumulator window. -/
def winBase (n : Nat) : Nat := 0x020040000000 + n * 0x2000000

/-- R240: the staging header. -/
def Reduce.header (b : Reduce) (sel need : Nat) : Line :=
  BitVec.ofNat 512 (b.rid + b.parentContrib * 2 ^ 16 + need * 2 ^ 32 + (b.op * 16 + b.sfmt) * 2 ^ 64 + sel * 2 ^ 72)

/-- R240: Bay n writes its value slots to its parent. The manual names no Region Key for these requests: it is a free value
(log entry 13). -/
def State.startPush (s : State) (rid n : Nat) : State :=
  match s.red rid with
  | none => s
  | some r =>
    let b := r.body
    let e := r.bay n
    let (k, s) := s.fresh
    let key : Word := BitVec.ofNat 32 k.toNat
    let a0 := winBase n + 40 * (b.parentSlot + 2)
    let bs := s.pushBytes b n e.need
    let s := s.setRed (r.setBay n { e with pushes := e.pushes + 1, pushBad := none })
    (cutLines (bs.length / 64 + 2) a0 bs).foldl (fun s p =>
      let q := s.unitReq (if p.2.1 = BitVec.allOnes 64 then .wr else .wrP) (BitVec.ofNat 12 b.parent) p.1 key none
      (s.submit (24 + n) (.push rid n) { q with mask := p.2.1, data := p.2.2 }).redOut rid n) s

/-- R240 step 2: the Capstone store that ends a push. -/
def State.pushHeader (s : State) (rid n : Nat) : State :=
  match s.red rid with
  | none => s
  | some r =>
    let b := r.body
    let (k, s) := s.fresh
    let q := s.unitReq .capWr (BitVec.ofNat 12 b.parent) (winBase n + 40 * b.parentSlot) (BitVec.ofNat 32 k.toNat) none
    (s.submit (24 + n) (.pushCap rid n) { q with mask := 0xFFFF, data := b.header s.sel (r.bay n).need }).redOut rid n

/-- R238: the slots that a reduction holds in each Loom: first and first after. -/
def Reduce.ranges (b : Reduce) : List (Nat × Nat) :=
  [(b.slotBase, b.slotBase + b.slotsPerBay), (b.stageBase, b.stageBase + b.nchild * b.stageStride)].filter (fun r => decide (r.1 < r.2))

/-- R244: the reduction that holds slot k of Bay n fails with INTEGRITY. -/
def State.residueFails (s : State) (n k : Nat) : State :=
  (s.loom.reds.filter (fun r => r.stAt n = .opened && r.body.ranges.any (fun x => decide (x.1 ≤ k) && decide (k < x.2)))).foldl
    (fun s r => (s.loomFault n .integrity 0x8 0 r.body.rid 0).failRedBay r.body.rid n .integrity) s

/-- R244: a residue mismatch at slot k of Bay n, and what it does to a reduction that holds the slot. -/
def State.mismatch (s : State) (n k : Nat) : State := (s.residueError n k).residueFails n k

/-- R232: line i of Bay n has its COUNT contributors; lost: a slot that is read for it fails its residue check. -/
def State.lineComplete (s : State) (rid n i : Nat) (lost : Bool) : State :=
  match s.red rid with
  | none => s
  | some r =>
    let b := r.body
    let e := r.bay n
    let s := (s.setRed (r.setBay n { e with doneLines := e.doneLines + 1 })).bump (pgLoom n) Reg.Loom.LINE_DONE_CNT
    if b.up then (if e.doneLines + 1 ≠ e.need then s else if lost then s.mismatch n (b.slotAt i) else s.startPush rid n)
    else if lost then s.mismatch n (b.slotAt i)
    else
      let es := s.roundLine b n i
      let s := s.addN (pgLoom n) Reg.Loom.OVF_CNT (s.ovfLine b n i)
      let s := s.saturated n (es.filter (fun x => x.2)).length
      let sz := fmtSize b.dfmt
      let a := b.dest + (b.lineAt s.sel n i - b.dest) / 64 * (b.elems * sz)
      let s := (resultLines a (es.flatMap (fun x => leBytes sz x.1))).foldl (fun s p => s.sendResult b n p) s
      s.checkRedDone rid n

/-- R231, R224: add a contribution's elements to line i. -/
def State.addLine (s : State) (b : Reduce) (n i : Nat) (d : Line) : State :=
  (List.range b.elems).foldl (fun s j =>
    let k := b.slotAt i + j * elemWidth b.pair
    s.setAcc n k b.pair (slotAdd b.rop b.sfmt (s.acc n k b.pair) (bytesAt d (j * fmtSize b.sfmt) (fmtSize b.sfmt)))) s

/-- R231: the reading of the poison mark of line i of Bay n, on the line at Bay-local offset o: taken at the line's first contribution, and
kept. True: poisoned. -/
def State.redReading (s : State) (red : Red) (n i o : Nat) : Bool × State :=
  let e := red.bay n
  let rd := SMap.get (fun _ => 0) e.reading i
  let now := if rd = 0 then (if s.poisoned n o then 2 else 1) else rd
  (decide (now = 2), s.setRed (red.setBay n { e with reading := SMap.set (fun _ => 0) e.reading i now }))

/-- R231: a declared reduce-store at Bay n's Loom, on the line at local offset a (Bay-local o). -/
def State.redStore (s : State) (n a o : Nat) (r : Req) (residue : Mismatch) : Status × State :=
  let rid := fld r.opnd 15 0
  let c := fld r.opnd 27 16
  let pg := pgLoom n
  match s.red rid with
  | none => (.busyRetry, (s.bump pg Reg.Loom.RID_MISS_CNT).loomFault n .busyRetry 0x1 r.src rid c)
  | some red =>
    let b := red.body
    let e := red.bay n
    if ¬red.installed ∨ e.st = .gone then (.busyRetry, (s.bump pg Reg.Loom.RID_MISS_CNT).loomFault n .busyRetry 0x1 r.src rid c)
    else match e.st with
      | .failed _ => (.timeout, s.loomFault n .timeout 0x2 r.src rid c)
      | .done => (.ok, s.bump pg Reg.Loom.RSD_DUP_CNT)
      | _ =>
        if b.leaf ≤ c then (.unmapped, s.loomFault n .unmapped 0x3 r.src rid c)
        else if ¬b.inDest a then (.unmapped, s.loomFault n .unmapped 0x4 r.src rid c)
        else
          let i := b.lineIdx s.sel n a
          let (poison, s) := s.redReading red n i o
          if poison then (.poison, s.loomFault n .poison 0x5 r.src rid c)
          else if s.present b n i c then (.ok, s.bump pg Reg.Loom.RSD_DUP_CNT)
          else if residue = .add then (.integrity, s.mismatch n (b.slotAt i))
          else
            let s := ((s.addLine b n i r.data).setPresent b n i c).bump pg Reg.Loom.RSD_ADD_CNT
            if s.presence b n i = b.count then (.ok, s.lineComplete rid n i (residue = .read)) else (.ok, s)

/-! ### Folds (R240) -/

/-- R231, R240: fold one line of a staging area that starts at slot st: nothing is folded into a line that was poisoned at its first
contribution (DEDUCED: log entry 82). -/
def State.foldLine (s : State) (b : Reduce) (rid n st c i : Nat) (src : NodeId) (lost : Bool) : State :=
  let (poison, s) := match s.red rid with
    | some r => s.redReading r n i (bayOff (b.lineAt s.sel n i))
    | none => (false, s)
  if poison then s.loomFault n .poison 0x5 src rid c
  else if s.present b n i c then s
  else
    let w := elemWidth b.pair
    let s := (List.range b.elems).foldl (fun s j =>
      let k := b.slotAt i + j * w
      s.setAcc n k b.pair (slotFold b.rop b.sfmt (s.acc n k b.pair) (s.acc n (st + 2 + i * b.values + j * w) b.pair))) s
    let s := s.setPresent b n i c
    if s.presence b n i = b.count then s.lineComplete rid n i lost else s

/-- R240: is window offset w of Bay n the first line of a staging area of a reduction that its Loom holds? -/
def State.stagingAt (s : State) (n w : Nat) : Bool :=
  let k := w / 40
  decide (w % 320 = 0) && s.loom.reds.any (fun r => r.stAt n ≠ .gone && decide (r.body.stageBase ≤ k) &&
    decide (k < r.body.stageBase + r.body.nchild * r.body.stageStride) && (k - r.body.stageBase) % r.body.stageStride = 0)

/-- R240: a Capstone store to window offset w of Bay n has been applied: check and fold, if that is a staging area's first line. residue:
what the fold meets (R244). -/
def State.tryFold (s : State) (n w : Nat) (src : NodeId) (l : Line) (residue : Mismatch) : State :=
  let rid := bytesAt l 0 2
  let c := bytesAt l 2 2 % 4096
  let k := w / 40
  if !s.stagingAt n w then s
  else
    let reject := fun (s : State) => (s.bump (pgLoom n) Reg.Loom.FOLD_REJECT_CNT).loomFault n .ok 0x7 src rid c
    match s.red rid with
    | none => reject s
    | some r =>
      let b := r.body
      let e := r.bay n
      if r.stAt n = .opened ∧ b.leaf ≤ c ∧ c < b.count ∧ k = b.stageBase + (c - b.leaf) * b.stageStride ∧
         bytesAt l 4 4 = e.need ∧ bytesAt l 8 1 = b.op * 16 + b.sfmt ∧ bytesAt l 9 1 = s.sel then
        (if residue = .add then s.mismatch n (b.slotAt 0)
        else ((List.range e.need).foldl (fun s i => s.foldLine b rid n k c i src (residue = .read)) s).bump (pgLoom n) Reg.Loom.FOLD_CNT)
      else reject s

/-! ### Undeclared reduce-stores and atomics -/

/-- R236: apply an RS_U to a stored line. -/
def rsuLine (op : RedOp) (c : Nat) (old new : Line) : Line × Nat :=
  let sz := fmtSize c
  let es := (List.range (64 / sz)).map (fun j => redElem op c (bytesAt old (j * sz) sz) (bytesAt new (j * sz) sz))
  (lineOfBytes (es.flatMap (fun x => leBytes sz x.1)), (es.filter (fun x => x.2)).length)

/-- R193: an ATOM's fields: AOP, FMT, size in bytes, offset. -/
def atomFields (opnd : Word) : Nat × Nat × Nat × Nat := (fld opnd 11 8, fld opnd 15 12, 4 * 2 ^ fld opnd 7 6, fld opnd 5 0)

/-- R242: an atomic on a stored line: the new line and the prior value in its place (R193). -/
def atomLine (r : Req) (old : Line) : Line × Line :=
  let (aop, fmt, size, off) := atomFields r.opnd
  let prior := bytesAt old off size
  let x := bytesAt r.data 0 size
  let cmp := bytesAt r.data size size
  let new := atomResult ((AtomOp.ofCode aop).getD .swap) fmt size prior x cmp
  (setFld old (8 * (off + size) - 1) (8 * off) new, BitVec.ofNat 512 (prior * 2 ^ (8 * off)))

/-- R243: XADD on window offset w of Bay n: the prior accumulator, rounded, or none where no slot starts there. -/
def State.xadd (s : State) (n w : Nat) (r : Req) (residue : Mismatch) : Status × Line × State :=
  let (_, fmt, _, off) := atomFields r.opnd
  let pair := fmt = 0
  let at_ := w + off
  let step := if pair then 80 else 40
  if at_ % step ≠ 0 ∨ 0x1770000 ≤ at_ then (.unmapped, 0, s.loomFault n .unmapped 0x6 r.src 0 0)
  else
    let k := at_ / 40
    if s.badSlot n k ∨ (pair ∧ s.badSlot n (k + 1)) then (.integrity, 0, s.loomFault n .integrity 0x8 r.src 0 0)
    else if residue ≠ .none then (.integrity, 0, ((s.residueError n k).loomFault n .integrity 0x8 r.src 0 0).residueFails n k)
    else
      let raw := s.acc n k pair
      let p := roundSlot .sum fmt fmt 1 raw
      let s := if slotOvf .sum fmt raw then s.bump (pgLoom n) Reg.Loom.OVF_CNT else s
      let s := s.saturated n (b2n p.2)
      let s := s.setAcc n k pair (slotAdd .sum fmt raw (bytesAt r.data 0 (fmtSize fmt)))
      let s := (s.bump (pgLoom n) Reg.Loom.ATOM_CNT).bump (pgLoom n) Reg.Loom.XADD_CNT
      (.ok, BitVec.ofNat 512 p.1, s)

/-- R243, R244: a write of window line w that a residue check may find wrong. -/
def State.winStore (s : State) (n w : Nat) (mask : BitVec 64) (r : Req) (residue : Mismatch) : Status × Option Line × State :=
  let s := s.winWrite n w mask r.data
  if residue = .none then (.ok, none, s) else (.integrity, none, (s.mismatch n (w / 40)).loomFault n .integrity 0x8 r.src 0 0)

/-- R243: a request to line w of Bay n's accumulator window: status, data returned, state. An access other than WR and WR_P to a slot
whose residue is wrong is not performed (R244). -/
def State.winAccess (s : State) (n w : Nat) (r : Req) (residue : Mismatch) : Status × Option Line × State :=
  let bad := fun (s : State) => (Status.integrity, (none : Option Line), s.loomFault n .integrity 0x8 r.src 0 0)
  match r.op with
  | .rd =>
    if s.winBad n w then bad s
    else if residue ≠ .none then bad (s.mismatch n (w / 40))
    else (.ok, some (s.winLine n w), s)
  | .wr => s.winStore n w (BitVec.allOnes 64) r residue
  | .wrP => s.winStore n w r.mask r residue
  | .capWr =>
    if s.winBad n w then bad s
    else if s.stagingAt n w then
      let s := s.winWrite n w r.mask r.data
      (.ok, none, s.tryFold n w r.src (s.winLine n w) residue)
    else s.winStore n w r.mask r residue
  | .atom =>
    if (atomFields r.opnd).1 = 1 then
      let (st, d, s) := s.xadd n w r residue
      (st, if st = .ok then some d else none, s)
    else (.unmapped, none, s.loomFault n .unmapped 0x6 r.src 0 0)
  | _ => (.unmapped, none, s.loomFault n .unmapped 0x6 r.src 0 0)

end Sys2Proof.Machine
end

