-- ==== Sys2Proof/Machine/Complete.lean ====
section
/-!
DEFINITION. Machine/Complete.lean: completing a request (R62, R79, R189, R196, R210): the answer goes where the request came
from, and the Capstone stores that wait for it hear of it. Also the outbound tracker's entries (R114).
-/
namespace Sys2Proof.Machine

open Sys2Proof

/-- R79: is the request one of those a Capstone store waits for? -/
def ReqOp.stores : ReqOp → Bool
  | .wr | .wrP | .atom | .rsD | .rsU => true
  | _ => false

/-- Give the first waiting request of a tag its status. -/
def markTag (tag : BitVec 12) (st : Status) : List (BitVec 12 × Option Status) → List (BitVec 12 × Option Status)
  | [] => []
  | (t, o) :: r => if t = tag ∧ o = none then (t, some st) :: r else (t, o) :: markTag tag st r

/-- R307: the requests that a FENCE launch waits for, one of which has completed. -/
def markWait (p : Nat) (src : NodeId) (tag : BitVec 12) (st : Status) :
    List (Nat × NodeId × BitVec 12 × Option Status) → List (Nat × NodeId × BitVec 12 × Option Status)
  | [] => []
  | w :: r => if w = (p, src, tag, none) then (p, src, tag, some st) :: r else w :: markWait p src tag st r

/-- R79, R307: a request of a Source on a logical port has completed: the windows and holds that list it, and the launches that
wait for it, learn its status. -/
def State.markCap (s : State) (p : Nat) (r : Req) (st : Status) : State :=
  if r.op.stores then
    { s with
      capWins := s.capWins.map (fun w => if w.port = p ∧ w.src = r.src then { w with reqs := markTag r.tag st w.reqs } else w)
      capHolds := s.capHolds.map (fun h =>
        if h.req.origin.port? = some p ∧ h.req.src = r.src then { h with waits := markTag r.tag st h.waits } else h)
      sp := { s.sp with launches := s.sp.launches.map (fun (l : Launch) => { l with waits := markWait p r.src r.tag st l.waits }) } }
  else s

/-- R214: a replayed record's answer. -/
def State.recAnswer (s : State) (span xfer rec : Nat) (a : RecAns) : State :=
  { s with tr := { s.tr with rx := s.tr.rx.map (fun x =>
      if x.span = span ∧ x.id = xfer then { x with answers := x.answers.set rec (some a) } else x) } }

/-- R249: one line of a row transaction has been answered. -/
def State.rowAnswer (s : State) (id i : Nat) (st : Status) (l : Line) : State :=
  { s with hed := { s.hed with ops := s.hed.ops.map (fun o =>
      if o.id = id then { o with got := SMap.set (fun _ => none) o.got i (some (st, l)) } else o) } }

/-- R142: a message fails the end-to-end check at Deck output o: DP_ERR_CNT and the data-path bit of ERR_STAT. -/
def State.dpError (s : State) (o : Nat) : State := (s.bump (pgPort o) Reg.Port.DP_ERR_CNT).setErr (pgPort o) 8 0

/-- R142: a cell from Deck input i fails the check of its routing tag: TAG_ERR_CNT of the slice that it enters, and its data-path bit. -/
def State.tagError (s : State) (i : Nat) : State :=
  (s.bump (pgSlice (sliceOfPort i)) Reg.Slice.TAG_ERR_CNT).setErr (pgSlice (sliceOfPort i)) 8 0

/-- R142: the completion of a request of logical port p will meet an error in the Deck; an error that no code shows changes nothing
(log entry 79). -/
def State.mar (s : State) (r : Req) (e : Option PathErr) : State :=
  match r.origin, e with
  | .port p, some e =>
    if e.seen then
      { s with marred := s.marred.filter (fun m => ¬(m.1 = p.val ∧ m.2.1 = r.tag)) ++ [(p.val, r.tag, match e with | .tag _ _ => true | .beat _ _ => false)] }
    else s
  | _, _ => s

/-- R142, R196: the completion of a request of logical port p leaves Deck input i. One whose beats fail carries INTEGRITY and no data; one
whose cell fails is lost. -/
def State.complete (s : State) (i p : Nat) (tag : BitVec 12) (c bad : Cmp) : State :=
  match s.marred.find? (fun m => m.1 = p && m.2.1 = tag) with
  | some m =>
    let s := { s with marred := s.marred.erase m }
    if m.2.2 then s.tagError i else (s.dpError (inputOfPort p)).sendFrom i p (.cmp bad)
  | none => s.sendFrom i p (.cmp c)

/-- R196: answer a request from Deck input i. -/
def State.answerAt (s : State) (i : Nat) (r : Req) (st : Status) (grant : Nat) (dw : Bool) (data : Option Line) : State :=
  match r.origin with
  | .port p => (s.markCap p.val r st).complete i p.val r.tag (r.cmp st grant dw data) (r.cmp .integrity 0 false none)
  | .unit id => { s.admitAt i r.tc.toNat (if data.isSome then 5 else 1) with unitDone := s.unitDone ++ [(id, r.cmp st grant dw data)] }
  | .row id i => s.rowAnswer id i st (data.getD 0)
  | .trestle sp x k =>
    (s.admitAt i r.tc.toNat (if data.isSome then 5 else 1)).recAnswer sp.val x k
      { status := st, grant := grant, dw := dw, lchk := data.map (fun d => BitVec.ofNat 16 (lineCheck (lineBytes d))), data := data }

/-- The Deck input of the ingress that a request entered by; of a request of a unit, none (56). -/
def Req.ingress (r : Req) : Nat := match r.origin with | .port p => inputOfPort p.val | _ => 56

/-- R196: answer a request at the ingress that it entered by. -/
def State.answer (s : State) (r : Req) (st : Status) (grant : Nat) (dw : Bool) (data : Option Line) : State :=
  s.answerAt r.ingress r st grant dw data

/-- Answer a request with a refusal. -/
def State.refuse (s : State) (r : Req) (st : Status) : State := s.answer r st 0 false none

/-- Answer a request with a refusal from Deck input i. -/
def State.refuseAt (s : State) (i : Nat) (r : Req) (st : Status) : State := s.answerAt i r st 0 false none

/-- A completion that the home of Bay n sends (R85). The lines of a row transaction are no requests of their own. -/
def State.homeAnswer (s : State) (n : Nat) (r : Req) (st : Status) (grant : Nat) (dw : Bool) (data : Option Line) : State :=
  match r.origin with
  | .row _ _ => s.answer r st grant dw data
  | _ => (s.bumpI (pgHome n) Reg.Home.STATUS_CNT st.code).answerAt (24 + n) r st grant dw data

/-- A refusal that the home of Bay n sends and records (R61, R86). -/
def State.homeRefuse (s : State) (n : Nat) (r : Req) (f : Refuse) : State :=
  (s.homeFault n f r.src r.fabric).homeAnswer n r f.status 0 false none

/-! ### The outbound tracker (R114) -/

/-- The entries a Bay's tray engine holds: one for each line of a tray that a request, a row or a scrub is about. -/
def State.obTray (s : State) (n : Nat) : Nat :=
  (s.tray.txns.filter (fun t => t.bay = n ∧ ¬t.late ∧ t.phase ≠ .row ∧ t.phase ≠ .rowHold)).length

/-- The entries a Span's Trestle holds: requests of its flows, records of multicast stores, and records in replay. -/
def State.obTrestle (s : State) (sp : Nat) : Nat :=
  ((s.tr.xfers.filter (fun x => x.span = sp)).map (fun x => (x.recs.map (fun r => r.reqs.length + b2n r.mc.isSome)).sum)).sum +
  ((s.tr.rx.filter (fun x => x.span = sp)).map (fun x => ((x.answers.take x.next).filter (fun a => a.isNone)).length)).sum +
  (s.tr.held.filter (fun h => h.span = sp)).length + (s.tr.caps.filter (fun c => c.span = sp)).length

/-- The entries in use in a Span (OB_STAT). -/
def State.obUsed (s : State) (sp : Nat) : Nat :=
  s.obTrestle sp + ((List.range 6).map (fun j => s.obTray (6 * sp + j))).sum

/-- The shared entries that a holder of u entries with a guarantee of g takes. -/
def beyond (u g : Nat) : Nat := u - g

/-- Are there k entries for a requester that holds u and is guaranteed g: of its guarantee first and of the shared pool second, and never
more than 8,192 in all? -/
def State.obRoom (s : State) (sp u g k : Nat) : Bool :=
  let c := s.rg (pgOB sp) Reg.OB.OB_CFG
  let tmin := fld c 11 0
  let rmin := fld c 27 16
  let shared := beyond (s.obTrestle sp) rmin + ((List.range 6).map (fun j => beyond (s.obTray (6 * sp + j)) tmin)).sum
  decide (s.obUsed sp + k ≤ 8192) && (decide (u + k ≤ g) || decide (shared + (u + k - max u g) ≤ 8192 - 6 * tmin - rmin))

/-- May Bay n's tray engine take k entries? -/
def State.trayRoom (s : State) (n k : Nat) : Bool :=
  s.obRoom (n / 6) (s.obTray n) (fld (s.rg (pgOB (n / 6)) Reg.OB.OB_CFG) 11 0) k

/-- May a Span's Trestle take k entries? -/
def State.trestleRoom (s : State) (sp k : Nat) : Bool :=
  s.obRoom sp (s.obTrestle sp) (fld (s.rg (pgOB sp) Reg.OB.OB_CFG) 27 16) k

/-- R115: k entries have been taken: count them and keep the high-water mark. -/
def State.obTook (s : State) (sp k : Nat) : State :=
  let s := s.addN (pgOB sp) Reg.OB.OB_ALLOC_CNT k
  if (s.rg (pgOB sp) Reg.OB.OB_HWM).toNat < s.obUsed sp then s.setN (pgOB sp) Reg.OB.OB_HWM (s.obUsed sp) else s

/-- R115: an entry has been taken. -/
def State.obTaken (s : State) (sp : Nat) : State := s.obTook sp 1

end Sys2Proof.Machine
end

