-- ==== Sys2Proof/Machine/Tray.lean ====
section
/-!
DEFINITION. Machine/Tray.lean: the tray engines (R110-R113, R203-R205): one transaction at a time on a line, reads, writes,
read-modify-writes and patrol scrubs, encrypted under the composition's key.
-/
namespace Sys2Proof.Machine

open Sys2Proof

/-- R45: the tray key of a composition that the XTS engine of Bay n holds; 0 none. -/
def State.keyOf (s : State) (n c : Nat) : Nat := SMap.get (fun _ => 0) s.xts (n * 256 + c)

/-- R45: Keystone gives the XTS engine of Bay n the tray key of every live composition. -/
def State.giveKeys (s : State) (n : Nat) : State :=
  { s with xts := (s.comps.filter (fun e => e.2 = 1)).foldl (fun m e => SMap.set (fun _ => 0) m (n * 256 + e.1) (SMap.get (fun _ => 0) s.keyGen e.1)) s.xts }

/-- R111: the tweak of a tray-tier local offset. -/
def tweakOf (a : Nat) : Nat := (a - trayBase) / 64

/-- R113: what the tray stores for a line. -/
def State.sealLine (s : State) (n c a : Nat) (l : Line) : Line := Config.xts (s.keyOf n c) (tweakOf a) l

/-- R113: the line that the tray's data stands for. -/
def State.openLine (s : State) (n c a : Nat) (l : Line) : Line := (Config.xts (s.keyOf n c) (tweakOf a)).symm l

/-- R64, R71, R194, R209: the grant of a read of an Owned line. -/
def ownedGrant (r : Req) : Nat :=
  match r.origin with
  | .trestle _ _ _ => 3
  | _ => if r.op.cacheable then 3 else 0

/-- Does the request need the line read from the tray first (R112)? -/
def ReqOp.trayReads : ReqOp → Bool
  | .wr | .own => false
  | _ => true

/-- Is the request performed as read, operation and write (R112)? -/
def ReqOp.rmw : ReqOp → Bool
  | .wrP | .capWr | .atom | .rsU | .rsD => true
  | _ => false

/-- Do two transactions touch a common line of one slot? -/
def TrayTxn.overlaps (t u : TrayTxn) : Bool :=
  t.slot = u.slot && decide (t.line < u.line + u.len) && decide (u.line < t.line + t.len)

/-- The first queued transaction that no earlier live transaction overlaps. -/
def nextTray : List TrayTxn → List TrayTxn → Option TrayTxn
  | _, [] => none
  | before, t :: r =>
    if (t.phase = .queued ∨ t.phase = .row) ∧ ¬before.any (fun u => !u.late && u.overlaps t && !(u.phase = .rowHold && u.row = t.row))
    then some t else nextTray (before ++ [t]) r

/-- Replace a transaction, found by Bay and tag. -/
def State.setTray (s : State) (t : TrayTxn) : State :=
  { s with tray := { s.tray with txns := s.tray.txns.map (fun u => if u.bay = t.bay ∧ u.ttag = t.ttag then t else u) } }

/-- Remove a transaction. -/
def State.dropTray (s : State) (t : TrayTxn) : State :=
  { s with tray := { s.tray with txns := s.tray.txns.filter (fun u => ¬(u.bay = t.bay ∧ u.ttag = t.ttag)) } }

/-- The logical port of a tray slot. -/
def State.trayPort (s : State) (k : Nat) : Nat := (s.traySlot k).1

/-- A tray request of a transaction. -/
def TrayTxn.msg (t : TrayTxn) (op : TrayOp) (data : List Line) : Msg :=
  .trayReq { op := op, tc := match t.req with | some r => r.tc | none => 0, poison := decide (op = .twr) && t.req.any Req.bad
             ttag := BitVec.ofNat 16 t.ttag
             len := BitVec.ofNat 16 t.len, tline := BitVec.ofNat 36 t.line, data := data }

/-- Send a tray write of a line for a transaction. -/
def State.trayWrite (s : State) (t : TrayTxn) (a : Nat) (l : Line) : State :=
  let s := s.setTray { t with phase := .writing }
  let s := s.bump (pgTray t.bay) Reg.Tray.TRAY_WR_CNT
  -- R203: a TWR with POISON carries no data
  if t.req.any Req.bad then (s.bump (pgTray t.bay) Reg.Tray.TRAY_POISON_WR_CNT).sendFrom (24 + t.bay) (s.trayPort t.slot) (t.msg .twr [])
  else s.sendFrom (24 + t.bay) (s.trayPort t.slot) (t.msg .twr [s.sealLine t.bay t.comp.val a l])

/-- End a transaction with a status. -/
def State.trayEnd (s : State) (t : TrayTxn) (st : Status) (data : Option Line) : State :=
  let s := s.dropTray t
  let s := if st = .ok then s else s.bump (pgTray t.bay) Reg.Tray.TRAY_ERR_CNT
  match t.req with
  | some r =>
    let dw := decide (r.op = .atom)
    let st := if st = .ok ∧ r.op = .rsU then Status.nondeterministic else st
    s.homeAnswer t.bay r st (if st.done then ownedGrant r else 0) dw (if st.done then data else none)
  | none => s

/-- End a transaction with a refusal that no tray gave: it is no tray outcome (R115). -/
def State.trayRefuse (s : State) (t : TrayTxn) (r : Req) (st : Status) : State := (s.dropTray t).homeAnswer t.bay r st 0 false none

/-- R112: start a request of a queued transaction. OWN needs no tray; what the Loom refuses (R231, R242) goes to none either. -/
def State.trayRequest (s : State) (t : TrayTxn) (r : Req) : State :=
  if r.op = .own then (s.dropTray t).homeAnswer t.bay r .ok 3 false none
  else if r.op = .atom ∧ (atomFields r.opnd).1 = 1 then (s.loomFault t.bay .unmapped 0x6 r.src 0 0).trayRefuse t r .unmapped
  else if r.op = .rsD ∧ !(s.redStore t.bay r.addr 0 r .none).1.done then
    (s.redStore t.bay r.addr 0 r .none).2.trayRefuse t r (s.redStore t.bay r.addr 0 r .none).1
  else if r.op.trayReads then
    let s := if r.op.rmw then s.bump (pgTray t.bay) Reg.Tray.TRAY_RMW_CNT else s
    ((s.setTray { t with phase := .reading }).bump (pgTray t.bay) Reg.Tray.TRAY_RD_CNT).sendFrom (24 + t.bay) (s.trayPort t.slot) (t.msg .trd [])
  else s.trayWrite t r.addr r.data

/-- Start a queued transaction. -/
def State.trayStart (s : State) (t : TrayTxn) : State :=
  if !s.portUp (s.trayPort t.slot) 0 then s.trayEnd t .portDown none
  else if t.phase = .row then s.setTray { t with phase := .rowHold }
  else match t.req with
    | none => (s.setTray { t with phase := .scrubbing }).sendFrom (24 + t.bay) (s.trayPort t.slot) (t.msg .tscrub [])
    | some r => s.trayRequest t r

/-- Start every transaction that may start; k bounds the rounds. -/
def State.pumpTray : Nat → State → State
  | 0, s => s
  | k + 1, s =>
    match nextTray [] s.tray.txns with
    | some t => State.pumpTray k (s.trayStart t)
    | none => s

/-- Start what may start. -/
def State.runTray (s : State) : State := s.pumpTray (s.tray.txns.length + 1)

/-- Put a transaction at the end of its engine's queue. -/
def State.addTray (s : State) (n slot line len : Nat) (r : Option Req) (p : Pass) : State :=
  let tag := SMap.get (fun _ => 0) s.tray.next n
  let t : TrayTxn := { bay := n, slot := slot, line := line, len := len, phase := .queued, ttag := tag, req := r, comp := p.ent.comp
                       idx := p.idx, ent := p.ent, late := false, answer := none }
  { s with tray := { s.tray with txns := s.tray.txns ++ [t], next := SMap.set (fun _ => 0) s.tray.next n ((tag + 1) % 65536) } }

/-- R112: a request that has passed its checks reaches the tray engine of Bay n. -/
def State.trayArrive (s : State) (n : Nat) (r : Req) (p : Pass) : State :=
  if ¬s.live p.ent.comp.val then s.homeAnswer n r .unmapped 0 false none
  else ((s.addTray n (s.slotOf r.addr) (trayOffset s.trayN r.addr / 64) 1 (some r) p).obTaken (n / 6)).runTray

/-- R112, R113: the tray has returned the line of a transaction. -/
def State.trayGot (s : State) (t : TrayTxn) (r : Req) (cipher : Line) : State :=
  let l := s.openLine t.bay t.comp.val r.addr cipher
  match r.op with
  | .wrP | .capWr => s.trayWrite t r.addr (mergeLine l r.data r.mask)
  | .atom =>
    let (new, prior) := atomLine r l
    (s.bump (pgLoom t.bay) Reg.Loom.ATOM_CNT).trayWrite { t with answer := some prior } r.addr new
  | .rsU =>
    let (new, sat) := rsuLine ((RedOp.ofCode (fld r.opnd 11 8)).getD .sum) (fld r.opnd 15 12) l r.data
    ((s.saturated t.bay sat).bump (pgHome t.bay) Reg.Home.UNDECL_RS_CNT).trayWrite t r.addr new
  | .rsD =>
    let (st, s) := s.redStore t.bay r.addr 0 r .none
    if st.done then s.trayWrite t r.addr l else s.trayRefuse t r st
  | _ => s.trayEnd t .ok (some l)

/-- R203: one line's outcome in a tray completion. -/
def TrayCmp.outcome (c : TrayCmp) : Status :=
  if c.status ≠ .ok then c.status
  else if bit c.pmask 0 then .poison
  else if bit c.umask 0 then .integrity
  else .ok

/-- R205: a patrol scrub is answered. -/
def State.scrubAnswer (s : State) (t : TrayTxn) (c : TrayCmp) : State :=
  let s := s.dropTray t
  let s := s.addN (pgTray t.bay) Reg.Tray.TSCRUB_CORR_CNT c.corr.toNat
  let s := s.addN (pgTray t.bay) Reg.Tray.TSCRUB_UNC_CNT c.unc.toNat
  if c.status = .ok then s
  else
    let s := s.bump (pgTray t.bay) Reg.Tray.TRAY_ERR_CNT
    if c.status = .unmapped then { s with tray := { s.tray with scrub := SMap.set (fun _ => 0) s.tray.scrub t.slot 0 } } else s

/-- R112: a tray completion arrives on logical port x. -/
def State.trayAnswer (s : State) (x : Nat) (c : TrayCmp) : State :=
  match s.tray.txns.find? (fun t => t.ttag = c.ttag.toNat && s.trayPort t.slot = x && t.phase ≠ .queued && t.phase ≠ .row && t.phase ≠ .rowHold) with
  | none => s
  | some t =>
    if t.late then (s.dropTray t).bump (pgTray t.bay) Reg.Tray.LATE_RSP_CNT
    else
      let s := match t.req, t.phase with
        | none, _ => s.scrubAnswer t c
        | some r, .reading =>
          (match c.outcome, c.data with
           | .ok, l :: _ => s.trayGot t r l
           | .ok, [] => s.trayEnd t .integrity none
           | st, _ => s.trayEnd t st none)
        | some _, _ => s.trayEnd t c.outcome t.answer
      s.runTray

/-- R112: logical port x has gone down: what is outstanding on it completes with PORT_DOWN. -/
def State.trayDown (s : State) (x : Nat) : State :=
  let hit := s.tray.txns.filter (fun t => s.trayPort t.slot = x)
  (hit.foldl (fun s t => if t.late then s.dropTray t else s.trayEnd t .portDown none) s).runTray

/-- R112, R476: Bay n goes down: its tray engine's requests complete with PORT_DOWN. -/
def State.trayBayDown (s : State) (n : Nat) : State :=
  let hit := s.tray.txns.filter (fun t => t.bay = n)
  hit.foldl (fun s t => if t.late then s.dropTray t else s.trayEnd t .portDown none) s

/-- R198: a request that waits for a tray is given up at its deadline. -/
def State.trayTimeout (s : State) (t : TrayTxn) : State :=
  match t.req with
  | none => s
  | some r =>
    let s := s.bump (pgOB (t.bay / 6)) Reg.OB.OB_TIMEOUT_CNT
    let s := if t.phase = .queued then s.dropTray t else s.setTray { t with late := true }
    ((s.bump (pgTray t.bay) Reg.Tray.TRAY_ERR_CNT).homeAnswer t.bay r .timeout 0 false none).runTray

/-- R205: the tray engine of Bay n issues the next patrol TSCRUB of a slot it serves. -/
def State.trayScrub (s : State) (n slot : Nat) : State :=
  if bit (s.rg (pgTray n) Reg.Tray.TRAY_SCRUB) 31 ∧ slot < s.trayN ∧ (s.traySlot slot).2 = n ∧ s.portUp (s.trayPort slot) 0 ∧ s.trayRoom n 1 then
    let pos := SMap.get (fun _ => 0) s.tray.scrub slot
    let s := { s with tray := { s.tray with scrub := SMap.set (fun _ => 0) s.tray.scrub slot ((pos + 64) % 2 ^ 36) } }
    ((s.addTray n slot pos 64 none ⟨0, RtEntry.none, 0⟩).obTaken (n / 6)).runTray
  else s

end Sys2Proof.Machine
end

