-- ==== Sys2Proof/Machine/Home.lean ====
section
/-!
DEFINITION. Machine/Home.lean: the home of a line: its transactions (R78), the directory and recalls (R67-R75), what each
request does (R63, R64, R71, R81-R84), sweeps (R83), and what arrives from caches (R73-R75, R140).
-/
namespace Sys2Proof.Machine

open Sys2Proof

/-! ### Activations (R94) -/

/-- R94: an access to a row: opening it counts as an activation; at 4,096 within 32 ms its neighbours await refresh. The retention windows
follow one another from time 0 (DESIGN CHOICE: log entry 58). -/
def State.touchRow (s : State) (n o : Nat) : State :=
  let b := s.bay n
  let bank := bankKey o
  let row := rowOf o
  if SMap.get (fun _ => 0) b.openRows bank = row + 1 then s
  else
    let win := s.now / 32000000
    let acts := if b.actWin = win then b.acts else []
    let k := rowKey o
    let c := SMap.get (fun _ => 0) acts k + 1
    let nb := if c = 4096 then NSet.insert (k + 1) (if row = 0 then b.neighbours else NSet.insert (k - 1) b.neighbours) else b.neighbours
    s.setBay n { b with openRows := SMap.set (fun _ => 0) b.openRows bank (row + 1), actWin := win
                        acts := SMap.set (fun _ => 0) acts k c, neighbours := nb }

/-! ### The controller's write queue (R92) -/

/-- R92: issue writes that wait in Bay n's controller. -/
def State.issueWrites (s : State) (n : Nat) (qs : List QWrite) : State :=
  qs.foldl (fun s q => (s.setBay n { s.bay n with wq := (s.bay n).wq.erase q }).touchRow n q.off) s

/-- The waiting writes of a pseudo-channel in the order they are issued: a fill's last (R109). -/
def BaySt.writesOf (b : BaySt) (pch : Nat) : List QWrite :=
  let mine := b.wq.filter (fun q => pchOf q.off = pch)
  mine.filter (fun q => !q.fill) ++ mine.filter (fun q => q.fill)

/-- R92: a write of line o of Bay n waits in its controller, which drains a pseudo-channel's 192 to 64. -/
def State.queueWrite (s : State) (n o : Nat) (fill : Bool) : State :=
  let s := s.setBay n { s.bay n with wq := (s.bay n).wq ++ [{ off := o, time := s.now, fill := fill }] }
  let mine := (s.bay n).writesOf (pchOf o)
  if mine.length < 192 then s else s.issueWrites n (mine.take (mine.length - 64))

/-- R92: an access that reads line o of Bay n goes ahead of the waiting writes, but for those to its own line. -/
def State.readRow (s : State) (n o : Nat) : State :=
  (s.issueWrites n ((s.bay n).wq.filter (fun q => q.off / 64 = o / 64))).touchRow n o

/-- R92, R109: what has waited AGE_CAP in a pseudo-channel of Bay n is issued, in order. -/
def State.ageCap (s : State) (n pch : Nat) : State :=
  let cap := fld (s.rg (pgMC n) Reg.MC.MC_CTRL) 23 16 * 100
  s.issueWrites n (((s.bay n).writesOf pch).filter (fun q => !q.fill && decide (q.time + cap ≤ s.now)))

/-! ### The directory (R67-R70) -/

/-- R68: a directory entry in I. -/
def dirI : Nat := 0
/-- R68: a directory entry in S for a set of groups. -/
def dirS (groups : Nat) : Nat := 0x4000 + groups % 0x4000
/-- R68: a directory entry in M for a port. -/
def dirM (port : Nat) : Nat := 0x8000 + port % 512
/-- R68: STATE of an entry. -/
def dirState (e : Nat) : Nat := e / 0x4000 % 4
/-- R68: OWNER of an entry in M. -/
def dirOwner (e : Nat) : Nat := e % 512
/-- R68: SHARERS of an entry in S. -/
def dirSharers (e : Nat) : Nat := e % 0x4000
/-- R70: what a lost entry is treated as. -/
def dirLost : Nat := 0x7FFF
/-- What the entries of a line that failed its ECC hold until each is read: STATE 0b11 (R70). -/
def dirBad : Nat := 0xFFFF
/-- R69: the port group of a logical port. -/
def groupBit (x : Nat) : Nat := 2 ^ (x / 21)

/-- The stored entry at Bay-local offset d. -/
def State.rawDir (s : State) (n d : Nat) : Nat := leNat (readBytes s.mem (memKey n d) 2)

/-- Store an entry at Bay-local offset d. -/
def State.putDir (s : State) (n d v : Nat) : State := { s with mem := writeBytes s.mem (memKey n d) (leBytes 2 v) }

/-- Is the entry at Bay-local offset d one that was lost (R70)? -/
def State.dirWasLost (s : State) (n d : Nat) : Bool := NSet.has d (s.bay n).lost

/-- Treat the entry at d as lost (R70). -/
def State.loseDir (s : State) (n d : Nat) : State :=
  let s := (s.putDir n d dirLost).bump (pgHome n) Reg.Home.DIR_LOSS_CNT
  s.setBay n { s.bay n with lost := NSet.insert d (s.bay n).lost }

/-- Write an entry. A lost entry that stays S of every group stays lost (R70). -/
def State.setDir (s : State) (n d v : Nat) : State :=
  if v = dirLost then s.putDir n d v else (s.putDir n d v).setBay n { s.bay n with lost := NSet.erase d (s.bay n).lost }

/-- R70: read the entry at d through the directory cache. Whether the cache holds it is left open (a free value); an entry
that is 0b11 or whose line fails its ECC is lost; the other entries of such a line are lost as they are read. -/
def State.readDir (s : State) (n d : Nat) : Nat × State :=
  let (h, s) := s.fresh
  let s := s.bump (pgHome n) (if bit h 0 then Reg.Home.DIRC_HIT_CNT else Reg.Home.DIRC_MISS_CNT)
  match s.readLine n d 0 [] with
  | (.data _, s) =>
    if dirState (s.rawDir n d) = 3 then (dirLost, s.loseDir n d) else (s.rawDir n d, s)
  | (_, s) =>
    let base := d / 64 * 64
    let s := (List.range 32).foldl (fun s i => s.putDir n (base + 2 * i) dirBad) (s.storeLine n base 0)
    (dirLost, s.loseDir n d)

/-- R71: the sharers of a set of groups: every up, accelerator-facing or host port in them. -/
def State.sharers (s : State) (groups : Nat) : List Nat :=
  (List.range 289).filter (fun x => groups.testBit (x / 21) && s.portUp x 2 &&
    (x = 288 || (s.portExists x && s.pierMode (x / 4) = 0)))

/-! ### Transactions -/

/-- R78: is there an active transaction on the line? -/
def State.lineBusy (s : State) (n line : Nat) : Bool := s.txns.any (fun t => t.bay = n && t.line = line && t.active)

/-- The oldest waiting transaction on the line. -/
def State.nextTxn (s : State) (n line : Nat) : Option Txn := s.txns.find? (fun t => t.bay = n && t.line = line && !t.active)

/-- The active transaction on the line. -/
def State.activeTxn (s : State) (n line : Nat) : Option Txn := s.txns.find? (fun t => t.bay = n && t.line = line && t.active)

/-- Remove the first transaction equal to t. -/
def State.dropTxn (s : State) (t : Txn) : State := { s with txns := s.txns.erase t }

/-- Replace the first transaction equal to t. -/
def State.swapTxn (s : State) (t u : Txn) : State := { s with txns := s.txns.replace t u }

/-- The requester of a transaction, if a request. -/
def Work.req? : Work → Option Req
  | .req r => some r
  | _ => none

/-- The port a transaction's request came from, none for the device's own work. -/
def Txn.port? (t : Txn) : Option Nat := t.work.req?.bind (fun r => r.origin.port?)

/-- Is the line a stack line of a Shared-Coherent region? -/
def Txn.coherent (t : Txn) : Bool := t.ent.mode = .shared && decide (t.line < baySize)

/-- The directory entry's Bay-local offset. -/
def Txn.dir (t : Txn) : Nat := t.ent.dirOffset t.addr

/-- R71: the recalls that an entry and a request call for: which kind, to whom. -/
def State.recallsFor (s : State) (w : Work) (me : Option Nat) (e : Nat) : RecallKind × List Nat :=
  let others := (s.sharers (dirSharers e)).filter (fun x => some x ≠ me)
  match w with
  | .req r =>
    match r.op, dirState e with
    | .rd, 2 | .rdS, 2 => (.down, [dirOwner e])
    | .rd, _ | .rdS, _ => (.down, [])
    | _, 2 => (.inv, [dirOwner e])
    | _, 1 => (.inv, others)
    | _, _ => (.inv, [])
  | .fence _ false => (.down, if dirState e = 2 then [dirOwner e] else [])
  | _ => (.inv, match dirState e with | 2 => [dirOwner e] | 1 => others | _ => [])

/-- R71: the directory after a request, from the entry as it stands once the recalls have ended. -/
def dirAfter (op : ReqOp) (me : Option Nat) (e : Nat) : Nat :=
  match op with
  | .rd => e
  | .rdS => match me with | some x => dirS (dirSharers (if dirState e = 1 then e else 0) ||| groupBit x) | none => e
  | .rdM | .own => match me with | some x => dirM x | none => e
  | _ => dirI

/-- R84: does the request clear poison, or make its own check of it (R231)? -/
def ReqOp.overPoison : ReqOp → Bool
  | .wr | .rsD => true
  | _ => false

/-- R194, R71: the grant of a read of a line. -/
def grantOf (r : Req) (e : RtEntry) : Nat :=
  match r.origin with
  | .trestle _ _ _ => if e.mode = .owned then 3 else 0
  | _ => if e.mode = .owned then (if r.op.cacheable then 3 else 0)
         else match r.op with | .rdS => 1 | .rdM | .own => 2 | _ => 0

/-- One byte of Spindle k of Bay n's SRAM. -/
def sramKey (n k off : Nat) : Nat := (n * 64 + k) * 2 ^ 18 + off

/-- A line of a Spindle's SRAM. -/
def State.sramLine (s : State) (n k off : Nat) : Line :=
  lineOfBytes ((List.range 64).map (fun i => SMap.get memDefault s.sram (sramKey n k (off + i))))

/-- Write a line of a Spindle's SRAM. -/
def State.setSramLine (s : State) (n k off : Nat) (l : Line) : State := { s with sram := writeBytes s.sram (sramKey n k off) (lineBytes l) }

/-- A status with no grant and no data. -/
abbrev Result := Status × Nat × Bool × Option Line

/-- R284: a request to a Spindle's SRAM. -/
def State.sramAccess (s : State) (n k off : Nat) (t : Txn) (r : Req) : Result × State :=
  let old := s.sramLine n k off
  match r.op with
  | .wr => ((.ok, 0, false, none), s.setSramLine n k off r.data)
  | .wrP | .capWr => ((.ok, 0, false, none), s.setSramLine n k off (mergeLine old r.data r.mask))
  | .atom =>
    if (atomFields r.opnd).1 = 1 then ((.unmapped, 0, false, none), s.loomFault n .unmapped 0x6 r.src 0 0)
    else
      let (new, prior) := atomLine r old
      ((.ok, 0, true, some prior), (s.setSramLine n k off new).bump (pgLoom n) Reg.Loom.ATOM_CNT)
  | .rsU =>
    let (new, sat) := rsuLine ((RedOp.ofCode (fld r.opnd 11 8)).getD .sum) (fld r.opnd 15 12) old r.data
    ((.nondeterministic, 0, false, none), ((s.setSramLine n k off new).saturated n sat).bump (pgHome n) Reg.Home.UNDECL_RS_CNT)
  | .rsD =>
    let (st, s) := s.redStore n r.addr 0 r .none
    ((st, 0, false, none), s)
  | .own => ((.ok, grantOf r t.ent, false, none), s)
  | _ => ((.ok, grantOf r t.ent, true, some old), s)

/-- What a read outcome answers when there is no data. -/
def LineRead.status : LineRead → Status
  | .data _ => .ok
  | .poison => .poison
  | .bad => .integrity

/-- Is a port's group among the sharers of an entry? -/
def sharesBy (e : Nat) (me : Option Nat) : Bool :=
  match me with
  | some x => (dirSharers e).testBit (x / 21)
  | none => false

/-- R63, R71, R81-R84: a request on stack line o of Bay n, recalls done; e: its directory entry (0 in an Owned region). -/
def State.stackAccess (s : State) (n o : Nat) (t : Txn) (r : Req) (e : Nat) : Result × State :=
  let s := if r.op = .wr then s.queueWrite n o false else s.readRow n o
  let fail := fun (x : LineRead) (s : State) => (((x.status, 0, false, none) : Result), s)
  match r.op with
  | .wr => ((.ok, 0, false, none), if r.bad then s.poisonLine n o else s.storeLine n o r.data)
  | .wrP | .capWr =>
    match s.mergeIn n o 1 t.errs.syms r.mask r.data with
    | (.data _, s) => ((.ok, 0, false, none), s)
    | (x, s) => fail x s
  | .rsD =>
    let (st, s) := s.redStore n t.addr o r t.errs.residue
    ((st, 0, false, none), s)
  | .rsU =>
    match s.readLine n o 1 t.errs.syms with
    | (.data old, s) =>
      let (new, sat) := rsuLine ((RedOp.ofCode (fld r.opnd 11 8)).getD .sum) (fld r.opnd 15 12) old r.data
      ((.nondeterministic, 0, false, none), ((s.storeLine n o new).saturated n sat).bump (pgHome n) Reg.Home.UNDECL_RS_CNT)
    | (x, s) => fail x s
  | .atom =>
    if (atomFields r.opnd).1 = 1 then ((.unmapped, 0, false, none), s.loomFault n .unmapped 0x6 r.src 0 0)
    else match s.readLine n o 1 t.errs.syms with
      | (.data old, s) =>
        let (new, prior) := atomLine r old
        ((.ok, 0, true, some prior), (s.storeLine n o new).bump (pgLoom n) Reg.Loom.ATOM_CNT)
      | (x, s) => fail x s
  | .own =>
    if t.ent.mode = .owned || dirState e = 0 || (dirState e = 1 && sharesBy e r.origin.port?) then
      ((.ok, grantOf r t.ent, false, none), s)
    else match s.readLine n o 0 t.errs.syms with
      | (.data l, s) => ((.ok, grantOf r t.ent, false, some l), s)
      | (x, s) => fail x s
  | _ =>
    match s.readLine n o 0 t.errs.syms with
    | (.data l, s) => ((.ok, grantOf r t.ent, false, some l), s)
    | (x, s) => fail x s

/-- How many lines a Bay's stack has. -/
def bayLines : Nat := baySize / 64

/-- R97, R98: the scrub of Bay n reads line o and goes on to the next. -/
def State.scrubbed (s : State) (n o : Nat) (errs : Syms) : State :=
  let s := ((s.readRow n o).readLine n o 2 errs).2
  let next := (o / 64 + 1) % bayLines
  let s := s.setBay n { s.bay n with scrubLine := next }
  let s := s.setN (pgMC n) Reg.MC.SCRUB_POS (next / 64)
  if next = 0 then s.bump (pgMC n) Reg.MC.SCRUB_PASS_CNT else s

/-- Perform a transaction whose recalls have ended; e0 is the entry the transaction found, e the entry as it now stands. -/
def State.perform (s : State) (t : Txn) (e0 e : Nat) : State :=
  match t.work with
  | .disable => if t.coherent then s.setDir t.bay t.dir dirI else s
  | .scrub => s.scrubbed t.bay t.line t.errs.syms
  | .fence _ _ => if t.coherent then s.setDir t.bay t.dir e else s
  | .fill p =>
    let l : Line := BitVec.ofNat 512 (leNat ((List.range 8).flatMap (fun _ => leBytes 8 p.toNat)))
    let s := ((s.queueWrite t.bay t.line true).storeLine t.bay t.line l).bump (pgMC t.bay) Reg.MC.FILL_LINE_CNT
    if t.coherent then s.setDir t.bay t.dir dirI else s
  | .req r =>
    if t.answered then (if t.coherent then s.setDir t.bay t.dir e else s)
    else
      let (res, s) :=
        if t.line < baySize then s.stackAccess t.bay t.line t r e0
        else match s.place t.line with
          | .loom n w =>
            let (st, d, s) := s.winAccess n w r t.errs.residue
            ((st, 0, d.isSome, d), s)
          | .spindle n k off => s.sramAccess n k off t r
          | _ => ((.unmapped, 0, false, none), s)
      let s := if t.coherent then s.setDir t.bay t.dir (if res.1.done then dirAfter r.op t.port? e else e) else s
      s.homeAnswer t.bay r res.1 res.2.1 res.2.2.1 res.2.2.2

/-- R83 step 1: an M entry whose owner is in the sweep set: the line is poisoned and the entry becomes I. -/
def State.sweepEntry (s : State) (n o d e : Nat) : Nat × State :=
  if dirState e = 2 ∧ (s.bay n).sweep.contains (dirOwner e) then (dirI, (s.poisonLine n o).setDir n d dirI) else (e, s)

/-- The entry once recalls of a kind have ended (R71). -/
def recalled (k : RecallKind) (e : Nat) : Nat :=
  match k with
  | .inv => dirI
  | .down => if dirState e = 2 then dirS (groupBit (dirOwner e)) else e

/-- R73: send recalls of a transaction, in its traffic class (R190). One for a port that is down comes back as undeliverable
(R138, R140): the command that says so runs next. -/
def State.sendRecalls (s : State) (t : Txn) (k : RecallKind) (xs : List Nat) : State :=
  let tc := match t.work with | .req r => r.tc | _ => 0
  let la : BitVec 42 := BitVec.ofNat 42 (t.addr / 64)
  xs.foldl (fun s x =>
    let s := s.bump (pgHome t.bay) Reg.Home.RECALL_CNT
    if s.portUp x 2 then s.sendFrom (24 + t.bay) x (.coh (.recall k tc la))
    else { s with resume := s.resume ++ [.undeliverableRecall (Fin.ofNat 289 x) la] }) s

/-- R63: is a request that has passed the checks refused by the Loom (R231, R242)? It then has no effect on the directory. -/
def State.loomRefuses (s : State) (t : Txn) (r : Req) : Bool :=
  match r.op with
  | .atom => decide ((atomFields r.opnd).1 = 1)
  | .rsD => !(s.redStore t.bay t.addr t.line r t.errs.residue).1.done
  | _ => false

/-- Start a transaction on its line: refused, waiting for recalls, or performed. True: it has ended. -/
def State.startTxn (s : State) (t : Txn) : Bool × State :=
  let (e, s) := if t.coherent then
      let (e, s) := s.readDir t.bay t.dir
      s.sweepEntry t.bay t.line t.dir e
    else (dirI, s)
  match t.work with
  | .req r =>
    if t.line < baySize ∧ s.poisoned t.bay t.line ∧ ¬r.op.overPoison then
      -- R89: reading it may find it uncorrectable instead
      match s.readLine t.bay t.line 0 t.errs.syms with
      | (x, s) => (true, (s.dropTxn t).homeAnswer t.bay r (if x = .bad then .integrity else .poison) 0 false none)
    else if t.line < baySize ∧ s.loomRefuses t r then (true, (s.dropTxn t).perform t e e)
    else
      let (k, xs) := if t.coherent then s.recallsFor t.work t.port? e else (.down, [])
      if xs = [] then (true, (s.dropTxn t).perform t e (if t.coherent then recalled k e else e))
      else (false, (s.swapTxn t { t with active := true, kind := k, await := xs }).sendRecalls t k xs)
  | _ =>
    let (k, xs) := if t.coherent then s.recallsFor t.work t.port? e else (.inv, [])
    if xs = [] then (true, (s.dropTxn t).perform t e (if t.coherent then recalled k e else e))
    else (false, (s.swapTxn t { t with active := true, kind := k, await := xs }).sendRecalls t k xs)

/-- The lines of a row transaction at its home, Bay-local for the stack. -/
def RowOp.lines (o : RowOp) : List Nat :=
  let a := if o.tray then o.addr else bayOff o.addr
  (List.range ((a % 64 + o.size + 63) / 64)).map (fun i => a / 64 * 64 + 64 * i)

/-- R249: is a transaction kept waiting by a row transaction that holds its line? -/
def State.rowLocks (s : State) (t : Txn) : Bool :=
  let mine := match t.work with
    | .req r => (match r.origin with | .row id _ => some id | _ => none)
    | _ => none
  s.hed.ops.any (fun o => o.locked && !o.tray && o.bay = t.bay && some o.id ≠ mine && o.lines.contains t.line)

/-- One line access of a row transaction: a read, or a write where l is given. -/
def State.rowReq (s : State) (o : RowOp) (i : Nat) (w : Option (BitVec 64 × Line)) : Req :=
  let a := o.addr / 64 * 64 + 64 * i
  { op := match w with | none => .rd | some (m, _) => if m = BitVec.allOnes 64 then .wr else .wrP
    origin := .row o.id i, src := s.node, tag := 0, dnode := s.node, laddr := BitVec.ofNat 42 (a / 64), tc := 0, colour := 3
    epoch := BitVec.ofNat 8 s.reg.epoch, key := 0, mask := (w.map Prod.fst).getD 0, opnd := 0, data := (w.map Prod.snd).getD 0
    deadline := s.ft / 65536 + 4000000, keyless := some (Fin.ofNat 256 o.comp) }

/-- A transaction of one line of a row transaction. -/
def State.rowTxn (s : State) (o : RowOp) (i : Nat) (w : Option (BitVec 64 × Line)) (idx : Nat) (e : RtEntry) : Txn :=
  let a := o.addr / 64 * 64 + 64 * i
  { bay := o.bay, line := bayOff a / 64 * 64, addr := a, work := .req (s.rowReq o i w), errs := .clean, ent := e, idx := idx
    await := [], kind := .inv, active := false, answered := false }

/-- R249: the first line access of a row transaction begins: the row's other lines are held for it, and accessed next. -/
def State.lockRow (s : State) (t : Txn) : State :=
  match t.work with
  | .req r =>
    match r.origin with
    | .row id 0 =>
      match s.hed.ops.find? (fun o => o.id = id && !o.locked) with
      | none => s
      | some o =>
        let s := { s with hed := { s.hed with ops := s.hed.ops.map (fun (p : RowOp) => if p.id = id then { p with locked := true } else p) } }
        { s with txns := ((List.range o.need).drop 1).map (fun i => s.rowTxn o i o.wr[i]? t.idx t.ent) ++ s.txns }
    | _ => s
  | _ => s

/-- R78: start waiting transactions on a line, in order, until one waits; k bounds them. -/
def State.pumpLine : Nat → Nat → Nat → State → State
  | 0, _, _, s => s
  | k + 1, n, line, s =>
    if s.lineBusy n line ∨ (line < baySize ∧ s.rowHeld n line) then s
    else match s.nextTxn n line with
      | none => s
      | some t =>
        if s.rowLocks t then s
        else match (s.lockRow t).startTxn t with
          | (true, s) => State.pumpLine k n line s
          | (false, s) => s

/-- Start what may start on a line. -/
def State.runLine (s : State) (n line : Nat) : State := State.pumpLine (s.txns.length + 1) n line s

/-- The line number of a transaction for a local offset: Bay-local for the stack, the offset itself for the window. -/
def lineOf (a : Nat) : Nat := if a < stackEnd then bayOff a / 64 * 64 else a

/-- Put a transaction in Bay n's home tracker and start it if its line is free. -/
def State.addTxn (s : State) (n a : Nat) (w : Work) (errs : Errs) (p : Pass) : State :=
  let t : Txn := { bay := n, line := lineOf a, addr := a, work := w, errs := errs, ent := p.ent, idx := p.idx, await := [], kind := .inv
                   active := false, answered := false }
  { s with txns := s.txns ++ [t] }.runLine n t.line

/-- The requests in Bay n's home tracker. -/
def State.homeLoad (s : State) (n : Nat) : Nat := (s.txns.filter (fun t => t.bay = n ∧ t.work.req?.isSome)).length

/-- Is the Bay's island in Run (R41)? -/
def State.bayRuns (s : State) (n : Nat) : Bool := SMap.get (fun _ => 0) s.islands n = 0

/-- Take a request out of its queue in the Deck, if it waits there. -/
def State.takeReq (s : State) (r : Req) : State := s.takeFrom r.arr (.req r)

/-- R61, R85: a request reaches its home. It stays in the Deck while the Bay sleeps or its home tracker is full. -/
def State.homeArrive (s : State) (r : Req) (errs : Errs) : State :=
  if r.dnode ≠ s.node then (s.takeReq r).refuse r .notHome
  else match s.homeBay r.addr with
    | none => (s.takeReq r).refuse r .unmapped
    | some n =>
      if !s.outUp (24 + n) then (s.takeReq r).refuse r .portDown
      else if !s.bayRuns n ∨ 3840 ≤ s.homeLoad n then s
      else if s.place r.addr = .tray ∧ !s.trayRoom n 1 then s
      else
        let s := s.takeReq r
        match s.checkHome n r with
        | .error f => s.homeRefuse n r f
        | .ok p => if s.place r.addr = .tray then s.trayArrive n r p else s.addTxn n r.addr (.req r) errs p

/-! ### What caches send (R73-R75) -/

/-- One awaited port of an active transaction has answered; once all have, the transaction is performed. e0: the entry the
transaction found. -/
def State.recallAnswered (s : State) (t : Txn) (x e0 : Nat) : State :=
  let rest := t.await.filter (fun y => y ≠ x)
  if rest ≠ [] then s.swapTxn t { t with await := rest }
  else
    let e := recalled t.kind e0
    let s := s.setDir t.bay t.dir e
    ((s.dropTxn t).perform t e0 e).runLine t.bay t.line

/-- The entry that an active transaction found, as the directory still holds it. -/
def State.dirOf (s : State) (t : Txn) : Nat := s.rawDir t.bay t.dir

/-- The Node ID of a logical port's peer; at the host port, that of HP_CFG (R505). -/
def State.peerNode (s : State) (x : Nat) : NodeId :=
  if x = 288 then BitVec.ofNat 12 (fld (s.hub Reg.HP.HP_CFG) 11 0) else
  match (s.link x).peer with
  | some i => i.node
  | none => 0

/-- R75, R86: discard a WB: it is counted and recorded, and WB_ACK carries TIMEOUT. A WB names no Source: the one recorded is the Node
ID of the port's peer (DESIGN CHOICE: log entry 56). -/
def State.staleWb (s : State) (n x : Nat) (tc : BitVec 3) (la : BitVec 42) : State :=
  ((s.bump (pgHome n) Reg.Home.STALE_WB_CNT).homeFault n ⟨.timeout, 0x7, s.compAtLine (la.toNat * 64)⟩ (s.peerNode x)
    (s.node.toNat * 2 ^ 48 + la.toNat * 64)).sendFrom (24 + n) x (.coh (.wbAck tc la .timeout))

/-- Write back a line: poisoned where the message's data failed its check (R142, R192). -/
def State.wbStore (s : State) (n o : Nat) (bad : Bool) (l : Line) : State :=
  let s := s.queueWrite n o false
  if bad then s.poisonLine n o else s.storeLine n o l

/-- R75, R78: a WB from logical port x. -/
def State.writeBack (s : State) (x : Nat) (tc : BitVec 3) (la : BitVec 42) (keepS bad : Bool) (l : Line) : State :=
  let a := la.toNat * 64
  if stackEnd ≤ a then
    (s.bump (pgPG (x / 12)) Reg.PG.INGRESS_REFUSE_CNT).send x (.coh (.wbAck tc la .timeout))
  else
    let n := bayOf s.sel a
    let o := lineOf a
    if !s.bayUp n then s.emit (.drop (.coh (.wb tc la keepS bad l)))
    else match s.covers a with
      | none => s.staleWb n x tc la
      | some (_, ent) =>
        if ent.mode ≠ .shared then s.staleWb n x tc la
        else
          let d := ent.dirOffset a
          let e := s.rawDir n d
          let owner := dirState e = 2 ∧ dirOwner e = x
          match s.activeTxn n o with
          | some t =>
            if t.await.contains x ∧ (owner ∨ s.dirWasLost n d) then
              ((s.wbStore n o bad l).sendFrom (24 + n) x (.coh (.wbAck tc la .ok))).recallAnswered t x e
            else if owner then
              ((s.wbStore n o bad l).setDir n d (if keepS then dirS (groupBit x) else dirI)).sendFrom (24 + n) x (.coh (.wbAck tc la .ok))
            else s.staleWb n x tc la
          | none =>
            if owner then
              ((s.wbStore n o bad l).setDir n d (if keepS then dirS (groupBit x) else dirI)).sendFrom (24 + n) x (.coh (.wbAck tc la .ok))
            else s.staleWb n x tc la

/-- R73, R75: a BI_ACK from logical port x. -/
def State.recallAck (s : State) (x : Nat) (la : BitVec 42) : State :=
  let a := la.toNat * 64
  if stackEnd ≤ a then s.bump (pgPG (x / 12)) Reg.PG.INGRESS_REFUSE_CNT
  else match s.activeTxn (bayOf s.sel a) (lineOf a) with
    | some t => if t.await.contains x then s.recallAnswered t x (s.dirOf t) else s
    | none => s

/-- R74, R83, R140: an active transaction's line is lost: it is poisoned, its entry I, and its request served POISON. -/
def State.recallLost (s : State) (t : Txn) (record : Bool) : State :=
  let s := (s.poisonLine t.bay t.line).setDir t.bay t.dir dirI
  let s := s.dropTxn t
  let s := match t.work with
    | .req r =>
      if t.answered then s
      else
        let f : Refuse := ⟨.poison, 0x6, t.ent.comp.val⟩
        if record then s.homeRefuse t.bay r f
        else if r.op.overPoison then s.perform { t with await := [] } dirI dirI
        else s.homeAnswer t.bay r .poison 0 false none
    | .disable | .fence _ _ | .scrub => s
    | .fill _ => s.perform t dirI dirI
  s.runLine t.bay t.line

/-- R140: the recall of a line to port x could not be delivered. -/
def State.undeliverable (s : State) (x : Nat) (la : BitVec 42) : State :=
  let a := la.toNat * 64
  match s.activeTxn (bayOf s.sel a) (lineOf a) with
  | some t =>
    if t.await.contains x then
      (if dirState (s.dirOf t) = 2 ∧ dirOwner (s.dirOf t) = x then s.recallLost t false else s.recallAnswered t x (s.dirOf t))
    else s
  | none => s

/-- R74: the recalls of a line are unanswered after RECALL_TIMEOUT. -/
def State.recallTimeout (s : State) (la : BitVec 42) : State :=
  let a := la.toNat * 64
  match s.activeTxn (bayOf s.sel a) (lineOf a) with
  | some t => (s.addN (pgHome t.bay) Reg.Home.RECALL_TIMEOUT_CNT t.await.length).recallLost t true
  | none => s

/-! ### Sweeps (R83) -/

/-- R83: every Bay adds a port to its sweep set. A sweep that runs already reads on from where it stands. -/
def State.startSweep (s : State) (x : Nat) : State :=
  (List.range 24).foldl (fun s n =>
    let b := s.bay n
    let pos := if b.sweep = [] then 0 else b.swPos
    let s := s.setBay n { b with sweep := NSet.insert x b.sweep, swPos := pos, swMark := pos, swRound := false }
    (s.setF (pgHome n) Reg.Home.SWEEP_STAT 31 31 1).setN (pgHome n) Reg.Home.SWEEP_SET x) s

/-- The lines of an entry's region that Bay n homes, outside its directory area, as Bay-local offsets. -/
def RtEntry.homed (e : RtEntry) (sel n : Nat) : List Nat :=
  let s0 := e.first / 4096 / 24
  let m := (e.size - e.size / 32) / 98304
  (List.range m).flatMap (fun i => (List.range 64).map (fun j => bayOff (blockOf sel n (s0 + i)) + 64 * j))

/-- R67: the Bay-local offsets of a region's directory area: its first, and one past its last. -/
def RtEntry.dirArea (e : RtEntry) : Nat × Nat :=
  let top := e.first / 4096 / 24 + e.size / 98304
  ((top - e.size / 98304 / 32) * 4096, top * 4096)

/-- The Shared-Coherent entries of the current map. -/
def State.sharedEntries (s : State) : List RtEntry := (s.reg.cur.rt.map (fun e => e.2)).filter (fun e => e.mode = .shared)

/-- R83 step 2: the first line of a directory area at or above a Bay-local offset, and its entry. -/
def nextDirLine (pos : Nat) : List RtEntry → Option (Nat × RtEntry)
  | [] => none
  | e :: r =>
    let a := e.dirArea
    let d := max a.1 pos
    match nextDirLine pos r with
    | some (d', e') => if d < a.2 ∧ d < d' then some (d, e) else some (d', e')
    | none => if d < a.2 then some (d, e) else none

/-- R83 steps 1, 2: Bay n reads the 32 directory entries of the line at Bay-local offset d, of entry e's area. -/
def State.sweepLine (s : State) (n d : Nat) (e : RtEntry) : State :=
  (List.range 32).foldl (fun s k =>
    let i := (d - e.dirArea.1) / 2 + k
    let o := (e.first / 4096 / 24 + i / 64) * 4096 + 64 * (i % 64)
    if i / 64 < e.size / 98304 - e.size / 98304 / 32 then (s.sweepEntry n o (d + 2 * k) (s.rawDir n (d + 2 * k))).2 else s) s

/-- R83 steps 2, 3: Bay n reads its next directory line; false: the read has come round to where it stood when the last port was
added. -/
def State.sweepNext (s : State) (n : Nat) : Bool × State :=
  let b := s.bay n
  match nextDirLine b.swPos s.sharedEntries with
  | some (d, e) =>
    if b.swRound ∧ b.swMark ≤ d then (false, s)
    else (true, (s.sweepLine n d e).setBay n { (s.sweepLine n d e).bay n with swPos := d + 64 })
  | none =>
    if b.swRound then (false, s)
    else match nextDirLine 0 s.sharedEntries with
      | some (d, e) =>
        if b.swMark ≤ d then (false, s.setBay n { b with swRound := true, swPos := 0 })
        else (true, (s.sweepLine n d e).setBay n { (s.sweepLine n d e).bay n with swPos := d + 64, swRound := true })
      | none => (false, s)

/-- Read on until the sweep of Bay n has come round; k bounds the lines. -/
def State.sweepOn (n : Nat) : Nat → State → State
  | 0, s => s
  | k + 1, s =>
    match s.sweepNext n with
    | (true, s) => State.sweepOn n k s
    | (false, s) => s

/-- R83 step 3: Bay n has read every directory entry since the last port was added: its set is emptied. What is left to read when the
command comes is read first. Nothing happens where no sweep runs. -/
def State.endSweep (s : State) (n : Nat) : State :=
  if (s.bay n).sweep = [] then s
  else
    let s := s.sweepOn n (1 + ((s.sharedEntries.map (fun e => (e.dirArea.2 - e.dirArea.1) / 64)).sum))
    let s := s.setBay n { s.bay n with sweep := [] }
    let s := (s.setF (pgHome n) Reg.Home.SWEEP_STAT 31 31 0).bump (pgHome n) Reg.Home.SWEEP_CNT
    s.notify 2 0 [n, (s.rg (pgHome n) Reg.Home.SWEEP_SET).toNat]

/-- R83 step 2: one ns of the sweeps: each Bay that sweeps reads 64 B. One that has come round is to end. -/
def State.tickSweeps (s : State) : State :=
  ((s.bays.filter (fun e => e.2.sweep ≠ [])).map (fun e => e.1)).foldl (fun s n =>
    if !s.bayUp n || !s.bayRuns n then s
    else match s.sweepNext n with
      | (true, s) => s
      | (false, s) => { s with resume := s.resume ++ [.sweepEnd (Fin.ofNat 24 n)] }) s

end Sys2Proof.Machine
end

