-- ==== Sys2Proof/Machine/Wire.lean ====
section
/-!
DEFINITION. Machine/Wire.lean: reading a message from the slots of a link, with every protocol rule of R184 (R161, R184-R193, R203,
R210, R363, R418).
-/
namespace Sys2Proof.Machine

open Sys2Proof

/-! ### Reading -/

/-- What reading needs to know of the link: the logical port, its mode (R177), its peer, the device, and the deadline. -/
structure RxCtx where
  port : PortId
  mode : Nat
  peer : NodeId
  own : NodeId
  check : Bool
  deadline : Nat
deriving DecidableEq, Repr

/-- R161: the data slots a header announces. -/
def hDslots (h : Slot) : Nat := fld h 6 0
/-- R161: its virtual channel. -/
def hVc (h : Slot) : Nat := fld h 15 13
/-- R184: its opcode. -/
def hOp (h : Slot) : Nat := fld h 23 16
/-- R184: its traffic class. -/
def hTc (h : Slot) : BitVec 3 := BitVec.ofNat 3 (fld h 31 29)

/-- The line that some data slots spell. -/
def lineOfSlots (ss : List Slot) : Line :=
  BitVec.ofNat 512 ((ss.take 4).foldr (fun s a => s.toNat + 2 ^ 128 * a) 0)

/-- R184, R193, R242, R236: is OPND a valid encoding for the opcode? -/
def opndOk (op : ReqOp) (o : Word) : Bool :=
  match op with
  | .atom =>
    let (aop, fmt, size, off) := (fld o 11 8, fld o 15 12, 4 * 2 ^ fld o 7 6, fld o 5 0)
    fld o 31 16 = 0 && fld o 7 6 ≠ 3 && off % size = 0 &&
      (match AtomOp.ofCode aop with | some a => atomCombo a fmt size | none => false)
  | .rsD => fld o 31 28 = 0
  | .rsU =>
    fld o 31 16 = 0 && fld o 7 0 = 0 && decide (fld o 15 12 ≤ 6) &&
      (match RedOp.ofCode (fld o 11 8) with | some .mean | some .count | none => false | some _ => true)
  | _ => o = 0

/-- R187: does the opcode use MASK? -/
def ReqOp.masks : ReqOp → Bool
  | .wrP | .capWr | .mcWr => true
  | _ => false

/-- R184, R186, R187: read a request from its header and the slots after it; none: a protocol error. The second value is the
line check it carries. -/
def readReq (c : RxCtx) (h : Slot) (rest : List Slot) : Option (Req × Option Nat) :=
  match ReqOp.ofCode (hOp h) with
  | none => none
  | some op =>
    let px := bit h 26
    let p : Slot := if px then rest.headD 0 else 0
    let opnd : Word := BitVec.ofNat 32 (fld p 127 96)
    let d := if px then rest.drop 1 else rest
    let n := if casWide op opnd then 2 else op.dataSlots
    let dnode : NodeId := if px then BitVec.ofNat 12 (fld p 75 64) else c.own
    let mask : BitVec 64 := BitVec.ofNat 64 (fld p 63 0)
    if c.mode = 0 ∧ hVc h / 2 = 0 ∧ fld h 25 24 = 0 ∧ fld h 95 94 = 0 ∧ hDslots h = b2n px + n ∧ (op.px → px) ∧
       (c.check ∧ n ≠ 0 → px) ∧ fld p 79 76 = 0 ∧ (¬op.masks → mask = 0) ∧ (op = .capWr → mask ≠ 0) ∧ opndOk op opnd ∧
       (c.check ∧ n ≠ 0 ∨ fld p 95 80 = 0) then
      some ({ op := op, origin := .port c.port, src := c.peer, tag := BitVec.ofNat 12 (fld h 51 40), dnode := dnode
              laddr := BitVec.ofNat 42 (fld h 93 52), tc := hTc h, colour := BitVec.ofNat 2 (fld h 28 27)
              epoch := BitVec.ofNat 8 (fld h 39 32), key := BitVec.ofNat 32 (fld h 127 96), mask := mask, opnd := opnd
              data := lineOfSlots d, deadline := c.deadline, keyless := none },
            if c.check ∧ n ≠ 0 then some (fld p 95 80) else none)
    else none

/-- R190: read BI_ACK or WB; the peer sends no other of these. -/
def readCoh (c : RxCtx) (h : Slot) (rest : List Slot) : Option Coh :=
  let la : BitVec 42 := BitVec.ofNat 42 (fld h 105 64)
  let clean := hVc h / 2 = 2 ∧ c.mode = 0 ∧ fld h 127 106 = 0 ∧ fld h 28 25 = 0
  if hOp h = 0x32 ∧ clean ∧ hDslots h = 0 ∧ fld h 63 32 = 0 ∧ bit h 24 = false then some (.biAck (hTc h) la)
  else if hOp h = 0x33 ∧ clean ∧ hDslots h = 4 ∧ fld h 47 33 = 0 then
    let d := lineOfSlots rest
    let bad := c.check && bit h 32 && decide (fld h 63 48 ≠ lineCheck (lineBytes d))
    some (.wb (hTc h) la (bit h 24) bad d)
  else none

/-- R191: read a handoff message. -/
def readHand (c : RxCtx) (h : Slot) : Option Hand :=
  let op := match hOp h with
    | 0x60 => some HandOp.offer | 0x61 => some .accept | 0x62 => some .commit | 0x63 => some .cancel | _ => none
  match op, Status.ofCode (fld h 28 25) with
  | some op, some st =>
    if hVc h / 2 = 3 ∧ c.mode = 0 ∧ hDslots h = 0 ∧ bit h 24 = false ∧ fld h 47 44 = 0 ∧ fld h 63 56 = 0 ∧ fld h 95 91 = 0 ∧
       (op = .cancel ∨ st = .ok) then
      some { op := op, tc := hTc h, status := st, node := BitVec.ofNat 12 (fld h 43 32), hseq := BitVec.ofNat 8 (fld h 55 48)
             granule := BitVec.ofNat 27 (fld h 90 64), key := BitVec.ofNat 32 (fld h 127 96) }
    else none
  | _, _ => none

/-- The lines of data slots. -/
def linesOfSlots : Nat → List Slot → List Line
  | 0, _ => []
  | k + 1, ss => if ss = [] then [] else lineOfSlots ss :: linesOfSlots k (ss.drop 4)

/-- R203: read a tray completion; len: the LEN of the outstanding read that it answers, none where there is none. -/
def readTray (c : RxCtx) (len : Option Nat) (h : Slot) (rest : List Slot) : Option TrayCmp :=
  match Status.ofCode (fld h 28 25) with
  | none => none
  | some st =>
    if (hOp h = 0x58 ∨ hOp h = 0x59) ∧ hVc h / 2 = 1 ∧ c.mode = 1 ∧ bit h 24 = false ∧ fld h 127 112 = 0 ∧
       (st = .ok ∨ st = .poison ∨ st = .integrity ∨ st = .unmapped) ∧
       (if hOp h = 0x58 then hDslots h = 0 else hDslots h % 4 = 0 ∧ 0 < hDslots h ∧ st = .ok ∧ hDslots h = 4 * len.getD (hDslots h / 4)) then
      some { tc := hTc h, status := st, ttag := BitVec.ofNat 16 (fld h 47 32), pmask := BitVec.ofNat 16 (fld h 63 48)
             umask := BitVec.ofNat 16 (fld h 79 64), corr := BitVec.ofNat 16 (fld h 95 80), unc := BitVec.ofNat 16 (fld h 111 96)
             data := linesOfSlots rest.length rest }
    else none

/-- R363: read a time-exchange message; the receive stamp is overwritten by the ingress. -/
def readTime (h : Slot) (rest : List Slot) (stamp : BitVec 80) : Option TimeX :=
  let d : Slot := rest.headD 0
  let k := match fld h 28 26 with | 0 => some TimeKind.req | 1 => some .rsp | 2 => some .fup | _ => none
  match k with
  | none => none
  | some k =>
    if hVc h / 2 = 3 ∧ hDslots h = 1 ∧ fld h 25 24 = 0 ∧ fld d 87 82 = 0 ∧ fld d 127 96 = 0 then
      some { kind := k, tc := hTc h, seq := BitVec.ofNat 16 (fld h 47 32), rx := stamp
             t := BitVec.ofNat 80 (fld d 63 0 * 2 ^ 16 + fld d 79 64), sync := bit d 80, root := bit d 81
             hops := BitVec.ofNat 8 (fld d 95 88) }
    else none

/-- R418: read an MCTP packet: some none where only its length is malformed, and the packet is discarded. -/
def readMctp (h : Slot) (rest : List Slot) : Option (Option (List Byte)) :=
  if hVc h / 2 = 3 ∧ fld h 28 24 = 0 ∧ fld h 127 32 = 0 ∧ 1 ≤ hDslots h then
    let bs := bytesOfSlots rest
    let n := leNat (bs.take 2)
    if 5 ≤ n ∧ n ≤ 1020 ∧ hDslots h = (n + 4 + 15) / 16 ∧ leNat ((bs.drop 2).take 2) = 0 then some (some ((bs.drop 4).take n))
    else some none
  else none

/-- R210: read one record from a body: the record, and the bytes after it. -/
def readRec (bs : List Byte) : Option (Rec × List Byte) :=
  match ReqOp.ofCode (leNat (bs.take 1)) with
  | none => none
  | some op =>
    let fl := leNat ((bs.drop 1).take 1)
    let ext := fl.testBit 0
    let x := if ext then (bs.drop 16).take 16 else []
    let opnd : Word := BitVec.ofNat 32 (leNat (x.drop 12))
    let mask : BitVec 64 := BitVec.ofNat 64 (leNat (x.take 8))
    let n := 16 * (if casWide op opnd then 2 else op.dataSlots)
    let off := if ext then 32 else 16
    let la := leNat ((bs.drop 8).take 8)
    let lchk := leNat ((x.drop 10).take 2)
    let d := (bs.drop off).take n
    if off + n ≤ bs.length ∧ fl < 32 ∧ leNat ((bs.drop 3).take 1) = 0 ∧ la < 2 ^ 42 ∧ (op.px → ext) ∧ opndOk op opnd ∧
       leNat ((x.drop 8).take 2) < 4096 ∧ (fl.testBit 4 = false → lchk = 0) ∧ (op = .capWr → mask ≠ 0) ∧ (¬op.masks → mask = 0) then
      some ({ op := op, tc := BitVec.ofNat 3 (nfld fl 3 1), epoch := BitVec.ofNat 8 (leNat ((bs.drop 2).take 1))
              key := BitVec.ofNat 32 (leNat ((bs.drop 4).take 4)), laddr := BitVec.ofNat 42 la, mask := mask, opnd := opnd
              data := BitVec.ofNat 512 (leNat d), ext := ext, dnode := BitVec.ofNat 12 (leNat ((x.drop 8).take 2))
              bad := fl.testBit 4 && ext && decide (lchk ≠ lineCheck d) }, bs.drop (off + n))
    else none

/-- R210: read n records that fill the bytes. -/
def readRecs : Nat → List Byte → Option (List Rec)
  | 0, bs => if bs = [] then some [] else none
  | n + 1, bs =>
    match readRec bs with
    | none => none
    | some (r, rest) => (readRecs n rest).map (fun rs => r :: rs)

/-- R210: read a transfer from its body. -/
def readBulk (tc : BitVec 3) (txid : BitVec 32) (bs : List Byte) : Option Bulk :=
  let f := fun o n => leNat ((bs.drop o).take n)
  if f 6 2 < 4096 ∧ f 4 2 < 4096 ∧ 1 ≤ f 8 2 ∧ f 8 2 ≤ 4094 ∧ f 0xA 2 < 2 ∧ f 0xC 4 = bs.length ∧ 48 ≤ bs.length ∧
     bs.length ≤ 65536 ∧ f 0x18 8 = 0 then
    (readRecs (f 8 2) (bs.drop 32)).map (fun rs =>
      { txid := txid, tc := tc, seq := BitVec.ofNat 32 (f 0 4), src := BitVec.ofNat 12 (f 4 2), dnode := BitVec.ofNat 12 (f 6 2)
        mc := f 0xA 2 = 1, deadline := f 0x10 8, records := rs })
  else none

/-- R210: read the status entries of a reply, and the data of the records that carry it; a reserved bit is a protocol error. returns: does
record i return data? -/
def readAnswers (returns : Nat → Bool) : Nat → Nat → List Byte → List Byte → Option (List RecAns)
  | 0, _, _, _ => some []
  | n + 1, i, es, ds =>
    let v := leNat (es.take 4)
    match (if nfld v 15 8 = 0 then Status.ofCode (nfld v 3 0) else none) with
    | none => none
    | some st =>
      let has := returns i && st = .ok
      let a : RecAns := { status := st, grant := nfld v 5 4, dw := v.testBit 6
                          lchk := if v.testBit 7 then some (BitVec.ofNat 16 (nfld v 31 16)) else none
                          data := if has then some (lineOfBytes (ds.take 64)) else none }
      (readAnswers returns n (i + 1) (es.drop 4) (if has then ds.drop 64 else ds)).map (fun r => a :: r)

/-- R210: read a reply from its body. recs: for each record of the transfer that it answers whether it returns data; none: no such transfer
is outstanding, and the reply's data is not split. -/
def readRsp (recs : Option (List Bool)) (tc : BitVec 3) (txid : BitVec 32) (bs : List Byte) : Option BulkRsp :=
  let n := leNat ((bs.drop 4).take 2)
  let e := alignUp (4 * n) 16
  let returns := fun i => (recs.getD []).getD i false
  if 16 + e ≤ bs.length ∧ leNat ((bs.drop 6).take 10) = 0 ∧ leNat ((bs.drop (16 + 4 * n)).take (e - 4 * n)) = 0 ∧ recs.all (fun l => l.length = n) then
    match readAnswers returns n 0 (bs.drop 16) (bs.drop (16 + e)) with
    | some a =>
      if recs.isNone ∨ bs.length = 16 + e + 64 * (a.filter (fun r => r.data.isSome)).length then
        some { txid := txid, tc := tc, seq := BitVec.ofNat 32 (leNat (bs.take 4)), answers := a }
      else none
    | none => none
  else none

end Sys2Proof.Machine
end

