-- ==== Sys2Proof/Machine/Consent.lean ====
section
/-!
DEFINITION. Machine/Consent.lean: which debug classes are in force (R426, R427, R429), what a composition is granted (R379),
and whether the device is in Footway mode (R496).
-/
namespace Sys2Proof.Machine

open Sys2Proof

/-- R427: may a JTAG instruction act? With DEBUG_DISABLE the boundary-scan instructions follow consent all the same
(DEDUCED), and the private ones never open. -/
def State.jtagMay (s : State) (i : Jtag) : Bool :=
  match i with
  | .bypass | .idcode => true
  | .boundary | .extest => s.comps.all (fun e => if e.2 = 1 then (s.classes e.1).testBit 4 else e.2 = 0)
  | .priv => s.debugOpen

/-- R379: is Spindle k of Bay n granted to composition c? -/
def State.spGranted (s : State) (c n k : Nat) : Bool :=
  bit (s.reg? (pgOfHub Reg.Comp.SP_GRANT) Reg.Comp.SP_GRANT n c) k

/-- R379: composition c's share of Bay n. -/
def State.bayShare (s : State) (c n : Nat) : Nat :=
  fld (s.reg? (pgOfHub Reg.Comp.BAY_SHARE) Reg.Comp.BAY_SHARE (n / 4) c) (8 * (n % 4) + 4) (8 * (n % 4))

/-- R379: composition c's share of Pier p. -/
def State.pierShare (s : State) (c p : Nat) : Nat :=
  fld (s.reg? (pgOfHub Reg.Comp.PIER_SHARE) Reg.Comp.PIER_SHARE (p / 4) c) (8 * (p % 4) + 4) (8 * (p % 4))

/-- R496: FOOT_STAT.ACTIVE. -/
def State.inFootway (s : State) : Bool := bit (s.hub Reg.Flt.FOOT_STAT) 31

end Sys2Proof.Machine
end

