-- ==== Sys2Proof/Machine/Deck.lean ====
section
/-!
DEFINITION. Machine/Deck.lean: the Deck: limits and landing queues (R122-R128), policing (R134, R135), the ingress path of
R178, Capstone holds (R79), sampling (R143-R145) and histograms (R146).
-/
namespace Sys2Proof.Machine

open Sys2Proof

/-! ### Register writes with reserved encodings (R16, R17) -/

/-- The alignment of a register whose one field is an aligned local offset, as its table says; 1 for any other register. A
misaligned value is taken for a reserved encoding (DEDUCED: log entry 51). -/
def alignOf (r : RegSpec) : Nat :=
  if [Reg.Trd.NEXT_ADDR, Reg.Decl.DECL_ADDR, Reg.HReg.TBL_ADDR, Reg.CTab.CT_ADDR, Reg.Comp.SNAP_ADDR, Reg.KS.KS_ADDR, Reg.MC.FILL_BASE, Reg.MC.FILL_LIMIT].contains r then 64
  else if r = Reg.Stream.WIN_BASE ∨ r = Reg.HReg.MIG_BASE then 2 ^ 21 else 1

/-- Is the value of field f in one of the ranges that a register's table gives that field (R17)? -/
def RegSpec.legalField (r : RegSpec) (f : FieldRange) (v : DWord) : Bool :=
  r.legal.any (fun g => g.hi = f.hi && g.lo = f.lo && decide (g.least ≤ fld v f.hi f.lo) && decide (fld v f.hi f.lo ≤ g.most))

/-- What a write of v leaves in a register that holds old, and whether a field held a reserved encoding (R16, R17). -/
def RegSpec.written (r : RegSpec) (old v : DWord) : DWord × Bool :=
  if v.toNat % alignOf r ≠ 0 then (old, true) else
  let m : DWord := BitVec.ofNat 64 r.wmask
  let new := (old &&& ~~~m) ||| (v &&& m)
  r.legal.foldl (fun a f =>
    if r.legalField f v then a
    else (setFld a.1 f.hi f.lo (fld old f.hi f.lo), true)) (new, false)

/-- Write element i of a register of a page, in a bank, by the rules of R16 and R17. -/
def State.writeReg (s : State) (pg : Nat) (r : RegSpec) (i bank : Nat) (v : DWord) : State :=
  let w := r.written (s.reg? pg r i bank) v
  let s := s.setReg pg r i bank w.1
  if w.2 then s.writeRejected pg else s

/-! ### Limits (R126-R128) -/

/-- CLASS_LIM_c of Pier group g: REQ_LIM and RSP_LIM. -/
def State.classLim (s : State) (g c : Nat) : Nat × Nat :=
  let v := s.rgi (pgPort g) Reg.Port.CLASS_LIM c
  (fld v 15 0, fld v 31 16)

/-- R127: the arithmetic that every write keeps: the total, and whether it holds. -/
def limCheck (wb mgmt : Nat) (lims : List (Nat × Nat)) (caps : List Nat) : Nat × Bool :=
  let total := 768 + wb + mgmt + (lims.map (fun l => l.1 + l.2)).sum
  (total, decide (total ≤ 24576) && decide (48 ≤ wb) && decide (24 ≤ mgmt) &&
    (lims.zip caps).all (fun p =>
      let (req, rsp) := p.1
      (req = 0 || decide (12 ≤ req)) && (rsp = 0 || decide (12 ≤ rsp)) && decide (12 ≤ p.2) &&
      decide (p.2 ≤ (if req + rsp = 0 then 12 else req + rsp))))

/-- R127: a write to LIM_RSV, CLASS_LIM or VOQ_CAP of Pier group g. -/
def State.limitWrite (s : State) (g : Nat) (which : LimitReg) (v : Word) : State :=
  let pg := pgPort g
  let new := match which with
    | .rsv => s.setN pg Reg.Port.LIM_RSV v.toNat
    | .classLim c => s.setReg pg Reg.Port.CLASS_LIM c.val 0 (BitVec.ofNat 64 v.toNat)
    | .voqCap c => s.setReg pg Reg.Port.VOQ_CAP c.val 0 (BitVec.ofNat 64 (v.toNat % 65536))
  let rsv := new.rg pg Reg.Port.LIM_RSV
  let lims := (List.range 8).map (fun c => new.classLim g c)
  let caps := (List.range 8).map (fun c => (new.rgi pg Reg.Port.VOQ_CAP c).toNat)
  let (total, ok) := limCheck (fld rsv 15 0) (fld rsv 31 16) lims caps
  if ok then new.setN pg Reg.Port.LIM_SUM total else s.writeRejected pg

/-- The cells held at input g of a message class and traffic class, of one arrival port if given. -/
def State.heldCells (s : State) (g cls tc : Nat) (x : Option Nat) : Nat :=
  let mine := s.voqs.filter (fun v => v.inp = g && v.cls = cls && v.tc = tc && (match x with | some p => v.arr = p | none => true))
  ((mine.filter (fun v => v.mc.isNone)).map VoqItem.cells).sum +
  -- R201: the cells of a multicast store stay until every output has its copy
  ((mine.filterMap (fun v => v.mc.map (fun k => (k, cellsOf v.slots)))).eraseDups.map Prod.snd).sum

/-- The cells held at input g of a message class over all traffic classes, of one arrival port if given. -/
def State.heldAll (s : State) (g cls : Nat) (x : Option Nat) : Nat := ((List.range 8).map (fun c => s.heldCells g cls c x)).sum

/-- The active logical ports of Pier group g (R128). -/
def State.activePorts (s : State) (g : Nat) : Nat :=
  (((List.range 12).map (fun i => 12 * g + i)).filter (fun x => s.portExists x && decide ((s.link x).state = .active))).length

/-- R126, R128: is there room for a message's cells under its limit at its input g, and under the share of its arrival port x? The share
is of each limit by class; VOQ_CAP, a bound of one VOQ, is not shared (DESIGN CHOICE: log entry 71). -/
def State.limitRoom (s : State) (g x : Nat) (v : VoqItem) : Bool :=
  let n := s.needs v
  let share := fun lim => lim / max 1 (s.activePorts g)
  let (req, rsp) := s.classLim g v.tc
  let rsv := s.rg (pgPort g) Reg.Port.LIM_RSV
  let fits := fun lim held mine => decide (held + n ≤ lim) && decide (mine + n ≤ share lim)
  let wbHeld := fun (p : Option Nat) => s.heldAll g 2 p +
    ((List.range 8).map (fun c => if (s.classLim g c).2 = 0 then s.heldCells g 1 c p else 0)).sum
  match v.cls with
  | 0 => fits req (s.heldCells g 0 v.tc none) (s.heldCells g 0 v.tc (some x))
  | 1 => if rsp = 0 then fits (fld rsv 15 0) (wbHeld none) (wbHeld (some x))
         else fits rsp (s.heldCells g 1 v.tc none) (s.heldCells g 1 v.tc (some x))
  | 2 => fits (fld rsv 15 0) (wbHeld none) (wbHeld (some x))
  | _ => fits (fld rsv 31 16) (s.heldAll g 3 none) (s.heldAll g 3 (some x))

/-- R126: has the VOQ of a message room for its cells under VOQ_CAP? -/
def State.capRoom (s : State) (g : Nat) (v : VoqItem) : Bool :=
  decide (s.voqCells g v.out v.tc + s.needs v ≤ (s.rgi (pgPort g) Reg.Port.VOQ_CAP v.tc).toNat)

/-! ### Policing (R134, R135) -/

/-- Policer i of Pier group g. -/
def State.policer (s : State) (g i : Nat) : Policer := SMap.get (fun _ => Policer.init) s.policers (g * 1024 + i)

/-- Replace policer i of Pier group g. -/
def State.setPolicer (s : State) (g i : Nat) (p : Policer) : State :=
  { s with policers := SMap.set (fun _ => Policer.init) s.policers (g * 1024 + i) p }

/-- The policer map entry of a Source at Pier group g. -/
def State.polEntry (s : State) (g src : Nat) : Nat := SMap.get (fun _ => 0) s.polMap (g * 4096 + src)

/-- R135: fill a policer's buckets up to now. Buckets are in thousandths of a byte: a rate in MB/s is that many of them
per ns. -/
def Policer.fill (p : Policer) (now : Nat) : Policer :=
  let dt := now - p.filled
  let cap := fun (w : Word) => ((fld w 19 0 * 64000 : Nat) : Int)
  { p with c := min (cap p.w2) (p.c + (fld p.w0 19 0 * dt : Nat)), p := min (cap p.w3) (p.p + (fld p.w1 19 0 * dt : Nat)), filled := now }

/-- R135: colour b bytes: 0 green, 1 yellow, 2 red. -/
def Policer.colour (p : Policer) (incoming b : Nat) : Nat × Policer :=
  let x : Int := ((b * 1000 : Nat) : Int)
  let inc := if bit p.w3 30 then (if incoming = 3 then 0 else incoming) else 0
  if bit p.w3 29 then
    if inc = 0 ∧ p.c ≥ x then (0, { p with c := p.c - x, green := p.green + b })
    else if inc ≤ 1 ∧ p.p ≥ x then (1, { p with p := p.p - x, yellow := p.yellow + b })
    else (2, { p with red := p.red + b })
  else
    if inc = 2 ∨ p.p < x then (2, { p with red := p.red + b })
    else if inc = 1 ∨ p.c < x then (1, { p with p := p.p - x, yellow := p.yellow + b })
    else (0, { p with c := p.c - x, p := p.p - x, green := p.green + b })

/-- The policer that applies to a request at Pier group g, if one does (R134). -/
def State.policerFor (s : State) (g : Nat) (r : Req) : Option Nat :=
  let e := s.polEntry g r.src.toNat
  let i := 8 * (e % 128) + r.tc.toNat
  if e.testBit 7 ∧ bit (s.policer g i).w3 31 then some i else none

/-- R135: colour a request of n slots at Pier group g and apply the policer's action. The first value: the request waits as red, its
colour field unchanged and no bucket charged. -/
def State.police (s : State) (g n : Nat) (r : Req) : Bool × Req × State :=
  match s.policerFor g r with
  | none => (false, { r with colour := 3 }, s)
  | some i =>
    let p0 := (s.policer g i).fill s.now
    let (col, p1) := p0.colour r.colour.toNat (16 * n)
    let act := fld p0.w3 28 27
    if col = 2 ∧ act = 2 then (true, r, s.setPolicer g i p0)
    else
      let s := s.setPolicer g i p1
      let s := if col = 1 then s.bumpI (pgPort g) Reg.Port.YELLOW_CNT r.tc.toNat
               else if col = 2 then s.bumpI (pgPort g) Reg.Port.RED_CNT r.tc.toNat else s
      let r := { r with colour := BitVec.ofNat 2 col }
      if col = 2 ∧ act = 1 then
        (false, { r with tc := BitVec.ofNat 3 (fld p0.w3 26 24) }, s.bump (pgPort g) Reg.Port.DEMOTE_CNT)
      else (false, r, s)

/-! ### Landing queues (R128, R178 step 7) -/

/-- The landing queue of a logical port and virtual channel. -/
def State.landingOf (s : State) (x vc : Nat) : List LandItem := SMap.get (fun _ => []) s.landing (x * 8 + vc)

/-- Replace a landing queue. -/
def State.setLanding (s : State) (x vc : Nat) (q : List LandItem) : State :=
  { s with landing := SMap.set (fun _ => []) s.landing (x * 8 + vc) q }

/-- R164: n slots of a virtual channel are free again; the peer hears of it in the next three flits (R165). -/
def State.freeSlots (s : State) (x vc n : Nat) : State :=
  let l := s.link x
  s.setLink x { l with freed := SMap.set (fun _ => 0) l.freed vc (SMap.get (fun _ => 0) l.freed vc + n), owed := 3 }

/-- Put a message of n slots at the end of its landing queue. -/
def State.land (s : State) (x vc n : Nat) (m : Msg) (held : Bool) : State :=
  s.setLanding x vc (s.landingOf x vc ++ [{ msg := m, size := n, held := held }])

/-- R178: refuse a request of n slots at the ingress, count it, and free its slots. f: none for a refusal that is not recorded. -/
def State.ingressRefuse (s : State) (x vc n : Nat) (r : Req) (st : Status) (f : Option Refuse) : State :=
  let s := s.bump (pgPG (x / 12)) Reg.PG.INGRESS_REFUSE_CNT
  let s := match f with | some f => s.ingressFault (x / 12) f r.src r.fabric | none => s
  (s.freeSlots x vc n).refuse r st

/-- R86: the COMP field of a refusal at the ingress: the composition of the entry that covers the request's address here, 0 for none. -/
def State.coverComp (s : State) (r : Req) : Nat := if r.dnode = s.node then s.compAtLine r.addr else 0

/-- R126: refuse a request whose traffic class is disabled. -/
def State.classRefuse (s : State) (x vc n : Nat) (r : Req) : State :=
  (s.bump (pgPort (x / 12)) Reg.Port.ZERO_CLASS_CNT).ingressRefuse x vc n r .busyRetry (some ⟨.busyRetry, 0xE, s.coverComp r⟩)

/-- R126: is a request's traffic class disabled at Pier group g? -/
def State.classOff (s : State) (g : Nat) (r : Req) : Bool := (s.classLim g r.tc.toNat).1 = 0

/-- R497: is the request refused in Footway mode? -/
def State.footRefuses (s : State) (r : Req) : Bool :=
  s.inFootway &&
  (match r.op with | .atom | .rsD | .rsU | .mcWr => true | _ => false) || (s.inFootway && (r.dnode ≠ s.node || decide (stackEnd ≤ r.addr)))

/-- R393: check 3 of R61. -/
def State.check3 (s : State) (x : Nat) (r : Req) : Option Nat :=
  match s.portComp x with
  | some c =>
    if r.dnode = s.node ∧ s.fenced c then
      match s.selectMap r.epoch.toNat with
      | .ok (m, _) => if s.admitted m c r.src (granule r.addr) r.op then none else some c
      | .error _ => none
    else none
  | none => none

/-! ### Capstone stores (R79) -/

/-- R79: record an arriving store of a Source toward this device. -/
def State.noteStore (s : State) (x : Nat) (r : Req) : State :=
  if r.op.stores ∧ r.dnode = s.node then
    match s.capWins.find? (fun w => w.port = x && w.src = r.src) with
    | some _ =>
      { s with capWins := s.capWins.map (fun w =>
          if w.port = x ∧ w.src = r.src then { w with reqs := w.reqs ++ [(r.tag, none)] } else w) }
    | none => { s with capWins := s.capWins ++ [{ port := x, src := r.src, reqs := [(r.tag, none)] }] }
  else s

/-- R79: has every earlier request of a hold completed? -/
def CapHold.ready (h : CapHold) : Bool := h.waits.all (fun w => w.2.isSome)

/-- R79: the status of the earliest failed request of a hold. -/
def CapHold.failure (h : CapHold) : Option Status := h.waits.findSome? (fun w => w.2.bind (fun st => if st.done then none else some st))

/-- R79: forward a Capstone store of logical port x whose earlier requests have completed, or fail it. -/
def State.capResolve (s : State) (x : Nat) (h : CapHold) : State :=
  match h.failure with
  | some st => ((s.bump (pgPG (x / 12)) Reg.PG.CAP_FAIL_CNT).freeSlots x h.vc h.size).refuse h.req st
  | none => s.land x h.vc h.size (.req h.req) h.red

/-- R79: the stores of a Source on logical port x that a Capstone store is to wait for; once one has arrived, none is left for the
next. -/
def State.closeCap (s : State) (x : Nat) (src : NodeId) : State :=
  { s with capWins := s.capWins.filter (fun w => ¬(w.port = x ∧ w.src = src)) }

/-- R79: a Capstone store of n slots reaches step 6 of R178: it is held while an earlier request is unanswered. red: its policer holds
it. -/
def State.capArrive (s : State) (x vc n : Nat) (r : Req) (red : Bool) : State :=
  let waits := match s.capWins.find? (fun w => w.port = x && w.src = r.src) with
    | some w => w.reqs
    | none => []
  let s := s.closeCap x r.src
  let h : CapHold := { req := r, waits := waits, vc := vc, size := n, red := red }
  if h.ready then s.capResolve x h
  else { s with capHolds := s.capHolds ++ [h] }.bump (pgPG (x / 12)) Reg.PG.CAP_HOLD_CNT

/-- R79: the last earlier request of a held Capstone store has completed. -/
def State.capRelease (s : State) (x : Nat) (src : NodeId) (tag : BitVec 12) : State :=
  match s.capHolds.find? (fun h => h.req.origin.port? = some x && h.req.src = src && h.req.tag = tag && h.ready) with
  | some h => { s with capHolds := s.capHolds.erase h }.capResolve x h
  | none => s

/-! ### The ingress path (R178) -/

/-- R178 steps 3 to 7 for a request of n slots on logical port x, virtual channel vc; lchkOk: its line check holds (R192). -/
def State.ingressReq (s : State) (x vc n : Nat) (r : Req) (lchkOk : Bool) : State :=
  let g := x / 12
  let s := s.noteStore x r
  -- R79: a Capstone store that is refused here is the previous one of the next all the same
  let refused := fun (s : State) => if r.op = .capWr ∧ r.dnode = s.node then s.closeCap x r.src else s
  if s.footRefuses r then (refused ((s.bumpHub Reg.Flt.FOOT_REFUSE_CNT).freeSlots x vc n)).refuse r .busyRetry
  else if s.classOff g r then (refused s).classRefuse x vc n r
  else
    let (hold, r, s) := s.police g n r
    if s.classOff g r then (refused s).classRefuse x vc n r
    else if r.op ≠ .mcWr ∧ r.dnode ≠ s.node ∧ ¬(s.route r.dnode.toNat).en then
      (refused s).ingressRefuse x vc n r .notHome (some ⟨.notHome, 0xC, 0⟩)
    else if r.op ≠ .mcWr ∧ r.dnode = s.node ∧ s.place r.addr = .hole then
      (refused s).ingressRefuse x vc n r .unmapped (some ⟨.unmapped, 0xD, 0⟩)
    else match (if r.op = .mcWr then none else s.check3 x r) with
      | some _ => (refused s).ingressRefuse x vc n r .rangeFault (some ⟨.rangeFault, 0x8, s.coverComp r⟩)
      | none =>
        if ¬lchkOk then (refused (s.bump (pgPG g) Reg.PG.LCHK_ERR_CNT)).ingressRefuse x vc n r .integrity none
        else if r.op = .capWr ∧ r.dnode = s.node then s.capArrive x vc n r hold
        else s.land x vc n (.req r) hold

/-- R178 for any other message, of n slots. A WB or BI_ACK without a home is answered at once (R75). -/
def State.ingressMsg (s : State) (x vc n : Nat) (m : Msg) : State :=
  match m with
  | .coh (.wb tc la k b d) =>
    if stackEnd ≤ la.toNat * 64 then (s.freeSlots x vc n).writeBack x tc la k b d else s.land x vc n m false
  | .coh (.biAck _ la) =>
    if stackEnd ≤ la.toNat * 64 then (s.freeSlots x vc n).recallAck x la else s.land x vc n m false
  | _ => s.land x vc n m false

/-- R125: the line-order table of a logical port: the lines of the requests that wait in the Deck, each once for each traffic class. -/
def State.lineTable (s : State) (x : Nat) : List (NodeId × BitVec 42 × BitVec 3) :=
  ((s.voqs.filter (fun v => v.arr = x && v.cls = 0)).filterMap (fun v => match v.msg with
    | .req q => some (q.dnode, q.laddr, q.tc)
    | _ => none)).eraseDups

/-- R125: is the line-order table of a logical port full? -/
def State.lineFull (s : State) (x : Nat) : Bool := decide (256 ≤ (s.lineTable x).length)

/-- R125: is a request's line recorded under another traffic class, or is the table full and the line not recorded under its own? -/
def State.lineWaits (s : State) (x : Nat) (r : Req) : Bool :=
  (s.lineTable x).any (fun e => e.1 = r.dnode && e.2.1 = r.laddr && e.2.2 ≠ r.tc) ||
    (s.lineFull x && !(s.lineTable x).contains (r.dnode, r.laddr, r.tc))

/-- The Deck output that a message from logical port x leaves by. -/
def State.outOf (s : State) (x : Nat) (m : Msg) : Nat :=
  let span := x / 72
  match m with
  | .req r => match s.outPort (x / 12) r with | .ok o => o | .error _ => 52
  | .coh (.wb _ la _ _ _) | .coh (.biAck _ la) => 24 + bayOf s.sel (la.toNat * 64)
  | .trayCmp _ =>
    match (List.range s.trayN).find? (fun k => s.trayPort k = x) with
    | some k => 24 + (s.traySlot k).2
    | none => 52
  | .bulk _ | .bulkRsp _ | .bulkPart _ _ _ => 48 + span
  | _ => 52

/-- R138 step 4: a message whose output is down. -/
def State.outDown (s : State) (inp : Nat) (m : Msg) : State :=
  match m with
  | .req r => (s.bump (pgPort inp) Reg.Port.FLUSH_REQ_CNT).refuse r .portDown
  | _ => s.emit (.drop m)

/-- What the head of a landing queue does: there is none; it has moved or been refused; its policer holds it; or it waits for the line
order, a limit or a cap. -/
inductive LandStep where
  | empty | moved | held | waits
deriving DecidableEq, Repr

/-- The queue item that a landing-queue head of logical port x becomes. -/
def State.landVoq (s : State) (x : Nat) (i : LandItem) (path : Option PathErr) : VoqItem :=
  { inp := x / 12, out := s.outOf x i.msg, tc := i.msg.tc, cls := i.msg.cls, arr := x, dst := 0x1FF, time := s.now, stuck := false, msg := i.msg
    size := i.size, path := path }

/-- R126: a landing-queue head that its limit, its VOQ's cap and the line order let pass moves into its VOQ. -/
def State.landMove (s : State) (x vc : Nat) (i : LandItem) (rest : List LandItem) (path : Option PathErr) : LandStep × State :=
  let g := x / 12
  let v := s.landVoq x i path
  let waits := match i.msg with | .req r => s.lineWaits x r | _ => false
  if waits then
    (.waits, if i.waited then s else (s.setLanding x vc ({ i with waited := true } :: rest)).bump (pgPG g) Reg.PG.LINE_WAIT_CNT)
  else if !s.limitRoom g x v || !s.capRoom g v then (.waits, s)
  else
    let s := (s.setLanding x vc rest).freeSlots x vc i.size
    if !s.outUp v.out then (.moved, (s.entered v).outDown g i.msg) else (.moved, s.pushVoq v)

/-- R126, R135: one try of the head of a landing queue. A red request that its policer holds is coloured again; a request whose class is
disabled is refused. path: the error that the message meets in the Deck (R142). -/
def State.landStep (s : State) (x vc : Nat) (path : Option PathErr) : LandStep × State :=
  match s.landingOf x vc with
  | [] => (.empty, s)
  | i :: rest =>
    match i.msg with
    | .req r =>
      let (hold, r, s) := if i.held then s.police (x / 12) i.size r else (false, r, s)
      if hold then (.held, s)
      else if s.classOff (x / 12) r then (.moved, (s.setLanding x vc rest).classRefuse x vc i.size r)
      else
        let i : LandItem := { i with msg := .req r, held := false }
        (s.setLanding x vc (i :: rest)).landMove x vc i rest path
    | _ => s.landMove x vc i rest path

/-- R126: the head of a landing queue moves into its VOQ, if it may. -/
def State.landingAdmit (s : State) (x vc : Nat) (path : Option PathErr) : State := (s.landStep x vc path).2

/-- R124: does a message wait in its sub-queue behind another? -/
def State.behind (s : State) (x : Nat) (m : Msg) : Bool :=
  match s.waiting x m with
  | some v => v.late || s.voqs.find? (fun w => w.sameQueue v && !w.isPart) ≠ some v
  | none => false

/-- R77, R124: what a message does where it arrives; one that is not at the head of its sub-queue has not come out of the Deck. -/
def State.inTurn (s : State) (x : Nat) (m : Msg) (f : State → State) : State := if s.behind x m then s else f s

/-- The logical port that a message names as its own; of another message, none. -/
def Msg.arr : Msg → Nat
  | .req r => r.arr
  | _ => 0x1FF

/-! ### Stuck queues, lockstep arbiters and histograms -/

/-- Mark the first item of a sub-queue as reported; none if it is empty or its head has been reported. -/
def markStuck (inp out tc cls : Nat) : List VoqItem → Option (List VoqItem)
  | [] => none
  | v :: r =>
    if v.inp = inp ∧ v.out = out ∧ v.tc = tc ∧ v.cls = cls then (if v.stuck then none else some ({ v with stuck := true } :: r))
    else (markStuck inp out tc cls r).map (fun r => v :: r)

/-- R137: has the head of a sub-queue waited STUCK_TIME as the input's slice has it? -/
def State.headStuck (s : State) (inp out tc cls : Nat) : Bool :=
  match s.voqs.find? (fun v => v.inp = inp && v.out = out && v.tc = tc && v.cls = cls) with
  | some v => decide (fld (s.rg (pgSlice (sliceOfPort inp)) Reg.Slice.STUCK_TIME) 15 0 * 1000 ≤ v.waited)
  | none => false

/-- R137: the head of a sub-queue that has waited STUCK_TIME is reported. -/
def State.stuckReport (s : State) (inp out tc cls : Nat) : State :=
  match (if s.headStuck inp out tc cls then markStuck inp out tc cls s.voqs else none) with
  | none => s
  | some q =>
    let pg := pgSlice (sliceOfPort inp)
    let s := ({ s with voqs := q }.bump pg Reg.Slice.STUCK_CNT).setErr pg 9 0
    if bit (s.rg pg Reg.Slice.STUCK_INFO) 31 then s
    else s.setN pg Reg.Slice.STUCK_INFO (2 ^ 31 + inp * 2 ^ 24 + out * 2 ^ 16 + tc * 2 ^ 8 + cls * 2 ^ 4)

/-- R133: the lockstep arbiters of a slice disagree; again: the repeated arbitration disagrees too. No grant of the cycle is applied, and no
cell moves in the slice for 2 cycles; the pointers and deficits stay as they were. -/
def State.arbMismatch (s : State) (sl : Nat) (again : Bool) : State :=
  let s := s.bump (pgSlice sl) Reg.Slice.ARB_MISMATCH_CNT
  let last := SMap.get (fun _ => 0) s.arbLast sl
  let win := fld (s.rg (pgSlice sl) Reg.Slice.ARB_CTRL) 15 0 * 1000000
  let s := { s with arbLast := SMap.set (fun _ => 0) s.arbLast sl (s.now + 1), arb := { s.arb with stall := SMap.set (fun _ => 0) s.arb.stall sl 2 } }
  if again ∨ (last ≠ 0 ∧ s.now + 1 ≤ last + win) then
    (s.setF (pgSlice sl) Reg.Slice.SLICE_STAT 31 31 1).raise (.spanFault sl)
  else s

/-- R146: the histogram bin of a depth. -/
def depthBin (n : Nat) : Nat := if n = 0 then 0 else min 15 (Nat.log2 n + 1)

/-- R146: the histogram bin of a delay of n ns with DELAY_SHIFT sh. -/
def delayBin (sh n : Nat) : Nat := if n < 2 ^ sh then 0 else min 15 (Nat.log2 (n / 2 ^ sh) + 1)

/-- The delay of a VOQ (R146): the wait of its oldest head, which is its oldest message. -/
def State.voqDelay (s : State) (g out tc : Nat) : Nat :=
  match (s.voqs.filter (fun v => v.inp = g && v.out = out && v.tc = tc && !v.late)).map (fun v => s.now - v.time) with
  | [] => 0
  | l => l.foldl max 0

/-- R146: one histogram interval of Pier group g ends. -/
def State.histSample (s : State) (g : Nat) : State :=
  let c := s.rg (pgHist g) Reg.Hist.HIST_CTRL
  if ¬bit c 31 then s
  else
    let sel := fld c 29 24
    let out := if sel = 0x3F then ((s.rg (pgHist g) Reg.Hist.HIST_LAST).toNat + 1) % 56 else sel
    let s := s.setN (pgHist g) Reg.Hist.HIST_LAST out
    (List.range 8).foldl (fun s tc =>
      (s.bumpI (pgHist g) Reg.Hist.DEPTH (16 * tc + depthBin (s.voqCells g out tc))).bumpI (pgHist g) Reg.Hist.DELAY
        (16 * tc + delayBin (fld c 23 20) (s.voqDelay g out tc))) s

/-- Forget the register entries that satisfy a test: they read as their reset values. -/
def State.dropRegs (s : State) (p : Nat → Bool) : State := { s with regs := SMap.drop p s.regs }

/-- R149: set every bin of Pier group g to zero. -/
def State.histClear (s : State) (g : Nat) : State :=
  s.dropRegs (fun k => k / 4096 = pgHist g && decide (0x800 ≤ k % 4096))

/-! ### Registers of the Deck with rows of their own -/

/-- The bytes of a policer entry as staged in POL_DATA0-3. -/
def State.polData (s : State) (g i : Nat) : Word := BitVec.ofNat 32 (s.rgi (pgPort g) Reg.Port.POL_DATA i).toNat

/-- R147, R217, R218: a write to a command register whose status register, r, shows BUSY in bit 31 is discarded and sets the
command-overrun bit. -/
def State.unlessBusy (s : State) (pg : Nat) (r : RegSpec) (f : State → State) : State :=
  if bit (s.rg pg r) 31 then s.overrun pg else f s

/-- R136: a write to a shaper's register: the bucket fills at the old RATE up to it. -/
def State.shaperWrite (s : State) (g i : Nat) (v : Word) : State :=
  let p := 3 * g + i / 8
  (s.setShaper p (i % 8) (s.shaperLevel p (i % 8))).writeReg (pgPort g) Reg.Port.SHAPER i 0 (BitVec.ofNat 64 v.toNat)

/-- POL_STAT takes a result. -/
def State.polResult (s : State) (g n : Nat) : State := s.setN (pgPort g) Reg.Port.POL_STAT n

/-- R134, R135: POL_CMD OP 0x1 on policer i. The first check that fails gives the result, in the order of RESULT's values but for 0x3
before 0x2; DEMOTE_TC is checked where ACTION is demote, whose rule it is; the byte counters are kept (DESIGN CHOICE: log entry 72). -/
def State.polWrite (s : State) (g i : Nat) : State :=
  -- R16: reserved fields
  let w0 := s.polData g 0 &&& 0x000FFFFF
  let w1 := s.polData g 1 &&& 0x000FFFFF
  let w2 := s.polData g 2 &&& 0x000FFFFF
  let w3 := s.polData g 3 &&& 0xFF0FFFFF
  if 1024 ≤ i then s.polResult g 1
  else if fld w3 28 27 = 3 ∨ (fld w3 28 27 = 1 ∧ bit (s.rg (pgSlice 4) Reg.Slice.TC_MODE) (fld w3 26 24)) then s.polResult g 3
  else if ¬bit w3 29 ∧ fld w1 19 0 < fld w0 19 0 then s.polResult g 2
  else
    (s.setPolicer g i { w0 := w0, w1 := w1, w2 := w2, w3 := w3, c := ((fld w2 19 0 * 64000 : Nat) : Int)
                        p := ((fld w3 19 0 * 64000 : Nat) : Int), filled := s.now
                        green := (s.policer g i).green, yellow := (s.policer g i).yellow, red := (s.policer g i).red }).polResult g 0

/-- Put four words in POL_DATA0-3. -/
def State.setPolData (s : State) (g : Nat) (ws : List Nat) : State :=
  (List.range ws.length).foldl (fun s i => s.setReg (pgPort g) Reg.Port.POL_DATA i 0 (BitVec.ofNat 64 (ws.getD i 0))) s

/-- R134: POL_CMD OP 0x2 on policer i. -/
def State.polRead (s : State) (g i : Nat) : State :=
  if 1024 ≤ i then s.polResult g 1
  else
    let p := s.policer g i
    (s.setPolData g [p.w0.toNat, p.w1.toNat, p.w2.toNat, p.w3.toNat]).polResult g 0

/-- R147: POL_CMD OP 0x3: the counters of policer i. -/
def State.polCounters (s : State) (g i : Nat) : State :=
  if 1024 ≤ i then s.polResult g 1
  else
    let p := s.policer g i
    let s := s.setReg (pgPort g) Reg.Port.POL_CNT 0 0 (BitVec.ofNat 64 p.green)
    let s := s.setReg (pgPort g) Reg.Port.POL_CNT 1 0 (BitVec.ofNat 64 p.yellow)
    (s.setReg (pgPort g) Reg.Port.POL_CNT 2 0 (BitVec.ofNat 64 p.red)).polResult g 0

/-- R134: POL_CMD OP 0x4: write map entry i from POL_DATA0[7:0]. -/
def State.polMapWrite (s : State) (g i : Nat) : State :=
  if 4096 ≤ i then s.polResult g 1
  else { s with polMap := SMap.set (fun _ => 0) s.polMap (g * 4096 + i) ((s.polData g 0).toNat % 256) }.polResult g 0

/-- R134: POL_CMD OP 0x5: read map entry i into POL_DATA0. -/
def State.polMapRead (s : State) (g i : Nat) : State :=
  if 4096 ≤ i then s.polResult g 1 else (s.setPolData g [s.polEntry g i]).polResult g 0

/-- R145, R493: SMP_CTRL written with EN 1. -/
def State.smpEnable (s : State) (ow : Bool) : State :=
  let top := (s.hub Reg.Smp.RING_BASE).toNat + 160 * (s.hub Reg.Smp.RING_ENTRIES).toNat
  let share := fld (s.hub Reg.Diag.TRACE_SPLIT) 4 0 * 262144
  if 4194304 < top ∨ share < top then s.writeRejected (pgOfHub Reg.Smp.SMP_CTRL)
  else
    let s := if bit (s.hub Reg.Smp.SMP_CTRL) 31 then s else { s with sampler := { s.sampler with seq := 0, lost := 0 } }
    s.setHub Reg.Smp.SMP_CTRL (BitVec.ofNat 64 (2 ^ 31 + b2n ow * 2 ^ 30))

/-- R143: a write to SAMPLE_CFG_c of Deck port i. One that sets EN starts the count. -/
def State.sampleCfg (s : State) (i c : Nat) (v : Word) : State :=
  let was := bit (s.rgi (pgPort i) Reg.Port.SAMPLE_CFG c) 31
  let s := s.writeReg (pgPort i) Reg.Port.SAMPLE_CFG c 0 (BitVec.ofNat 64 v.toNat)
  let cfg := s.rgi (pgPort i) Reg.Port.SAMPLE_CFG c
  if bit cfg 31 ∧ ¬was then
    let (n, s) := s.nextGap i cfg
    s.setGap i c n
  else s

/-- R132: TC_MODE written in the Hub slice page, and its copies. -/
def State.tcMode (s : State) (v : Word) : State :=
  (List.range 5).foldl (fun s i => s.setF (pgSlice i) Reg.Slice.TC_MODE 7 0 (fld v 7 0)) s

end Sys2Proof.Machine
end

