-- ==== Sys2Proof/Machine/Trestle.lean ====
section
/-!
DEFINITION. Machine/Trestle.lean: multicast (R199-R202, R218) and the Trestles (R206-R217): flows, transfers, merging,
Capstone holds, remaps, replay, and the tables' commands.
-/
namespace Sys2Proof.Machine

open Sys2Proof

/-! ### Trunks (R213, R217) -/

/-- The members of a trunk group, in ascending index order, without repeats. -/
def tgMembers (ws : List Word) : List Nat :=
  let n := fld (ws.getD 0 0) 4 0
  let m := ((List.range n).map (fun j =>
    let w := ws.getD (1 + j / 2) 0
    if j % 2 = 0 then fld w 8 0 else fld w 24 16))
  m.foldr NSet.insert []

/-- A trunk group as written. -/
def State.trunkGroup (s : State) (g : Nat) : List Word := SMap.get (fun _ => []) s.tr.groups g

/-- R213: the up list: the ACTIVE trunk-mode members. -/
def State.upList (s : State) (g : Nat) : List Nat :=
  (tgMembers (s.trunkGroup g)).filter (fun x => s.portExists x && s.pierMode (x / 4) = 2 && (s.link x).state = .active)

/-- R213: the trunk hash. mc: the group of a forwarded MC_WR. -/
def trunkHash (mc : Option Nat) (a src : Nat) : Nat :=
  let k := match mc with | some g => g * 2 ^ 20 | none => (a / 4096) ^^^ (src * 16)
  k ^^^ (k / 2 ^ 17) ^^^ (k / 2 ^ 31)

/-- R213: the trunk logical port of a record, none if the up list is empty. -/
def State.trunkOf (s : State) (tgrp : Nat) (mc : Option Nat) (a src : Nat) : Option Nat :=
  let up := s.upList tgrp
  if up = [] then none else up[trunkHash mc a src % up.length]?

/-! ### Flows (R207, R212) -/

/-- The ingress that names a flow: a logical port, or 0x200 plus the Deck input of a device unit. -/
def flowPort (o : Origin) (inp : Nat) : Nat := match o.port? with | some p => p | none => 0x200 + inp

/-- A flow that has sent nothing. -/
def Flow.new (sp p : Nat) (d : NodeId) : Flow := { span := sp, port := p, dest := d, seq := 0, window := [] }

/-- The flow of a Span, ingress and destination. -/
def State.flow (s : State) (sp p : Nat) (d : NodeId) : Flow :=
  (s.tr.flows.find? (fun f => f.span = sp && f.port = p && f.dest = d)).getD (Flow.new sp p d)

/-- Replace a flow. -/
def State.setFlow (s : State) (f : Flow) : State :=
  let same := fun (g : Flow) => decide (g.span = f.span ∧ g.port = f.port ∧ g.dest = f.dest)
  if s.tr.flows.any same then { s with tr := { s.tr with flows := s.tr.flows.map (fun g => if same g then f else g) } }
  else { s with tr := { s.tr with flows := s.tr.flows ++ [f] } }

/-- Give the record of a sequence its status. -/
def markSeq (q : Nat) (st : Status) (w : List (Nat × Option Status)) : List (Nat × Option Status) :=
  w.map (fun e => if e.1 = q ∧ e.2 = none then (q, some st) else e)

/-- R212: the record of a sequence of a flow has been answered: the flow and its held Capstone stores learn it. -/
def State.markFlow (s : State) (sp p : Nat) (d : NodeId) (q : Nat) (st : Status) : State :=
  { s with tr := { s.tr with
    flows := s.tr.flows.map (fun f => if f.span = sp ∧ f.port = p ∧ f.dest = d then { f with window := markSeq q st f.window } else f)
    caps := s.tr.caps.map (fun c =>
      if c.span = sp ∧ c.flow = p ∧ c.req.dnode = d then { c with waits := markSeq q st c.waits } else c) } }

/-! ### Transfers (R208, R210) -/

/-- The record of a request, with a new line check where it has data (R207). -/
def recOf (r : Req) : Rec :=
  { op := r.op, tc := r.tc, epoch := r.epoch, key := r.key, laddr := r.laddr, mask := r.mask, opnd := r.opnd, data := r.data
    ext := r.op.px || decide (r.nData ≠ 0), dnode := r.dnode }

/-- The body of a transfer in bytes. -/
def Xfer.size (x : Xfer) : Nat := 32 + (x.recs.map (fun r => r.record.size)).sum

/-- The deadline of a transfer: that of its first record (R210). -/
def Xfer.deadline (x : Xfer) (mcs : List McOut) : Nat :=
  match x.recs with
  | [] => 0
  | r :: _ =>
    match r.reqs with
    | q :: _ => q.2.deadline
    | [] => match r.mc with
      | some i => ((mcs.find? (fun m => m.id = i)).map (fun m => m.req.deadline)).getD 0
      | none => 0

/-- R210: the bulk transfer as sent. -/
def State.bulkOf (s : State) (x : Xfer) : Bulk :=
  { txid := BitVec.ofNat 32 (s.node.toNat + x.span % 4 * 2 ^ 12 + x.num % 2 ^ 18 * 2 ^ 14), tc := x.tc
    seq := BitVec.ofNat 32 ((x.recs.map (fun r => r.seq)).headD 0), src := x.src, dnode := x.dest, mc := x.mc
    deadline := x.deadline s.tr.mcOut, records := x.recs.map (fun r => r.record) }

/-- Replace a transfer, found by Span and number. -/
def State.setXfer (s : State) (x : Xfer) : State :=
  { s with tr := { s.tr with xfers := s.tr.xfers.map (fun y => if y.span = x.span ∧ y.num = x.num then x else y) } }

/-- Remove a transfer. -/
def State.dropXfer (s : State) (x : Xfer) : State :=
  { s with tr := { s.tr with xfers := s.tr.xfers.filter (fun y => ¬(y.span = x.span ∧ y.num = x.num)) } }

/-- Change one multicast store's tracking. -/
def State.mapMc (s : State) (id : Nat) (f : McOut → McOut) : State :=
  { s with tr := { s.tr with mcOut := s.tr.mcOut.map (fun m => if m.id = id then f m else m) } }

/-- End one request of a record: its flow learns the status and its Source is answered. -/
def State.recEnd (s : State) (x : Xfer) (q : Nat) (r : Req) (st : Status) (grant : Nat) (dw : Bool) (data : Option Line) : State :=
  let s := if r.op.stores then s.markFlow x.span x.flow x.dest q st else s
  s.answerAt (48 + x.span) r st (if r.op.cacheable then grant else 0) dw data

/-- End every request of a record with one status. -/
def State.recEndAll (s : State) (x : Xfer) (xr : XRec) (a : RecAns) : State :=
  let s := s.addN (pgTr x.span) Reg.Tr.LATE_RSP_CNT xr.late
  let s := match xr.mc with
    | some id => s.mapMc id (fun m => { m with remotes := m.remotes - 1, bad := m.bad || decide (a.status ≠ .ok) })
    | none => s
  xr.reqs.foldl (fun s q => s.recEnd x q.1 q.2 a.status a.grant a.dw a.data) s

/-- R138, R215: a transfer ends with PORT_DOWN: its trunk is down. -/
def State.xferDown (s : State) (t : Xfer) : State :=
  let s := s.dropXfer t
  let s := s.addN (pgTr t.span) Reg.Tr.TRUNK_DOWN_REQ_CNT (t.recs.map (fun r => r.reqs.length)).sum
  t.recs.foldl (fun s r => s.recEndAll t { r with late := 0 } { status := .portDown, grant := 0, dw := false, lchk := none, data := none }) s

/-- R208: close a transfer and send it at once; the Deck answers one whose trunk's port is down (R138). -/
def State.closeXfer (s : State) (x : Xfer) : State :=
  if x.sent then s
  else if !s.portUp x.port 0 then s.xferDown x
  else
    let s := s.setXfer { x with sent := true }
    let s := (s.bump (pgTr x.span) Reg.Tr.BULK_TX_CNT).addN (pgTr x.span) Reg.Tr.REC_TX_CNT x.recs.length
    s.sendFrom (48 + x.span) x.port (.bulk (s.bulkOf x))

/-- R208: the one open transfer of a flow on a trunk. -/
def State.openXfer (s : State) (sp p : Nat) (d : NodeId) (trunk : Nat) : Option Xfer :=
  s.tr.xfers.find? (fun x => x.span = sp && x.flow = p && x.dest = d && x.port = trunk && !x.sent)

/-- Close every open transfer that satisfies a test. -/
def State.closeAll (s : State) (test : Xfer → Bool) : State :=
  (s.tr.xfers.filter (fun x => !x.sent && test x)).foldl (fun s x => s.closeXfer x) s

/-- Open a transfer of a flow (R208): the settings of TR_CFG in force now apply to it (R216). -/
def State.newXfer (s : State) (sp p : Nat) (d src : NodeId) (mc : Bool) (trunk tgrp : Nat) (tc : BitVec 3) : Xfer × State :=
  let c := s.rg (pgTr sp) Reg.Tr.TR_CFG
  let n := SMap.get (fun _ => 0) s.tr.num sp
  let x : Xfer := { span := sp, num := n, flow := p, port := trunk, dest := d, src := src, trunk := trunk, group := tgrp, sent := false
                    mc := mc, tc := tc, target := 4096 * fld c 20 16, readClose := bit c 0, opened := s.now, coalesce := 100 * fld c 31 24, recs := [] }
  (x, { s with tr := { s.tr with xfers := s.tr.xfers ++ [x], num := SMap.set (fun _ => 0) s.tr.num sp ((n + 1) % 2 ^ 18) } })

/-- Is the opcode a read (R207)? -/
def ReqOp.reads : ReqOp → Bool
  | .rd | .rdS | .rdM | .own => true
  | _ => false

/-- Add a record to the open transfer of its flow and trunk, opening or closing transfers as R208 says; one whose header would not suit the
record closes first (R210). alone: the record has a transfer of its own (a Capstone store, R212). -/
def State.addRec (s : State) (sp p : Nat) (d src : NodeId) (mc : Bool) (trunk tgrp : Nat) (tc : BitVec 3) (xr : XRec) (alone : Bool) :
    State :=
  let s := match s.openXfer sp p d trunk with
    | some x => if alone ∨ x.mc ≠ mc ∨ x.src ≠ src ∨ x.tc ≠ tc ∨ 65536 < x.size + xr.record.size then s.closeXfer x else s
    | none => s
  let (x, s) := match s.openXfer sp p d trunk with
    | some x => (x, s)
    | none => s.newXfer sp p d src mc trunk tgrp tc
  let x := { x with recs := x.recs ++ [xr] }
  let s := s.setXfer x
  if alone ∨ x.target ≤ x.size ∨ (xr.record.op.reads ∧ x.readClose) then s.closeXfer x else s

/-- R211: the record of a merged store. -/
def mergeRec (q : Rec) (r : Req) : Rec :=
  let full : BitVec 64 := BitVec.allOnes 64
  let m := if r.op = ReqOp.wr then full else r.mask
  let old := if q.op = ReqOp.wr then full else q.mask
  let whole : Bool := q.op = ReqOp.wr || r.op = ReqOp.wr
  { q with op := if whole then .wr else .wrP, mask := if whole then 0 else old ||| m, data := mergeLine q.data r.data m }

/-- R211: a store joins the latest write record of its line, whatever the two keys, epochs and classes, unless a later record names the
line. -/
def mergeInto (r : Req) (rq : Nat) : List XRec → Option (List XRec)
  | [] => none
  | x :: xs =>
    match mergeInto r rq xs with
    | some ys => some (x :: ys)
    | none =>
      if x.record.laddr = r.laddr ∧ (x.record.op = .wr ∨ x.record.op = .wrP) ∧ ¬xs.any (fun y => y.record.laddr = r.laddr) then
        some ({ x with record := mergeRec x.record r, reqs := x.reqs ++ [(rq, r)] } :: xs)
      else none

/-! ### The local Trestle (R206-R213) -/

/-- The remap key of a trunk group of a Span. -/
def remapKey (sp g : Nat) : Nat := sp * 16 + g
/-- The remap key of a destination whose TGRP was g (R213). -/
def remapDest (sp g d : Nat) : Nat := 64 + (sp * 16 + g) * 4096 + d

/-- Is the destination's traffic stopped by a remap of a Span? -/
def State.remapping (s : State) (sp g d : Nat) : Bool :=
  NSet.has (remapKey sp g) s.tr.remap || (List.range 16).any (fun h => NSet.has (remapDest sp h d) s.tr.remap)

/-- R212: send a Capstone store as a record in a new transfer, or fail it. q: its record sequence. -/
def State.capSend (s : State) (sp p : Nat) (r : Req) (q : Nat) (waits : List (Nat × Option Status)) : State :=
  match waits.findSome? (fun w => w.2.bind (fun st => if st.done then none else some st)) with
  | some st => (s.bump (pgTr sp) Reg.Tr.CAP_FAIL_CNT).refuse r st
  | none =>
    let e := s.route r.dnode.toNat
    match s.trunkOf e.tgrp none r.addr r.src.toNat with
    | none => s.refuse r .portDown
    | some x =>
      s.addRec sp p r.dnode r.src false x e.tgrp e.tc { seq := q, record := recOf r, reqs := [(q, r)], late := 0, mc := none } true

/-- R207, R211: a request of a flow becomes a record, or joins one. -/
def State.recordReq (s : State) (sp p : Nat) (r : Req) (e : Route) : State :=
  match s.trunkOf e.tgrp none r.addr r.src.toNat with
  | none => s.refuse r .portDown
  | some x =>
    let f := s.flow sp p r.dnode
    let s := s.setFlow { f with seq := (f.seq + 1) % 2 ^ 32, window := if r.op.stores then f.window ++ [(f.seq, none)] else f.window }
    let merged := match s.openXfer sp p r.dnode x with
      | some t => if (r.op = ReqOp.wr ∨ r.op = ReqOp.wrP) ∧ ¬t.mc then (mergeInto r f.seq t.recs).map (fun rs => (t, rs)) else none
      | none => none
    match merged with
    | some (t, rs) => (s.bump (pgTr sp) Reg.Tr.MERGE_CNT).setXfer { t with recs := rs }
    | none =>
      s.addRec sp p r.dnode r.src false x e.tgrp e.tc { seq := f.seq, record := recOf r, reqs := [(f.seq, r)], late := 0, mc := none } false

/-- R212: hold or send a Capstone store; it is numbered as it arrives (R207). While it is held its flow's open transfers close (R208). -/
def State.trestleCap (s : State) (sp p : Nat) (r : Req) : State :=
  let f := s.flow sp p r.dnode
  let s := s.setFlow { f with seq := (f.seq + 1) % 2 ^ 32, window := f.window.filter (fun w => w.2.isNone) }
  if f.window.all (fun w => w.2.isSome) then s.capSend sp p r f.seq f.window
  else
    let s := s.closeAll (fun x => x.span = sp && x.flow = p && x.dest = r.dnode)
    let c : TrCap := { span := sp, flow := p, req := r, seq := f.seq, waits := f.window }
    { s with tr := { s.tr with caps := s.tr.caps ++ [c] } }.bump (pgTr sp) Reg.Tr.CAP_HOLD_CNT

/-- R206, R207: a request takes its outbound entry and becomes a record, a held Capstone store, or waits for a remap. -/
def State.trestleTake (s : State) (sp p : Nat) (r : Req) : State :=
  let e := s.route r.dnode.toNat
  if ¬e.en then s.refuse r .notHome
  else if s.remapping sp e.tgrp r.dnode.toNat then
    { s with tr := { s.tr with held := s.tr.held ++ [{ span := sp, flow := p, req := r, mc := none }] } }
  else if r.op = .capWr then s.trestleCap sp p r
  else s.recordReq sp p r e

/-- The Deck input and output at which a request waits, if it is in a VOQ. -/
def State.voqOf (s : State) (r : Req) : Option VoqItem := s.voqs.find? (fun v => v.msg = .req r)

/-- The Deck input of a request: of its VOQ, or of its port's Pier group; the Hub's device units use Trestle T0's Span. -/
def State.inputOf (s : State) (r : Req) : Nat :=
  match s.voqOf r, r.origin with
  | some v, _ => v.inp
  | none, .port p => if p.val = 288 then 52 else p.val / 12
  | none, .trestle sp _ _ => 48 + sp.val
  | none, .unit _ | none, .row _ _ => 52

/-- R114, R206: a request reaches its local Trestle; it stays in the Deck while no outbound entry is free. -/
def State.trestleArrive (s : State) (r : Req) : State :=
  let inp := s.inputOf r
  let sp := spanOfIn inp
  if s.spanFenced sp then (s.takeReq r).refuse r .portDown
  else if !s.trestleRoom sp 1 then s
  else ((s.takeReq r).trestleTake sp (flowPort r.origin inp) r).obTaken sp

/-- R212, R213: may a held Capstone store go now: its earlier records have all been answered, and no remap stops its flow? -/
def State.capReady (s : State) (c : TrCap) : Bool :=
  c.waits.all (fun w => w.2.isSome) && !s.remapping c.span (s.route c.req.dnode.toNat).tgrp c.req.dnode.toNat

/-- R212: send or fail the held Capstone stores that may go, in order; k bounds them. -/
def State.pumpCaps : Nat → State → State
  | 0, s => s
  | k + 1, s =>
    match s.tr.caps.find? s.capReady with
    | some c => State.pumpCaps k ({ s with tr := { s.tr with caps := s.tr.caps.erase c } }.capSend c.span c.flow c.req c.seq c.waits)
    | none => s

/-- Release the Capstone stores that may go. -/
def State.runCaps (s : State) : State := s.pumpCaps (s.tr.caps.length + 1)

/-! ### Multicast (R199-R202) -/

/-- A multicast entry. -/
def State.mcEntry (s : State) (g : Nat) : McEntry := SMap.get (fun _ => McEntry.none) s.tr.mc g

/-- The member ports of an entry. -/
def McEntry.ports (e : McEntry) : List Nat := (List.range 288).filter (fun x => bit e.members x)

/-- The remote devices of an entry. -/
def McEntry.remotes (e : McEntry) : List NodeId :=
  ((List.range 4).filter (fun k => bit e.remote (48 + k))).map (fun k => BitVec.ofNat 12 (fld e.remote (12 * k + 11) (12 * k)))

/-- R201: the copy for a member. -/
def State.mcCopy (s : State) (e : McEntry) (r : Req) : Req :=
  { r with tag := 0, colour := 3, epoch := BitVec.ofNat 8 s.reg.epoch, key := e.key }

/-- R201 step 4: one member of a group gets its copy, or is counted as down. -/
def State.mcMember (s : State) (inp : Nat) (e : McEntry) (r : Req) (id x : Nat) : State :=
  if s.portExists x ∧ s.pierMode (x / 4) = 0 ∧ s.portUp x 0 then
    ((s.mapMc id (fun m => { m with ports := NSet.insert x m.ports })).bumpHub Reg.Mcast.MC_COPY_CNT).sendVia inp x
      (.req (s.mcCopy e r)) (some id)
  else (s.mapMc id (fun m => { m with bad := true })).bumpHub Reg.Mcast.MC_DOWN_CNT

/-- R207, R213: an MC_WR becomes one record toward a remote device, or waits for a remap; with no trunk it has failed there. -/
def State.mcRemote (s : State) (sp p : Nat) (r : Req) (id : Nat) (d : NodeId) : State :=
  let e := s.route d.toNat
  if e.en && s.remapping sp e.tgrp d.toNat then
    { s with tr := { s.tr with held := s.tr.held ++ [{ span := sp, flow := p, req := r, mc := some (id, d) }] } }
  else match (if e.en then s.trunkOf e.tgrp (some r.dnode.toNat) 0 0 else none) with
  | none => s.mapMc id (fun m => { m with bad := true, remotes := m.remotes - 1 })
  | some x =>
    let f := s.flow sp p d
    let s := s.setFlow { f with seq := (f.seq + 1) % 2 ^ 32 }
    let c := recOf r
    (s.bumpHub Reg.Mcast.MC_REMOTE_CNT).addRec sp p d r.src true x e.tgrp e.tc
      { seq := f.seq, record := c, reqs := [], late := 0, mc := some id } false

/-- R197, R201: the Trestle of a Span takes its copy of a multicast store: a record, with its outbound entry, for each remote device. -/
def State.mcForward (s : State) (sp p : Nat) (r : Req) (id : Nat) : State :=
  match s.tr.mcOut.find? (fun m => m.id = id) with
  | none => s
  | some m =>
    let ds := m.dests
    let s := s.mapMc id (fun m => { m with dests := [], remotes := m.remotes + ds.length })
    if s.spanFenced sp then s.mapMc id (fun m => { m with bad := true, remotes := m.remotes - ds.length })
    else (ds.foldl (fun s d => s.mcRemote sp p r id d) s).obTook sp ds.length

/-- R201: the copy of a multicast store for the Trestle of its ingress Span, as it waits in the Deck. -/
def mcItem (now inp : Nat) (r : Req) (id : Nat) : VoqItem :=
  { inp := inp, out := 48 + spanOfIn inp, tc := r.tc.toNat, cls := 0, arr := 0x1FF, dst := 0x1FF, time := now, stuck := false, msg := .req r
    mc := some id }

/-- R201: the Trestle's copy goes to it at once where nothing waits before it and every remote device's record has an outbound entry;
otherwise it waits in the Deck. -/
def State.mcTrestle (s : State) (inp p : Nat) (r : Req) (id n : Nat) : State :=
  let v := mcItem s.now inp r id
  if n = 0 then s
  else if s.voqs.any (fun w => w.sameQueue v) || !s.trestleRoom (spanOfIn inp) n then s.pushVoq v
  else s.mcForward (spanOfIn inp) p r id

/-- R201: an MC_WR leaves the multicast queue as copies; each output takes its own when it can. -/
def State.mcArrive (s : State) (r : Req) : State :=
  let inp := s.inputOf r
  let s := s.takeReq r
  let e := s.mcEntry r.dnode.toNat
  if ¬e.en then s.refuse r .unmapped
  else if r.key ≠ e.key then (s.bumpHub Reg.Mcast.MC_KEY_FAULT_CNT).refuse r .keyFault
  else
    let s := s.bumpHub Reg.Mcast.MC_RX_CNT
    let id := s.tr.mcNum
    let dests := match r.origin with | .trestle _ _ _ => [] | _ => e.remotes
    let m : McOut := { id := id, req := r, ports := [], remotes := 0, bad := false, dests := dests }
    let s := { s with tr := { s.tr with mcNum := id + 1, mcOut := s.tr.mcOut ++ [m] } }
    (e.ports.foldl (fun s x => s.mcMember inp e r id x) s).mcTrestle inp (flowPort r.origin inp) r id dests.length

/-- R202: an MC_WR whose copies are all acknowledged and whose remote devices have all reported completes. -/
def State.mcComplete (s : State) (id : Nat) : State :=
  match s.tr.mcOut.find? (fun m => m.id = id) with
  | some m =>
    if m.ports = [] ∧ m.remotes = 0 ∧ m.dests = [] then
      { s with tr := { s.tr with mcOut := s.tr.mcOut.erase m } }.refuse m.req (if m.bad then .portDown else .ok)
    else s
  | none => s

/-- R202: a member's link has acknowledged its copy. -/
def State.mcAcked (s : State) (x : Nat) (ids : List Nat) : State :=
  ids.foldl (fun s id => s.mapMc id (fun m => { m with ports := NSet.erase x m.ports })) s

/-- R202: a member port has gone down before its copies were acknowledged. -/
def State.mcDown (s : State) (x : Nat) : State :=
  (s.tr.mcOut.filter (fun m => NSet.has x m.ports)).foldl
    (fun s m => (s.mapMc m.id (fun m => { m with ports := NSet.erase x m.ports, bad := true })).bumpHub Reg.Mcast.MC_DOWN_CNT) s

/-! ### Answers (R215) -/

/-- R213: no transfer of a trunk group is outstanding in a Span; one whose every request has timed out is not. -/
def State.groupQuiet (s : State) (sp g : Nat) : Bool :=
  !s.tr.xfers.any (fun x => x.span = sp && x.group = g && x.sent && x.recs.any (fun r => !r.reqs.isEmpty || r.mc.isSome))

/-- R213: end the remaps of a trunk group of a Span: its requests go on in order. -/
def State.endRemap (s : State) (sp g : Nat) : State :=
  if s.groupQuiet sp g then
    let keep := fun k => ¬(k = remapKey sp g ∨ (remapDest sp g 0 ≤ k ∧ k < remapDest sp g 0 + 4096))
    let held := s.tr.held
    let s := { s with tr := { s.tr with remap := s.tr.remap.filter (fun k => keep k), held := [] } }
    (held.foldl (fun s h => match h.mc with
      | none => s.trestleTake h.span h.flow h.req
      | some (id, d) => s.mcRemote h.span h.flow h.req id d) s).runCaps
  else s

/-- R213: begin a remap of a trunk group of a Span: of all its flows, or of one destination's. It ends at once if nothing is
outstanding. -/
def State.beginRemap (s : State) (sp g : Nat) (dest : Option Nat) : State :=
  let s := s.bump (pgTr sp) Reg.Tr.REMAP_CNT
  -- R370
  let s := if s.trd.active.isSome && s.tr.xfers.any (fun x => x.span = sp && x.group = g && s.scheduled x.tc.toNat) then
    s.bumpHub Reg.Trd.SCHED_REROUTE_CNT else s
  let key := match dest with | some d => remapDest sp g d | none => remapKey sp g
  let s := { s with tr := { s.tr with remap := NSet.insert key s.tr.remap } }
  let s := s.closeAll (fun x => x.span = sp && x.group = g && (match dest with | some d => x.dest.toNat = d | none => true))
  s.endRemap sp g

/-- R213: the number of up trunks of every group that has logical port x as a member has changed. -/
def State.trunkChanged (s : State) (x : Nat) : State :=
  (List.range 16).foldl (fun s g =>
    if (tgMembers (s.trunkGroup g)).contains x && s.pierMode (x / 4) = 2 then
      (List.range 4).foldl (fun s sp => if s.spanFenced sp then s else s.beginRemap sp g none) s
    else s) s

/-- R215: trunk logical port x has gone down. -/
def State.trunkDown (s : State) (x : Nat) : State :=
  let hit := s.tr.xfers.filter (fun t => t.port = x)
  let s := hit.foldl (fun s t => s.xferDown t) s
  { s with tr := { s.tr with rx := s.tr.rx.filter (fun t => t.port ≠ x) } }.runCaps

/-- R210, R215: a bulk reply on logical port x ends a transfer. -/
def State.bulkAnswer (s : State) (x : Nat) (b : BulkRsp) : State :=
  let hit := s.tr.xfers.find? (fun t => t.sent && t.port = x && s.node.toNat = fld b.txid 11 0 && t.span = fld b.txid 13 12 && t.num = fld b.txid 31 14)
  match hit with
  | none => s
  | some t =>
    let s := s.dropXfer t
    let lost : RecAns := { status := .integrity, grant := 0, dw := false, lchk := none, data := none }
    ((t.recs.zip (List.range t.recs.length)).foldl (fun s p => s.recEndAll t p.1 (b.answers.getD p.2 lost)) s).runCaps

/-- R208: COALESCE_TIME has passed since the first record of a flow's open transfer on a trunk. -/
def State.coalesced (s : State) (sp flow : Nat) (d : NodeId) (trunk : Nat) : State :=
  s.closeAll (fun x => x.span = sp && x.flow = flow && x.dest = d && x.port = trunk && decide (x.opened + x.coalesce ≤ s.now))

/-- Remove the first member of a list that satisfies a test, if one does. -/
def takeFirst {α : Type} (p : α → Bool) : List α → Option (α × List α)
  | [] => none
  | a :: r => if p a then some (a, r) else (takeFirst p r).map (fun q => (q.1, a :: q.2))

/-- R215: the first of the requests that records wait for and that satisfies a test, given up: the request, and the records without it. -/
def giveUpReq (p : Req → Bool) : List XRec → Option ((Nat × Req) × List XRec)
  | [] => none
  | x :: r =>
    match takeFirst (fun q => p q.2) x.reqs with
    | some (q, rest) => some (q, { x with reqs := rest, late := x.late + 1 } :: r)
    | none => (giveUpReq p r).map (fun q => (q.1, x :: q.2))

/-- R198, R215: a request in a transfer of a local Trestle that satisfies a test is given up at its deadline; none: there is no such
request. -/
def State.trestleTimeout (s : State) (p : Req → Bool) : Option State :=
  s.tr.xfers.findSome? (fun x => (giveUpReq p x.recs).map (fun (q, recs) =>
    let s := s.setXfer { x with recs := recs }
    let s := (s.bump (pgTr x.span) Reg.Tr.TIMEOUT_CNT).bump (pgOB x.span) Reg.OB.OB_TIMEOUT_CNT
    let s := (s.recEnd x q.1 q.2 .timeout 0 false none).runCaps
    s.endRemap x.span x.group))

/-- R198: a multicast store that waits for a member's ACK or a remote device's answer is given up at its deadline: its copies that wait in the
Deck are removed, and later answers are discarded (DEDUCED: log entry 77). -/
def State.mcTimeout (s : State) (m : McOut) : State :=
  let of := fun (r : XRec) => decide (r.mc = some m.id)
  let spans := (s.tr.xfers.filter (fun x => x.recs.any of)).map (fun x => x.span)
  let drop := fun (x : Xfer) => { x with recs := x.recs.map (fun r => if of r then { r with mc := none, late := r.late + 1 } else r) }
  let tr := { s.tr with
    mcOut := s.tr.mcOut.erase m
    held := s.tr.held.filter (fun h => ¬(h.mc.map Prod.fst = some m.id))
    xfers := s.tr.xfers.map drop }
  let s : State := { s with voqs := s.voqs.filter (fun v => v.mc ≠ some m.id), tr := tr }
  (spans.foldl (fun s sp => s.bump (pgTr sp) Reg.Tr.TIMEOUT_CNT) s).refuse m.req .timeout

/-! ### The receiving Trestle (R209, R214) -/

/-- R214: the request that a record stands for. -/
def State.replayReq (s : State) (t : RxXfer) (i : Nat) (c : Rec) : Req :=
  { op := if c.op.reads then .rd else c.op, origin := .trestle (Fin.ofNat 4 t.span) t.id i, src := t.bulk.src, tag := BitVec.ofNat 12 i
    dnode := if c.op = .mcWr then c.dnode else s.node, laddr := c.laddr, tc := c.tc, colour := 3, epoch := c.epoch, key := c.key, mask := c.mask
    opnd := c.opnd, data := c.data, deadline := t.bulk.deadline, keyless := none }

/-- R214: a record given a status without being issued. -/
def State.recRefuse (s : State) (t : RxXfer) (i : Nat) (st : Status) : State :=
  s.recAnswer t.span t.id i { status := st, grant := 0, dw := false, lchk := none, data := none }

/-- R214: issue record i of a transfer at the Trestle's Deck port. One whose line check fails is not performed (R192). -/
def State.issueRec (s : State) (t : RxXfer) (i : Nat) (c : Rec) : State :=
  let s := (s.bump (pgTr t.span) Reg.Tr.REC_RX_CNT).obTaken t.span
  let r := s.replayReq t i c
  if c.bad then (s.bump (pgPG (t.port / 12)) Reg.PG.LCHK_ERR_CNT).recRefuse t i .integrity
  else if t.bulk.deadline ≤ s.ns then (s.bump (pgTr t.span) Reg.Tr.TIMEOUT_CNT).recRefuse t i .timeout
  else if t.bulk.mc then s.enqueue (48 + t.span) outMc (.req r)
  else match s.outPort (48 + t.span) r with
    | .error st => s.recRefuse t i st
    | .ok o => if s.outUp o then s.enqueue (48 + t.span) o (.req r) else s.recRefuse t i .portDown

/-- R214, R114: issue the records of a transfer in order while outbound entries are free; k bounds them. -/
def State.issueRecs : Nat → Nat → Nat → State → State
  | 0, _, _, s => s
  | k + 1, sp, id, s =>
    match s.tr.rx.find? (fun t => t.span = sp && t.id = id) with
    | none => s
    | some t =>
      match t.bulk.records[t.next]? with
      | none => s
      | some c =>
        if s.trestleRoom sp 1 then
          let s := { s with tr := { s.tr with rx := s.tr.rx.map (fun (u : RxXfer) => if u.span = sp ∧ u.id = id then { u with next := t.next + 1 } else u) } }
          State.issueRecs k sp id (s.issueRec { t with next := t.next + 1 } t.next c)
        else s

/-- R214: a bulk transfer arrives on trunk logical port x. -/
def State.bulkArrive (s : State) (x : Nat) (b : Bulk) : State :=
  let sp := x / 72
  let s := s.takeFrom x (.bulk b)
  if s.spanFenced sp then s.emit (.drop (.bulk b))
  else
    let s := s.bump (pgTr sp) Reg.Tr.BULK_RX_CNT
    let answer := fun st => b.records.map (fun _ => some ({ status := st, grant := 0, dw := false, lchk := none, data := none } : RecAns))
    let pre : List (Option RecAns) :=
      if s.inFootway then answer .busyRetry
      else if b.dnode ≠ s.node then answer .notHome
      else b.records.map (fun _ => none)
    let done := pre.all (fun a => a.isSome)
    let t : RxXfer := { span := sp, id := s.tr.rxNum, port := x, bulk := b, next := if done then b.records.length else 0, answers := pre }
    let s := { s with tr := { s.tr with rxNum := s.tr.rxNum + 1, rx := s.tr.rx ++ [t] } }
    s.issueRecs b.records.length sp t.id

/-- R214: once every record of a transfer has completed, its reply is sent; until then records go on being issued. -/
def State.recordsDone (s : State) (sp id : Nat) : State :=
  match s.tr.rx.find? (fun t => t.span = sp && t.id = id) with
  | none => s
  | some t =>
    if t.answers.all (fun a => a.isSome) then
      let s := { s with tr := { s.tr with rx := s.tr.rx.filter (fun u => ¬(u.span = sp ∧ u.id = id)) } }
      s.sendFrom (48 + t.span) t.port (.bulkRsp { txid := t.bulk.txid, tc := t.bulk.tc, seq := t.bulk.seq, answers := t.answers.filterMap (fun a => a) })
    else s.issueRecs t.bulk.records.length sp id

/-! ### The tables' commands (R217, R218) -/

/-- R217: ROUTE_STAT takes a result. -/
def State.routeResult (s : State) (n : Nat) : State := s.setHub Reg.Route.ROUTE_STAT (BitVec.ofNat 64 n)

/-- R217: ROUTE_CMD OP 0x1. -/
def State.routeWrite (s : State) (i : Nat) : State :=
  if 4096 ≤ i then s.routeResult 1
  else if i = s.node.toNat then s.routeResult 2
  else
    let v := s.hub Reg.Route.ROUTE_DATA
    let e : Route := { en := bit v 31, tc := BitVec.ofNat 3 (fld v 6 4), tgrp := fld v 3 0 }
    let old := s.route i
    let s := { s with tr := { s.tr with routes := SMap.set (fun _ => Route.none) s.tr.routes i e } }
    let s := if old.tgrp ≠ e.tgrp then
        (List.range 4).foldl (fun s sp => if s.spanFenced sp then s else s.beginRemap sp old.tgrp (some i)) s
      else s
    s.routeResult 0

/-- R217: ROUTE_CMD OP 0x2. -/
def State.routeRead (s : State) (i : Nat) : State :=
  if 4096 ≤ i then s.routeResult 1
  else
    let e := s.route i
    (s.setHub Reg.Route.ROUTE_DATA (BitVec.ofNat 64 (b2n e.en * 2 ^ 31 + e.tc.toNat * 16 + e.tgrp))).routeResult 0

/-- The nine words of TG_DATA. -/
def State.tgData (s : State) : List Word :=
  BitVec.ofNat 32 (s.hub Reg.Route.TG_DATA0).toNat ::
    (List.range 8).map (fun i => BitVec.ofNat 32 (s.rgi (pgOfHub Reg.Route.TG_DATA) Reg.Route.TG_DATA i).toNat)

/-- R217: ROUTE_CMD OP 0x3: write trunk group INDEX[3:0]. -/
def State.trunkWrite (s : State) (i : Nat) : State :=
  let ws := s.tgData
  let n := fld (ws.getD 0 0) 4 0
  if n < 1 ∨ 16 < n ∨ (tgMembers ws).any (fun x => 287 < x) then s.routeResult 3
  else
    let g := i % 16
    let old := (s.upList g).length
    let s := { s with tr := { s.tr with groups := SMap.set (fun _ => []) s.tr.groups g ws } }
    let s := if (s.upList g).length ≠ old then
        (List.range 4).foldl (fun s sp => if s.spanFenced sp then s else s.beginRemap sp g none) s
      else s
    s.routeResult 0

/-- R217: ROUTE_CMD OP 0x4. -/
def State.trunkRead (s : State) (i : Nat) : State :=
  let ws := s.trunkGroup (i % 16)
  let s := s.setHub Reg.Route.TG_DATA0 (BitVec.ofNat 64 (ws.getD 0 0).toNat)
  ((List.range 8).foldl (fun s k => s.setReg (pgOfHub Reg.Route.TG_DATA) Reg.Route.TG_DATA k 0 (BitVec.ofNat 64 (ws.getD (k + 1) 0).toNat)) s).routeResult 0

/-- R218: MC_STAT takes a result. -/
def State.mcResult (s : State) (n : Nat) : State := s.setHub Reg.Mcast.MC_STAT (BitVec.ofNat 64 n)

/-- R199: the entry that MC_DATA0-15 spell; its reserved fields are ignored (R16). -/
def State.mcData (s : State) : McEntry :=
  let w := fun i => (s.rgi (pgOfHub Reg.Mcast.MC_DATA) Reg.Mcast.MC_DATA i).toNat
  { key := BitVec.ofNat 32 (w 0), en := (w 1).testBit 0, comp := Fin.ofNat 256 (w 1 / 256)
    remote := BitVec.ofNat 64 ((w 2 + w 3 * 2 ^ 32) % 2 ^ 52)
    members := BitVec.ofNat 288 ((List.range 9).foldr (fun i a => w (4 + i) + 2 ^ 32 * a) 0) }

/-- R218: MC_CMD OP 0x1. -/
def State.mcWrite (s : State) (i : Nat) : State :=
  let e := s.mcData
  if 4096 ≤ i then s.mcResult 1
  else if e.remotes.contains s.node then s.mcResult 2
  else { s with tr := { s.tr with mc := SMap.set (fun _ => McEntry.none) s.tr.mc i e } }.mcResult 0

/-- R199: an entry as the words of MC_DATA0-15. -/
def McEntry.words (e : McEntry) : List Nat :=
  [e.key.toNat, b2n e.en + e.comp.val * 256, fld e.remote 31 0, fld e.remote 63 32] ++
  (List.range 9).map (fun i => fld e.members (32 * i + 31) (32 * i)) ++ [0, 0, 0]

/-- R218: MC_CMD OP 0x2. -/
def State.mcRead (s : State) (i : Nat) : State :=
  if 4096 ≤ i then s.mcResult 1
  else
    let ws := (s.mcEntry i).words
    ((List.range 16).foldl (fun s k => s.setReg (pgOfHub Reg.Mcast.MC_DATA) Reg.Mcast.MC_DATA k 0 (BitVec.ofNat 64 (ws.getD k 0))) s).mcResult 0

/-- R218: MC_CMD OP 0x3. -/
def State.mcDisable (s : State) (i : Nat) : State :=
  if 4096 ≤ i then s.mcResult 1
  else { s with tr := { s.tr with mc := SMap.set (fun _ => McEntry.none) s.tr.mc i { s.mcEntry i with en := false } } }.mcResult 0

end Sys2Proof.Machine
end

