-- ==== Sys2Proof/Machine/Pier.lean ====
section
/-!
DEFINITION. Machine/Pier.lean: Piers and links (R151-R183): flits (R158-R168), link states and training (R169-R173),
sessions (R174, R175), lane sparing (R176) and Pier modes (R177).
-/
namespace Sys2Proof.Machine

open Sys2Proof

/-! ### Shells (R46-R48) -/

/-- STATE of a shell status word. -/
def shState (v : DWord) : Nat := fld v 3 0

/-- R48: a margin or recalibration request to a shell: goal is MARGINING or RECALIBRATING. The new word, and whether it was
accepted. -/
def shRequest (v : DWord) (goal : Nat) : DWord × Bool :=
  if shState v = 2 ∨ shState v = 3 then
    (if goal = 4 then setFld (setFld (setFld v 3 0 4) 6 6 0) 7 7 0 else setFld (setFld v 3 0 5) 7 7 0, true)
  else (setFld v 8 8 1, false)

/-- R46-R48: a margin measurement ends in state back, or in FAULT with a code. -/
def shMargined (v : DWord) (back fault : Nat) : DWord :=
  if fault = 0 then setFld (setFld (setFld v 3 0 back) 6 6 1) 7 7 (b2n (back = 3))
  else setFld (setFld (setFld v 3 0 6) 31 24 fault) 6 6 0

/-- R46-R48: a calibration ends in state back, or in FAULT with a code. -/
def shCalibrated (v : DWord) (back fault : Nat) : DWord :=
  if fault = 0 then setFld (setFld (setFld v 3 0 back) 23 16 (min 255 (fld v 23 16 + 1))) 7 7 (b2n (back = 3))
  else setFld (setFld (setFld v 3 0 6) 31 24 fault) 6 6 0

/-- R46, R47: a shell enters FAULT with a code. -/
def shFault (v : DWord) (code : Nat) : DWord := setFld (setFld (setFld v 3 0 6) 31 24 code) 7 7 0

/-- The shell status word of lane k of Pier p. -/
def State.laneShell (s : State) (p k : Nat) : DWord := s.rgi (pgPier p) Reg.Pier.LANE_SHELL k

/-- Write it. -/
def State.setLaneShell (s : State) (p k : Nat) (v : DWord) : State := s.setReg (pgPier p) Reg.Pier.LANE_SHELL k 0 v

/-- The first lane and the number of lanes of a logical port (R153). -/
def State.portLanes (s : State) (x : Nat) : List Nat := (List.range (s.lanesOf x)).map (fun i => s.lanesOf x * (x % 4) + i)

/-- The lanes that a logical port receives on: the spare, lane 8, in the place of the lane that it replaces (R176). -/
def State.rxLanes (s : State) (x : Nat) : List Nat :=
  (s.portLanes x).map (fun k => if (s.pier (x / 4)).spareRx = some k then 8 else k)

/-- Does a link state carry traffic? -/
def LinkState.live : LinkState → Bool
  | .identify | .securing | .active | .parked => true
  | _ => false

/-- A lane shell goes to RUN as its link begins to carry flits, and back to READY (R47). -/
def State.runLane (s : State) (p k : Nat) (live : Bool) : State :=
  let v := s.laneShell p k
  if live ∧ shState v = 2 then s.setLaneShell p k (setFld (setFld v 3 0 3) 7 7 1)
  else if ¬live ∧ shState v = 3 then s.setLaneShell p k (setFld (setFld v 3 0 2) 7 7 0)
  else s

/-- A logical port's lanes are in RUN while its link carries flits, and otherwise in READY (R47). -/
def State.runLanes (s : State) (x : Nat) (live : Bool) : State := (s.rxLanes x).foldl (fun s k => s.runLane (x / 4) k live) s

/-! ### Link states (R169) -/

/-- R181: LINK_STAT of a logical port. -/
def LinkState.code : LinkState → Nat
  | .disabled => 0 | .detect => 1 | .equalize => 2 | .lock => 3 | .identify => 4 | .securing => 5 | .active => 6 | .parked => 7
  | .retrain => 8 | .fault => 9

/-- R181: what LINK_STAT of logical port x reads as. -/
def State.linkStat (s : State) (x : Nat) : Nat :=
  let l := s.link x
  let i := match l.peer with
    | some i => i.node.toNat * 2 ^ 20 + b2n (decide (i.schedMask.toNat ≠ fld (s.rg (pgSlice 4) Reg.Slice.TC_MODE) 7 0)) * 2 ^ 19 +
        b2n i.kblock * 2 ^ 18 + b2n i.lineCheck * 2 ^ 17
    | none => 0
  i + b2n l.shared * 2 ^ 16 + l.fault * 2 ^ 8 + l.state.code

/-- R549: the taps of an equaliser preset, in thousandths: c(-2), c(-1), c(0), c(1). -/
def presetTaps (n : Nat) : List Int :=
  match n with
  | 0 => [0, 0, 1000, 0]
  | 1 => [0, -50, 950, 0]
  | 2 => [0, -100, 900, 0]
  | 3 => [0, -150, 850, 0]
  | 4 => [25, -150, 800, -25]
  | 5 => [50, -200, 700, -50]
  | 6 => [0, -100, 850, -50]
  | _ => [50, -250, 650, -50]

/-- R152, R549: what a port's lanes do in EQUALIZE: with ELEC 0 they run the training protocol; with ELEC 1 the transmitter uses its
preset. saved: from the saved coefficients (R169). -/
def State.equalizing (s : State) (x : Nat) (saved : Bool) : State :=
  let c := s.pierCfg (x / 4)
  s.emit (.equalize x (!bit c 6) saved (if bit c 6 then presetTaps (fld c 10 8) else []))

/-- Put a link in a state. The session's keys go when the link leaves ACTIVE (R175), and a link that leaves ACTIVE goes down
(R169). -/
def State.linkTo (s : State) (x : Nat) (st : LinkState) : State :=
  let l := s.link x
  let was := l.state
  let keeps := st = .active ∨ st = .securing
  let s := s.setLink x { l with state := st, shared := if keeps then l.shared else false, keys := if keeps then l.keys else none
                                eph := if keeps then l.eph else none, auth := if keeps then l.auth else 0
                                lockAt := if st = .lock then s.now else l.lockAt }
  let s := s.runLanes x st.live
  let s := if st = .equalize then s.equalizing x (was = .retrain) else s
  if was = .active ∧ st ≠ .active then s.raise (.linkDown x) else s

/-- R168: sequence numbers, credits and the replay buffer start from zero. -/
def State.linkRestart (s : State) (x : Nat) : State :=
  s.setLink x { s.link x with rxNext := 0, awaiting := false, rxPart := [], txNext := 0, ackNext := 0, replay := [], nakAt := none
                              sent := [], ret := [], freed := [], got := [], egress := [], rxCount := 0, txCount := 0
                              peerZero := false, ownZero := false, tagFails := [], chain := [], txChain := [], nak := false, crTurn := 0, owed := 3 }

/-- R169: the attempts and retrains of the last second, this one included. -/
def State.countTry (s : State) (x : Nat) : List Nat := (s.link x).tries.filter (fun t => s.now < t + 1000000000) ++ [s.now]

/-- RETRAIN_CFG.RETRAIN_MAX. -/
def State.retrainMax (s : State) (x : Nat) : Nat := fld (s.rg (pgPier (x / 4)) Reg.Pier.RETRAIN_CFG) 3 0

/-- Is the admission set latched (R170)? -/
def State.latched (s : State) : Bool := bit (s.hub Reg.Admit.ADMIT_CTRL) 31

/-- R484: a Node ID leaves the latched admission set until the next restart. -/
def State.unadmit (s : State) (d : NodeId) : State :=
  if s.latched then { s with rst := { s.rst with removed := NSet.insert d.toNat s.rst.removed } } else s

/-- Enter FAULT with a cause; the peer that the port last identified leaves the admission set (R484). -/
def State.linkFault (s : State) (x cause : Nat) : State :=
  let s := match (s.link x).peer with | some i => s.unadmit i.node | none => s
  (s.setLink x { s.link x with fault := cause }).linkTo x .fault

/-- R169: a port that is in DETECT goes on at once if signal is present on every lane. -/
def State.detect (s : State) (x : Nat) : State :=
  let s := s.linkTo x .detect
  if (s.link x).signal then s.linkTo x .equalize else s

/-- R180: equalisation of a port with signal has not converged, for the last time: its lanes' shells enter FAULT with 0x04 (DEDUCED: log
entry 73). -/
def State.equalizeFault (s : State) (x : Nat) : State :=
  if (s.link x).state = .equalize ∧ (s.link x).signal then
    (s.rxLanes x).foldl (fun s k => s.setLaneShell (x / 4) k (shFault (s.laneShell (x / 4) k) 4)) s
  else s

/-- R169: a training failure. -/
def State.trainFail (s : State) (x : Nat) : State :=
  let t := s.countTry x
  let l := s.link x
  let s := s.setLink x { l with tries := t }
  if s.retrainMax x ≤ t.length then (s.equalizeFault x).linkFault x (if l.laneBad then 4 else 1) else s.detect x

/-- R168, R169: the link leaves ACTIVE for RETRAIN; cause: what FAULT shows if this is one retrain too many (R175). -/
def State.retrain (s : State) (x cause : Nat) : State :=
  if (s.link x).state ≠ .active then s
  else
    let s := s.bumpI (pgPier (x / 4)) Reg.Pier.RETRAIN_CNT (x % 4)
    let t := s.countTry x
    let s := s.setLink x { s.link x with tries := t }
    if s.retrainMax x ≤ t.length then s.linkFault x cause else s.linkTo x .retrain

/-- R169: RETRAIN leaves for EQUALIZE with the saved coefficients; without signal on every lane that training fails at once (DEDUCED:
log entry 73). -/
def State.retrainOn (s : State) (x : Nat) : State :=
  if (s.link x).state = .retrain then
    (if (s.link x).signal then s.linkTo x .equalize else (s.linkTo x .equalize).trainFail x)
  else s

/-- R168, R172: a link that cannot go on: ACTIVE retrains, SECURING fails its training, PARKED stays. -/
def State.giveUp (s : State) (x cause : Nat) : State :=
  match (s.link x).state with
  | .active => s.retrain x cause
  | .securing => s.trainFail x
  | _ => s

/-- R165, R168, R172: a protocol error. -/
def State.protoErr (s : State) (x : Nat) : State := (s.bumpI (pgPier (x / 4)) Reg.Pier.PROTO_ERR_CNT (x % 4)).giveUp x 7

/-- R169: are the Pier's lane shells READY? -/
def State.shellsReady (s : State) (p : Nat) : Bool :=
  (List.range 9).all (fun k => shState (s.laneShell p k) = 2 || shState (s.laneShell p k) = 3 || shState (s.laneShell p k) = 4)

/-- R169, R170: a DISABLED port that may train enters DETECT. -/
def State.tryDetect (s : State) (x : Nat) : State :=
  if (s.link x).state = .disabled ∧ s.portExists x ∧ ¬bit (s.rgi (pgPier (x / 4)) Reg.Pier.LINK_CTRL (x % 4)) 0 ∧
     s.shellsReady (x / 4) ∧ s.latched ∧ s.groupUp (x / 12) ∧ ¬s.isHeld (.pier (x / 4)) then s.detect x
  else s

/-- Every port of a Pier that may train begins to. -/
def State.tryPier (s : State) (p : Nat) : State := [0, 1, 2, 3].foldl (fun s q => s.tryDetect (4 * p + q)) s

/-- R170: Pier training begins: the admission set is latched, and every port that may train enters DETECT. -/
def State.beginTraining (s : State) : State :=
  let s := s.setHubF Reg.Admit.ADMIT_CTRL 31 31 1
  (List.range 72).foldl (fun s p => s.tryPier p) s

/-- R170: a write to ADMIT_CTRL.READY. Pier training waits for it, unless the release sequence has not reached Piers yet. -/
def State.admitReady (s : State) (ready : Bool) : State :=
  let s := s.setHubF Reg.Admit.ADMIT_CTRL 0 0 (b2n ready)
  let step := fld (s.hub Reg.Rst.RST_STAT) 30 28
  if ready ∧ ¬s.latched ∧ 6 ≤ step then s.beginTraining else s

/-- Is the Node ID admitted (R170)? -/
def State.nodeAdmitted (s : State) (d : NodeId) : Bool :=
  bit (s.rgi (pgOfHub Reg.Admit.ADMIT) Reg.Admit.ADMIT (d.toNat / 32)) (d.toNat % 32) && !NSet.has d.toNat s.rst.removed

/-! ### IDENTIFY (R171-R173) -/

/-- R164, R172: the credits that the device advertises: 128 on each virtual channel, and on a port that is to be PARKED none but on the
Management channels. -/
def State.ownCredits (s : State) (x : Nat) : List (BitVec 8) :=
  let l := s.link x
  if l.own = some 1 ∨ l.theirs = some 1 then List.replicate 6 0 ++ List.replicate 2 128 else List.replicate 8 128

/-- R173: the IDENTIFY message that the device sends on logical port x. -/
def State.ownIdentify (s : State) (x : Nat) : Identify :=
  { version := 1, node := s.node, kind := 1, mode := BitVec.ofNat 8 (s.pierMode (x / 4)), secCap := decide (s.pierSec (x / 4) ≠ 0)
    secReq := s.pierSec (x / 4) = 2, lineCheck := true, kblock := false, width := BitVec.ofNat 8 (s.lanesOf x)
    replayDepth := BitVec.ofNat 16 (s.replayDepth x), credits := s.ownCredits x
    schedMask := BitVec.ofNat 8 (fld (s.rg (pgSlice 4) Reg.Slice.TC_MODE) 7 0) }

/-- R177: the peer KIND of a mode. -/
def kindOf (mode : Nat) : Nat := match mode with | 0 => 0 | 1 => 2 | _ => 1

/-- R171: the result that the device decides. -/
def State.identifyResult (s : State) (x : Nat) (i : Identify) : Nat :=
  let p := x / 4
  if i.version ≠ 1 then 5
  else if i.kind.toNat ≠ kindOf (s.pierMode p) ∨ i.node = s.node ∨ i.mode.toNat ≠ s.pierMode p then 2
  else if i.width.toNat ≠ s.lanesOf x then 3
  else if (i.secReq ∧ s.pierSec p = 0) ∨ (s.pierSec p = 2 ∧ ¬i.secCap) then 4
  else if ¬s.nodeAdmitted i.node then 1
  else 0

/-- R141: a port comes up: empty VOQs and full credits. -/
def State.portCameUp (s : State) (x : Nat) : State := s.trunkChanged x

/-- R174 step 1: the link enters SECURING: firmware begins to authenticate the peer. -/
def State.enterSecuring (s : State) (x : Nat) : State := ((s.linkRestart x).linkTo x .securing).emit (.spdmReq x 0)

/-- R171: the state after both results. -/
def State.identifyNext (s : State) (x : Nat) : State :=
  let l := s.link x
  match l.own, l.theirs, l.peer with
  | some a, some b, some i =>
    if 2 ≤ a then s.linkFault x a
    else if 2 ≤ b then s.linkFault x b
    else if a = 1 ∨ b = 1 then (s.linkRestart x).linkTo x .parked
    else if i.secCap ∧ s.pierSec (x / 4) ≠ 0 then s.enterSecuring x
    else
      let s := s.linkRestart x
      ((s.setLink x { s.link x with laneBad := false }).linkTo x .active).portCameUp x
  | _, _, _ => s

/-- R171: the peer's IDENTIFY arrives. -/
def State.gotIdentify (s : State) (x : Nat) (i : Identify) : State :=
  if (s.link x).state ≠ .identify then s
  else
    let a := s.identifyResult x i
    let s := s.setLink x { s.link x with peer := some i, own := some a }
    (s.sendCtrl x (.identifyAck (BitVec.ofNat 8 a) s.node)).identifyNext x

/-- R171: the peer's IDENTIFY_ACK arrives. -/
def State.gotAck (s : State) (x : Nat) (r : BitVec 8) : State :=
  if (s.link x).state ≠ .identify then s
  else (s.setLink x { s.link x with theirs := some r.toNat }).identifyNext x

/-- R171: every 10 us in IDENTIFY: IDENTIFY, and, once the result is decided, IDENTIFY_ACK. -/
def State.resendIdentify (s : State) (x : Nat) : State :=
  let l := s.link x
  if l.state ≠ .identify then s
  else
    let s := s.sendCtrl x (.identify (s.ownIdentify x))
    match l.own with
    | none => s
    | some a => s.sendCtrl x (.identifyAck (BitVec.ofNat 8 a) s.node)

/-! ### Training commands (R169) -/

/-- R169: LINK_CTRL.DISABLE of logical port x. -/
def State.linkDisable (s : State) (x : Nat) (d : Bool) : State :=
  let s := s.setReg (pgPier (x / 4)) Reg.Pier.LINK_CTRL (x % 4) 0 (if d then 1 else 0)
  if d then
    (if (s.link x).state = .disabled then s
     else
      let s := s.linkTo x .disabled
      s.setLink x { Link.init with signal := (s.link x).signal })
  else s.tryDetect x

/-- R169: signal is present on every lane of a port. -/
def State.signalPresent (s : State) (x : Nat) : State :=
  let s := s.setLink x { s.link x with signal := true }
  if (s.link x).state = .detect then s.linkTo x .equalize else s

/-- R152: equalisation has completed on every lane. -/
def State.equalizeDone (s : State) (x : Nat) : State :=
  let s := s.retrainOn x
  if (s.link x).state = .equalize ∧ (s.link x).signal then s.linkTo x .lock else s

/-- R156: the codewords that the device has sent in LOCK: 16 between markers, at 224 Gb/s a lane, up to now. -/
def State.lockCount (s : State) (x : Nat) : Nat :=
  let w := max 1 (s.lanesOf x)
  16 * ((s.now - (s.link x).lockAt) * 224 / (16 * 5440 / w + 120))

/-- R156: the receiver has confirmed lock: 64 codewords in a row with zero syndrome, its lanes no more than 20 ns apart, and an END marker
on every lane. The device ends its own LOCK with an END marker, after which flits begin (DEDUCED: log entry 74). clean: the codewords;
skew: in ns. -/
def State.lockEnd (s : State) (x : Nat) (marks : List (BitVec 120)) (skew clean : Nat) : State :=
  if (s.link x).state = .lock ∧ areEndMarkers (s.lanesOf x) marks ∧ skew ≤ 20 ∧ 64 ≤ clean then
    let s := s.emit (.markers x (endMarkers (s.lanesOf x) (s.lockCount x)))
    let s := s.setLink x { s.link x with own := none, theirs := none, peer := none, rxPos := 0, cwBad := false, txBits := 0, txLen := 0 }
    let s := s.linkTo x .identify
    s.sendCtrl x (.identify (s.ownIdentify x))
  else s

/-- R169: the time limit of a training state has passed. RETRAIN has none. -/
def State.linkTimeout (s : State) (x : Nat) : State :=
  match (s.link x).state with
  | .equalize | .lock | .identify | .securing => s.trainFail x
  | _ => s

/-- R488: sparing takes precedence: it abandons a loopback on the spare lane. -/
def State.loopYield (s : State) (p : Nat) : State :=
  match (s.pier p).loop with
  | some (8, _) => (s.setPier p { s.pier p with loop := none }).setN (pgPier p) Reg.Pier.LOOP_STAT 3
  | _ => s

/-- R176: the link on logical port x cannot be spared: it trains again, and a port that cannot then train on all its lanes faults with
0x04. -/
def State.laneRetrain (s : State) (x : Nat) : State := (s.setLink x { s.link x with laneBad := true }).retrain x 7

/-- R176: a lane of an ACTIVE port fails; code: its shell's FAULT_CODE (R180). -/
def State.laneFailed (s : State) (x k code : Nat) : State :=
  let p := x / 4
  let s := s.setLaneShell p k (shFault (s.laneShell p k) code)
  let spareFree := bit (s.rg (pgPier p) Reg.Pier.LANE_CFG) 8 && (s.pier p).spareRx.isNone && (s.pier p).sparing.isNone
  let s := if spareFree then s.loopYield p else s
  let st := s.pier p
  let spareOk := bit (s.rg (pgPier p) Reg.Pier.LANE_CFG) 8 && st.spareRx.isNone && st.sparing.isNone && !st.spareBad && decide (k < 8)
  let s := s.faultLog 1 (if spareOk then 2 else 0) 0xA (9 * p + k)
  if spareOk then
    (s.setPier p { st with sparing := some (x, k) }).sendCtrl x (.spareReq (BitVec.ofNat 8 k) (BitVec.ofNat 8 (x % 4)))
  else s.laneRetrain x

/-- R176: the free spare receive lane of Pier p is itself failed: a sparing in progress moves its link to RETRAIN. -/
def State.spareFailed (s : State) (p : Nat) : State :=
  let st := s.pier p
  let s := s.setPier p { st with spareBad := true, sparing := none }
  match st.sparing with
  | some (x, _) => s.laneRetrain x
  | none => s

/-- Is lane k one that logical port x receives on, the spare lane in place of the lane it replaces? -/
def State.onPort (s : State) (x k : Nat) : Bool := (s.rxLanes x).contains k

/-- R169: lanes lose signal within 1 us of one another. RETRAIN has left the link already: its next EQUALIZE fails. -/
def State.signalLost (s : State) (x : Nat) (lanes : List Nat) : State :=
  let mine := (lanes.filter (fun k => s.onPort x k)).eraseDups
  let s := if lanes.contains 8 ∧ ¬mine.contains 8 then s.spareFailed (x / 4) else s
  match mine, (s.link x).state with
  | [], _ => s
  | [k], .active => s.laneFailed x k 2
  | _, .active => (s.setLink x { s.link x with signal := false }).retrain x 7
  | _, .equalize | _, .lock | _, .identify => (s.setLink x { s.link x with signal := false }).trainFail x
  | _, .securing | _, .parked => (s.setLink x { s.link x with signal := false }).linkTo x .detect
  | _, _ => s.setLink x { s.link x with signal := false }

/-- R157, R176: the corrected symbols of lane k of Pier p within the last ms. -/
def State.laneHits (s : State) (p k : Nat) : Nat :=
  (((SMap.get (fun _ => []) (s.pier p).symHits k).filter (fun e => s.now < e.1 + 1000000)).map (fun e => e.2)).sum

/-- R176: do corrected symbols of a lane exceed LANE_CFG.SPARE_THRESH? -/
def State.laneHot (s : State) (p k : Nat) : Bool := decide (fld (s.rg (pgPier p) Reg.Pier.LANE_CFG) 31 16 < s.laneHits p k)

/-- R176: a lane of an ACTIVE port whose corrected symbols exceed its threshold fails. -/
def State.laneOver (s : State) (x k : Nat) : State :=
  if (s.link x).state = .active ∧ s.onPort x k ∧ s.laneHot (x / 4) k ∧ shState (s.laneShell (x / 4) k) ≠ 6 then s.laneFailed x k 3 else s

/-! ### Sparing (R176) -/

/-- R176: SPARE_STAT of a Pier. -/
def State.syncSpare (s : State) (p : Nat) : State :=
  let st := s.pier p
  s.setN (pgPier p) Reg.Pier.SPARE_STAT (st.spareTx.getD 15 * 16 + st.spareRx.getD 15)

/-- R176 step 2: the peer asks for lane k on the spare, which until now carried PRBS31. -/
def State.spareReq (s : State) (x k : Nat) : State :=
  let s := s.loopYield (x / 4)
  let st := s.pier (x / 4)
  if st.spareTx.isNone ∨ st.spareTx = some k then
    ((s.setPier (x / 4) { st with spareTx := some k }).emit (.spare (x / 4) (some k))).sendCtrl x
      (.spareAck (BitVec.ofNat 8 k) (BitVec.ofNat 8 (x % 4)))
  else s

/-- R176 step 3: the peer drives the spare; the receiver switches to it. -/
def State.spareAck (s : State) (x k : Nat) : State :=
  let st := s.pier (x / 4)
  if st.sparing = some (x, k) then
    let s := s.setPier (x / 4) { st with sparing := none, spareRx := some k }
    let s := s.runLane (x / 4) 8 (s.link x).state.live
    let s := (s.syncSpare (x / 4)).bump (pgPier (x / 4)) Reg.Pier.SPARE_CNT
    s.sendCtrl x (.spareDone (BitVec.ofNat 8 k) (BitVec.ofNat 8 (x % 4)))
  else s

/-- R176 step 4: the peer has switched; lane k is no longer driven. -/
def State.spareDone (s : State) (x k : Nat) : State :=
  if (s.pier (x / 4)).spareTx = some k ∧ fld (s.rg (pgPier (x / 4)) Reg.Pier.SPARE_STAT) 7 4 ≠ k then
    (s.syncSpare (x / 4)).bump (pgPier (x / 4)) Reg.Pier.SPARE_CNT
  else s

/-- R176 step 1: every 2 us. -/
def State.spareResend (s : State) (p : Nat) : State :=
  match (s.pier p).sparing with
  | some (x, k) => s.sendCtrl x (.spareReq (BitVec.ofNat 8 k) (BitVec.ofNat 8 (x % 4)))
  | none => s

/-- R176: 50 us without SPARE_ACK. -/
def State.spareTimeout (s : State) (p : Nat) : State :=
  match (s.pier p).sparing with
  | some (x, _) => (s.setPier p { s.pier p with sparing := none }).laneRetrain x
  | none => s

/-! ### Replay (R168) -/

/-- R168: resend held flits from place i on, in order. -/
def State.resendFrom (s : State) (x i : Nat) : State := ((s.link x).replay.drop i).foldl (fun s f => s.sendHeld x f) s

/-- R168: replay from a held flit onward. -/
def State.replayFrom (s : State) (x seq ack : Nat) : State :=
  let l := s.link x
  let i := l.replay.findIdx (fun f => f.seq = seq)
  match l.replay[i]? with
  | none => s
  | some f =>
    let pg := pgPier (x / 4)
    if fld (s.rg pg Reg.Pier.REPLAY_CFG) 31 24 < f.starts + 1 then s.giveUp x 7
    else
      let held := (l.replay.set i { f with starts := f.starts + 1 }).map (fun g => if l.replay.findIdx (fun h => h.seq = g.seq) < i then g else { g with time := s.now })
      let s := s.setLink x { l with replay := held, nakAt := some (ack, s.now) }
      ((s.bumpI pg Reg.Pier.REPLAY_CNT (x % 4)).emit (.replay x seq)).resendFrom x i

/-- R168: a NAK with an ACK. -/
def State.gotNak (s : State) (x ack : Nat) : State :=
  let again := match (s.link x).nakAt with | some (a, t) => decide (a = ack ∧ s.now ≤ t + 1000) | none => false
  if again then s else s.replayFrom x ((ack + 1) % 4096) ack

/-- R168: NAK is set in the next flit, which leaves at once. -/
def State.sendNak (s : State) (x : Nat) : State :=
  let l := s.link x
  ((s.setLink x { l with awaiting := true, nak := true, nakTime := s.now }).emit (.nak x l.ack)).sendIdle x

/-- R168: a sequenced flit is discarded. -/
def State.discardFlit (s : State) (x : Nat) : State := if (s.link x).awaiting then s else s.sendNak x

/-- R167: an ACK releases the flits it covers; the multicast copies in them are acknowledged (R202). -/
def State.gotAckSeq (s : State) (x ack : Nat) : State :=
  let l := s.link x
  if l.replay.any (fun f => f.seq = ack) then
    let i := l.replay.findIdx (fun f => f.seq = ack)
    let gone := l.replay.take (i + 1)
    let s := s.setLink x { l with replay := l.replay.drop (i + 1), ackNext := (ack + 1) % 4096, ackTime := s.now
                                  ownZero := l.ownZero || (l.shared && gone.any (fun f => f.seq = 0)) }
    s.mcAcked x (gone.flatMap (fun f => f.mc))
  else s

/-- R165: one credit report: none where its implied free count exceeds 128. -/
def Link.credit (l : Link) (vc cnt : Nat) : Option Link :=
  let sent := SMap.get (fun _ => 0) l.sent vc
  let back := (sent + 256 - cnt % 256) % 256
  if sent < back ∨ 128 < back then none else some { l with ret := SMap.set (fun _ => 0) l.ret vc (sent - back) }

/-- R165: the three credit reports of a flit. -/
def State.gotCredits (s : State) (x : Nat) (ctrl : DWord) : Option State :=
  let l := s.link x
  match l.credit (fld ctrl 34 32) (fld ctrl 31 24) with
  | none => none
  | some l => match l.credit (fld ctrl 23 21) (fld ctrl 20 13) with
    | none => none
    | some l => match l.credit (fld ctrl 12 10) (fld ctrl 9 2) with
      | none => none
      | some l => some (s.setLink x l)

/-! ### Flits (R158-R166) -/

/-- R155: can a codeword with errors in these symbols not be corrected? -/
def wordBad (w : List (Fin 544)) : Bool := decide (rsLimit < w.length)

/-- R155, R157: where the next flit of a port lies in its codewords: the payload bit that it begins at. -/
def Link.rxBit (l : Link) : Nat := 2048 * l.rxPos % cwBits

/-- R155: does a codeword begin in the next flit? -/
def Link.newWord (l : Link) : Bool := l.rxBit = 0 || decide (cwBits < l.rxBit + 2048)

/-- R157: does a codeword that the next flit overlaps fail? -/
def Link.flitBad (l : Link) (f : Flit) : Bool := (decide (l.rxBit ≠ 0) && l.cwBad) || (l.newWord && wordBad f.word)

/-- R157: a corrected symbol is counted on the lane that carried it. -/
def State.laneHit (s : State) (p k : Nat) : State :=
  let st := s.pier p
  let old := (SMap.get (fun _ => []) st.symHits k).filter (fun e => s.now < e.1 + 1000000)
  (s.setPier p { st with symHits := SMap.set (fun _ => []) st.symHits k (old ++ [(s.now, 1)]) }).bumpI (pgPier p) Reg.Pier.FEC_SYM_CNT k

/-- R157: count what the decoder found in the codeword that begins in a flit: its corrected symbols by lane, or one codeword that it could
not correct. -/
def State.countWord (s : State) (x : Nat) (w : List (Fin 544)) : State :=
  if wordBad w then s.bump (pgPier (x / 4)) Reg.Pier.FEC_UNCORR_CNT
  else w.foldl (fun s i => s.laneHit (x / 4) ((s.rxLanes x).getD (laneOfSymbol (max 1 (s.lanesOf x)) i.val) 0)) s

/-- R155, R157, R176: a flit has come through the decoder: the port goes on to the next, and a lane whose corrected symbols exceed its
threshold fails. -/
def State.countFec (s : State) (x : Nat) (f : Flit) : State :=
  let l := s.link x
  let s := if l.newWord then s.countWord x f.word else s
  let s := s.setLink x { s.link x with rxPos := (l.rxPos + 1) % 1285, cwBad := if l.newWord then wordBad f.word else l.cwBad }
  if l.newWord ∧ f.word ≠ [] then (s.rxLanes x).foldl (fun s k => s.laneOver x k) s else s

/-- R158-R160, R157: is a flit good: its CRC holds, and no codeword that it overlaps failed? l: its link before it. -/
def Link.takesFlit (l : Link) (f : Flit) : Bool := !l.flitBad f && f.crcOk

/-- R181, R485: a flit fails its CRC or FEC. -/
def State.countCrc (s : State) (x : Nat) : State :=
  (s.bumpI (pgPier (x / 4)) Reg.Pier.CRC_ERR_CNT (x % 4)).binned (pgPG (x / 12)) Reg.PG.CRC_TBIN

/-- R166: the ACK, NAK and credit fields of a good flit are used. True: they were a protocol error. -/
def State.useCtrl (s : State) (x : Nat) (ctrl : DWord) : Bool × State :=
  if fld ctrl 1 0 ≠ 0 then (true, s.protoErr x)
  else match s.gotCredits x ctrl with
    | none => (true, s.protoErr x)
    | some s =>
      let s := s.gotAckSeq x (fld ctrl 47 36)
      (false, if bit ctrl 35 then s.gotNak x (fld ctrl 47 36) else s)

/-! ### Messages (R161-R165, R172, R184) -/

/-- What a message's slots turn out to be. -/
inductive Parsed where
  | error
  | nothing
  | msg (m : Msg) (lchkOk : Bool)
deriving DecidableEq, Repr

/-- R177: does a mode carry an ingress message class? -/
def modeCarries (mode cls : Nat) : Bool := match mode with | 0 => true | 1 => cls = 1 || cls = 3 | _ => cls ≠ 2

/-- R184, R185: the messages that only the device sends to an accelerator, CMP, CMP_D, BI_INV, BI_DOWN and WB_ACK, at their right class,
mode, size and encodings: they address no unit, and are discarded (DEDUCED: log entry 75). -/
def quietOp (mode : Nat) (h : Slot) : Bool :=
  mode = 0 &&
    (if hOp h = 0x20 ∨ hOp h = 0x21 then
      hVc h / 2 = 1 && hDslots h = (if hOp h = 0x21 then 4 else 0) && !bit h 24 && (Status.ofCode (fld h 28 25)).isSome &&
        fld h 127 64 = 0
     else if hOp h = 0x30 ∨ hOp h = 0x31 then hVc h / 2 = 2 && hDslots h = 0 && fld h 28 24 = 0 && fld h 63 32 = 0 && fld h 127 106 = 0
     else if hOp h = 0x34 then
      hVc h / 2 = 2 && hDslots h = 0 && !bit h 24 && (fld h 28 25 = Status.ok.code || fld h 28 25 = Status.timeout.code) &&
        fld h 63 32 = 0 && fld h 127 106 = 0
     else false)

/-- R210: the records of the transfer that a reply on logical port x names: whether each returns data; none: no such transfer is
outstanding there. -/
def State.recReturns (s : State) (x : Nat) (txid : BitVec 32) : Option (List Bool) :=
  (s.tr.xfers.find? (fun t => t.sent && t.port = x && t.span = fld txid 13 12 && t.num = fld txid 31 14)).map (fun t =>
    t.recs.map (fun r => r.record.op.reads || r.record.op = .atom))

/-- R210: which bulk body a message is of: its opcode, traffic class and transfer. -/
def chainKey (h : Slot) : Nat × Nat × Nat := (hOp h, (hTc h).toNat, fld h 63 32)

/-- R210: the body that is whole with a message: its message. -/
def State.bulkWhole (s : State) (x : Nat) (h : Slot) (body : List Slot) : Option Msg :=
  let txid : BitVec 32 := BitVec.ofNat 32 (fld h 63 32)
  if hOp h = 0x40 then (readBulk (hTc h) txid (bytesOfSlots body)).map Msg.bulk
  else (readRsp (s.recReturns x txid) (hTc h) txid (bytesOfSlots body)).map Msg.bulkRsp

/-- R210: is the message the next of its body: the first of a Trestle's with no other body of that Trestle and opcode begun, or one that
continues its own? The body before it. -/
def Link.chainBefore (l : Link) (h : Slot) : Option (List Slot) :=
  if bit h 24 then
    (if fld h 95 64 = 0 ∧ l.chain.all (fun e => ¬(e.1 = hOp h ∧ e.2.2.1 % 16384 = fld h 63 32 % 16384)) then some [] else none)
  else (l.chain.find? (fun e => (e.1, e.2.1, e.2.2.1) = chainKey h)).map (fun e => e.2.2.2)

/-- R210: one link message of a bulk body: the body's message once it is whole, the link message until then. -/
def State.bulkPart (s : State) (x : Nat) (h : Slot) (rest : List Slot) : Parsed × State :=
  let l := s.link x
  let ok := fld h 28 26 = 0 ∧ fld h 127 96 = 0 ∧ 1 ≤ hDslots h ∧ hVc h / 2 = (if hOp h = 0x40 then 0 else 1)
  match l.chainBefore h with
  | none => (.error, s)
  | some b =>
    if ¬ok ∨ fld h 95 64 ≠ 16 * b.length ∨ 4096 < b.length + rest.length then (.error, s)
    else
      let others := l.chain.filter (fun e => ¬((e.1, e.2.1, e.2.2.1) = chainKey h))
      if bit h 25 then
        let s := s.setLink x { l with chain := others }
        (match s.bulkWhole x h (b ++ rest) with | some m => .msg m true | none => .error, s)
      else
        (.msg (.bulkPart (decide (hOp h = 0x41)) (hTc h) (h :: rest)) true,
         s.setLink x { l with chain := others ++ [(hOp h, (hTc h).toNat, fld h 63 32, b ++ rest)] })

/-- The context of a logical port's message whose header arrived at a Fabric Time (R179, R198). -/
def State.rxCtx (s : State) (x stamp : Nat) : RxCtx :=
  { port := Fin.ofNat 289 x, mode := s.pierMode (x / 4), peer := s.peerNode x, own := s.node, check := (s.link x).lineChecks
    deadline := stamp / 65536 + 4000000 }

/-- R203: the lines that the outstanding tray request of a tag on logical port x has asked for. -/
def State.trayLines (s : State) (x : Nat) (ttag : Nat) : Option Nat :=
  (s.tray.txns.find? (fun t => t.ttag = ttag && s.trayPort t.slot = x && t.phase = .reading)).map (fun t => t.len)

/-- R184: read a whole message, whose header arrived at a Fabric Time. -/
def State.readMsg (s : State) (x stamp : Nat) (h : Slot) (rest : List Slot) : Parsed × State :=
  let c := s.rxCtx x stamp
  let op := hOp h
  let one := fun (m : Option Msg) => ((match m with | some m => Parsed.msg m true | none => Parsed.error), s)
  if (ReqOp.ofCode op).isSome then
    match readReq c h rest with
    | some (r, k) => (.msg (.req r) (match k with | some v => v = lineCheck (leBytes (16 * r.nData) r.data.toNat) | none => true), s)
    | none => (.error, s)
  else if op = 0x32 ∨ op = 0x33 then one ((readCoh c h rest).map Msg.coh)
  else if op = 0x40 ∨ op = 0x41 then (if c.mode = 2 then s.bulkPart x h rest else (.error, s))
  else if op = 0x58 ∨ op = 0x59 then one ((readTray c (s.trayLines x (fld h 47 32)) h rest).map Msg.trayCmp)
  else if 0x60 ≤ op ∧ op ≤ 0x63 then one ((readHand c h).map Msg.hand)
  else if op = 0x68 then one ((readTime h rest (BitVec.ofNat 80 stamp)).map Msg.timeX)
  else if op = 0x6E then
    (match readMctp h rest with
     | some (some p) => (.msg (.mctp (hTc h) p) true, s)
     | some none => (.nothing, s.bumpHub Reg.KS.SPDM_ERR_CNT)
     | none => (.error, s))
  else if quietOp c.mode h then (.nothing, s)
  else (.error, s)

/-- R172: an arrival on a channel that a PARKED port does not carry. -/
def State.parkedDrop (s : State) (x stamp : Nat) (h : Slot) (rest : List Slot) : State :=
  let s := s.bumpI (pgPier (x / 4)) Reg.Pier.PARKED_DROP_CNT (x % 4)
  match readReq (s.rxCtx x stamp) h rest with
  | some (r, _) => (s.ingressFault (x / 12) ⟨.portDown, 0xF, s.coverComp r⟩ r.src r.fabric).refuse r .portDown
  | none => s

/-- R138 step 1: does a logical port's Deck port take nothing further: it is administratively down, in reset, or flushes? -/
def State.shutIn (s : State) (x : Nat) : Bool :=
  s.adminDown (x / 12) || !s.groupUp (x / 12) || s.flushing.contains (.port (Fin.ofNat 289 x))

/-- R138: a message of n slots is discarded at the ingress: its slots are free. -/
def State.discardIn (s : State) (x vc n : Nat) : State := (s.freeSlots x vc n).bump (pgPort (x / 12)) Reg.Port.FLUSH_DISCARD_CNT

/-- R164, R165: a message of n slots takes its place on a virtual channel; none: it has no credit. -/
def State.useSlots (s : State) (x vc n : Nat) : Option State :=
  let l := s.link x
  let got := SMap.get (fun _ => 0) l.got vc + n
  if SMap.get (fun _ => 0) l.freed vc + 128 < got then none
  else some (s.setLink x { l with got := SMap.set (fun _ => 0) l.got vc got })

/-- R164, R178: a message has arrived whole; stamp: when its header arrived. -/
def State.acceptMsg (s : State) (x stamp : Nat) (h : Slot) (rest : List Slot) : State :=
  let vc := hVc h
  let n := 1 + hDslots h
  let l := s.link x
  if l.state = .parked ∧ vc / 2 ≠ 3 then
    match (s.readMsg x stamp h rest).1 with
    | .error => s.protoErr x
    | _ => s.parkedDrop x stamp h rest
  else if ¬modeCarries (s.pierMode (x / 4)) (vc / 2) ∨ (l.state = .securing ∧ vc / 2 ≠ 3) then s.protoErr x
  else match s.useSlots x vc n with
    | none => s.protoErr x
    | some s =>
      match s.readMsg x stamp h rest with
      | (.error, s) => (s.freeSlots x vc n).protoErr x
      | (.nothing, s) => s.freeSlots x vc n
      | (.msg m ok, s) =>
        if s.shutIn x then s.discardIn x vc n
        else match m with
          | .req r => s.ingressReq x vc n r ok
          | _ => s.ingressMsg x vc n m

/-- Does the port still take sequenced flits? -/
def LinkState.takes : LinkState → Bool
  | .securing | .active | .parked => true
  | _ => false

/-- R161, R163: take the messages that the slots complete; k bounds them; stamp: when the first of them began; now: when the last flit
arrived. -/
def State.parseSlots : Nat → Nat → Nat → Nat → List Slot → State → State
  | 0, _, _, _, _, s => s
  | _ + 1, _, _, _, [], s => s
  | k + 1, x, stamp, now, h :: rest, s =>
    if h = 0 then State.parseSlots k x stamp now rest s
    else if fld h 12 7 ≠ 0 ∨ 64 < hDslots h then s.protoErr x
    else if rest.length < hDslots h then s.setLink x { s.link x with rxPart := h :: rest, rxStamp := stamp }
    else
      let s := s.acceptMsg x stamp h (rest.take (hDslots h))
      if (s.link x).state.takes then State.parseSlots k x now now (rest.drop (hDslots h)) s else s

/-- R166: a sequenced flit is accepted: its slots join those of the message in progress. -/
def State.acceptFlit (s : State) (x : Nat) (slots : List Slot) : State :=
  let l := s.link x
  let all := l.rxPart ++ slots
  let stamp := if l.rxPart = [] then s.ft else l.rxStamp
  let s := s.setLink x { l with rxNext := (l.rxNext + 1) % 4096, awaiting := false, rxPart := [], rxCount := l.rxCount + 1, owed := 3 }
  ((s.bumpI (pgPier (x / 4)) Reg.Pier.RX_FLIT_CNT (x % 4)).parseSlots (all.length + 1) x stamp s.ft all).pump x

/-- R166, R168: a flit of a sequenced type comes through the decoder of logical port x. accept: what is done with it if it is good and its
SEQ the next. -/
def State.seqFlit (s : State) (x ftype : Nat) (f : Flit) (accept : State → State) : State :=
  let l := s.link x
  if ¬l.state.live then s
  else
    let s := s.countFec x f
    if ¬l.takesFlit f then (if l.state.takes then (s.countCrc x).discardFlit x else s.countCrc x)
    else if fld f.ctrl 63 60 ≠ ftype ∨ ¬l.state.takes then s
    else match s.useCtrl x f.ctrl with
      | (true, s) => s
      | (false, s) =>
        if l.shared ≠ decide (ftype = 1) ∨ fld f.ctrl 59 48 ≠ l.rxNext ∨ ¬(s.link x).state.takes then s.discardFlit x
        else accept s

/-- R166: a DATA flit arrives on logical port x. -/
def State.dataFlit (s : State) (x : Nat) (f : Flit) : State := s.seqFlit x 0 f (fun s => s.acceptFlit x f.slots)

/-- R174 step 5: the peer's secured SEQ 0 has been accepted and the own one acknowledged. -/
def State.sessionUp (s : State) (x : Nat) : State :=
  let l := s.link x
  if l.state = .securing ∧ l.shared ∧ l.peerZero ∧ l.ownZero then
    ((s.setLink x { l with laneBad := false }).linkTo x .active).portCameUp x
  else s

/-- R175: a tag has failed: four within 1 s move the link to RETRAIN. -/
def State.tagFailed (s : State) (x : Nat) : State :=
  let s := s.bumpI (pgPier (x / 4)) Reg.Pier.TAG_FAIL_CNT (x % 4)
  let t := (s.link x).tagFails.filter (fun t => s.now < t + 1000000000) ++ [s.now]
  let s := s.setLink x { s.link x with tagFails := t }
  if 4 ≤ t.length then
    (match (s.link x).state with | .active => s.retrain x 6 | .securing => s.trainFail x | _ => s)
  else s.discardFlit x

/-- R175: the plaintext of a SECURED flit that is next on a link, if its tag verifies. -/
def Link.unseal (l : Link) (f : Flit) : Option (List Slot) :=
  match l.keys with
  | some k => gcmOpen k.rxKey (gcmIv k.rxSalt l.rxCount) (fld f.ctrl 63 48) (f.slots.take 14) (f.slots.getD 14 0)
  | none => none

/-- R175: a SECURED flit arrives on logical port x. -/
def State.securedFlit (s : State) (x : Nat) (f : Flit) : State :=
  s.seqFlit x 1 f (fun s =>
    let l := s.link x
    match l.unseal f with
    | none => s.tagFailed x
    | some ss => ((s.setLink x { l with peerZero := l.peerZero || decide (l.rxNext = 0) }).acceptFlit x ss).sessionUp x)

/-- R166: an unsequenced flit comes through the decoder of logical port x. use: what is done with it if it is good. -/
def State.plainFlit (s : State) (x ftype : Nat) (f : Flit) (use : State → State) : State :=
  let l := s.link x
  if ¬l.state.live then s
  else
    let s := s.countFec x f
    if ¬l.takesFlit f then s.countCrc x
    else if fld f.ctrl 63 60 ≠ ftype then s
    else if fld f.ctrl 59 48 ≠ 0 then s.protoErr x
    else use s

/-- R166: the ACK, NAK and credit fields of an unsequenced flit, in a state whose flits are sequenced. -/
def State.plainCtrl (s : State) (x : Nat) (f : Flit) : State :=
  if (s.link x).state.takes then ((s.useCtrl x f.ctrl).2.sessionUp x).pump x else s

/-- R159, R166: an IDLE flit arrives on logical port x. -/
def State.idleFlit (s : State) (x : Nat) (f : Flit) : State :=
  s.plainFlit x 2 f (fun s => if f.slots.any (fun w => w ≠ 0) then s.protoErr x else s.plainCtrl x f)

/-! ### Sessions (R174) -/

/-- R174: the two IDENTIFY messages of a link, lower Node ID first. -/
def State.bothIdentify (s : State) (x : Nat) : List Byte :=
  let own := (LinkCtrl.identify (s.ownIdentify x)).bytes
  match (s.link x).peer with
  | some i => if s.node.toNat < i.node.toNat then own ++ (LinkCtrl.identify i).bytes else (LinkCtrl.identify i).bytes ++ own
  | none => own

/-- R174: the link key engine's KEY_SHARE for logical port x: the n-th ephemeral key pair, its nonce, and the identity key's signature over
the message and both sides' IDENTIFY messages, each its 240 bytes (DESIGN CHOICE: log entry 76). -/
def State.ownShare (s : State) (x n : Nat) : LinkCtrl :=
  let head := shareHead s.node (Config.nonce n) (Config.ephPublic n)
  .keyShare s.node (Config.nonce n) (Config.ephPublic n) (Config.idSign (head ++ s.bothIdentify x))

/-- R174 step 2, R412: KEY_SHARE of logical port x, with a new ephemeral key pair and nonce if it has none yet; not while the entropy source
has failed. -/
def State.sendShare (s : State) (x : Nat) : State :=
  match (s.link x).eph with
  | some n => s.sendCtrl x (s.ownShare x n)
  | none =>
    match s.keygen with
    | (false, s) => s
    | (true, s) =>
      let n := s.free
      let s := s.nonce.2
      let s := s.setLink x { s.link x with eph := some n }
      s.sendCtrl x (s.ownShare x n)

/-- R174 step 3: does the peer's KEY_SHARE verify: its node, and its signature by the authenticated identity key? -/
def State.shareOk (s : State) (x : Nat) (node : NodeId) (nonce pubkey sig : List Byte) : Bool :=
  node = s.peerNode x && Config.onCurve pubkey &&
    Config.ecdsaVerify (s.link x).peerKey (shareHead node nonce pubkey ++ s.bothIdentify x) sig

/-- R174 steps 3 to 5: the peer's KEY_SHARE arrives at a side that has authenticated the peer and sent its own: the session's keys are
derived, and SECURED flits begin at SEQ 0. One that comes earlier is discarded; the peer sends it again (DEDUCED: log entry 76). -/
def State.gotShare (s : State) (x : Nat) (node : NodeId) (nonce pubkey sig : List Byte) : State :=
  let l := s.link x
  match l.eph with
  | none => s
  | some n =>
    if l.state ≠ .securing ∨ l.auth < 3 ∨ l.shared then s
    else if !s.shareOk x node nonce pubkey sig then s.trainFail x
    else
      let k := sessKeys s.node node (Config.ecdh n pubkey) (Config.nonce n) nonce
      let s := s.linkRestart x
      let s := s.setLink x { s.link x with shared := true, keys := some k, egress := l.egress }
      (s.sendNew x (padTo 14 []) []).pump x

/-- R174 step 2: every 100 us from the peer's authentication until its KEY_SHARE arrives. -/
def State.resendShare (s : State) (x : Nat) : State :=
  let l := s.link x
  if l.state = .securing ∧ l.auth = 3 ∧ ¬l.shared then s.sendShare x else s

/-- R174 step 1, R419: an SPDM response of a peer in SECURING: GET_DIGESTS, then GET_CERTIFICATE, then CHALLENGE, whose answer must come from a
chain that ends at a root in firmware's trust-anchor list (log entry 76). An ERROR response, or an answer that does not verify, fails the training. -/
def State.peerAuth (s : State) (x : Nat) (packet : List Byte) : State :=
  let l := s.link x
  let code := (packet.getD 6 0).toNat
  if l.state ≠ .securing ∨ 3 ≤ l.auth ∨ (packet.getD 4 0).toNat ≠ 5 ∨ 0x80 ≤ code then s
  else if code = 0x7F then s.trainFail x
  else if code ≠ l.auth + 1 then s
  else if l.auth < 2 then (s.setLink x { l with auth := l.auth + 1 }).emit (.spdmReq x (l.auth + 1))
  else
    let n := s.free
    let s : State := { s with free := n + 1 }
    match (if s.ks.anchors = [] then none else Config.spdmPeer n s.ks.anchors packet) with
    | some key => (s.setLink x { l with auth := 3, peerKey := key }).sendShare x
    | none => s.trainFail x

/-! ### Link control messages (R173) -/

/-- R166, R173: a LINK_CTRL flit arrives on logical port x. -/
def State.ctrlFlit (s : State) (x : Nat) (f : Flit) : State :=
  s.plainFlit x 3 f (fun s =>
    let s := s.plainCtrl x f
    match readCtrl (bytesOfSlots f.slots) with
    | none => s.bumpI (pgPier (x / 4)) Reg.Pier.PROTO_ERR_CNT (x % 4)
    | some (.identify i) => s.gotIdentify x i
    | some (.identifyAck r _) => s.gotAck x r
    | some (.keyShare d nonce pubkey sig) => s.gotShare x d nonce pubkey sig
    | some (.spareReq k _) => s.spareReq x k.toNat
    | some (.spareAck k _) => s.spareAck x k.toNat
    | some (.spareDone k _) => s.spareDone x k.toNat)

/-! ### Timers (R168) -/

/-- A field of REPLAY_CFG of logical port x, in units of some ns. -/
def State.replayTime (s : State) (x hi lo unit : Nat) : Nat := fld (s.rg (pgPier (x / 4)) Reg.Pier.REPLAY_CFG) hi lo * unit

/-- R168: NAK_TIMEOUT has passed since NAK was last set, and the expected SEQ has not come. -/
def State.nakTimeout (s : State) (x : Nat) : State :=
  let l := s.link x
  if l.awaiting ∧ l.state.takes ∧ l.nakTime + s.replayTime x 7 0 100 ≤ s.now then s.sendNak x else s

/-- R168: the oldest unacknowledged flit has waited ACK_TIMEOUT. -/
def State.ackTimeout (s : State) (x : Nat) : State :=
  match (s.link x).replay with
  | f :: _ =>
    if (s.link x).state.takes ∧ f.time + s.replayTime x 15 8 500 ≤ s.now then s.replayFrom x f.seq ((f.seq + 4095) % 4096) else s
  | [] => s

/-- R168: ACK has not advanced for PROGRESS_TIMEOUT over unacknowledged flits. -/
def State.progressTimeout (s : State) (x : Nat) : State :=
  let l := s.link x
  if l.replay ≠ [] ∧ l.ackTime + s.replayTime x 23 16 1000 ≤ s.now then s.giveUp x 7 else s

/-! ### Registers of the Pier page with rows of their own -/

/-- Is a logical port of Pier p named by a tray slot in use (R110)? -/
def State.trayUses (s : State) (p : Nat) : Bool := (List.range s.trayN).any (fun k => s.trayPort k / 4 = p)

/-- R110, R154: a write to PIER_CFG of Pier p. -/
def State.pierCfgWrite (s : State) (p : Nat) (v : Word) : State :=
  let idle := (s.pierPorts p).all (fun x => (s.link x).state = .disabled || (s.link x).state = .fault)
  let w := Reg.Pier.PIER_CFG.written (s.pierCfg p) (BitVec.ofNat 64 v.toNat)
  let moves := fld w.1 3 0 ≠ fld (s.pierCfg p) 3 0
  if ¬idle ∨ (s.trayUses p ∧ moves) then s.writeRejected (pgPier p)
  else (s.writeReg (pgPier p) Reg.Pier.PIER_CFG 0 0 (BitVec.ofNat 64 v.toNat)).tryPier p

/-- R48: MARGIN_CMD of Pier p. -/
def State.pierMargin (s : State) (p : Nat) (v : Word) : State :=
  if ¬bit v 4 ∨ 8 < fld v 3 0 then (if 8 < fld v 3 0 then s.writeRejected (pgPier p) else s)
  else s.setLaneShell p (fld v 3 0) (shRequest (s.laneShell p (fld v 3 0)) 4).1

end Sys2Proof.Machine
end

