-- ==== Sys2Proof/Machine/Flush.lean ====
section
/-!
DEFINITION. Machine/Flush.lean: ports going down and coming up (R138-R141), and what is inside a unit that goes down.
-/
namespace Sys2Proof.Machine

open Sys2Proof

/-- R138 step 2: a WB or BI_ACK keeps moving. -/
def Msg.keepsMoving : Msg → Bool
  | .coh (.wb _ _ _ _ _) | .coh (.biAck _ _) => true
  | _ => false

/-- R138 step 2: what arrived from logical port x is discarded and counted; its slots are free again (R164). -/
def State.discardFrom (s : State) (x : Nat) : State :=
  let lands := fun vc => (s.landingOf x vc).filter (fun i => !i.msg.keepsMoving)
  let holds := s.capHolds.filter (fun h => h.req.origin.port? = some x)
  let gone := ((List.range 8).map (fun vc => (lands vc).length)).sum +
    (s.voqs.filter (fun v => v.arr = x && !v.msg.keepsMoving)).length + holds.length
  let freed := (List.range 8).map (fun vc =>
    ((lands vc).map (fun i => i.size)).sum + ((holds.filter (fun h => h.vc = vc)).map (fun h => h.size)).sum)
  let s := (List.range 8).foldl (fun s vc => s.setLanding x vc ((s.landingOf x vc).filter (fun i => i.msg.keepsMoving))) s
  let s := { s with
    voqs := s.voqs.filter (fun v => ¬(v.arr = x ∧ !v.msg.keepsMoving))
    capHolds := s.capHolds.filter (fun h => h.req.origin.port? ≠ some x)
    capWins := s.capWins.filter (fun w => w.port ≠ x) }
  let s := if x = 288 then s else (List.range 8).foldl (fun s vc => if freed.getD vc 0 = 0 then s else s.freeSlots x vc (freed.getD vc 0)) s
  s.addN (pgPort (inputOfPort x)) Reg.Port.FLUSH_DISCARD_CNT gone

/-- R138 step 4: one message toward a port that is down. -/
def State.returnMsg (s : State) (x : Nat) (m : Msg) : State :=
  match m with
  | .coh (.recall _ _ la) => { s with resume := s.resume ++ [.undeliverableRecall (Fin.ofNat 289 x) la] }
  | m => s.emit (.drop m)

/-- R138 step 4: the egress queues of logical port x are emptied, and every input's cells destined to it are removed. -/
def State.dropEgress (s : State) (x : Nat) : State :=
  let e := (s.link x).egress
  let ws := s.voqs.filter (fun v => v.dst = x)
  let s := s.setLink x { s.link x with egress := [], chain := [], txChain := [], rxPart := [] }
  let s := { s with voqs := s.voqs.filter (fun v => v.dst ≠ x) }
  (e.map (fun i => i.msg) ++ ws.map (fun v => v.msg)).foldl (fun s m => s.returnMsg x m) s

/-- R138: what going down does to what came from logical port x (288: the host port), or waits for it. -/
def State.portGone (s : State) (x : Nat) : State :=
  let s := ((s.discardFrom x).startSweep x).dropEgress x
  ((((s.mcDown x).trayDown x).trunkDown x).trunkChanged x)

/-- R138: logical port x (288: the host port) goes down. -/
def State.portDown (s : State) (x : Nat) : State :=
  if s.flushing.contains (FlushUnit.port (Fin.ofNat 289 x)) then s
  else ({ s with flushing := s.flushing ++ [FlushUnit.port (Fin.ofNat 289 x)] } : State).portGone x

/-- R138 step 4: what waits in the Deck toward output i. A multicast store has failed for the remote devices of a Trestle that is down. -/
def State.flushTo (s : State) (i : Nat) : State :=
  let hit := s.voqs.filter (fun v => v.out = i)
  let s := { s with voqs := s.voqs.filter (fun v => v.out ≠ i) }
  hit.foldl (fun s v =>
    match v.msg, v.mc with
    | .req _, some id => s.mapMc id (fun m => { m with bad := true, dests := [] })
    | .req r, none => (s.bump (pgPort v.inp) Reg.Port.FLUSH_REQ_CNT).refuseAt (flushInp v.inp) r .portDown
    | m, _ => s.emit (.drop m)) s

/-- R139: the requests inside Bay n that have not been answered, and what they leave behind. -/
def State.emptyBay (s : State) (n : Nat) : State :=
  let rs := (s.txns.filter (fun t => t.bay = n && !t.answered)).filterMap (fun t => t.work.req?)
  let cs := s.crossing.filterMap (fun c => match c.1, c.2.msg with
    | .bay m, .req r => if m.val = n then some r else none
    | _, _ => none)
  let ts := (s.tray.txns.filter (fun t => t.bay = n && !t.late)).filterMap (fun t => t.req)
  { s with
    txns := s.txns.filter (fun t => t.bay ≠ n || t.work.req?.isNone)
    crossing := s.crossing.filter (fun c => match c.1 with | .bay m => m.val ≠ n | _ => true)
    tray := { s.tray with txns := s.tray.txns.filter (fun t => t.bay ≠ n) }
    returns := s.returns ++ (rs ++ cs ++ ts).map (fun r => (24 + n, r)) }

/-- R139: the requests inside the Trestle of Span sp that have not been answered. -/
def State.emptyTrestle (s : State) (sp : Nat) : State :=
  let xs := (s.tr.xfers.filter (fun x => x.span = sp)).flatMap (fun x => x.recs.flatMap (fun r => r.reqs.map (fun q => q.2)))
  let hs := (s.tr.held.filter (fun h => h.span = sp && h.mc.isNone)).map (fun h => h.req)
  let cs := (s.tr.caps.filter (fun c => c.span = sp)).map (fun c => c.req)
  let mcs := (s.tr.xfers.filter (fun x => x.span = sp)).flatMap (fun x => x.recs.filterMap (fun r => r.mc)) ++
    (s.tr.held.filter (fun h => h.span = sp)).filterMap (fun h => h.mc.map Prod.fst)
  let s := mcs.foldl (fun s id => s.mapMc id (fun m => { m with remotes := m.remotes - 1, bad := true })) s
  { s with
    tr := { s.tr with
      xfers := s.tr.xfers.filter (fun x => x.span ≠ sp)
      held := s.tr.held.filter (fun h => h.span ≠ sp)
      caps := s.tr.caps.filter (fun c => c.span ≠ sp)
      rx := s.tr.rx.filter (fun x => x.span ≠ sp)
      flows := s.tr.flows.filter (fun f => f.span ≠ sp)
      remap := s.tr.remap.filter (fun k => if k < 64 then k / 16 ≠ sp else (k - 64) / 4096 / 16 ≠ sp) }
    returns := s.returns ++ (xs ++ hs ++ cs).map (fun r => (48 + sp, r)) }

/-- R139: the request that a completion on its way to a logical port answers, as a return table lists it. -/
def State.returned (s : State) (x : Nat) (c : Cmp) : Req :=
  { op := .rd, origin := .port (Fin.ofNat 289 x), src := s.peerNode x, tag := c.tag, dnode := s.node, laddr := 0, tc := c.tc, colour := 3, epoch := 0
    key := 0, mask := 0, opnd := 0, data := 0, deadline := 0, keyless := none }

/-- R139: the completions that a unit's Deck port i has brought, and that have not left the Deck, answer requests that are still listed. -/
def State.listedAt (s : State) (i : Nat) : List (Nat × Req) :=
  (s.voqs.filter (fun v => v.inp = i)).filterMap (fun v => match v.msg with | .cmp c => some (i, s.returned v.dst c) | _ => none)

/-- R138: the Deck port i of a Bay, a Trestle or the Hub goes down; unit: its unit goes down with it. The requests of device units
that the flush discards complete with PORT_DOWN. -/
def State.deckDown (s : State) (i : Nat) (unit : Bool) : State :=
  if s.flushing.contains (FlushUnit.deck (Fin.ofNat 53 i)) then s
  else
    let s := { s with flushing := s.flushing ++ [FlushUnit.deck (Fin.ofNat 53 i)], returns := s.returns ++ s.listedAt i }
    let gone := s.voqs.filter (fun v => v.inp = i && !v.msg.keepsMoving)
    let s := { s with voqs := s.voqs.filter (fun v => v.inp ≠ i || v.msg.keepsMoving) }.addN (pgPort i) Reg.Port.FLUSH_DISCARD_CNT gone.length
    let s := gone.foldl (fun s v => match v.msg, v.mc with | .req r, none => s.refuse r .portDown | _, _ => s) s
    let s := s.flushTo i
    if i < 24 then s
    else if i < 48 then (if unit then s.emptyBay (i - 24) else s)
    else if i < 52 then (if unit then s.emptyTrestle (i - 48) else s)
    else s

/-- R138: does a flush wait: the staging of the completions that it creates is full at some input? -/
def State.flushWaits (s : State) : Bool := s.voqs.any (fun v => v.late && decide (64 ≤ v.inp))

/-- R138 steps 5 and 6: a flush ends. -/
def State.flushEnd (s : State) (u : FlushUnit) : State :=
  if s.flushing.contains u ∧ ¬s.flushWaits then
    let s := { s with flushing := s.flushing.erase u }
    match u with
    | .port x => s.bump (pgPort (inputOfPort x.val)) Reg.Port.FLUSH_CNT
    | .deck i =>
      let mine := (s.returns.filter (fun r => r.1 = i.val)).map (fun r => r.2)
      let s := { s with returns := s.returns.filter (fun r => r.1 ≠ i.val) }
      let s := mine.foldl (fun s r => (s.bump (pgPort i.val) Reg.Port.RETURN_CMP_CNT).refuseAt (flushInp i.val) r .portDown) s
      s.bump (pgPort i.val) Reg.Port.FLUSH_CNT
  else s

/-- The logical ports of Pier group g that are ACTIVE, PARKED or SECURING. -/
def State.groupPorts (s : State) (g : Nat) : List Nat :=
  ((List.range 12).map (fun k => 12 * g + k)).filter (fun x => s.portExists x && (s.link x).state.takes)

/-- R138: PORT_CTRL.ADMIN_DOWN of Deck port i. -/
def State.adminWrite (s : State) (i : Nat) (down : Bool) : State :=
  let was := s.adminDown i
  let s := s.setF (pgPort i) Reg.Port.PORT_CTRL 0 0 (b2n down)
  if down ∧ ¬was then
    (if i < 24 then (s.groupPorts i).foldl (fun s x => s.portDown x) s
     else if i < 48 then (s.deckDown i true)
     else if i < 52 then (s.deckDown i true)
     else (s.deckDown i false).portGone 288)
  else s

end Sys2Proof.Machine
end

