-- ==== Sys2Proof/Machine/Maps.lean ====
section
/-!
DEFINITION. Machine/Maps.lean: the commands of the Region Table and the maps (R53-R60, R384-R388), handoffs (R65, R66, R191),
membership, range checks and revocations (R389-R393), grants (R379), meters and snapshots (R382, R383).
-/
namespace Sys2Proof.Machine

open Sys2Proof

/-! ### Entries as bytes (R54, R392) -/

/-- R54: MODE, TIER and OWN_STATE as codes. -/
def RegionMode.code : RegionMode → Nat
  | .disabled => 0 | .owned => 1 | .shared => 2
/-- R54: the code of a TIER. -/
def Tier.code : Tier → Nat
  | .stack => 0 | .window => 1 | .tray => 2
/-- R54: the code of an OWN_STATE. -/
def OwnState.code : OwnState → Nat
  | .free => 0 | .held => 1 | .offered => 2

/-- R54, R55: the entry that eight words spell; none where a field holds a reserved encoding. What is written to reserved fields is
ignored (R16). -/
def RtEntry.ofWords (w : Nat → Nat) : Option RtEntry :=
  let mode := match nfld (w 3) 1 0 with | 0 => some RegionMode.disabled | 1 => some .owned | 2 => some .shared | _ => Option.none
  let tier := match nfld (w 3) 3 2 with | 0 => some Tier.stack | 1 => some .window | 2 => some .tray | _ => Option.none
  let own := match nfld (w 3) 30 28 with | 0 => some OwnState.free | 1 => some .held | 2 => some .offered | _ => Option.none
  match mode, tier, own with
  | some m, some t, some o =>
    some { base := BitVec.ofNat 27 (w 0), limit := BitVec.ofNat 27 (w 1), key := BitVec.ofNat 32 (w 2), mode := m, tier := t
           comp := Fin.ofNat 256 (nfld (w 3) 15 8), owner := BitVec.ofNat 12 (nfld (w 3) 27 16), own := o
           peer := BitVec.ofNat 12 (nfld (w 4) 11 0), hseq := BitVec.ofNat 8 (nfld (w 4) 23 16) }
  | _, _, _ => Option.none

/-- R54: an entry as eight words. -/
def RtEntry.words (e : RtEntry) : List Nat :=
  [e.base.toNat, e.limit.toNat, e.key.toNat,
   e.mode.code + e.tier.code * 4 + e.comp.val * 2 ^ 8 + e.owner.toNat * 2 ^ 16 + e.own.code * 2 ^ 28,
   e.peer.toNat + e.hseq.toNat * 2 ^ 16, 0, 0, 0]

/-- R392: the range-check entry that four words spell. No encoding of it is reserved, and what is written to reserved fields is ignored
(R16). -/
def RctEntry.ofWords (w : Nat → Nat) : RctEntry :=
  { base := BitVec.ofNat 27 (w 0), limit := BitVec.ofNat 27 (w 1), en := (w 2).testBit 0, readOnly := (w 2).testBit 1
    comp := Fin.ofNat 256 (nfld (w 2) 15 8) }

/-- R392: a range-check entry as four words. -/
def RctEntry.words (e : RctEntry) : List Nat :=
  [e.base.toNat, e.limit.toNat, b2n e.en + b2n e.readOnly * 2 + e.comp.val * 256, 0]

/-! ### The checks of R55 -/

/-- R55: the granules of a tier's local-map range, first and last; none for an unreachable tray tier. -/
def State.tierRange (s : State) : Tier → Option (Nat × Nat)
  | .stack => some (0, granule (stackEnd - 1))
  | .window => some (granule 0x020000000000, granule 0x02006FFFFFFF)
  | .tray => if s.trayN = 0 then none else some (granule trayBase, granule (trayBase + s.trayN * 2 ^ 42 - 1))

/-- Do two entries' ranges meet? -/
def RtEntry.meets (e f : RtEntry) : Bool := decide (e.base.toNat ≤ f.limit.toNat) && decide (f.base.toNat ≤ e.limit.toNat)

/-- R55, R58: the RESULT of a write of e over entry i of a map, 0 if it is accepted. The rejections that hold whatever MODE come first. -/
def State.rtCheck (s : State) (m : MapBank) (i : Nat) (e : RtEntry) : Nat :=
  let old := m.entry i
  if old.enabled ∧ (old.base ≠ e.base ∨ old.limit ≠ e.limit ∨ old.mode ≠ e.mode ∨ old.tier ≠ e.tier) then 5
  else if ¬e.enabled then 0
  else if e.limit.toNat < e.base.toNat then 7
  else if (match s.tierRange e.tier with | none => true | some (lo, hi) => decide (e.base.toNat < lo) || decide (hi < e.limit.toNat)) then 2
  else if m.rt.any (fun f => f.1 ≠ i && f.2.enabled && f.2.meets e) then 1
  else if e.mode = .shared ∧ (e.tier ≠ .stack ∨ e.base.toNat % 3 ≠ 0 ∨ (e.limit.toNat + 1 - e.base.toNat) % 3 ≠ 0) then 3
  else if e.mode = .shared ∧ (e.owner ≠ 0 ∨ e.own ≠ .free ∨ e.peer ≠ 0 ∨ e.hseq ≠ 0) then 8
  else 0

/-! ### What is outstanding (R59, R390) -/

/-- The requests that home trackers and tray engines hold, with the entry index each was checked against. -/
def State.inHomes (s : State) : List (Nat × Origin × BitVec 12) :=
  (s.txns.filterMap (fun t => match t.work.req? with | some r => if t.answered then none else some (t.idx, r.origin, r.tag) | none => none)) ++
  (s.tray.txns.filterMap (fun t => match t.req with | some r => if t.late then none else some (t.idx, r.origin, r.tag) | none => none))

/-- The requests that Trestles hold. -/
def State.inTrestles (s : State) : List (Origin × BitVec 12) :=
  s.tr.xfers.flatMap (fun x => x.recs.flatMap (fun r => r.reqs.map (fun q => (q.2.origin, q.2.tag)))) ++
  s.tr.held.map (fun h => (h.req.origin, h.req.tag)) ++ s.tr.caps.map (fun c => (c.req.origin, c.req.tag)) ++
  s.tr.mcOut.map (fun m => (m.req.origin, m.req.tag))

/-- The row transactions that hold their lines (R249). -/
def State.inRows (s : State) : List (Origin × BitVec 12) := (s.hed.ops.filter (fun o => o.locked)).map (fun o => (.row o.id 0, 0))

/-- R390: every entry of a home tracker, tray engine or Trestle, by its request. -/
def State.tracked (s : State) : List (Origin × BitVec 12) := s.inHomes.map (fun e => e.2) ++ s.inRows ++ s.inTrestles

/-- R392, R393: the requests that the ingress check has let pass and that no home holds yet: in the Deck, in a crossing or held as Capstone
stores. -/
def State.inDeck (s : State) : List Req :=
  (s.voqs ++ s.crossing.map (fun e => e.2)).filterMap (fun v => match v.msg with | .req r => if v.arr < 288 then some r else none | _ => none) ++
  s.capHolds.map (fun h => h.req)

/-! ### Handoffs (R66, R191) -/

/-- R191: note the port of a Node ID's handoff message for a region. -/
def State.noteHand (s : State) (src : NodeId) (g : BitVec 27) (x : Nat) : State :=
  { s with reg := { s.reg with handPorts := (s.reg.handPorts.filter (fun h => ¬(h.1 = src ∧ h.2.1 = g))) ++ [(src, g, x)] } }

/-- R191: the port for a handoff message to a Node ID. -/
def State.handPort (s : State) (d : NodeId) (g : BitVec 27) : Option Nat :=
  let last := (s.reg.handPorts.find? (fun h => h.1 = d && h.2.1 = g)).map (fun h => h.2.2)
  let other := (s.links.find? (fun e => e.2.state.takes && (match e.2.peer with | some i => i.node = d | none => false))).map (fun e => e.1)
  match last with
  | some x => if s.portUp x 3 then some x else other
  | none => other

/-- R191: send a handoff message to a Node ID; dropped where no port leads there. -/
def State.sendHand (s : State) (d : NodeId) (h : Hand) : State :=
  match s.handPort d h.granule with
  | some x => s.sendFrom 54 x (.hand h)
  | none => s.emit (.drop (.hand h))

/-- The traffic class of the OFFER that began the handoff of entry i. -/
def State.handTc (s : State) (i : Nat) (dflt : BitVec 3) : BitVec 3 :=
  ((s.reg.handoffs.find? (fun h => h.index = i)).map (fun h => h.tc)).getD dflt

/-- R66: a CANCEL to a Node ID. -/
def State.sendCancel (s : State) (d : NodeId) (tc : BitVec 3) (st : Status) (g : BitVec 27) (hseq : BitVec 8) : State :=
  s.sendHand d { op := .cancel, tc := tc, status := st, node := 0, hseq := hseq, granule := g, key := 0 }

/-- R66: CANCEL of a pending handoff to both parties, counted once. Its OFFER is forwarded no more. -/
def State.cancelBoth (s : State) (i : Nat) (old new : RtEntry) (st : Status) : State :=
  let tc := s.handTc i 0
  let s := { s with reg := { s.reg with handWrites := s.reg.handWrites.filter (fun w => !(w.index = i && !w.commit)) } }
  ((s.bumpHub Reg.RT.HANDOFF_CANCEL_CNT).sendCancel old.owner tc st old.base new.hseq).sendCancel old.peer tc st old.base new.hseq

/-- Write entry i of the current map (R59). -/
def State.putCur (s : State) (i : Nat) (e : RtEntry) : State := { s with reg := { s.reg with cur := s.reg.cur.setEntry i e } }

/-- The requests that homes hold and that were checked against entry i as it stands. -/
def State.checkedOn (s : State) (i : Nat) : List (Origin × BitVec 12) := (s.inHomes.filter (fun e => e.1 = i)).map (fun e => e.2)

/-- R65, R59: a handoff writes entry i: the entry is in force at once, and the write completes, with what is then sent, once no
request checked against the old entry is left. -/
def State.handWrite (s : State) (i : Nat) (e : RtEntry) (commit : Bool) (sends : List (NodeId × Hand)) : State :=
  let w : HandWrite := { index := i, marked := s.checkedOn i, commit := commit, sends := sends }
  let s := s.putCur i e
  { s with reg := { s.reg with handWrites := s.reg.handWrites ++ [w] } }

/-- R59, R66: a handoff's write has completed. -/
def State.handWritten (s : State) (w : HandWrite) : State :=
  let s := s.bumpHub Reg.RT.RT_UPDATE_CNT
  let s := if w.commit then s.bumpHub Reg.RT.HANDOFF_CNT else s
  w.sends.foldl (fun s m => s.sendHand m.1 m.2) s

/-- R59: the handoff writes whose requests have all gone complete. -/
def State.handSettle (s : State) : State :=
  let held := s.inHomes
  let waits := fun (w : HandWrite) => held.any (fun e => w.marked.contains e.2)
  let ready := s.reg.handWrites.filter (fun w => !waits w)
  ready.foldl State.handWritten { s with reg := { s.reg with handWrites := s.reg.handWrites.filter waits } }

/-- R66: the enabled Owned entry of the current map whose BASE is a granule. -/
def State.handEntry (s : State) (g : BitVec 27) : Option (Nat × RtEntry) :=
  s.reg.cur.rt.find? (fun e => e.2.mode = .owned && e.2.base = g)

/-- R66: the OFFER that the device forwards to the peer of an OFFERED entry. -/
def offerTo (tc : BitVec 3) (e : RtEntry) : NodeId × Hand :=
  (e.peer, { op := .offer, tc := tc, status := .ok, node := e.owner, hseq := e.hseq, granule := e.base, key := e.key })

/-- R66: a COMMIT to a Node ID of the handoff that gives an entry to src. -/
def commitTo (tc : BitVec 3) (e : RtEntry) (src d : NodeId) : NodeId × Hand :=
  (d, { op := .commit, tc := tc, status := .ok, node := src, hseq := e.hseq, granule := e.base, key := 0 })

/-- Is a handoff's write of the entry at a granule in progress? Further handoff messages for it then wait (DEDUCED: log entry 55). -/
def State.handBusy (s : State) (g : BitVec 27) : Bool :=
  match s.handEntry g with
  | some (i, _) => s.reg.handWrites.any (fun w => w.index = i)
  | none => false

/-- R66: an OFFER from Source src on logical port x. -/
def State.offer (s : State) (x : Nat) (src : NodeId) (h : Hand) : State :=
  let s := s.noteHand src h.granule x
  match s.handEntry h.granule with
  | none => s.sendCancel src h.tc .unmapped h.granule 0
  | some (i, e) =>
    if e.own = .offered ∧ e.owner = src ∧ e.peer = h.node then s.sendHand e.peer (offerTo (s.handTc i h.tc) e).2
    else if e.own = .offered ∧ e.owner = src then s.sendCancel src h.tc .busyRetry e.base e.hseq
    else if e.owner ≠ src ∨ e.own = .free ∨ e.key ≠ h.key then s.sendCancel src h.tc .keyFault e.base e.hseq
    else
      let e' := { e with own := .offered, peer := h.node, hseq := e.hseq + 1 }
      let hs := s.reg.handoffs.filter (fun (k : Handoff) => k.index ≠ i) ++ [{ index := i, tc := h.tc }]
      ({ s with reg := { s.reg with handoffs := hs } } : State).handWrite i e' false [offerTo h.tc e']

/-- R66: an ACCEPT from Source src on logical port x. -/
def State.accept (s : State) (x : Nat) (src : NodeId) (h : Hand) : State :=
  let s := s.noteHand src h.granule x
  match s.handEntry h.granule with
  | none => s.sendCancel src h.tc .unmapped h.granule 0
  | some (i, e) =>
    let tc := s.handTc i h.tc
    if h.hseq ≠ e.hseq then s.sendCancel src h.tc .epochStale e.base e.hseq
    else if e.own = .offered then
      (if e.peer = src then
        s.handWrite i { e with owner := src, own := .held, peer := 0 } true [commitTo tc e src src, commitTo tc e src e.owner]
       else s.sendCancel src h.tc .keyFault e.base e.hseq)
    else if e.own = .held ∧ e.owner = src then s.sendHand src (commitTo tc e src src).2
    else s.sendCancel src h.tc .epochStale e.base e.hseq

/-- R66: COMMIT or CANCEL from a Source is discarded; its port is noted (R191). -/
def State.handQuiet (s : State) (x : Nat) (src : NodeId) (h : Hand) : State := s.noteHand src h.granule x

/-- R66: the handoff timer of entry i expires; it runs from when the OFFER's write has completed. -/
def State.handTimeout (s : State) (i : Nat) : State :=
  let e := s.reg.cur.entry i
  if e.mode = .owned ∧ e.own = .offered ∧ !s.reg.handWrites.any (fun w => w.index = i) then
    let e' := { e with own := .held, peer := 0, hseq := e.hseq + 1 }
    ((s.putCur i e').bumpHub Reg.RT.RT_UPDATE_CNT).cancelBoth i e e' .timeout
  else s

/-! ### Region Table commands (R58-R60) -/

/-- Is a Region Table command in progress? -/
def State.rtBusy (s : State) : Bool := s.reg.rtCmd.isSome

/-- RT_STAT takes BUSY and a RESULT. -/
def State.rtStat (s : State) (busy : Bool) (res : Nat) : State := s.setHub Reg.RT.RT_STAT (BitVec.ofNat 64 (b2n busy * 2 ^ 31 + res))

/-- The entry staged in RT_DATA0-7. -/
def State.rtStaged (s : State) : Option RtEntry :=
  RtEntry.ofWords (fun i => (s.rgi (pgOfHub Reg.RT.RT_DATA) Reg.RT.RT_DATA i).toNat)

/-- End a Region Table command. -/
def State.rtDone (s : State) (res : Nat) : State :=
  let s := { s with reg := { s.reg with rtCmd := none } }.rtStat false res
  if res = 0 then s else s.bumpHub Reg.RT.RT_REJECT_CNT

/-- Begin to wait for the requests checked against entry i as it stood (R59). -/
def State.rtWait (s : State) (i op : Nat) : State :=
  { s with reg := { s.reg with rtCmd := some { index := i, next := false, op := op, waiting := false, marked := s.checkedOn i } } }.rtStat true 0

/-- Put an entry into the current map by a Region Table write: a pending handoff on it is cancelled (R66). -/
def State.rtPut (s : State) (i : Nat) (e : RtEntry) : State :=
  let old := s.reg.cur.entry i
  let s := s.putCur i e
  if old.mode = .owned ∧ old.own = .offered then s.cancelBoth i old e .revoked else s

/-- R55, R58: OP 0x1, once its map may be written. -/
def State.rtWriteNow (s : State) (i : Nat) (next : Bool) : State :=
  match s.rtStaged with
  | none => s.rtDone 4
  | some e =>
    let m := if next then s.reg.nxt else s.reg.cur
    let res := s.rtCheck m i e
    if res ≠ 0 then s.rtDone res
    else if next then
      ({ s with reg := { s.reg with nxt := m.setEntry i e } }.bumpHub Reg.RT.RT_UPDATE_CNT).rtDone 0
    else (s.rtWait i 1).rtPut i e

/-- R58: OP 0x2. -/
def State.rtReadNow (s : State) (i : Nat) (next : Bool) : State :=
  let ws := ((if next then s.reg.nxt else s.reg.cur).entry i).words
  ((List.range 8).foldl (fun s k => s.setReg (pgOfHub Reg.RT.RT_DATA) Reg.RT.RT_DATA k 0 (BitVec.ofNat 64 (ws.getD k 0))) s).rtDone 0

/-- Has Bay n been retired (R475)? -/
def State.retired (s : State) (n : Nat) : Bool := bit (s.hub Reg.Flt.BAY_RETIRED) n

/-- R60: recall every line of a Shared-Coherent entry that the directories of a Bay record as cached. -/
def State.disableBay (s : State) (i : Nat) (e : RtEntry) (n : Nat) : State :=
  if ¬s.bayUp n then s
  else
    let busy := fun o => s.txns.any (fun t => t.bay = n && t.line = o && t.work = .disable)
    let lines := (e.homed s.sel n).filter (fun o => dirState (s.rawDir n (e.dirOffset (stackAddr s.sel n o))) ≠ 0 && !busy o)
    lines.foldl (fun s o => s.addTxn n (stackAddr s.sel n o) .disable .clean ⟨i, e, s.reg.epoch⟩) s

/-- R60: recall what the directories record of an entry, in every Bay. -/
def State.disableAll (s : State) (i : Nat) (e : RtEntry) : State := (List.range 24).foldl (fun s n => s.disableBay i e n) s

/-- R58, R60: OP 0x3, once its map may be written. -/
def State.rtDisableNow (s : State) (i : Nat) (next : Bool) : State :=
  if next then
    let e := s.reg.nxt.entry i
    ({ s with reg := { s.reg with nxt := s.reg.nxt.setEntry i { e with mode := .disabled } } }.bumpHub Reg.RT.RT_UPDATE_CNT).rtDone 0
  else
    let e := s.reg.cur.entry i
    if e.mode = .shared then (s.rtWait i 3).disableAll i e
    else (s.rtWait i 1).rtPut i { e with mode := .disabled }

/-- May the next map be written (R384, R386)? -/
def State.nextOpen (s : State) : Bool := s.reg.phase = .idle

/-- R58: a command on entry i of a map; op: 1 write, 2 read, 3 disable. One on the next map waits while that map is not writable. -/
def State.rtCommand (s : State) (i : Nat) (next : Bool) (op : Nat) : State :=
  if s.rtBusy then s.overrun (pgHub 0x10)
  else if next ∧ ¬s.nextOpen then
    { s with reg := { s.reg with rtCmd := some { index := i, next := true, op := op, waiting := true, marked := [] } } }.rtStat true 0
  else if op = 1 then s.rtWriteNow i next
  else if op = 2 then s.rtReadNow i next
  else s.rtDisableNow i next

/-- R59, R60: the command on the current map completes once its recalls are in and the requests it waits for have gone. -/
def State.rtComplete (s : State) : State :=
  match s.reg.rtCmd with
  | none => s
  | some c =>
    if c.waiting then s
    else if c.op = 3 then
      let e := s.reg.cur.entry c.index
      let s := s.disableAll c.index e
      -- a Bay that is being reset has still to take its part; a retired one or a fenced Span's takes none
      let late := (List.range 24).any (fun n => !s.bayUp n && !s.retired n && !s.spanFenced (n / 6))
      if late ∨ s.txns.any (fun t => t.idx = c.index && t.work = .disable) then s
      else (s.rtWait c.index 1).rtPut c.index { e with mode := .disabled }
    else if s.inHomes.any (fun e => c.marked.contains e.2) then s
    else (s.bumpHub Reg.RT.RT_UPDATE_CNT).rtDone 0

/-- R57, R83, R484: DEAD_SOURCE: every port whose peer is the Node ID; the Node ID leaves the latched admission set. -/
def State.deadSource (s : State) (d : NodeId) : State :=
  let ports := (s.links.filter (fun e => match e.2.peer with | some i => i.node = d | none => false)).map (fun e => e.1)
  let host := if fld (s.hub Reg.HP.HP_CFG) 11 0 = d.toNat then [288] else []
  (ports ++ host).foldl (fun s x => s.startSweep x) (s.unadmit d)

/-! ### Range checks and membership (R391, R392) -/

/-- RCT_STAT takes BUSY and a RESULT. -/
def State.rctStat (s : State) (busy : Bool) (res : Nat) : State := s.setHub Reg.Comp.RCT_STAT (BitVec.ofNat 64 (b2n busy * 2 ^ 31 + res))

/-- End a range-check command. -/
def State.rctDone (s : State) (res : Nat) : State := { s with reg := { s.reg with rctCmd := none } }.rctStat false res

/-- RCT_DATA0-3 (R400). -/
def State.rctData (s : State) (i : Nat) : Nat := (s.rgi (pgOfHub Reg.Comp.RCT_DATA) Reg.Comp.RCT_DATA i).toNat

/-- The range-check entry staged in RCT_DATA0-3. -/
def State.rctStaged (s : State) : RctEntry := RctEntry.ofWords s.rctData

/-- R392, R393: was a request checked against a range-check entry: one in force that covers its line, for the composition of its
region or of its port? -/
def RctEntry.concerns (old : RctEntry) (s : State) (ent : RtEntry) (r : Req) : Bool :=
  old.en && decide (old.base.toNat ≤ granule r.addr) && decide (granule r.addr ≤ old.limit.toNat) &&
    (decide (old.comp = ent.comp) || (match r.origin.port? with | some p => s.portComp p == some old.comp.val | .none => false))

/-- The requests in home trackers and tray engines that were checked against a range-check entry. -/
def State.rctMarked (s : State) (old : RctEntry) : List (Origin × BitVec 12) :=
  (s.txns.filterMap (fun t => match t.work.req? with
    | some r => if t.answered || !old.concerns s t.ent r then none else some (r.origin, r.tag)
    | none => none)) ++
  (s.tray.txns.filterMap (fun t => match t.req with
    | some r => if t.late || !old.concerns s t.ent r then none else some (r.origin, r.tag)
    | none => none))

/-- R392, R393: the requests not yet at their home whose ingress check met a range-check entry. -/
def State.rctPassed (s : State) (old : RctEntry) : List (Origin × BitVec 12) :=
  (s.inDeck.filter (fun r => old.en && decide (old.base.toNat ≤ granule r.addr) && decide (granule r.addr ≤ old.limit.toNat) &&
    (match r.origin.port? with | some p => s.portComp p == some old.comp.val | .none => false))).map (fun r => (r.origin, r.tag))

/-- R392: write or disable entry i of a map that may be written. -/
def State.rctPut (s : State) (i : Nat) (next : Bool) (e : RctEntry) : State :=
  if next then { s with reg := { s.reg with nxt := s.reg.nxt.setRange i e } }.rctDone 0
  else
    let old := s.reg.cur.range i
    let m := s.rctMarked old ++ s.rctPassed old
    { s with reg := { s.reg with cur := s.reg.cur.setRange i e, rctCmd := some { index := i, next := false, op := 1, waiting := false, marked := m } } }.rctStat true 0

/-- R392: a range-check command, its map writable. -/
def State.rctNow (s : State) (i : Nat) (next : Bool) (op : Nat) : State :=
  let m := if next then s.reg.nxt else s.reg.cur
  if op = 1 then
    let e := s.rctStaged
    if e.limit.toNat < e.base.toNat then s.rctDone 1 else s.rctPut i next e
  else if op = 2 then
    let ws := (m.range i).words
    ((List.range 4).foldl (fun s k => s.setReg (pgOfHub Reg.Comp.RCT_DATA) Reg.Comp.RCT_DATA k 0 (BitVec.ofNat 64 (ws.getD k 0))) s).rctDone 0
  else s.rctPut i next { m.range i with en := false }

/-- R392: RCT_CMD. -/
def State.rctCommand (s : State) (i : Nat) (next : Bool) (op : Nat) : State :=
  if s.reg.rctCmd.isSome then s.overrun (pgHub 0x11)
  else if 4096 ≤ i then s.rctDone 2
  else if next ∧ ¬s.nextOpen then
    { s with reg := { s.reg with rctCmd := some { index := i, next := true, op := op, waiting := true, marked := [] } } }.rctStat true 0
  else s.rctNow i next op

/-- R392: requests checked against the old entry have gone. -/
def State.rctComplete (s : State) : State :=
  match s.reg.rctCmd with
  | none => s
  | some c =>
    if c.waiting ∨ s.inHomes.any (fun e => c.marked.contains e.2) ∨ s.inDeck.any (fun r => c.marked.contains (r.origin, r.tag)) then s
    else s.rctDone 0

/-- R391: MEMB_CMD OP 0x1. -/
def State.membWrite (s : State) (i : Nat) : State :=
  if 4096 ≤ i then s.writeRejected (pgHub 0x11)
  else
    let v := s.hub Reg.Comp.MEMB_DATA
    { s with reg := { s.reg with members := SMap.set (fun _ => 0) s.reg.members i (fld v 8 0) } }

/-- R391: MEMB_CMD OP 0x2. -/
def State.membRead (s : State) (i : Nat) : State :=
  if 4096 ≤ i then s.writeRejected (pgHub 0x11)
  else s.setHub Reg.Comp.MEMB_DATA (BitVec.ofNat 64 (SMap.get (fun _ => 0) s.reg.members i))

/-! ### Map switches and copies (R384-R388) -/

/-- MAP_STAT of R400. -/
def State.syncMap (s : State) (res : Nat) : State :=
  s.setHub Reg.Comp.MAP_STAT (BitVec.ofNat 64 (b2n (decide (s.reg.phase ≠ .idle)) * 2 ^ 31 + b2n s.reg.draining * 2 ^ 30 + s.reg.epoch * 2 ^ 16 + res))

/-- R387: does an Owned entry of the next map count as unchanged? -/
def unchanged (c n : RtEntry) : Bool :=
  n.mode = .owned && n.base = c.base && n.limit = c.limit && n.key = c.key && n.mode = c.mode && n.tier = c.tier && n.comp = c.comp

/-- R387: the entry a switch puts at an index. -/
def mergeEntry (c n : RtEntry) : RtEntry :=
  if unchanged c n then { n with owner := c.owner, own := c.own, peer := c.peer, hseq := c.hseq } else n

/-- R387: the map that a switch makes current. -/
def mergeMaps (c n : MapBank) : MapBank :=
  { n with rt := n.rt.map (fun e => (e.1, mergeEntry (c.entry e.1) e.2)) }

/-- R116, R269: why the granules lo to hi are not in one entry that the device owns for a composition: 0 they are. -/
def MapBank.areaCause (m : MapBank) (own : NodeId) (comp lo hi : Nat) : Nat :=
  match m.rt.find? (fun e => e.2.enabled && e.2.holds lo && e.2.holds hi) with
  | none => 1
  | some (_, e) =>
    if e.tier ≠ .stack ∨ e.mode ≠ .owned then 2
    else if e.own ≠ .held ∨ e.owner ≠ own then 3
    else if e.comp.val ≠ comp then 4
    else 0

/-- The granules of a composition's stream window (R116), first and last. -/
def State.winGranules (s : State) (c : Nat) : Nat × Nat :=
  let base := (s.rgb (pgHub 0x16) Reg.Stream.WIN_BASE c).toNat
  let n := fld (s.rgb (pgHub 0x16) Reg.Stream.WIN_CFG c) 4 0 * ((s.rgb (pgHub 0x16) Reg.Stream.WIN_SLOT_SIZE c).toNat * 4096)
  (granule base, granule (base + max 1 n - 1))

/-- The granules of a composition's migration area (R269), first and last. -/
def State.migGranules (s : State) (c : Nat) : Nat × Nat :=
  let base := (s.rgb (pgHub 0x18) Reg.HReg.MIG_BASE c).toNat
  let n := (s.rgb (pgHub 0x18) Reg.HReg.MIG_SIZE c).toNat * 2 ^ 21
  (granule base, granule (base + max 1 n - 1))

/-- The live compositions. -/
def State.liveComps (s : State) : List Nat := (s.comps.filter (fun e => e.2 = 1)).map (fun e => e.1)

/-- R388: does a map leave a live composition's window or migration area uncovered? -/
def State.uncovers (s : State) (m : MapBank) : Bool :=
  s.liveComps.any (fun c =>
    (bit (s.rgb (pgHub 0x16) Reg.Stream.WIN_CFG c) 31 &&
      decide (m.areaCause s.node c (s.winGranules c).1 (s.winGranules c).2 ≠ 0)) ||
    (decide (fld (s.rgb (pgHub 0x18) Reg.HReg.MIG_POLICY c) 31 30 = 2) &&
      decide (m.areaCause s.node c (s.migGranules c).1 (s.migGranules c).2 ≠ 0)))

/-- R388: do the maps differ in a Shared-Coherent entry, its owner fields aside? -/
def sharedDiffers (c n : MapBank) : Bool :=
  let bad := fun (i : Nat) =>
    let a := c.entry i
    let b := n.entry i
    (decide (a.mode = .shared) || decide (b.mode = .shared)) &&
      !(a.base = b.base && a.limit = b.limit && a.key = b.key && a.mode = b.mode && a.tier = b.tier && a.comp = b.comp)
  (c.rt.map (fun e => e.1) ++ n.rt.map (fun e => e.1)).any bad

/-- R388: the RESULT of a switch, 0 if it may go on. -/
def State.switchCheck (s : State) : Nat :=
  if sharedDiffers s.reg.cur s.reg.nxt then 1
  else if s.uncovers (mergeMaps s.reg.cur s.reg.nxt) then 3
  else if s.reg.nxt.rt.any (fun e => e.2.enabled && !s.live e.2.comp.val) || s.reg.nxt.rct.any (fun e => e.2.en && !s.live e.2.comp.val) then 4
  else 0

/-- R386 steps 1, 2: MAP_CMD OP 0x1. -/
def State.mapSwitch (s : State) : State :=
  if s.reg.phase ≠ .idle then s.overrun (pgHub 0x11)
  else
    let r := s.switchCheck
    if r ≠ 0 then s.syncMap r else { s with reg := { s.reg with phase := .checking } }.syncMap 0

/-- R387: cancel the handoffs that a switch ends. -/
def State.cancelChanged (s : State) (old new : MapBank) : State :=
  old.rt.foldl (fun s e =>
    if e.2.mode = .owned ∧ e.2.own = .offered ∧ ¬unchanged e.2 (new.entry e.1) then s.cancelBoth e.1 e.2 (new.entry e.1) .revoked else s) s

/-- R384, R386: perform the commands that waited for the next map. -/
def State.runWaiting (s : State) : State :=
  let s := match s.reg.rtCmd with
    | some c => if c.waiting then
        let s := { s with reg := { s.reg with rtCmd := none } }
        s.rtCommand c.index true c.op else s
    | none => s
  match s.reg.rctCmd with
  | some c => if c.waiting then
      let s := { s with reg := { s.reg with rctCmd := none } }
      s.rctCommand c.index true c.op else s
  | none => s

/-- R386 steps 2, 3: the maps flip, unless the current map or a composition has changed since the check began so that R388 refuses the
switch (log entry 97). -/
def State.mapFlip (s : State) : State :=
  if s.reg.phase ≠ .checking then s
  else if s.switchCheck ≠ 0 then ({ s with reg := { s.reg with phase := .idle } }.syncMap s.switchCheck).runWaiting
  else
    let old := s.reg.cur
    let nxt := s.reg.nxt
    let s := { s with reg := { s.reg with cur := mergeMaps old nxt, old := old, epoch := (s.reg.epoch + 1) % 256, draining := true, phase := .draining } }
    ((s.bumpHub Reg.Comp.MAP_SWITCH_CNT).syncMap 0).cancelChanged old nxt

/-- R386 step 5: DRAIN ends; the copy of step 6 begins. -/
def State.drainEnd (s : State) : State :=
  if s.reg.phase ≠ .draining then s
  else
    let ep := (s.reg.epoch + 255) % 256
    let revs := s.reg.revs.map (fun r => (r.1, if r.2.inForce ∧ ¬r.2.all ∧ r.2.epoch = ep then { r.2 with inForce := false } else r.2))
    { s with reg := { s.reg with old := .empty, draining := false, phase := .rebuilding, nxt := s.reg.cur, revs := revs } }.syncMap 0

/-- R384: MAP_CMD OP 0x2. -/
def State.mapCopy (s : State) : State :=
  if s.reg.phase ≠ .idle then s.overrun (pgHub 0x11)
  else { s with reg := { s.reg with phase := .copying, nxt := s.reg.cur } }.syncMap 0

/-- R384, R386 step 6: a copy has ended. -/
def State.mapCopyDone (s : State) : State :=
  if s.reg.phase = .copying ∨ s.reg.phase = .rebuilding then
    ({ s with reg := { s.reg with phase := .idle } }.syncMap 0).runWaiting
  else s

/-! ### Revocations (R389, R390) -/

/-- A revocation entry. -/
def State.rev (s : State) (i : Nat) : RevEntry := SMap.get (fun _ => RevEntry.none) s.reg.revs i

/-- Replace a revocation entry. -/
def State.setRev (s : State) (i : Nat) (r : RevEntry) : State := { s with reg := { s.reg with revs := SMap.set (fun _ => RevEntry.none) s.reg.revs i r } }

/-- REV_STAT takes a RESULT. -/
def State.revResult (s : State) (n : Nat) : State := s.setHub Reg.Comp.REV_STAT (BitVec.ofNat 64 n)

/-- R390: REV_CMD OP 0x1. -/
def State.revoke (s : State) (i : Nat) : State :=
  let d0 := s.hub Reg.Comp.REV_DATA0
  let lo := fld d0 26 0
  let hi := fld (s.hub Reg.Comp.REV_DATA1) 26 0
  if hi < lo then s.revResult 1
  else if (s.rev i).inForce then s.revResult 2
  else
    let s := s.setRev i { all := bit d0 31, base := lo, limit := hi, inForce := true, epoch := s.reg.epoch, marked := (s.rev i).marked ++ s.tracked }
    (s.setHub Reg.Comp.REV_PEND (setBit (s.hub Reg.Comp.REV_PEND) i true)).revResult 0

/-- R389, R390: REV_CMD OP 0x2. -/
def State.revClear (s : State) (i : Nat) : State := (s.setRev i { s.rev i with inForce := false }).revResult 0

/-- R390: REV_CMD OP 0x3. -/
def State.revRead (s : State) (i : Nat) : State :=
  let r := s.rev i
  ((s.setHub Reg.Comp.REV_DATA0 (BitVec.ofNat 64 (r.base + b2n r.all * 2 ^ 31))).setHub Reg.Comp.REV_DATA1 (BitVec.ofNat 64 r.limit)).revResult 0

/-- R390 step 3: every marked entry has been released. -/
def State.revDone (s : State) (i : Nat) : State :=
  let r := s.rev i
  if bit (s.hub Reg.Comp.REV_PEND) i ∧ ¬r.marked.any (fun m => s.tracked.contains m) then
    let s := s.setRev i { r with marked := [] }
    let s := s.setHub Reg.Comp.REV_PEND (setBit (s.hub Reg.Comp.REV_PEND) i false)
    (s.bumpHub Reg.Comp.REVOKE_CNT).notify 1 0 [i]
  else s

/-! ### Grants (R379) -/

/-- COMP_SEL. -/
def State.compSel (s : State) : Nat := fld (s.hub Reg.Comp.COMP_SEL) 7 0

/-- The bytes of a share register as numbers. -/
def shares (v : DWord) : List Nat := (List.range 4).map (fun j => fld v (8 * j + 4) (8 * j))

/-- R379: does a grant write keep the exclusivity of its resource? -/
def State.grantOk (s : State) (c : Nat) (g : GrantReg) (v : DWord) : Bool :=
  let others := s.liveComps.filter (fun d => d ≠ c)
  match g with
  | .spindles n => others.all (fun d => (s.reg? (pgHub 0x11) Reg.Comp.SP_GRANT n.val d &&& v) = 0)
  | .ports k =>
    others.all (fun d => (s.reg? (pgHub 0x11) Reg.Comp.PORT_GRANT k.val d &&& v) = 0) &&
    (List.range 32).all (fun j => !bit v j || (s.pierMode ((32 * k.val + j) / 4) = 0))
  | .bayShare k =>
    (List.range 4).all (fun j =>
      decide (((shares v).getD j 0) + (others.map (fun d => (shares (s.reg? (pgHub 0x11) Reg.Comp.BAY_SHARE k.val d)).getD j 0)).sum ≤ 16))
  | .pierShare k =>
    (List.range 4).all (fun j =>
      decide (((shares v).getD j 0) + (others.map (fun d => (shares (s.reg? (pgHub 0x11) Reg.Comp.PIER_SHARE k.val d)).getD j 0)).sum ≤ 16) &&
      (decide ((shares v).getD j 0 = 0) || decide (s.pierMode (4 * k.val + j) ≠ 0)))

/-- The register of a grant, and its element. -/
def GrantReg.spec : GrantReg → RegSpec × Nat
  | .spindles n => (Reg.Comp.SP_GRANT, n.val)
  | .ports k => (Reg.Comp.PORT_GRANT, k.val)
  | .bayShare k => (Reg.Comp.BAY_SHARE, k.val)
  | .pierShare k => (Reg.Comp.PIER_SHARE, k.val)

/-- R379: a write to a grant register of the composition in COMP_SEL. -/
def State.grantWrite (s : State) (g : GrantReg) (v : DWord) : State :=
  let c := s.compSel
  let r := g.spec
  let w := r.1.written (s.reg? (pgHub 0x11) r.1 r.2 c) v
  if s.live c ∧ ¬w.2 ∧ s.grantOk c g w.1 then s.setReg (pgHub 0x11) r.1 r.2 c w.1
  else (s.setHubF Reg.Comp.COMP_STAT 3 0 9).writeRejected (pgHub 0x11)

/-! ### Meters and snapshots (R382, R383) -/

/-- The number of one bits. -/
def popcount (w : Nat) (v : Nat) : Nat := ((List.range w).filter (fun i => v.testBit i)).length

/-- R382: the granules of enabled current-map entries of a tier that name a composition. -/
def State.granules (s : State) (c : Nat) (t : Tier) : Nat :=
  ((s.reg.cur.rt.filter (fun e => e.2.enabled && e.2.tier = t && e.2.comp.val = c)).map (fun e => e.2.limit.toNat + 1 - e.2.base.toNat)).sum

/-- R382: add GiB, carrying the remainder to the next tick. -/
def State.meterGib (s : State) (c : Nat) (t : Tier) (r : RegSpec) : State :=
  let k := c * 2 + b2n (decide (t = .tray))
  let n := s.granules c t + SMap.get (fun _ => 0) s.meterRem k
  { s with meterRem := SMap.set (fun _ => 0) s.meterRem k (n % 512) }.count (pgHub 0x11) r 0 c (n / 512)

/-- R382: one tick of a composition's meters. -/
def State.meterComp (s : State) (c : Nat) : State :=
  let bays := ((List.range 24).map (fun n => s.bayShare c n)).sum
  let sps := ((List.range 24).map (fun n => popcount 64 (s.reg? (pgHub 0x11) Reg.Comp.SP_GRANT n c).toNat)).sum
  let lanes := ((List.range 288).map (fun x => if s.portGranted c x ∧ s.portExists x ∧ s.pierMode (x / 4) = 0 then s.lanesOf x else 0)).sum
  let piers := ((List.range 72).map (fun p => if s.pierMode p ≠ 0 then s.pierShare c p else 0)).sum
  let s := s.count (pgHub 0x11) Reg.Comp.BAY_SHARE_US 0 c bays
  let s := s.count (pgHub 0x11) Reg.Comp.SPINDLE_US 0 c sps
  let s := s.count (pgHub 0x11) Reg.Comp.PIER_US 0 c (16 * lanes + 8 * piers)
  (s.meterGib c .stack Reg.Comp.STACK_GIB_US).meterGib c .tray Reg.Comp.TRAY_GIB_US

/-- R382: one tick. -/
def State.meterTick (s : State) : State := s.liveComps.foldl (fun s c => s.meterComp c) s

/-- R383: the 192 bytes of a snapshot record. -/
def State.snapRecord (s : State) (c seq : Nat) : List Byte :=
  let m := fun r => leBytes 8 (s.rgb (pgHub 0x11) r c).toNat
  let st := fun r => (List.range 5).flatMap (fun i => leBytes 8 (s.reg? (pgHub 0x16) r i c).toNat)
  leBytes 4 seq ++ leBytes 1 (fld (s.hub Reg.Pwr.THR_STAT) 2 0) ++ leBytes 1 s.reg.epoch ++ leBytes 2 0 ++ leBytes 8 s.ns ++
  m Reg.Comp.BAY_SHARE_US ++ m Reg.Comp.SPINDLE_US ++ m Reg.Comp.PIER_US ++ m Reg.Comp.STACK_GIB_US ++ m Reg.Comp.TRAY_GIB_US ++ m Reg.Comp.DEV_EVENT_MS ++
  leBytes 4 seq ++ leBytes 4 0 ++ st Reg.Stream.STALL_CNT ++ leBytes 16 0 ++
  leBytes 4 seq ++ leBytes 4 0 ++ st Reg.Stream.STALL_US ++ leBytes 16 0

/-- R383: a composition's snapshot: three full-line writes without a Region Key. -/
def State.snapshot (s : State) (c : CompId) : State :=
  let a := (s.rgb (pgHub 0x11) Reg.Comp.SNAP_ADDR c.val).toNat
  if ¬s.live c.val ∨ a = 0 then s
  else
    let seq := SMap.get (fun _ => 0) s.snapSeq c.val
    let bs := s.snapRecord c.val seq
    let s := { s with snapSeq := SMap.set (fun _ => 0) s.snapSeq c.val ((seq + 1) % 2 ^ 32) }
    let s := s.count (pgHub 0x11) Reg.Comp.SNAP_CNT 0 c.val 1
    [0, 1, 2].foldl (fun s i =>
      let r := s.unitReq .wr s.node (a + 64 * i) 0 (some c)
      s.submit 52 (.snapLine c.val) { r with data := lineOfBytes ((bs.drop (64 * i)).take 64) }) s

end Sys2Proof.Machine
end

