-- ==== Sys2Proof/Machine/Ctl.lean ====
section
/-!
DEFINITION. Machine/Ctl.lean: the memory controller's own commands (R92-R109): row repair, margin measurements, fills,
refresh, patrol scrub and temperature samples; the tray map (R110); and request deadlines (R198).
-/
namespace Sys2Proof.Machine

open Sys2Proof

/-! ### Repair (R100, R101) -/

/-- R100: REPAIR_CMD of Bay n. -/
def State.repairCmd (s : State) (n op : Nat) : State :=
  let a := fld (s.rg (pgMC n) Reg.MC.REPAIR_ADDR) 36 0
  if op ≠ 1 ∨ baySize ≤ a then s.writeRejected (pgMC n) else s.startRepair n a 0xF

/-- R101 steps 2 to 5: the row's transactions have ended and its repair is made; the waiting requests resume. -/
def State.rowRepairDone (s : State) (n : Nat) : State :=
  match (s.bay n).repairing with
  | [] => s
  | o :: _ =>
    if s.txns.any (fun t => t.bay = n && t.active && decide (t.line < baySize) && decide (rowBase t.line = o)) then s
    else (rowLines o).foldl (fun s l => s.runLine n l) (s.finishRepair n)

/-! ### The stack PHY shell (R48, R103) -/

/-- R48: MARGIN_CMD of Bay n. Its stack PHY is margined only while the Bay's Deck port is down. -/
def State.stackMargin (s : State) (n op : Nat) : State :=
  if op ≠ 1 then s.writeRejected (pgMC n)
  else
    let v := s.rg (pgMC n) Reg.MC.PHY_SHELL_STAT
    if s.outUp (24 + n) then s.set (pgMC n) Reg.MC.PHY_SHELL_STAT (setFld v 8 8 1)
    else (s.set (pgMC n) Reg.MC.PHY_SHELL_STAT (shRequest v 4).1).setBay n { s.bay n with margin := shState v = 3 }

/-! ### Fills (R108, R109) -/

/-- The single stack-tier entry of the current map that holds a range. -/
def State.fillEntry (s : State) (lo hi : Nat) : Option (Nat × RtEntry) :=
  match s.covers lo with
  | some (i, e) => if e.tier = .stack ∧ granule (hi - 1) ≤ e.limit.toNat then some (i, e) else none
  | none => none

/-- The lines of a range that Bay n homes, the directory area of a Shared entry left out. -/
def State.fillLines (s : State) (n lo hi : Nat) (e : RtEntry) : List Nat :=
  ((List.range ((hi - lo) / 64)).map (fun i => lo + 64 * i)).filter
    (fun a => bayOf s.sel a = n && !(e.mode = .shared && e.inDirectory a))

/-- FILL_STAT.RESULT. -/
def State.fillResult (s : State) (n res : Nat) : State := s.setN (pgMC n) Reg.MC.FILL_STAT res

/-- R108: FILL_CMD START of Bay n: every line takes its place in its line's order. -/
def State.fillStart (s : State) (n : Nat) : State :=
  let lo := (s.rg (pgMC n) Reg.MC.FILL_BASE).toNat
  let hi := (s.rg (pgMC n) Reg.MC.FILL_LIMIT).toNat
  if bit (s.rg (pgMC n) Reg.MC.FILL_STAT) 31 then s.overrun (pgMC n)
  else if lo % 64 ≠ 0 ∨ hi % 64 ≠ 0 ∨ hi ≤ lo then s.fillResult n 1
  else match s.fillEntry lo hi with
    | none => s.fillResult n 2
    | some (i, e) =>
      let s := s.fillResult n (2 ^ 31)
      let s := s.setBay n { s.bay n with fill := some { idx := i, ent := e, base := lo, limit := hi } }
      let p := s.rg (pgMC n) Reg.MC.FILL_PATTERN
      (s.fillLines n lo hi e).foldl (fun s a => s.addTxn n a (.fill p) .clean ⟨i, e, 0⟩) s

/-- Is a transaction a line of Bay n's fill? -/
def Txn.isFill (t : Txn) (n : Nat) : Bool :=
  match t.work with
  | .fill _ => t.bay = n
  | _ => false

/-- R108: the fill of Bay n has written its last line, or its entry was rewritten under it: lines not begun are given up. -/
def State.fillDone (s : State) (n : Nat) : State :=
  match (s.bay n).fill with
  | none => s
  | some f =>
    if s.reg.cur.entry f.idx ≠ f.ent then
      ({ s with txns := s.txns.filter (fun t => !(t.isFill n && !t.active)) }.setBay n { s.bay n with fill := none }).fillResult n 3
    else if s.txns.any (fun t => t.isFill n) then s
    else (s.setBay n { s.bay n with fill := none }).fillResult n 0

/-! ### Refresh (R94-R96) -/

/-- Is Bay n's controller running its refresh: out of reset and not in Deep-sleep (R96)? -/
def State.refreshes (s : State) (n : Nat) : Bool := s.bayUp n && decide (SMap.get (fun _ => 0) s.islands n < 2)

/-- STACK_TEMP.19: refresh at 1.95 us. -/
def State.hotStack (s : State) (n : Nat) : Bool := bit (s.rg (pgMC n) Reg.MC.STACK_TEMP) 19

/-- REFRESH_STAT follows the debts. -/
def State.syncDebt (s : State) (n : Nat) : State :=
  s.setN (pgMC n) Reg.MC.REFRESH_STAT ((s.bay n).debt.foldl (fun a e => max a e.2) 0)

/-- R95: how many more all-bank refreshes a pseudo-channel may take now: at most 4 in any 3.9 us. -/
def State.refreshRoom (s : State) (n pch : Nat) : Nat :=
  4 - ((SMap.get (fun _ => []) (s.bay n).refTimes pch).filter (fun t => decide (s.now < t + 3900))).length

/-- k all-bank refreshes of a pseudo-channel: its rows close, and the neighbours that await one are refreshed. d: the debt
left. -/
def State.refresh (s : State) (n pch k d : Nat) : State :=
  let b := s.bay n
  let recent := (SMap.get (fun _ => []) b.refTimes pch).filter (fun t => decide (s.now < t + 3900))
  let s := s.setBay n { b with debt := SMap.set (fun _ => 0) b.debt pch d
                               refTimes := SMap.set (fun _ => []) b.refTimes pch (recent ++ List.replicate k s.now)
                               neighbours := if k = 0 then b.neighbours else b.neighbours.filter (fun r => r / 2 ^ 22 ≠ pch)
                               openRows := if k = 0 then b.openRows else SMap.drop (fun q => q / 32 = pch) b.openRows }
  (s.addN (pgMC n) Reg.MC.REFRESH_CNT k).syncDebt n

/-- Symbol errors that the cells of Bay n have developed. -/
def State.addUpsets (s : State) (n pch : Nat) (us : Upsets) : State :=
  us.foldl (fun s u =>
    let o := u.1.toNat * 64
    if baySize ≤ o ∨ pchOf o ≠ pch then s
    else { s with upsets := SMap.set (fun _ => []) s.upsets (lineKey n o) (s.lineErrs n o u.2) }) s

/-- R94, R95: a refresh falls due on a pseudo-channel: postponed, caught up at a debt of 8, or issued, with one that is owed for each
that falls due (DESIGN CHOICE: log entry 57), and never more than R95 allows in 3.9 us. -/
def State.refreshDue (s : State) (n pch : Nat) (waiting : Bool) (us : Upsets) : State :=
  if !s.refreshes n then s
  else
    let s := s.addUpsets n pch us
    let d := SMap.get (fun _ => 0) (s.bay n).debt pch + 1
    let postpone := bit (s.rg (pgMC n) Reg.MC.MC_CTRL) 6 && !s.hotStack n && waiting
    let k := min (s.refreshRoom n pch) (if postpone then d - 7 else min d 2)
    (s.refresh n pch k (min 8 (d - k))).addN (pgMC n) Reg.MC.CATCHUP_CNT (min k (d - 7))

/-! ### Rows and samples (R92, R558) -/

/-- R92: a bank's open row has been idle for PAGE_TIMEOUT and is closed. -/
def State.closeRow (s : State) (n pch bank : Nat) : State :=
  let b := s.bay n
  s.setBay n { b with openRows := SMap.set (fun _ => 0) b.openRows (pch * 32 + bank) 0 }

/-- R94, R106, R558: the sensors of Bay n have been sampled: the hottest DRAM die, and the base die. Above 85 C what is owed is refreshed,
as far as R95 allows. -/
def State.setTemp (s : State) (n t base : Nat) : State :=
  let s := s.setBay n { s.bay n with sampled := true }
  let s := s.setN (pgMC n) Reg.MC.STACK_TEMP (t + base * 256 + tempBin t * 2 ^ 16 + b2n (decide (85 < t)) * 2 ^ 19)
  if t ≤ 85 then s
  else (s.bay n).debt.foldl (fun s e => let k := min e.2 (s.refreshRoom n e.1); s.refresh n e.1 k (e.2 - k)) s

/-- R558: does the base die of Bay n sample: in Run or Sleep, before its stack trains, and before a wake has ended? -/
def State.samples (s : State) (n : Nat) : Bool :=
  !s.spanFenced (n / 6) && (decide (SMap.get (fun _ => 0) s.islands n < 2) || s.granted.contains (.bay (Fin.ofNat 24 n)))

/-- R558: a sample of Bay n's sensors: 16 DRAM dies and the base die. -/
def State.tempSample (s : State) (n : Nat) (dram : List (BitVec 8)) (base : BitVec 8) : State :=
  if !s.samples n then s else s.setTemp n ((dram.take 16).foldl (fun a b => max a b.toNat) 0) base.toNat

/-- R558: the first sample after a reset or a wake, where no command has brought one: of free temperatures. -/
def State.firstSample (s : State) (n : Nat) : State :=
  if (s.bay n).sampled then s
  else
    let (t, s) := s.freshBelow 256
    let (b, s) := s.freshBelow 256
    s.setTemp n t b

/-! ### Patrol scrub (R97, R98) -/

/-- R97, R98: the scrub of Bay n comes to its next line and takes its place in the line's order, in a tracking slot of its own. -/
def State.scrubLine (s : State) (n : Nat) (errs : Syms) : State :=
  let o := (s.bay n).scrubLine * 64
  if !s.refreshes n ∨ !bit (s.rg (pgMC n) Reg.MC.MC_CTRL) 5 ∨ s.testing.contains n ∨ s.txns.any (fun t => t.bay = n && t.work = .scrub) then s
  else s.addTxn n (stackAddr s.sel n o) .scrub { syms := errs, residue := .none } ⟨0, RtEntry.none, 0⟩

/-! ### The tray map (R110) -/

/-- Is any tray-tier entry enabled in the current or the next map? -/
def State.trayMapped (s : State) : Bool :=
  (s.reg.cur.rt ++ s.reg.nxt.rt).any (fun e => e.2.enabled && decide (e.2.tier = .tray))

/-- R110: may the first n slots be in use together? -/
def State.slotsFit (s : State) (n : Nat) : Bool :=
  let slots := (List.range n).map s.traySlot
  slots.all (fun k => s.portExists k.1 && decide (s.pierMode (k.1 / 4) = 1)) && decide (slots.map Prod.fst).Nodup &&
  (List.range 24).all (fun b => decide ((slots.filter (fun k => k.2 = b)).length ≤ 2))

/-- R110: a write to TRAY_CFG. -/
def State.trayCfgWrite (s : State) (v : Nat) : State :=
  let pg := pgOfHub Reg.TMap.TRAY_CFG
  if s.trayMapped ∨ 48 < nfld v 5 0 ∨ !s.slotsFit (nfld v 5 0) then s.writeRejected pg else s.setN pg Reg.TMap.TRAY_CFG (nfld v 5 0)

/-! ### Deadlines (R198) -/

/-- Is a request the one of an origin and tag that has reached its deadline? Of several, each is completed by itself (R195, R196). -/
def State.isDue (s : State) (o : Origin) (tag : BitVec 12) (r : Req) : Bool := r.origin = o && r.tag = tag && decide (r.deadline ≤ s.ns)

/-- The request of a message. -/
def Msg.req? (m : Msg) : Option Req := match m with | .req r => some r | _ => none

/-- R198: TIMEOUT_SCAN_CNT, for what a Pier group's scan removes. -/
def State.scanned (s : State) (inp : Nat) : State := if inp < 24 then s.bump (pgPG inp) Reg.PG.TIMEOUT_SCAN_CNT else s

/-- R198: the landing queue that holds the request. -/
def State.deadLanding (s : State) (due : Req → Bool) : Option State :=
  s.landing.findSome? (fun e =>
    (takeFirst (fun i => i.msg.req?.any due) e.2).bind (fun p => p.1.msg.req?.map (fun r =>
      let s := s.setLanding (e.1 / 8) (e.1 % 8) p.2
      ((s.scanned (e.1 / 8 / 12)).freeSlots (e.1 / 8) (e.1 % 8) p.1.size).refuse r .timeout)))

/-- R198: the virtual output queue that holds it. -/
def State.deadVoq (s : State) (due : Req → Bool) : Option State :=
  (s.voqs.find? (fun v => v.mc.isNone && v.msg.req?.any due)).bind (fun v =>
    v.msg.req?.map (fun r => ((s.takeItem v).scanned v.inp).refuse r .timeout))

/-- R198: the Capstone hold. -/
def State.deadHold (s : State) (due : Req → Bool) : Option State :=
  (s.capHolds.find? (fun h => due h.req)).map (fun h =>
    let x := (h.req.origin.port?).getD 0
    ((({ s with capHolds := s.capHolds.erase h }).scanned (x / 12)).freeSlots x h.vc h.size).refuse h.req .timeout)

/-- The Deck port of an island's crossing. -/
def Island.port : Island → Nat
  | .bay n => 24 + n.val
  | .group g => g.val
  | .spindles n _ => 24 + n.val

/-- R198: the crossing where it waits for a wake. -/
def State.deadCrossing (s : State) (due : Req → Bool) : Option State :=
  (s.crossing.find? (fun c => c.2.msg.req?.any due)).bind (fun c =>
    c.2.msg.req?.map (fun r =>
      (({ s with crossing := s.crossing.erase c }).bump (pgPort c.1.port) Reg.Port.WAKE_TIMEOUT_CNT).refuse r .timeout))

/-- R198: the home tracker: queued, or active and waiting for a recall. -/
def State.deadTxn (s : State) (due : Req → Bool) : Option State :=
  (s.txns.find? (fun t => t.work.req?.any due && !t.answered)).bind (fun t =>
    t.work.req?.map (fun r =>
      if t.active then (s.swapTxn t { t with answered := true }).homeAnswer t.bay r .timeout 0 false none
      else (s.dropTxn t).homeAnswer t.bay r .timeout 0 false none))

/-- R198: the tray engine. -/
def State.deadTray (s : State) (due : Req → Bool) : Option State :=
  (s.tray.txns.find? (fun t => !t.late && t.req.any due)).map s.trayTimeout

/-- R198, R202: a multicast store. -/
def State.deadMc (s : State) (due : Req → Bool) : Option State :=
  (s.tr.mcOut.find? (fun m => due m.req)).map (fun m => s.mcTimeout m)

/-- R198, R212, R213: the local Trestle: a request held for a remap, or a Capstone store. -/
def State.deadHeld (s : State) (due : Req → Bool) : Option State :=
  match s.tr.held.find? (fun h => h.mc.isNone && due h.req), s.tr.caps.find? (fun c => due c.req) with
  | some h, _ => some (({ s with tr := { s.tr with held := s.tr.held.erase h } }.bump (pgTr h.span) Reg.Tr.TIMEOUT_CNT).refuseAt (48 + h.span) h.req .timeout)
  | none, some c => some (({ s with tr := { s.tr with caps := s.tr.caps.erase c } }.bump (pgTr c.span) Reg.Tr.TIMEOUT_CNT).refuseAt (48 + c.span) c.req .timeout)
  | none, none => none

/-- R198: a request reaches its deadline: whoever holds it completes it with TIMEOUT. -/
def State.deadline (s : State) (o : Origin) (tag : BitVec 12) : State :=
  let due := s.isDue o tag
  ([s.deadLanding due, s.deadVoq due, s.deadHold due, s.deadCrossing due, s.deadTxn due, s.deadTray due, s.deadMc due, s.deadHeld due,
    s.trestleTimeout due].findSome? id).getD s

end Sys2Proof.Machine
end

