-- ==== Sys2Proof/Machine/Task.lean ====
section
/-!
DEFINITION. Machine/Task.lean: batches of a unit's requests (R34, R250), and the Treadle (R338-R350): loading a Draft, taking
over, dispatching, ending and skipping tasks, and the records it writes (R343).
-/
namespace Sys2Proof.Machine

open Sys2Proof

/-! ### Batches -/

/-- The composition that a unit's keyless access to a local offset stands for where the manual names none: that of the entry
of the current map that covers it. -/
def State.compAt (s : State) (a : Nat) : CompId :=
  match s.covers a with
  | some (_, e) => e.comp
  | none => 0

/-- A device unit's read of one line, without a Region Key (R250). -/
def State.readReq (s : State) (c : CompId) (a : Nat) : Req := s.unitReq .rd s.node (a / 64 * 64) 0 (some c)

/-- A device unit's read of one line under a Region Key. -/
def State.keyRead (s : State) (key : Word) (a : Nat) : Req := s.unitReq .rd s.node (a / 64 * 64) key none

/-- A device unit's write of one line, or of its bytes under a mask, at a fabric address. -/
def State.writeReq (s : State) (fa : Nat) (key : Word) (keyless : Option CompId) (mask : BitVec 64) (l : Line) : Req :=
  let r := s.unitReq (if mask = BitVec.allOnes 64 then .wr else .wrP) (BitVec.ofNat 12 (fa / 2 ^ 48)) (fa % 2 ^ 48 / 64 * 64) key keyless
  { r with mask := mask, data := l }

/-- A device unit's Capstone store of 8 B at a fabric address (R188). -/
def State.capReq (s : State) (fa : Nat) (key : Word) (v : DWord) : Req :=
  let r := s.unitReq .capWr (BitVec.ofNat 12 (fa / 2 ^ 48)) (fa % 2 ^ 48 / 64 * 64) key none
  { r with mask := flagMask fa, data := flagData fa v }

/-- Submit the requests of a batch in order, each at its Deck port. -/
def State.submitAll (id : Nat) : Nat → List (Nat × Req) → State → State
  | _, [], s => s
  | i, (inp, r) :: rest, s => State.submitAll id (i + 1) rest (s.submit inp (.batch id i) r)

/-- Start a batch of requests: its number, and the state. -/
def State.startBatch (s : State) (owner : Owner) (rs : List (Nat × Req)) : Nat × State :=
  let b : Batch := { id := s.batchNext, owner := owner, need := rs.length, got := [] }
  (s.batchNext, State.submitAll s.batchNext 0 rs { s with batchNext := s.batchNext + 1, batches := s.batches ++ [b] })

/-- One request of a batch has completed. -/
def State.batchGot (s : State) (id i : Nat) (c : Cmp) : State :=
  { s with batches := s.batches.map (fun b => if b.id = id then { b with got := SMap.set (fun _ => none) b.got i (some c) } else b) }

/-- The completions of a batch, in order, once all have come. -/
def State.batchAll (s : State) (id : Nat) : Option (List Cmp) :=
  match s.batches.find? (fun b => b.id = id) with
  | some b => if b.got.length = b.need then some (b.got.filterMap (fun e => e.2)) else none
  | none => none

/-- Forget a batch. -/
def State.endBatch (s : State) (id : Nat) : State := { s with batches := s.batches.filter (fun b => b.id ≠ id) }

/-- The first status of some completions that is not OK, or OK. -/
def firstBad (cs : List Cmp) : Status := ((cs.find? (fun c => c.status ≠ .ok)).map Cmp.status).getD .ok

/-- The bytes of the lines that some reads returned. -/
def cmpBytes (cs : List Cmp) : List Byte := cs.flatMap (fun c => lineBytes (c.data.getD 0))

/-- n bytes from offset o of a byte string, as a number (R9). -/
def num (bs : List Byte) (o n : Nat) : Nat := leNat ((bs.drop o).take n)

/-- The lines that n bytes from a local offset lie in. -/
def spanLines (a n : Nat) : List Nat := (List.range ((a % 64 + n + 63) / 64)).map (fun i => a / 64 * 64 + 64 * i)

/-- The Hub port, where the Treadle and the registries submit (log entry 12). -/
def hubIn : Nat := 52

/-! ### Tasks and Drafts -/

/-- The Draft with a number. -/
def State.draft (s : State) (u : Nat) : Option DraftSt :=
  (s.trd.active.toList ++ s.trd.old).find? (fun d => d.uid = u)

/-- Replace a Draft. -/
def State.setDraft (s : State) (d : DraftSt) : State :=
  { s with trd := { s.trd with
      active := s.trd.active.map (fun e => if e.uid = d.uid then d else e)
      old := s.trd.old.map (fun e => if e.uid = d.uid then d else e) } }

/-- A task. -/
def State.task (s : State) (t : TaskRef) : Option TaskSt := (s.draft t.draft).bind (fun d => d.tasks[t.idx]?)

/-- Replace a task. -/
def State.setTask (s : State) (t : TaskRef) (x : TaskSt) : State :=
  match s.draft t.draft with
  | some d => s.setDraft { d with tasks := d.tasks.set t.idx x }
  | none => s

/-- Is a task in flight (R349)? -/
def TaskSt.inFlight (x : TaskSt) : Bool := x.dispatched && x.st.isNone

/-- How many tasks are in flight. -/
def State.inFlight (s : State) : Nat :=
  ((s.trd.active.toList ++ s.trd.old).map (fun d => (d.tasks.filter TaskSt.inFlight).length)).sum

/-- A dispatched task of a kind that its unit has not yet begun; the unit begins it. -/
def State.beginTask (s : State) (t : TaskRef) (kind : Nat) : Option (TaskSt × State) :=
  match s.task t with
  | some x => if x.inFlight ∧ !x.begun ∧ x.kind = kind ∧ !(s.trd.reports.any (fun r => r.1 = t)) then some (x, s.setTask t { x with begun := true }) else none
  | none => none

/-- R339: a unit reports the end of a task. -/
def State.report (s : State) (t : TaskRef) (st : Status) : State :=
  match s.task t with
  | some x =>
    if x.inFlight ∧ !(s.trd.reports.any (fun r => r.1 = t)) then { s with trd := { s.trd with reports := s.trd.reports ++ [(t, st)] } }
    else s
  | none => s

/-- A status that the manual leaves open, other than OK (log entry 20). -/
def State.freshFailure (s : State) : Status × State :=
  let (k, s) := s.freshBelow 12
  ((Status.ofCode (k + 1)).getD .unmapped, s)

/-! ### Records (R343) -/

/-- R343: the Treadle's write of some bytes at a local offset, in one line. -/
def State.statusWrite (s : State) (a : Nat) (bs : List Byte) : State :=
  let m : BitVec 64 := BitVec.ofNat 64 ((2 ^ bs.length - 1) * 2 ^ (a % 64))
  s.submit hubIn .status (s.writeReq (s.node.toNat * 2 ^ 48 + a) 0 (some (s.compAt a)) m (BitVec.ofNat 512 (leNat bs * 2 ^ (8 * (a % 64)))))

/-- R343: write zero to the status area. -/
def State.zeroStatus (s : State) (a n : Nat) : State :=
  (List.range ((n + 63) / 64)).foldl (fun s i => s.statusWrite (a + 64 * i) (List.replicate (min 64 (n - 64 * i)) 0)) s

/-- R343: the task record of a task. -/
def TaskSt.record (x : TaskSt) (t : Nat) : List Byte :=
  [BitVec.ofNat 8 ((x.st.map Status.code).getD 0 + x.fate * 16 + b2n x.miss * 64), 0] ++ leBytes 6 t

/-- R343: write the record of a task. -/
def State.taskRecord (s : State) (d : DraftSt) (i : Nat) (x : TaskSt) : State := s.statusWrite (d.statusBase + 64 + 8 * i) (x.record s.ns)

/-- Did a task end well (R349)? -/
def goodEnd (o : Option Status) : Bool := o = some .ok || o = some .nondeterministic

/-- R349: the status of a Draft that has ended. -/
def DraftSt.status (d : DraftSt) : Status :=
  match d.tasks.findSome? (fun x => x.st.bind (fun st => if goodEnd (some st) then none else some st)) with
  | some st => st
  | none => if d.tasks.any (fun x => x.st.isNone) then .revoked else .ok

/-- R343: the Draft record. -/
def DraftSt.record (d : DraftSt) : List Byte :=
  let cnt := fun (p : TaskSt → Bool) => leBytes 2 (d.tasks.filter p).length
  leBytes 4 d.id ++ [BitVec.ofNat 8 d.status.code, BitVec.ofNat 8 (b2n d.stopped), 0, 0] ++ leBytes 8 d.act ++ leBytes 8 d.lastEnd ++
  cnt (fun x => x.fate = 1 && goodEnd x.st) ++ cnt (fun x => x.fate = 1 && !goodEnd x.st) ++ cnt (fun x => x.fate = 2) ++
  cnt (fun x => x.st.isNone) ++ cnt (fun x => x.miss) ++ List.replicate 30 0

/-- R343, R349: has the Draft ended? -/
def DraftSt.ended (d : DraftSt) : Bool := if d.stopped then d.tasks.all (fun x => !x.inFlight) else d.tasks.all (fun x => x.st.isSome)

/-- R343, R347 step 5: a Draft that has ended leaves the Treadle; its record is written, then its flag is sent. -/
def State.endDraft (s : State) (u : Nat) : State :=
  match s.draft u with
  | none => s
  | some d =>
    if d.ended then
      let v : DWord := BitVec.ofNat 64 (d.id + d.status.code * 2 ^ 32)
      let s := { s with trd := { s.trd with active := s.trd.active.filter (fun e => e.uid ≠ u), old := s.trd.old.filter (fun e => e.uid ≠ u) } }
      let r := s.writeReq (s.node.toNat * 2 ^ 48 + d.statusBase) 0 (some (s.compAt d.statusBase)) (BitVec.allOnes 64) (lineOfBytes d.record)
      s.submit hubIn (.draftRec d.doneFlag d.doneKey v) r
    else s

/-! ### Skips and ends (R349) -/

/-- R349: the status that skips a task: that of its lowest-indexed failed predecessor, once all have ended. -/
def DraftSt.skips (d : DraftSt) (x : TaskSt) : Option Status :=
  let ps := x.preds.foldl (fun l p => NSet.insert p l) []
  if x.dispatched ∨ x.st.isSome ∨ x.tflags.testBit 1 ∨ !ps.all (fun p => ((d.tasks[p]?).bind TaskSt.st).isSome) then none
  else ps.findSome? (fun p => ((d.tasks[p]?).bind TaskSt.st).bind (fun st => if goodEnd (some st) then none else some st))

/-- R494: a Hub trace record of task i of a Draft: event 0 dispatch, 1 end, 2 skip, 3 abandon. -/
def State.traceTask (s : State) (d : DraftSt) (i : Nat) (x : TaskSt) (event : Nat) : State :=
  let ctrl := s.hub Reg.Diag.TRACE_CTRL
  if !bit ctrl 31 ∨ !(s.debugOpen || (s.classes x.comp).testBit 1) then s
  else
    let n := (s.hub Reg.Diag.TRACE_ENTRIES).toNat
    let w := (s.hub Reg.Diag.TRACE_WR).toNat
    let r := (s.hub Reg.Diag.TRACE_RD).toNat
    let full := (w + 1) % n = r
    if full ∧ !bit ctrl 30 then s.bumpHub Reg.Diag.TRACE_LOST_CNT
    else
      let s := if full then s.setHub Reg.Diag.TRACE_RD (BitVec.ofNat 64 ((r + 1) % n)) else s
      let st := if event = 1 ∨ event = 2 then (match x.st with | some v => v.code | none => 0) else 0
      let bs := leBytes 8 s.ns ++ leBytes 4 d.id ++ leBytes 2 (i % 8192) ++ leBytes 1 x.kind ++ leBytes 1 x.comp ++
        leBytes 1 event ++ leBytes 1 (st + 16 * b2n x.miss) ++ leBytes 14 0
      let s := s.traceWrite (fld (s.hub Reg.Diag.TRACE_SPLIT) 4 0 * 262144 + 32 * w) bs
      (s.setHub Reg.Diag.TRACE_WR (BitVec.ofNat 64 ((w + 1) % n))).bumpHub Reg.Diag.TRACE_REC_CNT

/-- R349: skip, in ascending order, every task of the active Draft whose predecessors have failed. -/
def State.skipTasks (s : State) : List Nat → State
  | [] => s
  | i :: rest =>
    match s.trd.active with
    | none => s
    | some d =>
      match d.tasks[i]? with
      | none => State.skipTasks s rest
      | some x =>
        match d.skips x with
        | none => State.skipTasks s rest
        | some st =>
          let y := { x with st := some st, fate := 2 }
          let s := s.setDraft { d with tasks := d.tasks.set i y, lastEnd := s.ns }
          State.skipTasks (((s.bumpHub Reg.Trd.TASK_SKIP_CNT).traceTask d i y 2).taskRecord d i y) rest

/-- Skip what must be skipped, and end the Draft if that ends it. -/
def State.skipAll (s : State) : State :=
  match s.trd.active with
  | none => s
  | some d => (s.skipTasks (List.range d.tasks.length)).endDraft d.uid

/-- R349: a slotted task dispatched or ended past its slot has SLOT_MISS set. -/
def State.markMiss (s : State) (d : DraftSt) (x : TaskSt) : TaskSt × State :=
  if x.tflags.testBit 0 ∧ !x.miss ∧ d.act + (x.slot + 1) * d.slotLen < s.ns then ({ x with miss := true }, s.bumpHub Reg.Trd.SLOT_MISS_CNT)
  else (x, s)

/-- R349: the Treadle acts on the report of a task's end. -/
def State.taskEnd (s : State) (t : TaskRef) : State :=
  match s.trd.reports.find? (fun r => r.1 = t), s.draft t.draft, s.task t with
  | some (_, st), some d, some x =>
    let s := { s with trd := { s.trd with reports := s.trd.reports.filter (fun r => r.1 ≠ t) } }
    let (x, s) := s.markMiss d x
    let y := { x with st := some st, fate := 1 }
    let s := s.setDraft { d with tasks := d.tasks.set t.idx y, lastEnd := s.ns }
    let s := if goodEnd (some st) then s else s.bumpHub Reg.Trd.TASK_FAIL_CNT
    (((s.traceTask d t.idx y 1).taskRecord d t.idx y).endDraft t.draft).skipAll
  | _, _, _ => s

/-! ### Dispatch (R349, R351) -/

/-- R349: has the slot of a slotted task begun at a Fabric Time in ns? -/
def DraftSt.slotBegun (d : DraftSt) (x : TaskSt) (ns : Nat) : Bool := decide (d.act + x.slot * d.slotLen ≤ ns)

/-- R349, R365: is a task of the active Draft ready at a Fabric Time in ns? A step backward closes a slot again until its start comes
once more. -/
def DraftSt.isReady (d : DraftSt) (ns : Nat) (x : TaskSt) : Bool :=
  !x.dispatched && x.st.isNone && x.preds.all (fun p => ((d.tasks[p]?).bind TaskSt.st).isSome) &&
    (!x.tflags.testBit 0 || (x.slotOpen && d.slotBegun x ns))

/-- R349: the first task of a Draft that is ready at a time. -/
def DraftSt.firstReady (d : DraftSt) (now : Nat) : Option Nat := d.tasks.findIdx? (fun x => d.isReady now x)

/-- R349: the slots of the active Draft that have begun are open. -/
def State.openSlots (s : State) : State :=
  { s with trd := { s.trd with active := s.trd.active.map (fun d =>
      { d with tasks := d.tasks.map (fun x => { x with slotOpen := x.slotOpen || (x.tflags.testBit 0 && d.slotBegun x s.ns) }) }) } }

/-- R349: a task's slot begins. -/
def State.slotStart (s : State) (t : TaskRef) : State :=
  match s.draft t.draft, s.task t with
  | some d, some x =>
    if x.tflags.testBit 0 ∧ d.slotBegun x s.ns then (s.setTask t { x with slotOpen := true }).skipAll else s
  | _, _ => s

/-- R351: the COMP_ID that a body carries, by kind. -/
def TaskSt.bodyComp (x : TaskSt) : Option Nat :=
  match x.kind with
  | 1 => some (bytesAt x.body 1 1)
  | 2 => if bytesAt x.body 0 1 = 0 then some (bytesAt x.body 3 1) else none
  | 3 | 4 | 5 => some (bytesAt x.body 3 1)
  | 6 => some (bytesAt x.body 1 1)
  | 7 | 9 | 10 => some (bytesAt x.body 1 1)
  | 8 => some (bytesAt x.body 5 1)
  | _ => none

/-- R349, R350, R351: dispatch the lowest-indexed ready task. bind: what binds a table task, or the status that ends it
(R252). -/
def State.dispatch (s : State) (bind : State → TaskRef → TaskSt → Option Status × State) : State :=
  let s := s.openSlots.skipAll
  match s.trd.active with
  | none => s
  | some d =>
    if 512 ≤ s.inFlight then s
    else match d.firstReady s.ns with
      | none => s
      | some i =>
        match d.tasks[i]? with
        | none => s
        | some x =>
          let t : TaskRef := ⟨d.uid, i⟩
          let (x, s) := s.markMiss d x
          let s := ((s.setTask t { x with dispatched := true, fate := 1 }).bumpHub Reg.Trd.DISPATCH_CNT).traceTask d t.idx x 0
          if 10 < x.kind ∨ !s.live x.comp ∨ (x.bodyComp.getD x.comp) ≠ x.comp then s.report t .unmapped
          else match bind s t x with
            | (some st, s) => s.report t st
            | (none, s) => s

/-! ### Loading (R340, R344-R346) -/

/-- The result of the last submission. -/
def State.nextResult (s : State) (n : Nat) : State := s.setHubF Reg.Trd.NEXT_STAT 3 0 n

/-- The pending Draft is rejected, replaced or cancelled. -/
def State.dropPending (s : State) (res : Nat) : State :=
  match s.trd.pend with
  | none => s
  | some _ => (({ s with trd := { s.trd with pend := none } }).nextResult res).bumpHub Reg.Trd.DRAFT_REJECT_CNT

/-- Is the Treadle unavailable (R348)? -/
def State.trdOff (s : State) : Bool :=
  let step := fld (s.hub Reg.Rst.RST_STAT) 30 28
  s.inFootway || s.held.contains .device || (decide (step < 7))

/-- R345: a write of NEXT_TIME submits the Draft at NEXT_ADDR. -/
def State.draftSubmit (s : State) (time : DWord) : State :=
  let s := s.setHub Reg.Trd.NEXT_TIME time
  if s.trdOff then (s.nextResult 9).bumpHub Reg.Trd.DRAFT_REJECT_CNT
  else
    let s := s.dropPending 7
    let a := (s.hub Reg.Trd.NEXT_ADDR).toNat
    let (b, s) := s.startBatch .draftHead [(hubIn, s.readReq (s.compAt a) a)]
    { s with trd := { s.trd with pend := some { addr := a, time := time.toNat, head := b, rest := none, ready := none } } }

/-- R346: the header has been read: read the rest and zero the status area. -/
def State.draftHead (s : State) (cs : List Cmp) : State :=
  match s.trd.pend with
  | none => s
  | some p =>
    if p.rest.isSome ∨ firstBad cs ≠ .ok then s
    else
      let h := cmpBytes cs
      let n := num h 6 2 % 2 ^ 13
      let len := 128 * n + 2 * (num h 0x0C 4 % 2 ^ 17)
      let rs := (spanLines (p.addr + 64) len).map (fun a => (hubIn, s.readReq (s.compAt a) a))
      let (b, s) := s.startBatch .hold rs
      let s := { s with trd := { s.trd with pend := some { p with rest := some b } } }
      s.zeroStatus (num h 0x18 8 % 2 ^ 48) (64 + 8 * n)

/-- R341: the common part and body of task i, with its predecessors. -/
def taskOf (img : List Byte) (n i : Nat) : TaskSt :=
  let c := (img.drop (64 + 128 * i)).take 128
  let np := num c 6 2 % 2 ^ 13
  let near := (List.range (min np 8)).map (fun k => num c (0x10 + 2 * k) 2 % 4096)
  let far := (List.range (np - 8)).map (fun k => num img (64 + 128 * n + 2 * (num c 8 4 % 2 ^ 17 + k)) 2 % 4096)
  { kind := num c 0 1, tflags := num c 1 1, comp := num c 2 1, slot := num c 4 2, preds := near ++ far
    body := lineOfBytes (c.drop 64), slotOpen := false, dispatched := false, begun := false, miss := false, fate := 0, st := none }

/-- R16, R344 check 4: are the fields of a common part within their ranges? Entries of PRED beyond NPRED are zero (R341). -/
def commonOk (c : List Byte) (slotLen : Nat) : Bool :=
  let np := num c 6 2 % 2 ^ 13
  decide (np < 4096) && (List.range 8).all (fun k => decide (k < np) || num c (0x10 + 2 * k) 2 % 4096 = 0) &&
  !((num c 1 1).testBit 0 && slotLen = 0)

/-- Does a range of local offsets lie in enabled stack-tier entries of the current map? -/
def State.inStackTier (s : State) (a n : Nat) : Bool :=
  (List.range ((a + n - 1) / 2 ^ 21 + 1 - a / 2 ^ 21)).all (fun i =>
    match s.reg.cur.covering (a / 2 ^ 21 + i) with
    | some (_, e) => e.tier = .stack
    | none => false)

/-- R344: the RESULT of the checks of an image, 0 where all pass. -/
def State.draftCheck (s : State) (a : Nat) (img : List Byte) : Nat :=
  let n := num img 6 2 % 2 ^ 13
  let ne := num img 0x0C 4 % 2 ^ 17
  let sb := num img 0x18 8 % 2 ^ 48
  let po := num img 0x14 4
  let len := 64 + 128 * n + 2 * ne
  let tasks := (List.range n).map (fun i => (img.drop (64 + 128 * i)).take 64)
  if !s.inStackTier a len ∨ !s.inStackTier sb (64 + 8 * n) then 5
  else if num img 0 4 ≠ 0x44524B4E ∨ num img 4 2 ≠ 1 ∨
      crc32 (img.take 0x2C ++ [0, 0, 0, 0] ++ (img.drop 0x30).take (len - 0x30)) ≠ num img 0x2C 4 then 1
  else if n = 0 ∨ 4096 < n ∨ 65536 < ne ∨ sb % 64 ≠ 0 ∨ num img 0x20 8 % 8 ≠ 0 ∨ po % 64 ≠ 0 ∨ (0 < po ∧ po < len) ∨
      !tasks.all (fun c => commonOk c (num img 0x10 4)) then 2
  else if !(List.range n).all (fun i =>
      (taskOf img n i).preds.all (fun p => decide (p < i)) &&
      (let c := (img.drop (64 + 128 * i)).take 64
       decide (num c 6 2 % 2 ^ 13 ≤ 8) || decide (num c 8 4 % 2 ^ 17 + num c 6 2 % 2 ^ 13 - 8 ≤ ne))) then 3
  else 0

/-- A Draft from its image. -/
def draftOf (uid : Nat) (img : List Byte) : DraftSt :=
  let n := num img 6 2 % 2 ^ 13
  { uid := uid, id := num img 8 4, slotLen := num img 0x10 4, statusBase := num img 0x18 8 % 2 ^ 48, doneFlag := num img 0x20 8 % 2 ^ 60
    doneKey := BitVec.ofNat 32 (num img 0x28 4), tasks := (List.range n).map (taskOf img n), act := 0, stopped := false, lastEnd := 0 }

/-- R344, R346: the load has ended: the Draft is READY or rejected. -/
def State.draftLoaded (s : State) : State :=
  match s.trd.pend with
  | none => s
  | some p =>
    if p.ready.isSome then s
    else if p.time ≠ 0 ∧ p.time < s.ns then s.dropPending 6
    else match s.batchAll p.head with
      | none => s
      | some hs =>
        if firstBad hs ≠ .ok then (s.endBatch p.head).dropPending 4
        else match p.rest with
          | none => s
          | some b =>
            match s.batchAll b with
            | none => s
            | some cs =>
              let s := (s.endBatch p.head).endBatch b
              let img := cmpBytes (hs ++ cs)
              if firstBad cs ≠ .ok then s.dropPending 4
              else
                let res := s.draftCheck p.addr img
                if res ≠ 0 then s.dropPending res
                else { s with trd := { s.trd with uid := s.trd.uid + 1, pend := some { p with ready := some (draftOf s.trd.uid img) } } }

/-! ### Takeover and stops (R347, R348) -/

/-- R347 steps 1, 4, 5: the active Draft stops; its undispatched tasks are abandoned. -/
def State.stopDraft (s : State) : State :=
  match s.trd.active with
  | none => s
  | some d =>
    let gone := (List.range d.tasks.length).filter (fun i => match d.tasks[i]? with | some x => !x.dispatched && x.st.isNone | none => false)
    let lost := gone.length
    let s := gone.foldl (fun s i => match d.tasks[i]? with | some x => s.traceTask d i x 3 | none => s) s
    let s := { s with trd := { s.trd with active := none, old := s.trd.old ++ [{ d with stopped := true }] } }
    (s.addN (pgOfHub Reg.Trd.TASK_ABANDON_CNT) Reg.Trd.TASK_ABANDON_CNT lost).endDraft d.uid

/-- R347: a READY Draft takes over once its activation time has come. -/
def State.takeover (s : State) : State :=
  match s.trd.pend with
  | some p =>
    match p.ready with
    | some d =>
      if p.time = 0 ∨ p.time ≤ s.ns then
        let s := s.stopDraft
        let d := { d with act := s.ns, lastEnd := s.ns }
        let s := { s with trd := { s.trd with pend := none, active := some d } }
        let s := ((s.nextResult 0).bumpHub Reg.Trd.TAKEOVER_CNT).setHub Reg.Trd.ACT_ID (BitVec.ofNat 64 d.id)
        s.setHub Reg.Trd.ACT_TIME (BitVec.ofNat 64 d.act)
      else s
    | none => s
  | none => s

/-- R348: an L2 reset or Footway entry: dispatched tasks end with PORT_DOWN, the rest are abandoned, and the pending Draft is
discarded. -/
def State.treadleDown (s : State) : State :=
  let s := (s.dropPending 9).stopDraft
  let hit := s.trd.old.flatMap (fun d => ((List.range d.tasks.length).filter (fun i =>
    match d.tasks[i]? with | some x => x.inFlight | none => false)).map (fun i => (⟨d.uid, i⟩ : TaskRef)))
  let s := { s with trd := { s.trd with reports := hit.map (fun t => (t, Status.portDown)), waits := [] } }
  hit.foldl (fun s t => s.taskEnd t) s

/-! ### Waits (R357-R359) -/

/-- The watch a Bay has for a wait, if it has one left. -/
def State.watchesOf (s : State) (n : Nat) : Nat := (s.trd.waits.filter (fun w => w.watch = some n)).length

/-- Replace a wait. -/
def State.setWait (s : State) (w : WaitSt) : State :=
  { s with trd := { s.trd with waits := s.trd.waits.map (fun v => if v.t = w.t then w else v) } }

/-- R358: read the word of a wait. -/
def State.waitRead (s : State) (w : WaitSt) (x : TaskSt) : State :=
  let (b, s) := s.startBatch .hold [(hubIn, s.keyRead (BitVec.ofNat 32 (bytesAt x.body 4 4)) w.addr)]
  s.setWait { w with read := some b }

/-- R357: is a wait-on-flag body free of reserved encodings, with ADDR and TIMEOUT in their ranges? -/
def waitOk (b : Line) : Bool :=
  bytesAt b 0 1 % 4 ≠ 3 && decide (bitsAt b 8 8 48 < stackEnd) && bitsAt b 8 8 48 % 8 = 0 && bytesAt b 0x20 4 ≠ 0

/-- R358: a wait-on-flag task begins. A body the manual reserves ends it with a status left open (log entry 20). -/
def State.waitOnFlag (s : State) (t : TaskRef) : State :=
  match s.beginTask t 9 with
  | none => s
  | some (x, s) =>
    if !waitOk x.body then (let (st, s) := s.freshFailure; s.report t st)
    else
      let w : WaitSt := { t := t, addr := bitsAt x.body 8 8 48, read := none, watch := none, tried := false }
      { s with trd := { s.trd with waits := s.trd.waits ++ [w] } }.waitRead w x

/-- R357: does the word satisfy the body? -/
def waitSatisfied (b : Line) (w : Nat) : Bool :=
  let v := w &&& bytesAt b 0x10 8
  let c := bytesAt b 0x18 8
  match bytesAt b 0 1 % 4 with
  | 0 => v = c
  | 1 => v ≠ c
  | _ => decide (c ≤ v)

/-- A wait ends. -/
def State.endWait (s : State) (t : TaskRef) (st : Status) : State :=
  ({ s with trd := { s.trd with waits := s.trd.waits.filter (fun w => w.t ≠ t) } }).report t st

/-- R358, R359: a read of the watched word has completed. -/
def State.waitReadDone (s : State) (t : TaskRef) : State :=
  match s.trd.waits.find? (fun w => w.t = t), s.task t with
  | some w, some x =>
    match w.read.bind (fun b => (s.batchAll b).map (fun cs => (b, cs))) with
    | none => s
    | some (b, cs) =>
      let s := (s.endBatch b).setWait { w with read := none }
      let st := firstBad cs
      if st = .ok then
        let word := num (cmpBytes cs) (w.addr % 64) 8
        if waitSatisfied x.body word then
          s.endWait t (if (bytesAt x.body 0 1).testBit 2 then (Status.ofCode (nfld word 35 32)).getD .integrity else .ok)
        else if w.tried then s
        else match s.homeBay w.addr with
          | some n =>
            if s.watchesOf n < 64 then s.setWait { w with read := none, watch := some n, tried := true }
            else (s.setWait { w with read := none, tried := true }).bumpHub Reg.Trd.WATCH_FULL_CNT
          | none => s
      else if st = .busyRetry ∨ st = .epochStale then s
      else s.endWait t st
  | _, _ => s

/-- R358: a watch fires, or 100 us have passed: read the word again. -/
def State.waitPoll (s : State) (t : TaskRef) : State :=
  match s.trd.waits.find? (fun w => w.t = t), s.task t with
  | some w, some x => if w.read.isSome then s else s.waitRead w x
  | _, _ => s

/-- R359: TIMEOUT has passed. -/
def State.waitTimeout (s : State) (t : TaskRef) : State :=
  if s.trd.waits.any (fun w => w.t = t) then s.endWait t .timeout else s

/-! ### Signals (R360) -/

/-- R360: is a signal body free of reserved encodings? -/
def signalOk (b : Line) : Bool :=
  decide (bytesAt b 0 1 < 3) && bytesAt b 8 8 % 8 = 0

/-- R360: a signal task sends its request. -/
def State.signalTask (s : State) (t : TaskRef) : State :=
  match s.beginTask t 10 with
  | none => s
  | some (x, s) =>
    let b := x.body
    let key : Word := BitVec.ofNat 32 (bytesAt b 4 4)
    let dst := bitsAt b 8 8 60
    let v : DWord := BitVec.ofNat 64 (bytesAt b 0x10 8)
    if !signalOk b then (let (st, s) := s.freshFailure; s.report t st)
    else
      let a := dst % 2 ^ 48
      let r := match bytesAt b 0 1 with
        | 0 => s.capReq dst key v
        | 1 =>
          let q := s.unitReq .atom (BitVec.ofNat 12 (dst / 2 ^ 48)) (a / 64 * 64) key none
          -- R193: AOP FADD, FMT INT64, 8 B at the word's offset; the operand in byte 0 up
          { q with opnd := BitVec.ofNat 32 (7 * 4096 + 1 * 64 + a % 64), data := BitVec.ofNat 512 v.toNat }
        | _ => s.unitMc (dst / 2 ^ 48) (a / 64 * 64) (flagMask a) (flagData a v) (some key)
      (s.startBatch (.signal t) [(hubIn, r)]).2

end Sys2Proof.Machine
end

