-- ==== Sys2Proof/Machine/Collect.lean ====
section
/-!
DEFINITION. Machine/Collect.lean: declaring reductions (R229-R233), slot quotas (R228), the REDUCE and BROADCAST steps (R238,
R239), and what a Loom does with the completions of its own requests (R232, R240).
-/
namespace Sys2Proof.Machine

open Sys2Proof

/-! ### Quotas (R228) -/

/-- The ranges in force of a composition. -/
def State.quota (s : State) (c : Nat) : Quota := SMap.get (fun _ => ⟨0, 0, 0, 0⟩) s.loom.quota c

/-- Do two ranges of slots share a slot? -/
def meet (a b c d : Nat) : Bool := decide (max a c < min b d)

/-- Does some Loom still hold a reduction's slots: an entry is OPEN (R233)? -/
def Red.isOpen (r : Red) : Bool := r.bays.any (fun e => e.st = .opened)

/-- The ranges of every other composition. -/
def State.otherQuotas (s : State) (c : Nat) : List (Nat × Nat) :=
  (s.loom.quota.filter (fun e => e.1 ≠ c)).flatMap (fun e => [(e.2.collLo, e.2.collHi), (e.2.poolLo, e.2.poolHi)])

/-- R228: the RESULT of an APPLY. -/
def State.quotaCheck (s : State) (c : Nat) (q : Quota) : Nat :=
  if q.collHi < q.collLo ∨ q.poolHi < q.poolLo ∨ 614400 < q.collHi ∨ 614400 < q.poolHi then 1
  else if meet q.collLo q.collHi q.poolLo q.poolHi ||
      (s.otherQuotas c).any (fun r => meet q.collLo q.collHi r.1 r.2 || meet q.poolLo q.poolHi r.1 r.2) then 2
  else if s.loom.reds.any (fun r => r.isOpen && decide (r.body.comp = c) && r.body.ranges.any (fun x => decide (x.1 < q.collLo) || decide (q.collHi < x.2))) then 3
  else 0

/-- R246: a write to QUOTA_SEL loads the four range registers. -/
def State.quotaSelect (s : State) (v : DWord) : State :=
  let s := s.writeReg (pgOfHub Reg.Decl.QUOTA_SEL) Reg.Decl.QUOTA_SEL 0 0 v
  let q := s.quota (fld (s.hub Reg.Decl.QUOTA_SEL) 7 0)
  (((s.setHub Reg.Decl.COLL_LO (BitVec.ofNat 64 q.collLo)).setHub Reg.Decl.COLL_HI (BitVec.ofNat 64 q.collHi)).setHub Reg.Decl.POOL_LO
    (BitVec.ofNat 64 q.poolLo)).setHub Reg.Decl.POOL_HI (BitVec.ofNat 64 q.poolHi)

/-- R228: QUOTA_CMD APPLY. -/
def State.quotaApply (s : State) : State :=
  s.unlessBusy (pgOfHub Reg.Decl.QUOTA_STAT) Reg.Decl.QUOTA_STAT fun s =>
  let c := fld (s.hub Reg.Decl.QUOTA_SEL) 7 0
  let q : Quota := { collLo := (s.hub Reg.Decl.COLL_LO).toNat, collHi := (s.hub Reg.Decl.COLL_HI).toNat
                     poolLo := (s.hub Reg.Decl.POOL_LO).toNat, poolHi := (s.hub Reg.Decl.POOL_HI).toNat }
  let res := s.quotaCheck c q
  let s := s.setHub Reg.Decl.QUOTA_STAT (BitVec.ofNat 64 res)
  if res = 0 then { s with loom := { s.loom with quota := SMap.set (fun _ => ⟨0, 0, 0, 0⟩) s.loom.quota c q } } else s

/-! ### Declarations (R229, R230) -/

/-- Does a range of local offsets lie in one enabled stack-tier entry of the current map? -/
def State.inOneEntry (s : State) (a n : Nat) : Bool := (s.fillEntry a (a + max n 1)).isSome

/-- R229: the first check that a declaration fails, 0 where all pass. -/
def State.declCheck (s : State) (l : Line) : Nat :=
  if (s.red (bytesAt l 4 2)).isSome then 1
  else match Reduce.parse l with
    | none => 2
    | some b =>
      let size := 64 * b.lines
      let out := b.lines * b.elems * fmtSize b.dfmt
      if b.dest % 64 ≠ 0 ∨ !s.inOneEntry b.dest (max size out) then 3
      else
        let q := s.quota b.comp
        let needs := (List.range 24).map (fun n => b.need s.sel n)
        let most := needs.foldl max 0
        if b.ranges.any (fun r => decide (r.1 < q.collLo) || decide (q.collHi < r.2)) then 4
        else if s.loom.reds.any (fun r => r.isOpen && r.body.ranges.any (fun x => b.ranges.any (fun y => meet x.1 x.2 y.1 y.2))) then 5
        else if b.slotsPerBay < most * b.group ∨ (0 < b.nchild ∧ b.stageStride < 2 + most * b.values) then 6
        else if (List.range 24).any (fun n => decide (0 < needs.getD n 0) && !s.outUp (24 + n)) then 7
        else if (List.range 24).any (fun n => decide (4096 ≤ (s.loom.reds.filter (fun r => (r.bay n).st ≠ .gone)).length)) then 9
        else 0

/-- R229: accept a checked declaration: its installation begins. -/
def State.declAccept (s : State) (b : Reduce) (task : Option TaskRef) : State :=
  let e := fun n => if s.outUp (24 + n) then
      ({ st := .opened, need := b.need s.sel n, doneLines := 0, reading := [], out := 0, pushes := 0, pushBad := none } : RedBay)
    else RedBay.gone
  let r : Red := { body := b, task := task, installed := false, bays := (List.range 24).map e, mcBad := none, fails := [] }
  { s with loom := { s.loom with reds := s.loom.reds ++ [r] } }

/-- DECL_STAT.RESULT, with BUSY clear. -/
def State.declResult (s : State) (res : Nat) : State :=
  s.setHub Reg.Decl.DECL_STAT (setFld (setFld (s.hub Reg.Decl.DECL_STAT) 31 31 0) 3 0 res)

/-- R229: a declaration is rejected. -/
def State.declReject (s : State) (res : Nat) : State := (s.bumpHub Reg.Decl.DECL_REJECT_CNT).declResult res

/-- Is a declaration command busy? -/
def State.declBusy (s : State) : Bool := bit (s.hub Reg.Decl.DECL_STAT) 31

/-- R229: DECL_CMD OP 0x1: read the descriptor. -/
def State.declDeclare (s : State) : State :=
  if s.declBusy then s.overrun (pgOfHub Reg.Decl.DECL_CMD)
  else
    let a := (s.hub Reg.Decl.DECL_ADDR).toNat
    let s := { s.setHub Reg.Decl.DECL_STAT (setFld (s.hub Reg.Decl.DECL_STAT) 31 31 1) with loom := { s.loom with declAddr := a } }
    (s.startBatch .decl [(hubIn, s.readReq (s.compAt a) a)]).2

/-- R229: the descriptor has been read. -/
def State.declRead (s : State) (cs : List Cmp) : State :=
  let a := s.loom.declAddr
  let l : Line := lineOfBytes (cmpBytes cs)
  let own := match s.covers a with | some (_, e) => e.tier = .stack && decide (e.comp.val = bytesAt l 3 1) | none => false
  if firstBad cs ≠ .ok ∨ !own then s.declReject 8
  else
    let res := s.declCheck l
    if res ≠ 0 then s.declReject res
    else match Reduce.parse l with
      | some b => s.declAccept b none
      | none => s.declReject 2

/-- R223, R230: the slots of a line group start anew. -/
def State.initGroup (s : State) (b : Reduce) (n i : Nat) : State :=
  let s := (List.range b.elems).foldl (fun s j => s.setAcc n (b.slotAt i + j * elemWidth b.pair) b.pair (slotInit b.rop)) s
  (List.range (b.group - b.values)).foldl (fun s j => s.setSlot n (b.slotAt i + b.values + j) 0) s

/-- R229, R230: an accepted declaration is installed in every Loom. -/
def State.declInstalled (s : State) (rid : Nat) : State :=
  match s.red rid with
  | none => s
  | some r =>
    if r.installed then s
    else
      let s := (s.setRed { r with installed := true }).bumpHub Reg.Decl.DECL_CNT
      let s := (List.range 24).foldl (fun s n =>
        if (r.bay n).st = .opened then ((List.range (r.bay n).need).foldl (fun s i => s.initGroup r.body n i) s).checkRedDone rid n else s) s
      if r.task.isNone then s.declResult 0 else s

/-- R233: DECL_CMD OP 0x2: cancel a reduction. -/
def State.declCancel (s : State) (rid : Nat) : State :=
  if s.declBusy then s.overrun (pgOfHub Reg.Decl.DECL_CMD)
  else match (s.red rid).filter (fun r => r.installed) with
    | none => s.declResult 0xA
    | some r =>
      let s := if r.isOpen then s.bumpHub Reg.Decl.CANCEL_CNT else s
      ((List.range 24).foldl (fun s n => s.failRedBay rid n .revoked) s).declResult 0

/-- R233: the state a query reports: 0 free, 1 OPEN, 2 DONE, 3 FAILED. -/
def State.ridState (s : State) (rid : Nat) : Nat :=
  match (s.red rid).filter (fun r => r.installed) with
  | none => 0
  | some r =>
    if r.bays.any (fun e => match e.st with | .failed _ => true | _ => false) then 3
    else if r.isOpen then 1
    else 2

/-- R246: DECL_CMD OP 0x3. -/
def State.declQuery (s : State) (rid : Nat) : State :=
  if s.declBusy then s.overrun (pgOfHub Reg.Decl.DECL_CMD)
  else (s.setHub Reg.Decl.DECL_STAT (setFld (s.hub Reg.Decl.DECL_STAT) 9 8 (s.ridState rid))).declResult 0

/-- R233: TIMEOUT passes in Bay n with a line of the reduction incomplete. -/
def State.redTimeout (s : State) (n rid : Nat) : State :=
  match s.red rid with
  | some r => if r.installed ∧ (r.bay n).doneLines < (r.bay n).need then s.failRedBay rid n .timeout else s
  | none => s

/-- R233: an ended entry has been held RID_HOLD and is freed; once no Loom holds the RID, it is free. -/
def State.ridHold (s : State) (n rid : Nat) : State :=
  match s.red rid with
  | none => s
  | some r =>
    if (r.bay n).st = .opened then s
    else
      let q := r.setBay n .gone
      if q.bays.all (fun e => e.st = .gone) then { s with loom := { s.loom with reds := s.loom.reds.filter (fun x => x.body.rid ≠ rid) } }
      else s.setRed q

/-! ### The REDUCE step (R238) -/

/-- R238: a REDUCE step declares its reduction. The manual names no status for a step whose declaration is rejected (log
entry 20). -/
def State.reduceStep (s : State) (t : TaskRef) : State :=
  match s.task t with
  | none => s
  | some x =>
    if bytesAt x.body 0 1 = 1 then s
    else match s.beginTask t 2 with
      | none => s
      | some (_, s) =>
        match Reduce.parse x.body with
        | none => let (st, s) := (s.bumpHub Reg.Decl.DECL_REJECT_CNT).freshFailure; s.report t st
        | some b =>
          if s.declCheck x.body = 0 then s.declAccept b (some t)
          else let (st, s) := (s.bumpHub Reg.Decl.DECL_REJECT_CNT).freshFailure; s.report t st

/-- R233, R238: the status of a reduction that has left OPEN in every Loom: that of the lowest-numbered Bay that failed, whether or not its
entry is held still. -/
def Red.outcome (r : Red) : Status :=
  match ((List.range 24).filterMap (fun n => (r.fails.find? (fun f => f.1 = n)).map (fun f => f.2))).head? with
  | some st => st
  | none => r.mcBad.getD .ok

/-- R238: the REDUCE steps whose reductions have left OPEN everywhere end. -/
def State.endReduces (s : State) : State :=
  (s.loom.reds.filter (fun r => r.installed && r.task.isSome && !r.isOpen)).foldl (fun s r =>
    match r.task with
    | some t => (s.setRed { r with task := none }).report t r.outcome
    | none => s) s

/-! ### The completions of a Loom's own requests (R232, R240) -/

/-- One request of an entry has completed. -/
def State.redIn (s : State) (rid n : Nat) : State :=
  match s.red rid with
  | some r => s.setRed (r.setBay n { r.bay n with out := (r.bay n).out - 1 })
  | none => s

/-- R232: a result write has completed. -/
def State.redWriteDone (s : State) (rid n : Nat) (q : Req) (st : Status) : State :=
  match s.red rid with
  | none => s
  | some r =>
    let s := s.redIn rid n
    if st ≠ .ok then s.failRedBay rid n st
    else if r.body.mcEn then
      ((s.submit (24 + n) (.redMc rid n) (s.unitMc r.body.mcGroup q.addr q.mask q.data none)).redOut rid n)
    else s.checkRedDone rid n

/-- R238: a result multicast has completed. PORT_DOWN goes before another failure (DEDUCED: log entry 82). -/
def State.redMcDone (s : State) (rid n : Nat) (st : Status) : State :=
  match s.red rid with
  | none => s
  | some r =>
    let s := if st = .ok ∨ (r.mcBad.isSome ∧ st ≠ .portDown) then s else s.setRed { r with mcBad := some st }
    (s.redIn rid n).checkRedDone rid n

/-- R240 step 3: a push has failed: again, or the entry fails. -/
def State.pushAgain (s : State) (rid n : Nat) (st : Status) : State :=
  match s.red rid with
  | none => s
  | some r =>
    if (r.bay n).pushes ≤ fld (s.rg (pgLoom n) Reg.Loom.LOOM_CTRL) 3 0 then s.startPush rid n
    else (s.loomFault n st 0x9 0 rid 0).failRedBay rid n st

/-- R240: a write of a push has completed. -/
def State.pushDone (s : State) (rid n : Nat) (st : Status) : State :=
  let s := s.redIn rid n
  match s.red rid with
  | none => s
  | some r =>
    let e := r.bay n
    let e := if st = .ok then e else { e with pushBad := some st }
    let s := s.setRed (r.setBay n e)
    if e.st ≠ .opened ∨ e.out ≠ 0 then s
    else match e.pushBad with
      | none => s.pushHeader rid n
      | some b => s.pushAgain rid n b

/-- R240: the staging header has been stored, or not. -/
def State.pushCapDone (s : State) (rid n : Nat) (st : Status) : State :=
  let s := s.redIn rid n
  match s.red rid with
  | none => s
  | some r =>
    if (r.bay n).st ≠ .opened then s
    else if st = .ok then (s.bump (pgLoom n) Reg.Loom.PUSH_CNT).checkRedDone rid n
    else s.pushAgain rid n st

/-! ### The BROADCAST step (R239) -/

/-- A BROADCAST body. -/
structure BcastBody where
  mcEn : Bool
  push : Bool
  rid : Nat
  src : Nat
  lines : Nat
  group : Nat
  flag : Nat
  devs : List Nat
  dst : Nat
deriving DecidableEq, Repr

/-- R239: read a BROADCAST body; none: a reserved encoding. -/
def BcastBody.parse (l : Line) : Option BcastBody :=
  let f := fun o n => bytesAt l o n
  let g := fun o n k => bitsAt l o n k
  if f 0 1 = 1 ∧ f 6 1 ≤ 8 ∧ f 8 8 % 64 = 0 then
    some { mcEn := (f 1 1).testBit 0, push := (f 1 1).testBit 1, rid := f 4 2, src := g 8 8 48, lines := g 0x10 4 24, group := g 0x14 2 12
           flag := g 0x18 8 48, devs := (List.range (f 6 1)).map (fun k => g (0x20 + 2 * k) 2 12), dst := g 0x30 8 48 }
  else none

/-- The Deck port of the Bay that homes line i of SRC. -/
def State.bcastIn (s : State) (b : BcastBody) (i : Nat) : Nat := 24 + bayOf s.sel (b.src + 64 * i)

/-- R239: a BROADCAST step reads its lines. -/
def State.bcastStep (s : State) (t : TaskRef) : State :=
  match s.task t with
  | none => s
  | some x =>
    if bytesAt x.body 0 1 ≠ 1 then s
    else match s.beginTask t 2 with
      | none => s
      | some (_, s) =>
        match BcastBody.parse x.body with
        | none => let (st, s) := s.freshFailure; s.report t st
        | some b =>
          let rs := (List.range b.lines).map (fun i => (s.bcastIn b i, s.readReq (Fin.ofNat 256 x.comp) (b.src + 64 * i)))
          if rs = [] then s.report t .ok else (s.startBatch (.bcastRead t) rs).2

/-- R239: the requests that send line i. -/
def State.bcastSends (s : State) (b : BcastBody) (i : Nat) (l : Line) : List (Nat × Req) :=
  (if b.mcEn then [(s.bcastIn b i, s.unitMc b.group (b.src + 64 * i) (BitVec.allOnes 64) l none)] else []) ++
  (if b.push then b.devs.map (fun d =>
      (s.bcastIn b i, s.writeReq (d * 2 ^ 48 + b.dst + 64 * i) (BitVec.ofNat 32 (Config.freeValue s.free).toNat) none (BitVec.allOnes 64) l)) else [])

/-- A broadcast ends. -/
def State.bcastEnd (s : State) (t : TaskRef) (st : Status) : State := { s with bcasts := s.bcasts.filter (fun b => b.t ≠ t) }.report t st

/-- R239: the sends have completed: each device whose writes were all OK gets its flag. -/
def State.bcastSent (s : State) (t : TaskRef) (cs : List Cmp) : State :=
  match (s.task t).bind (fun x => BcastBody.parse x.body), s.bcasts.find? (fun b => b.t = t) with
  | some b, some p =>
    if p.st ≠ .ok then s.bcastEnd t p.st
    else
      let w := b2n b.mcEn + (if b.push then b.devs.length else 0)
      let okDev := fun (k : Nat) => (List.range b.lines).all (fun i => decide ((cs[i * w + b2n b.mcEn + k]?).map Cmp.status = some .ok))
      let first := ((List.range b.lines).map (fun i => s.bcastIn b i)).foldl min 47
      let flags := if b.push then ((List.range b.devs.length).filter okDev).map (fun k =>
          (first, s.capReq ((b.devs.getD k 0) * 2 ^ 48 + b.flag) (BitVec.ofNat 32 (Config.freeValue s.free).toNat) (BitVec.ofNat 64 b.rid))) else []
      let s := { s with free := s.free + 1, bcasts := s.bcasts.map (fun (q : Bcast) => if q.t = t then { q with st := firstBad cs } else q) }
      if flags = [] then s.bcastEnd t (firstBad cs) else (s.startBatch (.bcastFlag t) flags).2
  | _, _ => s

/-- R239: the lines have been read: those before the first that failed are sent. The Region Key of a push is a free value
(log entry 13). -/
def State.bcastGot (s : State) (t : TaskRef) (cs : List Cmp) : State :=
  match (s.task t).bind (fun x => BcastBody.parse x.body) with
  | none => s
  | some b =>
    let n := (cs.takeWhile (fun c => c.status = .ok)).length
    let lines := (cs.take n).map (fun c => c.data.getD 0)
    let rs := (List.range n).flatMap (fun i => s.bcastSends b i (lines.getD i 0))
    let p : Bcast := { t := t, upTo := n, st := firstBad cs }
    let s := { s with free := s.free + 1, bcasts := s.bcasts ++ [p] }
    if rs = [] then s.bcastSent t [] else (s.startBatch (.bcastSend t) rs).2

/-- R239: the flags have completed. -/
def State.bcastFlagged (s : State) (t : TaskRef) (cs : List Cmp) : State :=
  match s.bcasts.find? (fun b => b.t = t) with
  | some p => s.bcastEnd t (if p.st = .ok then firstBad cs else p.st)
  | none => s

end Sys2Proof.Machine
end

