-- ==== Sys2Proof/Machine/Codec.lean ====
section
/-!
DEFINITION. Machine/Codec.lean: the Kenenay block format (R318-R331): headers, code tables, decoding, the tables a Bay
caches, and the code-table registry (R326, R337).
-/
namespace Sys2Proof.Machine

open Sys2Proof

/-! ### Headers (R321) -/

/-- One bit into the CRC-8 of HCHK. -/
def crc8Bit (c b : Nat) : Nat :=
  let fb := (c / 128) ^^^ b
  let c' := (c * 2) % 256
  if fb = 1 then c' ^^^ 0x07 else c'

/-- One byte into it, most significant bit first. -/
def crc8Byte (c b : Nat) : Nat := (List.range 8).foldl (fun a i => crc8Bit a ((b >>> (7 - i)) % 2)) c

/-- R321: the header check over header bytes 3, 2 and 1. -/
def hchk (h : Nat) : Nat := crc8Byte (crc8Byte (crc8Byte 0xFF (nfld h 31 24)) (nfld h 23 16)) (nfld h 15 8)

/-! ### Code tables (R323, R324) -/

/-- R16, R323: the fields of an image of 160 B. -/
def CodeImage.ofBytes (bs : List Byte) : CodeImage :=
  { tid := num bs 0 2 % 4096, layout := num bs 2 1 % 8, hmode := num bs 2 1 / 8 % 2, thresh := num bs 3 1 % 16, nblk := num bs 4 4
    dataBase := num bs 8 8 % 2 ^ 48, hdrBase := num bs 0x10 8 % 2 ^ 48
    lens := (List.range 256).map (fun k => if k % 2 = 0 then num bs (0x20 + k / 2) 1 % 16 else num bs (0x20 + k / 2) 1 / 16) }

/-- R323: is an image free of reserved encodings, with every field in its range? -/
def imageOk (bs : List Byte) : Bool :=
  let c := CodeImage.ofBytes bs
  decide (c.layout ≤ 2) && decide (8 ≤ c.thresh) && decide (0 < c.nblk) && (c.hmode = 0 || c.nblk % 3072 = 0)

/-- R323: CHECK of an image. -/
def imageCheck (bs : List Byte) : Bool := crc32 (bs.take 0x18 ++ [0, 0, 0, 0] ++ (bs.drop 0x1C).take 132) = num bs 0x18 4

/-- R324: how many symbols have codes of length l. -/
def CodeImage.count (c : CodeImage) (l : Nat) : Nat := if l = 0 then 0 else (c.lens.filter (fun x => x = l)).length

/-- R324: are the lengths valid? -/
def CodeImage.kraftOk (c : CodeImage) : Bool :=
  let k := ((List.range 15).map (fun i => c.count (i + 1) <<< (14 - i))).sum
  decide (0 < k) && decide (k ≤ 32768)

/-- R324: the first code of length l. -/
def CodeImage.first (c : CodeImage) : Nat → Nat
  | 0 => 0
  | l + 1 => (c.first l + c.count l) * 2

/-- R324: the symbol at a position among those of length l. -/
def CodeImage.symbol (c : CodeImage) (l p : Nat) : Nat := ((List.range 256).filter (fun k => c.lens.getD k 0 = l)).getD p 0

/-- R322, HMODE 0: the local offset of the header of the place at local offset a. -/
def CodeImage.linearHdr (c : CodeImage) (a : Nat) : Nat := c.hdrBase + 4 * ((a - c.dataBase) / 2048)

/-- R322, HMODE 1: the region-local offset of a header, from the Bay-local (or region-local) offset o of its place. rb: the
6 MiB unit. -/
def CodeImage.localHdr (c : CodeImage) (rb o : Nat) : Nat :=
  let q := rb - c.dataBase / 4096 / 1536
  (c.hdrBase / 4096 / 1536 + q / 512) * 4096 + 8 * (q % 512) + 4 * (o / 2048 % 2)

/-- R322: the local offset of the header of the place at local offset a. -/
def CodeImage.hdrAt (c : CodeImage) (sel a : Nat) : Nat :=
  if c.hmode = 0 then c.linearHdr a
  else
    let n := bayOf sel a
    let o := bayOff a
    stackAddr sel n (regionToBay (regionOf o) (c.localHdr (o / 2 ^ 18) o))

/-! ### Decoding (R328, R329) -/

/-- Payload bit p (R328). -/
def payBit (pl : List Byte) (p : Nat) : Nat := ((pl.getD (p / 8) 0).toNat >>> (7 - p % 8)) % 2

/-- One symbol from bit pos: the symbol and the next position, or the cause. k: code bits still allowed. -/
def CodeImage.sym (c : CodeImage) (pl : List Byte) (stop : Nat) : Nat → Nat → Nat → Nat → Except Nat (Nat × Nat)
  | 0, _, _, _ => .error 4
  | k + 1, v, l, pos =>
    if stop ≤ pos then .error 5
    else
      let v := v * 2 + payBit pl pos
      let f := c.first (l + 1)
      if f ≤ v ∧ v < f + c.count (l + 1) then .ok (c.symbol (l + 1) (v - f), pos + 1)
      else c.sym pl stop k v (l + 1) (pos + 1)

/-- n symbols from bit pos. -/
def CodeImage.syms (c : CodeImage) (pl : List Byte) (stop : Nat) : Nat → Nat → Except Nat (List Nat × Nat)
  | 0, pos => .ok ([], pos)
  | n + 1, pos =>
    match c.sym pl stop 15 0 0 pos with
    | .error e => .error e
    | .ok (x, pos) =>
      match c.syms pl stop n pos with
      | .error e => .error e
      | .ok (xs, pos) => .ok (x :: xs, pos)

/-- R320: a block's bytes from its symbols and raw bytes. -/
def rebuild (layout : Nat) (syms : List Nat) (raw : List Byte) : List Byte :=
  if layout = 0 then syms.map (fun x => BitVec.ofNat 8 x)
  else (syms.zip raw).flatMap (fun p =>
    let x := p.1 * 128 + p.2.toNat % 128 + p.2.toNat / 128 * 2 ^ 15
    leBytes 2 x)

/-- R321: does a header hold for a tensor? -/
def CodeImage.hdrOk (c : CodeImage) (h : Nat) : Bool :=
  nfld h 7 0 = hchk h && nfld h 30 28 = c.layout && nfld h 27 16 = c.tid &&
  (if nfld h 31 31 = 0 then decide (nfld h 15 8 = 128) else decide (1 ≤ nfld h 15 8) && decide (nfld h 15 8 ≤ c.thresh * 8))

/-- R329: decode a block of header h and payload pl: its 2,048 bytes, or the cause of R330. -/
def CodeImage.decode (c : CodeImage) (h : Nat) (pl : List Byte) : Except Nat (List Byte) :=
  if !c.hdrOk h then .error 1
  else if nfld h 31 31 = 0 then .ok (pl.take 2048)
  else
    let stop := nfld h 15 8 * 128
    let pos := if c.layout = 0 then 0 else 8192
    match c.syms pl stop (if c.layout = 0 then 2048 else 1024) pos with
    | .error e => .error e
    | .ok (xs, pos) =>
      if 128 ≤ stop - pos ∨ (List.range (stop - pos)).any (fun i => payBit pl (pos + i) = 1) then .error 6
      else .ok (rebuild c.layout xs (pl.take 1024))

/-- The lines of a place that a decode reads: those of LEN x 16 B (R318), all 32 of a raw block. -/
def payLines (h : Nat) : Nat := min 32 ((nfld h 15 8 * 16 + 63) / 64)

/-! ### Reporting (R330, R336) -/

/-- R330: the status of a cause; st: the read's own status, for causes 0x3 and 0x8. -/
def causeStatus (cause : Nat) (st : Status) : Status :=
  match cause with
  | 2 | 9 => .unmapped
  | 3 => if st = .ok then .integrity else st
  | 7 => .poison
  | _ => .integrity

/-- R330: the counter of a cause. -/
def causeCounter (cause : Nat) : RegSpec :=
  match cause with
  | 1 => Reg.Codec.HDR_ERR_CNT
  | 2 | 3 | 9 => Reg.Codec.TBL_ERR_CNT
  | 4 => Reg.Codec.CODE_ERR_CNT
  | 5 | 6 => Reg.Codec.LEN_ERR_CNT
  | 7 => Reg.Codec.POISON_BLK_CNT
  | _ => Reg.Codec.UE_BLK_CNT

/-- R330, R336: a block of Bay n's codec has failed. path: 0 Spindle, 1 stream fill, 2 stream send, 3 move. -/
def State.codecFail (s : State) (n cause : Nat) (st : Status) (path comp tid a : Nat) : Status × State :=
  let st := causeStatus cause st
  let s := s.bump (pgCodec n) (causeCounter cause)
  (st, s.recordFirst (pgCodec n) Reg.Codec.CODEC_FAULT_INFO Reg.Codec.CODEC_FAULT_ADDR 31
    (2 ^ 31 + st.code * 2 ^ 27 + cause * 2 ^ 23 + path * 2 ^ 20 + tid * 2 ^ 8 + comp) a)

/-- R332: the cycles in which a decoder delivers a block of header h. -/
def CodeImage.cycles (c : CodeImage) (h : Nat) : Nat :=
  if nfld h 31 31 = 0 then 16
  else max 16 (max ((nfld h 15 8 * 128 + 895) / 896) (((if c.layout = 0 then 2048 else 1024) + 127) / 128))

/-- R332, R336: a block has been decoded or passed; a consumer of the block codec waits where that takes over 16 cycles. -/
def State.codecCount (s : State) (img : CodeImage) (n path h : Nat) : State :=
  let s := s.bump (pgCodec n) (if nfld h 31 31 = 1 then Reg.Codec.BLK_CODED_CNT else Reg.Codec.BLK_RAW_CNT)
  let s := if path = 0 then s else s.addN (pgCodec n) Reg.Codec.DEC_STALL_CYC_CNT (img.cycles h - 16)
  (s.addN (pgCodec n) Reg.Codec.IN_BYTE_CNT (nfld h 15 8 * 16)).addN (pgCodec n) Reg.Codec.OUT_BYTE_CNT 2048

/-! ### Tables in a Bay (R327) -/

/-- A device unit's direct read of a stack line at its home (R250), for tables that a Bay caches. -/
def State.peekLine (s : State) (c : CompId) (a : Nat) : Status × Line × State :=
  if stackEnd ≤ a then (.unmapped, 0, s)
  else
    let n := bayOf s.sel a
    if !s.outUp (24 + n) then (.portDown, 0, s)
    else match s.checkKeyless c a with
      | .error f => (f.status, 0, s)
      | .ok _ =>
        match s.readLine n (bayOff a) 0 [] with
        | (.data l, s) => (.ok, l, s)
        | (.poison, s) => (.poison, 0, s)
        | (.bad, s) => (.integrity, 0, s)

/-- The registry's entry for a composition and TID. -/
def State.codeTab (s : State) (c tid : Nat) : Option CodeTab := s.codec.tabs.find? (fun t => t.comp = c && t.tid = tid)

/-- R327, R330: the table that Bay n decodes a composition's TID with, or the cause and status. -/
def State.codecTable (s : State) (n c tid : Nat) : Except (Nat × Status) CodeImage × State :=
  match s.codec.cache.find? (fun e => e.1 = n && e.2.1 = c && e.2.2.1 = tid) with
  | some e => (.ok (CodeImage.ofBytes (e.2.2.2.flatMap lineBytes)), s)
  | none =>
    let s := s.bump (pgCodec n) Reg.Codec.TBL_MISS_CNT
    match s.codeTab c tid with
    | none => (.error (2, .ok), s)
    | some t =>
      let rd := (List.range 3).foldl (fun (q : (Status × List Line) × State) i =>
        let (st, l, s) := q.2.peekLine (Fin.ofNat 256 c) (t.addr + 64 * i)
        ((if q.1.1 = .ok then st else q.1.1, q.1.2 ++ [l]), s)) ((.ok, []), s)
      let bs := (rd.1.2.flatMap lineBytes).take 160
      let s := rd.2
      if rd.1.1 ≠ .ok then (.error (3, rd.1.1), s)
      else if !imageCheck bs then (.error (3, .ok), s)
      else
        let mine := s.codec.cache.filter (fun e => e.1 = n)
        let cache := if mine.length < 64 then s.codec.cache else
          match mine with | v :: _ => s.codec.cache.erase v | [] => s.codec.cache
        (.ok (CodeImage.ofBytes bs), { s with codec := { s.codec with cache := cache ++ [(n, c, tid, rd.1.2)] } })

/-- R326: the table that a decode starting now in Bay n uses. -/
def State.tableNow (s : State) (n c tid : Nat) : TabHeld × State :=
  match s.codecTable n c tid with
  | (.ok img, s) => (⟨0, .ok, some img⟩, s)
  | (.error (cause, st), s) => (⟨cause, st, none⟩, s)

/-- R330: a read of a decode of Bay n has ended with a status other than OK: POISON is cause 0x7, an uncorrectable line cause
0x8; another status is the read's own and no cause of the table. -/
def State.codecReadFail (s : State) (n : Nat) (st : Status) (path comp tid a : Nat) : State :=
  if st = .poison then (s.codecFail n 7 st path comp tid a).2
  else if st = .integrity then (s.codecFail n 8 st path comp tid a).2 else s

/-- R329, R330: Bay n decodes the block of the place at local offset a under a table, its header and payload as read. -/
def State.decodeWith (s : State) (img : CodeImage) (n c tid path a h : Nat) (pl : List Byte) : Except Status (List Byte) × State :=
  match img.decode h pl with
  | .error cause => let (st, s) := s.codecFail n cause .ok path c tid a; (.error st, s)
  | .ok out => (.ok out, s.codecCount img n path h)

/-- R326, R329: the same with the table that the decode found when it started. -/
def State.decodeHeld (s : State) (t : TabHeld) (n c tid path a h : Nat) (pl : List Byte) : Except Status (List Byte) × State :=
  match t.img with
  | none => let (st, s) := s.codecFail n t.cause t.st path c tid a; (.error st, s)
  | some img => s.decodeWith img n c tid path a h pl

/-! ### The registry (R326, R337) -/

/-- CT_STAT.RESULT with BUSY clear, and the count of rejections. -/
def State.ctResult (s : State) (res : Nat) : State :=
  let s := s.setHub Reg.CTab.CT_STAT (setFld (setFld (s.hub Reg.CTab.CT_STAT) 31 31 0) 3 0 res)
  if res = 0 then s else s.bumpHub Reg.CTab.CT_REJECT_CNT

/-- Is a code-table command busy? -/
def State.ctBusy (s : State) : Bool := bit (s.hub Reg.CTab.CT_STAT) 31

/-- Do all granules of a range lie in enabled entries of the current map of a composition? -/
def State.inComp (s : State) (c a n : Nat) (stackOnly : Bool) : Bool :=
  (List.range ((a + n - 1) / 2 ^ 21 + 1 - a / 2 ^ 21)).all (fun i =>
    match s.reg.cur.covering (a / 2 ^ 21 + i) with
    | some (_, e) => decide (e.comp.val = c) && (!stackOnly || decide (e.tier = .stack))
    | none => false)

/-- R322: the length of a tensor's header area. -/
def CodeImage.hdrLen (c : CodeImage) : Nat := if c.hmode = 0 then 4 * c.nblk else (c.nblk / 3072 + 511) / 512 * 6291456

/-- R326, R337: the checks of an image's ranges. -/
def State.imageFits (s : State) (c : Nat) (i : CodeImage) : Bool :=
  let d := i.nblk * 2048
  let al := if i.hmode = 0 then (i.dataBase % 2048 = 0 && i.hdrBase % 64 = 0) else (i.dataBase % 6291456 = 0 && i.hdrBase % 6291456 = 0)
  al && s.inComp c i.dataBase d (i.hmode = 1) && s.inComp c i.hdrBase i.hdrLen (i.hmode = 1) &&
    !meet i.dataBase (i.dataBase + d) i.hdrBase (i.hdrBase + i.hdrLen)

/-- The tables that Bays have cached of a composition's TID are dropped: later decodes use the registry's (R326). -/
def State.dropTable (s : State) (c tid : Nat) : State :=
  { s with codec := { s.codec with tabs := s.codec.tabs.filter (fun t => ¬(t.comp = c ∧ t.tid = tid))
                                   cache := s.codec.cache.filter (fun e => ¬(e.2.1 = c ∧ e.2.2.1 = tid)) } }

/-- R326: CT_CMD OP 0x1. -/
def State.ctInstall (s : State) (c tid : Nat) : State :=
  if s.ctBusy then s.overrun (pgOfHub Reg.CTab.CT_CMD)
  else
    let a := (s.hub Reg.CTab.CT_ADDR).toNat
    let s := s.setHub Reg.CTab.CT_STAT (setFld (s.hub Reg.CTab.CT_STAT) 31 31 1)
    let rs := (List.range 3).map (fun i => (hubIn, s.readReq (Fin.ofNat 256 c) (a + 64 * i)))
    let (b, s) := s.startBatch .ctImage rs
    { s with codec := { s.codec with cmd := some { comp := c, tid := tid, addr := a, batch := b } } }

/-- R326: the image has been read: the install is made or rejected. -/
def State.ctRead (s : State) (cs : List Cmp) : State :=
  match s.codec.cmd with
  | none => s
  | some k =>
    let s := { s with codec := { s.codec with cmd := none } }
    let bs := (cmpBytes cs).take 160
    let i := CodeImage.ofBytes bs
    if firstBad cs ≠ .ok then s.ctResult 6
    else if !imageOk bs ∨ i.tid ≠ k.tid then s.ctResult 1
    else if !i.kraftOk then s.ctResult 2
    else if !s.imageFits k.comp i then s.ctResult 3
    else if (s.codeTab k.comp k.tid).isNone ∧ 16384 ≤ s.codec.tabs.length then s.ctResult 4
    else if !imageCheck bs then s.ctResult 7
    else
      let s := s.dropTable k.comp k.tid
      let e : CodeTab := { comp := k.comp, tid := k.tid, addr := k.addr }
      ({ s with codec := { s.codec with tabs := s.codec.tabs ++ [e] } }.bumpHub Reg.CTab.CT_INSTALL_CNT).ctResult 0

/-- R326: CT_CMD OP 0x2. -/
def State.ctRemove (s : State) (c tid : Nat) : State :=
  if s.ctBusy then s.overrun (pgOfHub Reg.CTab.CT_CMD)
  else match s.codeTab c tid with
    | none => s.ctResult 5
    | some _ => ((s.dropTable c tid).bumpHub Reg.CTab.CT_REMOVE_CNT).ctResult 0

/-- R337: CT_CMD OP 0x3. -/
def State.ctQuery (s : State) (c tid : Nat) : State :=
  if s.ctBusy then s.overrun (pgOfHub Reg.CTab.CT_CMD)
  else
    let on := (s.codeTab c tid).isSome
    let s := s.setHub Reg.CTab.CT_STAT (setFld (s.hub Reg.CTab.CT_STAT) 30 30 (b2n on))
    s.ctResult (if on then 0 else 5)

end Sys2Proof.Machine
end

