-- ==== Sys2Proof/Machine/Move.lean ====
section
/-!
DEFINITION. Machine/Move.lean: move tasks (R352), with decode (R333) where the body asks for it.
-/
namespace Sys2Proof.Machine

open Sys2Proof

/-- A move body (R352). -/
structure MoveBody where
  decode : Bool
  comp : Nat
  tid : Nat
  key : Word
  src : Nat
  dst : Nat
  len : Nat
  flag : Nat
deriving DecidableEq, Repr

/-- R352: read a move body; none: a reserved encoding or a field outside its range. -/
def MoveBody.parse (l : Line) : Option MoveBody :=
  let f := fun o n => bytesAt l o n
  let b : MoveBody := { decode := (f 0 1).testBit 0, comp := f 1 1, tid := bitsAt l 2 2 12, key := BitVec.ofNat 32 (f 4 4), src := bitsAt l 8 8 48
                        dst := bitsAt l 0x10 8 60, len := bitsAt l 0x18 8 40, flag := bitsAt l 0x20 8 60 }
  let u := if b.decode then 2048 else 64
  if b.src % u = 0 ∧ b.dst % 64 = 0 ∧ 1 ≤ b.len ∧ b.len % u = 0 ∧ b.flag % 8 = 0 then some b else none

/-- The Deck port of the Bay that homes a local offset. -/
def State.homeIn (s : State) (a : Nat) : Nat := match s.homeBay a with | some n => 24 + n | none => hubIn

/-- The move body of a task. -/
def State.moveBody (s : State) (t : TaskRef) : Option MoveBody := (s.task t).bind (fun x => MoveBody.parse x.body)

/-- A read of one line by the Bay that homes it, for a composition. -/
def State.homeRead (s : State) (c a : Nat) : Nat × Req := (s.homeIn a, s.readReq (Fin.ofNat 256 c) a)

/-- The blocks of a decoding move. -/
def MoveBody.blocks (b : MoveBody) : List Nat := (List.range (b.len / 2048)).map (fun i => b.src + 2048 * i)

/-- R326, R333: the table with which the decode of the block at a starts; a block outside the tensor or the stack tier is cause
0x9 (R330). -/
def State.blockTable (s : State) (c tid a : Nat) : TabHeld × State :=
  if stackEnd ≤ a then (⟨9, .ok, none⟩, s)
  else
    match s.tableNow (bayOf s.sel a) c tid with
    | (t, s) =>
      (if t.img.any (fun img => decide (a < img.dataBase) || decide (img.dataBase + img.nblk * 2048 ≤ a)) then ⟨9, .ok, none⟩ else t, s)

/-- The header word that a header line holds for a place whose header is at a. -/
def headWord (a : Nat) (l : Line) : Nat := bytesAt l (a % 64) 4

/-- R352: a move task reaches its Bays. -/
def State.moveTask (s : State) (t : TaskRef) : State :=
  match s.beginTask t 1 with
  | none => s
  | some (x, s) =>
    match MoveBody.parse x.body with
    | none => let (st, s) := s.freshFailure; s.report t st
    | some b =>
      if !b.decode then
        let rs := (List.range (b.len / 64)).map (fun i => s.homeRead b.comp (b.src + 64 * i))
        (s.startBatch (.moveRead t) rs).2
      else
        let rd := b.blocks.foldl (fun (q : (List TabHeld × List (Nat × Req)) × State) a =>
          let (tab, s) := q.2.blockTable b.comp b.tid a
          -- a failure is recorded when the block is decoded
          let h := match tab.img with | some img => img.hdrAt s.sel a | none => a
          ((q.1.1 ++ [tab], q.1.2 ++ [(s.homeIn a, s.readReq (Fin.ofNat 256 b.comp) h)]), s)) (([], []), s)
        let m : MoveSt := { t := t, tabs := rd.1.1, words := [], sts := [], wrote := [] }
        (({ rd.2 with moves := rd.2.moves ++ [m] } : State).startBatch (.moveHead t) rd.1.2).2

/-- Cut a list into pieces of the given lengths. -/
def cutBy {α : Type} : List Nat → List α → List (List α)
  | [], _ => []
  | n :: r, xs => xs.take n :: cutBy r (xs.drop n)

/-- The lines that bytes fill. -/
def linesOf (bs : List Byte) : List Line := (List.range (bs.length / 64)).map (fun i => lineOfBytes ((bs.drop (64 * i)).take 64))

/-- Decode each block of a move: its lines, or its status. -/
def State.moveDecode (b : MoveBody) : List (Nat × TabHeld × (Status × Nat) × List Cmp) → State → List (Status × List Line) × State
  | [], s => ([], s)
  | (a, tab, (hst, h), cs) :: rest, s =>
    let n := bayOf s.sel a
    let st := if hst = .ok then firstBad cs else hst
    let res : (Status × List Line) × State :=
      if tab.img.isSome ∧ st ≠ .ok then ((st, []), s.codecReadFail n st 3 b.comp b.tid a)
      else match s.decodeHeld tab n b.comp b.tid 3 a h (cmpBytes cs) with
        | (.ok out, s) => ((.ok, linesOf out), s)
        | (.error st, s) => ((st, []), s)
    let (r, s) := State.moveDecode b rest res.2
    (res.1 :: r, s)

/-- R352: the write of line i of a move; bad: as poisoned (R331). -/
def State.moveWrite (s : State) (b : MoveBody) (i : Nat) (l : Line) (bad : Bool) : Nat × Req :=
  let a := b.src + 64 * i
  (s.homeIn a, { s.writeReq (b.dst + 64 * i) b.key none (BitVec.allOnes 64) l with bad := bad })

/-- R352: the flag of a move in the form of R256, or its end. -/
def State.moveFlag (s : State) (t : TaskRef) (b : MoveBody) (st : Status) (n : Nat) : State :=
  let s := { s with moves := s.moves.filter (fun (k : MoveSt) => k.t ≠ t) }
  if b.flag = 0 then s.report t st
  else (s.startBatch (.endWith t st) [(hubIn, s.capReq b.flag b.key (BitVec.ofNat 64 (n % 2 ^ 32 + st.code * 2 ^ 32)))]).2

/-- R352: the writes of a move have completed. -/
def State.moveWritten (s : State) (t : TaskRef) (cs : List Cmp) : State :=
  match s.moveBody t, s.moves.find? (fun m => m.t = t) with
  | some b, some m =>
    let sts := (m.wrote.zip cs).foldl (fun (l : List Status) p => if l.getD p.1 .ok = .ok then l.set p.1 p.2.status else l) m.sts
    let st := (sts.find? (fun x => x ≠ .ok)).getD .ok
    s.moveFlag t b st (cs.filter (fun c => c.status = .ok)).length
  | _, _ => s

/-- R352: start the writes of a move: (line, data, poisoned), with the status of each source line. -/
def State.moveSend (s : State) (t : TaskRef) (b : MoveBody) (sts : List Status) (ws : List (Nat × Line × Bool)) : State :=
  let m : MoveSt := { t := t, tabs := [], words := [], sts := sts, wrote := ws.map Prod.fst }
  let s := { s with moves := s.moves.filter (fun (k : MoveSt) => k.t ≠ t) ++ [m] }
  if ws = [] then s.moveWritten t []
  else (s.startBatch (.moveWrite t) (ws.map (fun (w : Nat × Line × Bool) => s.moveWrite b w.1 w.2.1 w.2.2))).2

/-- R352: the source of a move has been read. -/
def State.moveGot (s : State) (t : TaskRef) (cs : List Cmp) : State :=
  match s.moveBody t with
  | none => s
  | some b =>
    if !b.decode then
      let ws := (cs.zipIdx.filter (fun p => p.1.status = .ok)).map (fun p => (p.2, p.1.data.getD 0, false))
      s.moveSend t b (cs.map Cmp.status) ws
    else match s.moves.find? (fun m => m.t = t) with
      | none => s
      | some m =>
        let parts := cutBy (m.words.map (fun w => if w.1 = .ok then payLines w.2 else 0)) cs
        let (res, s) := State.moveDecode b (b.blocks.zip (m.tabs.zip (m.words.zip parts))) s
        let sts := res.flatMap (fun r => List.replicate 32 r.1)
        let ws := (res.zipIdx).flatMap (fun r => (List.range 32).map (fun i =>
          (32 * r.2 + i, r.1.2.getD i 0, decide (r.1.1 ≠ .ok))))
        s.moveSend t b sts ws

/-- R333: the headers of a decoding move's blocks have been read: read their payloads. -/
def State.moveHeads (s : State) (t : TaskRef) (cs : List Cmp) : State :=
  match s.moveBody t, s.moves.find? (fun m => m.t = t) with
  | some b, some m =>
    let ws := (b.blocks.zip (m.tabs.zip cs)).map (fun p =>
      (p.2.2.status, match p.2.1.img with | some img => headWord (img.hdrAt s.sel p.1) (p.2.2.data.getD 0) | none => 0))
    let rs := (b.blocks.zip ws).flatMap (fun p => (List.range (if p.2.1 = .ok then payLines p.2.2 else 0)).map (fun i => s.homeRead b.comp (p.1 + 64 * i)))
    let s := { s with moves := s.moves.map (fun (k : MoveSt) => if k.t = t then { m with words := ws } else k) }
    if rs = [] then s.moveGot t [] else (s.startBatch (.moveRead t) rs).2
  | _, _ => s

end Sys2Proof.Machine
end

