-- ==== Sys2Proof/Machine/Stream.lean ====
section
/-!
DEFINITION. Machine/Stream.lean: stream windows (R116-R120) and stream tasks: their fills, their sends and their stalls
(R117-R119, R331, R333, R334, R353-R356).
-/
namespace Sys2Proof.Machine

open Sys2Proof

/-! ### The window (R116, R120) -/

/-- The stream page. -/
def pgStream : Nat := pgHub 0x16

/-- WIN_BASE of a composition. -/
def State.winBase (s : State) (c : Nat) : Nat := (s.rgb pgStream Reg.Stream.WIN_BASE c).toNat

/-- The bytes of a slot of a composition's window. -/
def State.winSlot (s : State) (c : Nat) : Nat := (s.rgb pgStream Reg.Stream.WIN_SLOT_SIZE c).toNat * 4096

/-- The slots of a composition's window. -/
def State.winSlots (s : State) (c : Nat) : Nat := fld (s.rgb pgStream Reg.Stream.WIN_CFG c) 4 0

/-- Is a composition's window enabled? -/
def State.winOn (s : State) (c : Nat) : Bool := bit (s.rgb pgStream Reg.Stream.WIN_CFG c) 31

/-- R116, R120: a write to WIN_CFG for the composition in STREAM_SEL. -/
def State.winCfgWrite (s : State) (v : Word) : State :=
  let c := fld (s.hub Reg.Stream.STREAM_SEL) 7 0
  let old := s.rgb pgStream Reg.Stream.WIN_CFG c
  let put := fun (s : State) (x : DWord) => s.setReg pgStream Reg.Stream.WIN_CFG 0 c x
  let (new, bad) := Reg.Stream.WIN_CFG.written old (v.zeroExtend 64)
  if s.winOn c then
    let s := if bad ∨ fld new 4 0 ≠ fld old 4 0 then s.writeRejected pgStream else s
    if bit new 31 then s
    else if s.streams.any (fun x => x.comp = c) then s.writeRejected pgStream
    else put s (setBit old 31 false)
  else
    let s := if bad then s.writeRejected pgStream else s
    let s := put s (setBit new 31 false)
    if !bit new 31 then s
    else
      let g := s.winGranules c
      let cause := s.reg.cur.areaCause s.node c g.1 g.2
      let s := s.setReg pgStream Reg.Stream.WIN_STAT 0 c (BitVec.ofNat 64 cause)
      if cause = 0 then put s (setBit new 31 true) else s

/-! ### Slots and stalls (R117, R119) -/

/-- SLOT_STAT of slot k of a composition's window. -/
def State.slotStat (s : State) (c k : Nat) : Nat := fld (s.rgb pgStream Reg.Stream.SLOT_STAT c) (4 * k + 3) (4 * k)

/-- Set SLOT_STAT of slot k: 0 EMPTY, 1 FILLING, 2 FULL, 3 SENDING, 4 FAILED. -/
def State.setSlotStat (s : State) (c k v : Nat) : State :=
  s.setReg pgStream Reg.Stream.SLOT_STAT 0 c (setFld (s.rgb pgStream Reg.Stream.SLOT_STAT c) (4 * k + 3) (4 * k) v)

/-- The stream of a task. -/
def State.stream (s : State) (t : TaskRef) : Option StreamSt := s.streams.find? (fun x => x.t = t)

/-- Replace a stream. -/
def State.setStream (s : State) (x : StreamSt) : State := { s with streams := s.streams.map (fun y => if y.t = x.t then x else y) }

/-- The slot of a layer. -/
def StreamSt.slotOf (x : StreamSt) (i : Nat) : Nat := i % max 1 x.slots.length

/-- The local offset of byte o of layer i in its slot. -/
def State.inSlot (s : State) (x : StreamSt) (i o : Nat) : Nat := s.winBase x.comp + s.winSlot x.comp * x.slotOf i + o

/-- R333: the bytes a layer takes in a slot. -/
def Layer.size (l : Layer) : Nat := if l.coded then l.bytes / 2048 * 2052 else l.bytes

/-- The replays that tray Piers have made (R119). -/
def State.trayReplays (s : State) : Nat :=
  ((List.range 288).map (fun x => if s.pierMode (x / 4) = 1 then (s.rgi (pgPier (x / 4)) Reg.Pier.REPLAY_CNT (x % 4)).toNat else 0)).sum

/-- R119: a stall of a cause that began at time b has ended. -/
def State.stalled (s : State) (c cause b : Nat) : State :=
  (s.count pgStream Reg.Stream.STALL_CNT cause c 1).count pgStream Reg.Stream.STALL_US cause c ((s.now - b) / 1000)

/-- R119: begin and end the stalls of a stream as they stand now. -/
def State.timeStalls (s : State) (t : TaskRef) : State :=
  match s.stream t with
  | none => s
  | some x =>
    let fullNow := x.jobs = [] && x.failed.isNone && decide (x.next < x.layers.length) && decide (s.slotStat x.comp (x.slotOf x.next) ≠ 0)
    let stallNow := x.sending.isNone && x.failed.isNone && decide (0 < x.sent) && decide (x.sent < x.layers.length) &&
      decide (s.slotStat x.comp (x.slotOf x.sent) ≠ 2)
    let s := match x.full with | some b => if fullNow then s else s.stalled x.comp 4 b | none => s
    let s := match x.stall with | some b => if stallNow then s else s.stalled x.comp (SMap.get (fun _ => 0) x.charges x.sent) b | none => s
    s.setStream { x with full := if fullNow then some (x.full.getD s.now) else none
                         stall := if stallNow then some (x.stall.getD s.now) else none }

/-! ### Starting (R353, R354) -/

/-- A stream body (R354). -/
structure StreamBody where
  stored : Bool
  comp : Nat
  n : Nat
  group : Nat
  key : Word
  table : Nat
  flag : Nat
deriving DecidableEq, Repr

/-- R354: read a stream body; none: a reserved encoding. -/
def StreamBody.parse (l : Line) : Option StreamBody :=
  let f := fun o n => bytesAt l o n
  let b : StreamBody := { stored := (f 0 1).testBit 0, comp := f 1 1, n := bitsAt l 2 2 13, group := bitsAt l 4 2 12, key := BitVec.ofNat 32 (f 8 4)
                          table := bitsAt l 0x10 8 48, flag := bitsAt l 0x18 8 48 }
  if 1 ≤ b.n ∧ b.n ≤ 4096 ∧ b.table % 32 = 0 ∧ b.flag % 64 = 0 then some b else none

/-- R354: a layer entry; none: a reserved encoding. -/
def Layer.parse (bs : List Byte) : Option Layer :=
  let l : Layer := { src := num bs 0 8 % 2 ^ 48, bytes := num bs 8 4, coded := (num bs 0x0C 2).testBit 15, tid := num bs 0x0C 2 % 4096
                     dst := num bs 0x10 8 % 2 ^ 48 }
  if l.src % 4096 = 0 ∧ (!l.coded ∨ l.src = 0) ∧ l.bytes % 2048 = 0 ∧ l.dst % 64 = 0 then some l else none

/-- R353: a stream task reaches the stream engine: its window is checked and its layer table read. -/
def State.streamTask (s : State) (t : TaskRef) : State :=
  match s.beginTask t 7 with
  | none => s
  | some (x, s) =>
    match StreamBody.parse x.body with
    | none => let (st, s) := s.freshFailure; s.report t st
    | some b =>
      if !s.winOn b.comp ∨ s.streams.any (fun y => y.comp = b.comp) then s.report t .unmapped
      else
        let y : StreamSt :=
          { t := t, comp := b.comp, stored := b.stored, group := b.group, key := b.key, flag := b.flag, layers := [], next := 0
            slots := List.replicate (s.winSlots b.comp) none, jobs := [], retried := false, replays := 0, charges := [], sending := none
            words := [], tabs := [], sends := none, stop := .ok, sent := 0, failed := none, stall := none, full := none, st := .ok }
        let s := { s with streams := s.streams ++ [y] }
        let rs := (spanLines b.table (32 * b.n)).map (fun a => (hubIn, s.readReq (Fin.ofNat 256 b.comp) a))
        (s.startBatch (.streamTable t) rs).2

/-! ### Fills (R117, R118, R333) -/

/-- The composition of a stream, as a request names it. -/
def StreamSt.cid (x : StreamSt) : CompId := Fin.ofNat 256 x.comp

/-- The reads of one block of a layer: its header line and the payload lines that the header calls for, or the 32 lines of a
raw layer. -/
def State.jobReads (s : State) (x : StreamSt) (i : Nat) (l : Layer) (img : Option CodeImage) (off head : Nat) : List (Nat × Req) :=
  let inp := s.homeIn (s.inSlot x i off)
  match img with
  | none => (List.range 32).map (fun k => (inp, s.readReq x.cid (l.src + off + 64 * k)))
  | some c =>
    (inp, s.readReq x.cid (c.linearHdr (c.dataBase + off))) ::
      (List.range (payLines head)).map (fun k => (inp, s.readReq x.cid (c.dataBase + off + 64 * k)))

/-- R326, R333: the table with which the decode of the block at off of a layer starts, in the Bay that homes it in the window. In a
fill the tensor lies in the tray tier, in HMODE 0, and holds the block; otherwise it is cause 0x9 (R330). -/
def State.layerTable (s : State) (x : StreamSt) (i : Nat) (l : Layer) (off : Nat) (fill : Bool) : TabHeld × State :=
  match s.tableNow (bayOf s.sel (s.inSlot x i off)) x.comp l.tid with
  | (t, s) =>
    (if t.img.any (fun g => g.hmode ≠ 0 || (fill && (decide (g.dataBase < trayBase) || decide (g.nblk * 2048 ≤ off)))) then ⟨9, .ok, none⟩ else t, s)

/-- Issue the reads of a block. -/
def State.startJob (s : State) (x : StreamSt) (i : Nat) (l : Layer) (img : Option CodeImage) (j : StreamJob) : StreamJob × State :=
  let (b, s) := s.startBatch .hold (s.jobReads x i l img j.off j.head)
  ({ j with batch := b }, s)

/-- Start the reads of a list of blocks, up to one whose table fails: its status ends the list. -/
def State.startJobs (x : StreamSt) (i : Nat) (l : Layer) : List Nat → State → List StreamJob × Status × State
  | [], s => ([], .ok, s)
  | off :: r, s =>
    let tab : TabHeld × State := if l.coded then s.layerTable x i l off true else (⟨0, .ok, none⟩, s)
    if tab.1.cause ≠ 0 then
      let a := s.inSlot x i off
      let (st, s) := tab.2.codecFail (bayOf s.sel a) tab.1.cause tab.1.st 1 x.comp l.tid a
      ([], st, s)
    else
      let (j, s) := tab.2.startJob x i l tab.1.img { off := off, tries := 0, batch := 0, head := 0, writing := false, tab := tab.1.img }
      let (js, st, s) := State.startJobs x i l r s
      (j :: js, st, s)

/-- R119: what the fill that has ended is charged with: 1 tray error, 2 link replay, else 0. -/
def State.chargeFill (s : State) (x : StreamSt) : StreamSt :=
  { x with charges := SMap.set (fun _ => 0) x.charges (x.next - 1) (if x.retried then 1 else if s.trayReplays ≠ x.replays then 2 else 0) }

/-- R118: layer i of a stream fails: what is being filled is given up, and its slot is FAILED. -/
def State.layerFails (s : State) (x : StreamSt) (i : Nat) (st : Status) : StreamSt × State :=
  let x := s.chargeFill x
  let s := x.jobs.foldl (fun s j => s.endBatch j.batch) s
  ({ x with jobs := [], failed := some (i, st) }, s.setSlotStat x.comp (x.slotOf i) 4)

/-- R117: assign the next layer to its slot and begin its fill. -/
def State.startFill (s : State) (x : StreamSt) : StreamSt × State :=
  match x.layers[x.next]? with
  | none => (x, s)
  | some l =>
    let i := x.next
    let s := s.setSlotStat x.comp (x.slotOf i) 1
    let x := { x with next := i + 1, slots := x.slots.set (x.slotOf i) (some i), retried := false, replays := s.trayReplays }
    let (js, st, s) := State.startJobs x i l ((List.range (l.bytes / 2048)).map (fun k => 2048 * k)) s
    if st ≠ .ok then s.layerFails { x with jobs := js } i st
    else ({ x with jobs := js }, if js = [] then s.setSlotStat x.comp (x.slotOf i) 2 else s)

/-! ### Sends (R117, R333, R334, R355) -/

/-- R117: begin the send of the next layer: its headers are read, or at once its data. -/
def State.startSend (s : State) (x : StreamSt) : StreamSt × State :=
  match x.layers[x.sent]? with
  | none => (x, s)
  | some l =>
    let i := x.sent
    let s := s.setSlotStat x.comp (x.slotOf i) 3
    let x := { x with sending := some i, words := [], tabs := [], sends := none, stop := .ok }
    let rd := fun (o : Nat) => s.homeRead x.comp (s.inSlot x i o)
    if l.coded then
      let (tabs, s) := if x.stored then ([], s) else (List.range (l.bytes / 2048)).foldl (fun (q : List TabHeld × State) k =>
        let (tab, s) := q.2.layerTable x i l (2048 * k) false
        (q.1 ++ [tab], s)) ([], s)
      ({ x with tabs := tabs }, (s.startBatch (.streamHeads x.t) ((List.range ((l.bytes / 2048 * 4 + 63) / 64)).map (fun k => rd (l.bytes + 64 * k)))).2)
    else (x, (s.startBatch (.streamRead x.t) ((List.range (l.bytes / 64)).map (fun k => rd (64 * k)))).2)

/-- R356: the stream's task ends; its slots stay as they are until the Treadle retires the task (R118). -/
def State.streamOver (s : State) (x : StreamSt) (st : Status) : State := (s.setStream { x with layers := x.layers.take x.sent }).report x.t st

/-- R355: the flag of layer i. -/
def State.streamFlag (s : State) (x : StreamSt) (i : Nat) (st : Status) : State :=
  if x.flag = 0 then s
  else s.submit hubIn .plain (s.unitMc x.group x.flag 0xFF (BitVec.ofNat 512 (i % 2 ^ 32 + st.code * 2 ^ 32)) (some x.key))

/-- R117, R353-R356: go on with a stream: start the next fill and the next send where they may start, or end the task. -/
def State.streamGo (s : State) (t : TaskRef) : State :=
  match s.stream t with
  | none => s
  | some x =>
    let (x, s) :=
      if x.jobs = [] ∧ x.failed = none ∧ x.next < x.layers.length ∧ s.slotStat x.comp (x.slotOf x.next) = 0 then s.startFill x else (x, s)
    let (x, s) :=
      if x.sending = none ∧ x.sent < x.layers.length ∧ x.failed.map Prod.fst ≠ some x.sent ∧ s.slotStat x.comp (x.slotOf x.sent) = 2
      then s.startSend x else (x, s)
    let s := (s.setStream x).timeStalls t
    match s.stream t with
    | none => s
    | some x =>
      if x.sending ≠ none then s
      else match x.failed with
        | some (i, st) => if x.sent = i then (s.streamFlag x i st).streamOver x (if x.st = .ok then st else x.st) else s
        | none => if x.sent = x.layers.length then s.streamOver x x.st else s

/-- R353: the layer table has been read. -/
def State.streamTable (s : State) (t : TaskRef) (cs : List Cmp) : State :=
  match s.stream t, (s.task t).bind (fun x => StreamBody.parse x.body) with
  | some x, some b =>
    let drop := fun (s : State) (st : Status) => ({ s with streams := s.streams.filter (fun y => y.t ≠ t) }).report t st
    let img := (cmpBytes cs).drop (b.table % 64)
    let ls := (List.range b.n).map (fun i => Layer.parse ((img.drop (32 * i)).take 32))
    let e := SMap.get (fun _ => McEntry.none) s.tr.mc b.group
    if firstBad cs ≠ .ok then drop s (firstBad cs)
    else if ls.any Option.isNone then let (st, s) := s.freshFailure; drop s st
    else if (ls.filterMap id).any (fun l => decide (s.winSlot b.comp < l.size)) then drop s .unmapped
    else if b.stored ∧ (List.range 288).any (fun p => bit e.members p && !((s.link p).peer.map (fun i => i.kblock)).getD false) then drop s .unmapped
    else (s.setStream { x with layers := ls.filterMap id }).streamGo t
  | _, _ => s

/-- The word of block k among the header words read. -/
def wordsOf (n : Nat) (cs : List Cmp) : List (Status × Nat) :=
  (List.range n).map (fun k => match cs[k / 16]? with
    | some c => (c.status, bytesAt (c.data.getD 0) (4 * (k % 16)) 4)
    | none => (.integrity, 0))

/-- The lines of a block of a send that are read: of a header that could not be read, none. -/
def sendLines (w : Status × Nat) : Nat := if w.1 = .ok then payLines w.2 else 0

/-- R332, R333: the blocks of a coded layer that may be sent, up to the first that fails: their lines as sent (offset in the layer
and data), the cycles by which decoding lengthens the send, and the status that stops it. -/
def State.sendBlocks (x : StreamSt) (i : Nat) (l : Layer) :
    List (Nat × (Status × Nat) × List Cmp) → State → List (Nat × Line) × Nat × Status × State
  | [], s => ([], 0, .ok, s)
  | (k, w, cs) :: rest, s =>
    let a := s.inSlot x i (2048 * k)
    let n := bayOf s.sel a
    let st := if w.1 = .ok then firstBad cs else w.1
    let tab := x.tabs.getD k ⟨0, .ok, none⟩
    if st ≠ .ok ∧ (x.stored ∨ tab.img.isSome) then ([], 0, st, s.codecReadFail n st 2 x.comp l.tid a)
    else
      let len := nfld w.2 15 8 * 16
      let body := cmpBytes cs
      let res := if x.stored then (.ok (body.take len ++ List.replicate (body.length - len) 0), s)
        else s.decodeHeld tab n x.comp l.tid 2 a w.2 body
      match res with
      | (.error st, s) => ([], 0, st, s)
      | (.ok out, s) =>
        let (r, cyc, st, s) := State.sendBlocks x i l rest s
        ((linesOf out).zipIdx.map (fun p => (2048 * k + 64 * p.2, p.1)) ++ r, cyc + (tab.img.map (fun g => g.cycles w.2 - 16)).getD 0, st, s)

/-- R119, R332: the expander has lengthened a send by some cycles of 1.7 GHz. -/
def State.expanderStall (s : State) (c cyc : Nat) : State :=
  if cyc = 0 then s else (s.count pgStream Reg.Stream.STALL_CNT 3 c 1).count pgStream Reg.Stream.STALL_US 3 c (cyc / 1700)

/-- R355: the stores of a send, in the layer's line order, each by the Bay that homes the slot line. -/
def State.sendStores (s : State) (x : StreamSt) (i : Nat) (l : Layer) (ls : List (Nat × Line)) (stop : Status) : State :=
  let rs := ls.map (fun p => (s.homeIn (s.inSlot x i p.1), s.unitMc x.group (l.dst + p.1) (BitVec.allOnes 64) p.2 (some x.key)))
  if rs = [] then s.setStream { x with stop := stop, sends := some none }
  else
    let (b, s) := s.startBatch .hold rs
    s.setStream { x with stop := stop, sends := some (some b) }

/-- R333: the headers of a layer being sent have been read: read its payload. -/
def State.streamHeads (s : State) (t : TaskRef) (cs : List Cmp) : State :=
  match s.stream t with
  | none => s
  | some x =>
    match x.sending.bind (fun i => x.layers[i]?.map (fun l => (i, l))) with
    | none => s
    | some (i, l) =>
      let ws := wordsOf (l.bytes / 2048) cs
      let rs := (ws.zipIdx).flatMap (fun p => (List.range (sendLines p.1)).map (fun k => s.homeRead x.comp (s.inSlot x i (2048 * p.2 + 64 * k))))
      let s := s.setStream { x with words := ws }
      if rs = [] then s.sendStores { x with words := ws } i l [] ((ws.head?.map Prod.fst).getD .ok)
      else (s.startBatch (.streamRead t) rs).2

/-- R333, R334: the data of a layer being sent has been read: send it. -/
def State.streamGot (s : State) (t : TaskRef) (cs : List Cmp) : State :=
  match s.stream t with
  | none => s
  | some x =>
    match x.sending.bind (fun i => x.layers[i]?.map (fun l => (i, l))) with
    | none => s
    | some (i, l) =>
      if !l.coded then
        let good := cs.takeWhile (fun c => c.status = .ok)
        s.sendStores x i l (good.zipIdx.map (fun p => (64 * p.2, p.1.data.getD 0))) (firstBad cs)
      else
        let parts := cutBy (x.words.map sendLines) cs
        let (ls, cyc, st, s) := State.sendBlocks x i l ((List.range x.words.length).zip (x.words.zip parts)) s
        let s := s.expanderStall x.comp cyc
        let heads := if x.stored ∧ st = .ok then
            (List.range ((x.words.length * 4 + 63) / 64)).map (fun k =>
              (l.bytes + 64 * k, lineOfBytes (((x.words.map Prod.snd).drop (16 * k)).take 16 |>.flatMap (leBytes 4))))
          else []
        s.sendStores x i l (ls ++ heads) st

/-- R117, R118, R355: every multicast store of a send has completed: the slot is EMPTY and the flag is sent. -/
def State.streamSent (s : State) (t : TaskRef) : State :=
  match s.stream t with
  | none => s
  | some x =>
    match x.sending, x.sends with
    | some i, some b =>
      match (match b with | none => some [] | some id => s.batchAll id) with
      | none => s
      | some cs =>
        let s := match b with | none => s | some id => s.endBatch id
        let down := cs.any (fun c => c.status = .portDown)
        let st := if x.stop ≠ .ok then x.stop else if down then .portDown else firstBad cs
        let s := s.setSlotStat x.comp (x.slotOf i) 0
        let s := s.streamFlag x i st
        let x := { x with sending := none, sends := none, words := [], sent := i + 1, slots := x.slots.set (x.slotOf i) none
                          st := if x.st = .ok then st else x.st }
        if x.stop ≠ .ok ∨ down then
          let s := x.jobs.foldl (fun s j => s.endBatch j.batch) s
          (s.setStream { x with jobs := [] }).streamOver { x with jobs := [] } x.st
        else (s.setStream x).streamGo t
    | _, _ => s

/-! ### Block reads (R118, R331) -/

/-- R118: STREAM_BUDGET.RETRY. -/
def State.streamRetry (s : State) (c : Nat) : Nat := fld (s.rgb pgStream Reg.Stream.STREAM_BUDGET c) 19 16

/-- R118: is a failed block read reissued? -/
def retried? (st : Status) : Bool := st = .integrity || st = .poison || st = .timeout || st = .portDown

/-- What the reads of a block of a fill give: its header, its lines, or the status that fails it. again: the header calls for
other lines than those read. -/
def State.jobResult (s : State) (x : StreamSt) (i : Nat) (l : Layer) (img : Option CodeImage) (j : StreamJob) (cs : List Cmp) :
    Status × Nat × Bool × State :=
  let a := s.inSlot x i j.off
  let n := bayOf s.sel a
  match img with
  | none => (firstBad cs, 0, false, s)
  | some c =>
    let h := match cs with | q :: _ => headWord (c.linearHdr (c.dataBase + j.off)) (q.data.getD 0) | [] => 0
    let st := firstBad cs
    if st ≠ .ok then (st, h, false, s.codecReadFail n st 1 x.comp l.tid a)
    else if c.hdrOk h ∧ cs.length ≠ payLines h + 1 then (.ok, h, true, s)
    else match s.decodeWith c n x.comp l.tid 1 a h (cmpBytes (cs.drop 1)) with
      | (.ok _, s) => (.ok, h, false, s)
      | (.error st, s) => (st, h, false, s)

/-- The writes of a block's stored lines into its slot (R333). -/
def State.jobWrites (s : State) (x : StreamSt) (i : Nat) (img : Option CodeImage) (j : StreamJob) (cs : List Cmp) : List (Nat × Req) :=
  let ls := if img.isSome then cs.drop 1 else cs
  ls.zipIdx.map (fun p =>
    let a := s.inSlot x i (j.off + 64 * p.2)
    (s.homeIn a, s.writeReq (s.node.toNat * 2 ^ 48 + a) 0 (some x.cid) (BitVec.allOnes 64) (p.1.data.getD 0)))

/-- Replace a block of the fill in progress. -/
def StreamSt.setJob (x : StreamSt) (j : StreamJob) : StreamSt := { x with jobs := x.jobs.map (fun k => if k.off = j.off then j else k) }

/-- R333: the write of block k's header word into the header area of its slot. -/
def State.headWrite (s : State) (x : StreamSt) (i : Nat) (l : Layer) (off h : Nat) : Nat × Req :=
  let a := s.inSlot x i (l.bytes + 4 * (off / 2048))
  (s.homeIn a, s.writeReq (s.node.toNat * 2 ^ 48 + a) 0 (some x.cid) (BitVec.ofNat 64 (15 * 2 ^ (a % 64)))
    (BitVec.ofNat 512 (h * 2 ^ (8 * (a % 64)))))

/-- R118, R119, R331: a block read of a fill has completed: verified, it is written to its slot; failed, it is reissued or its
slot fails. -/
def State.streamBlockDone (s : State) (t : TaskRef) (off : Nat) : State :=
  match s.stream t with
  | none => s
  | some x =>
    match x.jobs.find? (fun j => j.off = off && !j.writing), x.layers[x.next - 1]? with
    | some j, some l =>
      match s.batchAll j.batch with
      | none => s
      | some cs =>
        let s := s.endBatch j.batch
        let i := x.next - 1
        let (st, h, again, s) := s.jobResult x i l j.tab j cs
        if again then
          let (j, s) := s.startJob x i l j.tab { j with head := h }
          s.setStream (x.setJob j)
        else if st = .ok then
          let ws := s.jobWrites x i j.tab j cs ++ (if j.tab.isSome then [s.headWrite x i l off h] else [])
          let (b, s) := s.startBatch (.streamWrote t off) ws
          s.setStream (x.setJob { j with batch := b, writing := true })
        else if retried? st ∧ j.tries < s.streamRetry x.comp then
          -- the decode starts again, under the table of now (R326)
          let (tab, s) := if l.coded then s.layerTable x i l off true else (⟨0, .ok, none⟩, s)
          if tab.cause ≠ 0 then
            let a := s.inSlot x i off
            let (st, s) := s.codecFail (bayOf s.sel a) tab.cause tab.st 1 x.comp l.tid a
            let (x, s) := s.layerFails { x with retried := true } i st
            (s.setStream x).streamGo t
          else
            let (j, s) := s.startJob x i l tab.img { j with tries := j.tries + 1, head := 0, tab := tab.img }
            s.setStream ({ x with retried := true }.setJob j)
        else
          let (x, s) := s.layerFails x i st
          (s.setStream x).streamGo t
    | _, _ => s

/-- R117: the lines of a block have been written: once all have, the slot is FULL. -/
def State.streamWrote (s : State) (t : TaskRef) (off : Nat) (cs : List Cmp) : State :=
  match s.stream t with
  | none => s
  | some x =>
    if !x.jobs.any (fun j => j.off = off && j.writing) then s
    else if firstBad cs ≠ .ok then
      let (x, s) := s.layerFails x (x.next - 1) (firstBad cs)
      (s.setStream x).streamGo t
    else
      let x := { x with jobs := x.jobs.filter (fun j => j.off ≠ off) }
      if x.jobs ≠ [] then s.setStream x
      else ((s.setStream (s.chargeFill x)).setSlotStat x.comp (x.slotOf (x.next - 1)) 2).streamGo t

/-- R118: the Treadle retires a stream task: its slots return to EMPTY. -/
def State.streamRetire (s : State) (t : TaskRef) : State :=
  match s.stream t with
  | none => s
  | some x =>
    let s := x.jobs.foldl (fun s j => s.endBatch j.batch) s
    let s := { s with streams := s.streams.filter (fun y => y.t ≠ t) }
    s.setReg pgStream Reg.Stream.SLOT_STAT 0 x.comp 0

end Sys2Proof.Machine
end

