-- ==== Sys2Proof/Machine/Time.lean ====
section
/-!
DEFINITION. Machine/Time.lean: Fabric Time (R361-R366, R373), transmit stamps (R374), gate control lists (R367-R369) and the
suspension of Scheduled service (R132, R366).
-/
namespace Sys2Proof.Machine

open Sys2Proof

/-! ### Scheduled service (R132) -/

/-- TIME_STAT.SYNC. -/
def State.synced (s : State) : Bool := bit (s.hub Reg.FT.TIME_STAT) 31

/-- R440: is a failure of the selected clock source not yet recovered? -/
def State.clockFailed (s : State) : Bool := s.clk.safe

/-- Send what the logical ports of Pier p may send. -/
def State.pumpPier (s : State) (p : Nat) : State := (s.pierPorts p).foldl (fun s x => s.pump x) s

/-- R132: TC_MODE.SCHED_SUSPENDED follows its causes: lost Fabric Time, a clock failure, Footway mode. -/
def State.syncSched (s : State) : State :=
  let off := !s.synced || s.clockFailed || s.inFootway
  if bit (s.rg (pgSlice 4) Reg.Slice.TC_MODE) 8 = off then s
  else
    let s := (List.range 5).foldl (fun s i => s.setF (pgSlice i) Reg.Slice.TC_MODE 8 8 (b2n off)) s
    (List.range 72).foldl (fun s p => s.pumpPier p) s

/-! ### Stamps (R374) -/

/-- The transmit stamps that a Pier holds. -/
def State.stampsOf (s : State) (p : Nat) : List Stamp := SMap.get (fun _ => []) s.stamps p

/-- Take a message's stamp from a list: the stamp, and what remains after it. -/
def takeStamp (port seq : Nat) (kind : TimeKind) : List Stamp → Option Stamp × List Stamp
  | [] => (none, [])
  | q :: r => if q.port = port ∧ q.seq = seq ∧ q.kind = kind then (some q, r) else takeStamp port seq kind r

/-- Firmware takes the stamp of a message it sent on logical port x, with those before it. -/
def State.popStamp (s : State) (x seq : Nat) (kind : TimeKind) : Option Nat × State :=
  match takeStamp (x % 4) seq kind (s.stampsOf (x / 4)) with
  | (some q, r) => (some q.time, { s with stamps := SMap.set (fun _ => []) s.stamps (x / 4) r })
  | (none, _) => (none, s)

/-- R374: STAMP_INFO of a Pier. -/
def State.stampInfo (s : State) (p : Nat) : Nat :=
  match s.stampsOf p with
  | [] => 0
  | q :: _ => 2 ^ 31 + q.kind.code * 4 + q.port

/-- R374: STAMP_INFO of a Pier is read: the oldest stamp is removed. -/
def State.stampDrop (s : State) (p : Nat) : State :=
  { s with stamps := SMap.set (fun _ => []) s.stamps p ((s.stampsOf p).drop 1) }

/-! ### Setting and adjusting (R365, R373) -/

/-- Fabric Time takes a value, modulo 2^80 in units of 2^-16 ns. -/
def State.setFt (s : State) (t : Int) : State := { s with ft := (t % (2 ^ 80 : Nat)).toNat }

/-- R365: apply an adjustment in units of 2^-16 ns: slewed up to 1 us, else a step. -/
def State.applyAdj (s : State) (a : Int) : State :=
  if a.natAbs ≤ 65536000 then { s with time := { s.time with adj := a } }
  else ({ s with time := { s.time with adj := 0 } }.setFt (s.ft + a)).bumpHub Reg.FT.STEP_CNT

/-- R366: TIME_STAT.SYNC takes a value; a loss is counted. -/
def State.setSync (s : State) (b : Bool) : State :=
  if s.synced = b then s
  else
    let s := s.setHubF Reg.FT.TIME_STAT 31 31 (b2n b)
    (if b then s else s.bumpHub Reg.FT.SYNC_LOSS_CNT).syncSched

/-- TIME_CFG.ROOT. -/
def State.timeRoot (s : State) : Bool := bit (s.hub Reg.FT.TIME_CFG) 31

/-- R366, R373: TIME_CMD OP 0x1: only the root's time is set; it is then synchronised. -/
def State.timeSet (s : State) : State :=
  if !s.timeRoot then s.writeRejected (pgOfHub Reg.FT.TIME_CMD)
  else
    let s := s.setFt ((s.hub Reg.FT.SET_NS).toNat * 65536 + fld (s.hub Reg.FT.SET_FRAC) 15 0)
    ({ s with time := { s.time with adj := 0, set := true } }.bumpHub Reg.FT.STEP_CNT).setSync true

/-- R365: TIME_CMD OP 0x2. -/
def State.timeAdjust (s : State) : State := s.applyAdj (sx 64 (s.hub Reg.FT.ADJ).toNat)

/-! ### Exchanges (R363, R364, R366) -/

/-- R363: a time-exchange message of this device. -/
def State.timeMsg (s : State) (kind : TimeKind) (seq : BitVec 16) (t : Nat) : Msg :=
  .timeX { kind := kind, tc := BitVec.ofNat 3 (fld (s.hub Reg.FT.TIME_CFG) 26 24), seq := seq, rx := 0, t := BitVec.ofNat 80 t
           sync := s.synced, root := s.timeRoot
           hops := BitVec.ofNat 8 (if s.timeRoot then 0 else fld (s.hub Reg.FT.TIME_STAT) 28 21 + 1) }

/-- R364: a REQ on logical port x: the RSP with t2, and once it has left its stamp in the FUP. -/
def State.timeReq (s : State) (x : Nat) (t : TimeX) : State :=
  let s := s.sendFrom 54 x (s.timeMsg .rsp t.seq t.rx.toNat)
  match s.popStamp x t.seq.toNat .rsp with
  | (some t3, s) => s.sendFrom 54 x (s.timeMsg .fup t.seq t3)
  | (none, s) => { s with time := { s.time with fups := s.time.fups.filter (fun q => q.1 ≠ x) ++ [(x, t.seq.toNat)] } }

/-- R364: the FUP of a RSP that had to wait in the Deck or the Pier: it is sent once the RSP has left its stamp. -/
def State.timeFups (s : State) : State :=
  s.time.fups.foldl (fun s q =>
    match s.popStamp q.1 q.2 .rsp with
    | (some t3, s) =>
      (({ s with time := { s.time with fups := s.time.fups.erase q } } : State)).sendFrom 54 q.1 (s.timeMsg .fup (BitVec.ofNat 16 q.2) t3)
    | (none, s) => s) s

/-- The timing logical port in use (TIME_STAT). -/
def State.timingPort (s : State) : Nat := fld (s.hub Reg.FT.TIME_STAT) 8 0

/-- R364: the exchange in progress fails. -/
def State.exchFail (s : State) : State :=
  match s.time.exch with
  | none => s
  | some _ =>
    let s := { s with time := { s.time with exch := none, good := 0, bad := s.time.bad + 1 } }.bumpHub Reg.FT.EXCH_FAIL_CNT
    if 4 ≤ s.time.bad then s.setSync false else s

/-- R364: an exchange begins on the timing port of a device that is not the root. -/
def State.exchStart (s : State) : State :=
  let x := s.timingPort
  if s.timeRoot ∨ x = 0x1FF ∨ !s.portUp x 3 then s
  else
    let s := s.exchFail
    let n := (s.time.seq + 1) % 65536
    let s := s.sendFrom 54 x (s.timeMsg .req (BitVec.ofNat 16 n) 0)
    let (t1, s) := s.popStamp x n .req
    { s with time := { s.time with exch := some { port := x, seq := n, t1 := t1, t2 := none }, seq := n } }

/-- R364: 200 us after t1 an answer is missing. -/
def State.exchTimeout (s : State) : State := s.exchFail

/-- R363, R364: what the parent says of itself. -/
def State.noteParent (s : State) (t : TimeX) : State :=
  (s.setHubF Reg.FT.TIME_STAT 29 29 (b2n t.sync)).setHubF Reg.FT.TIME_STAT 28 21 t.hops.toNat

/-- R364: a RSP on logical port x brings t2 and its receive stamp t4. -/
def State.timeRsp (s : State) (x : Nat) (t : TimeX) : State :=
  match s.time.exch with
  | none => s
  | some e =>
    if e.port ≠ x ∨ e.seq ≠ t.seq.toNat then s
    else
      let (late, s) := s.popStamp x e.seq .req
      let e := { e with t1 := e.t1 <|> late, t2 := some (t.t.toNat, t.rx.toNat) }
      { s with time := { s.time with exch := some e } }

/-- R364: the adjustment and the path delay of four stamps, in units of 2^-16 ns; asym in ps. -/
def exchange (t1 t2 t3 t4 asym : Int) : Int × Int :=
  ((1000 * ((t2 - t1) - (t4 - t3)) + 65536 * asym).tdiv 2000, ((t4 - t1) - (t3 - t2)).tdiv 2)

/-- R364-R366: an exchange is accepted. -/
def State.exchAccept (s : State) (th d : Int) (parentSync : Bool) : State :=
  let s := { s with time := { s.time with exch := none, good := s.time.good + 1, bad := 0 } }
  let s := s.setHub Reg.FT.OFFSET_LAST (BitVec.ofInt 64 th)
  let s := s.setHub Reg.FT.DELAY_LAST (BitVec.ofInt 64 d)
  let s := s.setHub Reg.FT.ADJ (BitVec.ofInt 64 th)
  let s := (s.applyAdj th).bumpHub Reg.FT.EXCH_CNT
  if !parentSync ∨ fld (s.hub Reg.FT.TIME_CFG) 7 0 * 65536 < th.natAbs then
    { s with time := { s.time with good := 0 } }.setSync false
  else if 4 ≤ s.time.good ∧ bit (s.hub Reg.FT.TIME_STAT) 30 then s.setSync true
  else s

/-- R364: a FUP on logical port x brings t3 and ends the exchange. -/
def State.timeFup (s : State) (x : Nat) (t : TimeX) : State :=
  match s.time.exch with
  | none => s
  | some e =>
    if e.port ≠ x ∨ e.seq ≠ t.seq.toNat then s
    else
      let s := s.noteParent t
      match e.t1, e.t2 with
      | some t1, some (t2, t4) =>
        let (th, d) := exchange t1 t2 t.t.toNat t4 (sx 16 (fld (s.hub Reg.FT.ASYM) 15 0))
        if d < 0 ∨ 6553600000 < d then s.exchFail else s.exchAccept th d t.sync
      | _, _ => s.exchFail

/-- R366: the clock that Fabric Time runs on has locked, or has not. -/
def State.setLocked (s : State) (b : Bool) : State :=
  let s := s.setHubF Reg.FT.TIME_STAT 30 30 (b2n b)
  if b ∨ s.timeRoot then s else { s with time := { s.time with good := 0 } }.setSync false

/-- One ns passes: Fabric Time advances, slewed by up to 500 ppm (R362, R365). -/
def State.tickFt (s : State) : State :=
  let a := s.time.adj
  let step : Int := if a < 0 then max a (-32) else min a 32
  { s with time := { s.time with adj := a - step } }.setFt (s.ft + 65536 + step)

/-! ### Gate control lists (R367-R369) -/

/-- Replace a class's gate. -/
def State.setGate (s : State) (p c : Nat) (g : GateSt) : State := { s with glists := SMap.set (fun _ => GateSt.init) s.glists (gateKey p c) g }

/-- A gate-list load body (R368). -/
structure GateBody where
  pier : Nat
  classes : Nat
  nent : Nat
  rel : Bool
  comp : Nat
  list : Nat
  base : Nat
  cycle : Nat
deriving DecidableEq, Repr

/-- R16, R368: read a gate-list load body; none: a field outside its range. -/
def GateBody.parse (l : Line) : Option GateBody :=
  let f := fun o n => bytesAt l o n
  let b : GateBody := { pier := bitsAt l 0 1 7, classes := f 1 1, nent := bitsAt l 2 2 11, rel := (f 4 1).testBit 0, comp := f 5 1
                        list := bitsAt l 8 8 48, base := f 0x10 8, cycle := f 0x18 4 }
  if b.pier < 72 ∧ b.classes ≠ 0 ∧ 1 ≤ b.nent ∧ b.nent ≤ 1024 ∧ b.list % 64 = 0 ∧ 1000 ≤ b.cycle ∧ b.cycle ≤ 1000000000 then some b else none

/-- R368: is there a run of consecutive OPEN entries of 1 us or more? n: the length of the run so far. -/
def openRun (n : Nat) : List (Bool × Nat) → Bool
  | [] => false
  | (o, k) :: r => if o then decide (1000 ≤ n + k) || openRun (n + k) r else openRun 0 r

/-- R367, R368: may a list be loaded? -/
def gateListOk (cycle : Nat) (es : List Nat) : Bool :=
  es.all (fun e => decide (0 < e % 2 ^ 30)) && openRun 0 (gateRuns cycle es)

/-- The entry in effect t ns into a cycle. i: the index of the first entry of the list. -/
def gateIndex (t i : Nat) : List Nat → Nat
  | [] => i
  | [_] => i
  | e :: r => if t < e % 2 ^ 30 then i else gateIndex (t - e % 2 ^ 30) (i + 1) r

/-- R367: is the entry in effect open? -/
def GateSt.isOpen (g : GateSt) : Bool := match g.oper with | none => true | some l => (l.entries.getD g.idx 0).testBit 31

/-- R374: GATE_STAT of a class of a Pier. -/
def State.gateStat (s : State) (p c : Nat) : Nat :=
  let g := s.gate p c
  b2n ((s.gateMask p).testBit c) * 2 ^ 31 + b2n g.pend.isSome * 2 ^ 30 + b2n g.oper.isSome * 2 ^ 29 + (if g.oper.isSome then g.idx else 0)

/-- The gate mask of a Pier follows its lists, and what may leave leaves. -/
def State.setGateOpen (s : State) (p c : Nat) : State :=
  let m := SMap.get (fun _ => 255) s.gates p
  let m := (setBit (BitVec.ofNat 8 m) c (s.gate p c).isOpen).toNat
  { s with gates := SMap.set (fun _ => 255) s.gates p m }.pumpPier p

/-- R368: a gate-list load task reaches its Pier group, which reads the lists. -/
def State.gateLoad (s : State) (t : TaskRef) : State :=
  match s.beginTask t 8 with
  | none => s
  | some (x, s) =>
    match GateBody.parse x.body with
    | none => s.report t .unmapped
    | some b =>
      if !s.groupUp (b.pier / 3) then s.report t .portDown
      else
        let rs := (spanLines b.list (popcount 8 b.classes * b.nent * 4)).map (fun a => (b.pier / 3, s.readReq (Fin.ofNat 256 b.comp) a))
        (s.startBatch (.gate t) rs).2

/-- R368: write the lists of the classes of a mask as pending, in ascending order. -/
def State.putLists (s : State) (b : GateBody) (base : Nat) : List Nat → List (List Nat) → State
  | c :: cs, es :: ess =>
    let s := s.setGate b.pier c { s.gate b.pier c with pend := some { base := base, cycle := b.cycle, entries := es } }
    (s.bump (pgPier b.pier) Reg.Pier.GATE_LOAD_CNT).putLists b base cs ess
  | _, _ => s

/-- R368: the lists have been read. -/
def State.gateLoaded (s : State) (t : TaskRef) (cs : List Cmp) : State :=
  match s.task t with
  | none => s
  | some x =>
    match GateBody.parse x.body, s.draft t.draft with
    | some b, some d =>
      let bs := cmpBytes cs
      let classes := (List.range 8).filter (fun c => b.classes.testBit c)
      let lists := (List.range classes.length).map (fun i => (List.range b.nent).map (fun j => num bs (4 * (i * b.nent + j)) 4))
      let base := if b.rel then d.act + b.base else b.base
      if firstBad cs ≠ .ok then s.report t (firstBad cs)
      else if !lists.all (gateListOk b.cycle) then s.report t .unmapped
      else if !s.groupUp (b.pier / 3) then s.report t .portDown
      else
        let s := s.putLists b base classes lists
        if base < s.ns + 10000 then
          (classes.foldl (fun s c => s.setGate b.pier c { s.gate b.pier c with pend := none }) s).report t .timeout
        else s.report t .ok
    | _, _ => s

/-- R369: a pending list reaches its base time and becomes operational. -/
def State.gateActivate (s : State) (p c : Nat) : State :=
  let g := s.gate p c
  match g.pend with
  | none => s
  | some l =>
    if s.ns < l.base then s
    else (s.setGate p c { pend := none, oper := some l, idx := gateIndex ((s.ns - l.base) % l.cycle) 0 l.entries }).setGateOpen p c

/-- R367: an entry's interval ends: the entry that the present time selects takes effect. -/
def State.gateAdvance (s : State) (p c : Nat) : State :=
  let g := s.gate p c
  match g.oper with
  | none => s
  | some l =>
    let i := gateIndex (((s.ns : Int) - l.base) % (l.cycle : Int)).toNat 0 l.entries
    (s.setGate p c { g with idx := i }).setGateOpen p c

/-- R367: an L3 or higher reset of a Pier group clears the lists of its Piers. -/
def State.clearGates (s : State) (p : Nat) : State :=
  { s with glists := SMap.drop (fun k => k / 8 = p) s.glists, gates := SMap.drop (fun k => k = p) s.gates
           stamps := SMap.drop (fun k => k = p) s.stamps }

end Sys2Proof.Machine
end

