-- ==== Sys2Proof/Machine/Rows.lean ====
section
/-!
DEFINITION. Machine/Rows.lean: row transactions (R249): how a Heddle reads and writes the lines of a row as one transaction
at the row's home; and the update that a home applies to a row (R262).
-/
namespace Sys2Proof.Machine

open Sys2Proof

/-! ### Waking (R43, R444) -/

/-- The number of an island in `islands`. -/
def Island.key : Island → Nat
  | .bay n => n.val
  | .group g => 24 + g.val
  | .spindles n g => 100 + 8 * n.val + g.val

/-- The power state of an island: 0 Run, 1 Sleep, 2 Deep-sleep. -/
def State.islandState (s : State) (i : Island) : Nat := SMap.get (fun _ => 0) s.islands i.key

/-- The page that controls an island's power state (R442). -/
def Island.page : Island → Nat
  | .bay n => pgMC n
  | .group g => pgPG g
  | .spindles n _ => pgSp n

/-- R444: an island's requested entry ends without being made: REFUSED is set. -/
def State.abandon (s : State) (i : Island) : State :=
  if SMap.get (fun _ => 0) s.pwr.req i.key = 0 then s
  else ({ s with pwr := { s.pwr with req := SMap.set (fun _ => 0) s.pwr.req i.key 0 } } : State).setF i.page Reg.Hdr.PWR_STATE 30 30 1

/-- R43, R444, R461: an island is wanted: if it sleeps, its wake joins the governor's queue; an entry it waits to make is
abandoned. -/
def State.wake (s : State) (i : Island) : State :=
  if s.islandState i = 0 then s.abandon i
  else if s.govQ.contains i ∨ s.granted.contains i then s else { s with govQ := s.govQ ++ [i] }

/-! ### Exact arithmetic (R225, R226, R262) -/

/-- The exact product of two values. -/
def FVal.mul : FVal → FVal → FVal
  | .nan, _ => .nan
  | _, .nan => .nan
  | .inf a, .inf b => .inf (a != b)
  | .inf a, .fin b m _ => if m = 0 then .nan else .inf (a != b)
  | .fin a m _, .inf b => if m = 0 then .nan else .inf (a != b)
  | .fin a m e, .fin b k g => .fin (a != b) (m * k) (e + g)

/-- The exact sum of two values; a zero sum is +0. -/
def FVal.add : FVal → FVal → FVal
  | .nan, _ => .nan
  | _, .nan => .nan
  | .inf a, .inf b => if a = b then .inf a else .nan
  | .inf a, .fin _ _ _ => .inf a
  | .fin _ _ _, .inf b => .inf b
  | .fin a m e, .fin b k g =>
    let q := min e g
    let u : Int := ((m <<< (e - q).toNat : Nat) : Int)
    let v : Int := ((k <<< (g - q).toNat : Nat) : Int)
    let sum := (if a then -u else u) + (if b then -v else v)
    .fin (decide (sum < 0)) sum.natAbs q

/-- An exact value rounded once into a format (R225, R226); zero gives +0. -/
def FF.ofVal (f : FF) : FVal → Elem
  | .nan => (f.nan, false)
  | .inf neg => f.inf? neg
  | .fin neg m e => if m = 0 then (0, false) else f.round neg m 1 e

/-- The exact value of a pattern of a format code; integers as they are. -/
def valOf (c b : Nat) : FVal :=
  match FF.ofCode c with
  | some f => f.decode b
  | none => let v := sx (8 * fmtSize c) b; .fin (decide (v < 0)) v.natAbs 0

/-- An exact value rounded into a float format code. -/
def roundVal (c : Nat) (v : FVal) : Elem := match FF.ofCode c with | some f => f.ofVal v | none => (0, false)

/-- The elements of size b bytes of a byte string. -/
def elemsOf (b : Nat) (bs : List Byte) : List Nat := (List.range (bs.length / max 1 b)).map (fun i => num bs (i * b) b)

/-- R262: the new bytes of a row, its accumulator included, and how many elements were saturated. old: the bytes read. -/
def RowUpd.apply (u : RowUpd) (old : List Byte) : List Byte × Nat :=
  let b := fmtSize u.fmt
  if u.uop = 1 then (u.data.map (fun x => BitVec.ofNat 8 x) ++ old.drop u.size, 0)
  else
    let scale := FF.fp32.decode u.scale
    let acc := FF.fp32.decode (num old u.size 4)
    let k := if u.uop = 2 then scale.mul acc else scale
    let es := ((elemsOf b (old.take u.size)).zip u.data).map (fun p =>
      roundVal u.fmt ((valOf u.fmt p.1).add (k.mul (FF.fp32.decode p.2))))
    let tail := if u.uop = 2 then leBytes 4 (FF.fp32.ofVal (acc.mul (FF.fp32.decode u.decay))).1 else (old.drop u.size).take 4
    (es.flatMap (fun e => leBytes b e.1) ++ tail, (es.filter Prod.snd).length)

/-! ### Row transactions (R249) -/

/-- A row transaction. -/
def State.rowOp (s : State) (id : Nat) : Option RowOp := s.hed.ops.find? (fun o => o.id = id)

/-- Replace a row transaction. -/
def State.setRowOp (s : State) (o : RowOp) : State :=
  { s with hed := { s.hed with ops := s.hed.ops.map (fun p => if p.id = o.id then o else p) } }

/-- Forget a row transaction. -/
def State.dropRowOp (s : State) (id : Nat) : State := { s with hed := { s.hed with ops := s.hed.ops.filter (fun o => o.id ≠ id) } }

/-- A row transaction on size bytes at local offset a is sent to the row's home. -/
def State.newRowOp (s : State) (use : RowFor) (comp a size : Nat) : Nat × State :=
  let o : RowOp :=
    { id := s.hed.next, use := use, comp := comp, bay := (s.homeBay a).getD 0, tray := decide (trayBase ≤ a), addr := a, size := size
      locked := false, writing := false, wr := [], need := 0, got := [], fin := if (s.homeBay a).isSome then none else some .unmapped }
  (s.hed.next, { s with hed := { s.hed with next := s.hed.next + 1, ops := s.hed.ops ++ [o] } })

/-- The bytes that a row transaction has read. -/
def RowOp.bytes (o : RowOp) : List Byte :=
  let all := (List.range o.lines.length).flatMap (fun i =>
    match SMap.get (fun _ => none) o.got i with | some (_, l) => lineBytes l | none => lineBytes 0)
  (all.drop (o.addr % 64)).take o.size

/-- The first status other than OK among the line accesses of a row transaction. -/
def RowOp.worst (o : RowOp) : Status :=
  ((o.got.filterMap (fun e => e.2.map Prod.fst)).find? (fun st => st ≠ .ok)).getD .ok

/-- The mask of bytes [lo, hi) of the line at offset a. -/
def spanMask (a lo hi : Nat) : BitVec 64 :=
  BitVec.ofNat 64 (((List.range 64).filter (fun i => decide (lo ≤ a + i) && decide (a + i < hi))).map (fun i => 2 ^ i)).sum

/-- R249, R263: the writes of a row update: whole lines where the row's stride covers them, else under a byte mask. -/
def RowOp.writes (o : RowOp) (u : RowUpd) (new : List Byte) : List (BitVec 64 × Line) :=
  let base := o.addr / 64 * 64
  (List.range o.lines.length).map (fun i =>
    let a := base + 64 * i
    let old := match SMap.get (fun _ => none) o.got i with | some (_, l) => l | none => 0
    let m := spanMask a o.addr (o.addr + new.length)
    let l := mergeLine old (lineOfBytes ((List.range 64).map (fun j => if o.addr ≤ a + j then new.getD (a + j - o.addr) 0 else 0))) m
    (if 64 ≤ u.stride then BitVec.allOnes 64 else m, l))

/-- The placeholder of a row transaction in its tray engine. -/
def State.rowHolder (s : State) (o : RowOp) : Option TrayTxn :=
  s.tray.txns.find? (fun t => t.bay = o.bay && t.row = some o.id && (t.phase = .row || t.phase = .rowHold))

/-- Put transactions right behind a row's placeholder. -/
def insertAfter (id : Nat) (new : List TrayTxn) : List TrayTxn → List TrayTxn
  | [] => []
  | t :: r => if t.row = some id ∧ t.phase = .rowHold then t :: new ++ r else t :: insertAfter id new r

/-- Issue the line accesses of a row transaction's present phase that its tray engine makes. -/
def State.trayRowLines (s : State) (o : RowOp) (h : TrayTxn) : State :=
  let subs := (List.range o.need).foldl (fun (q : List TrayTxn × State) i =>
    let s := q.2
    let tag := SMap.get (fun _ => 0) s.tray.next o.bay
    let t : TrayTxn := { bay := o.bay, slot := h.slot, line := h.line + i, len := 1, phase := .queued, ttag := tag
                         req := some (s.rowReq o i o.wr[i]?), comp := h.comp, idx := h.idx, ent := h.ent, late := false, answer := none
                         row := some o.id }
    (q.1 ++ [t], { s with tray := { s.tray with next := SMap.set (fun _ => 0) s.tray.next o.bay ((tag + 1) % 65536) } })) ([], s)
  let s := subs.2
  (({ s with tray := { s.tray with txns := insertAfter o.id subs.1 s.tray.txns } } : State).obTook (o.bay / 6) o.need).runTray

/-- Run the queues of a row's lines. -/
def State.runRow (s : State) (o : RowOp) : State := if o.tray then s.runTray else o.lines.foldl (fun s l => s.runLine o.bay l) s

/-- R250: the home checks a row transaction, and it takes its place in the order of its first line. -/
def State.rowBegin (s : State) (o : RowOp) : State :=
  if !s.bayUp o.bay then s.setRowOp { o with fin := some .portDown }
  else if !s.bayRuns o.bay then s.wake (.bay (Fin.ofNat 24 o.bay))
  else match s.checkKeyless (Fin.ofNat 256 o.comp) o.addr with
    | .error f => (s.homeFault o.bay f s.node (s.node.toNat * 2 ^ 48 + o.addr)).setRowOp { o with fin := some f.status }
    | .ok p =>
      let o := { o with need := o.lines.length }
      let s := s.setRowOp o
      if o.tray then
        let s := s.addTray o.bay (s.slotOf o.addr) (trayOffset s.trayN o.addr / 64) o.need none p
        let h := s.tray.txns.getLast?.map (fun (t : TrayTxn) => { t with phase := .row, row := some o.id })
        ({ s with tray := { s.tray with txns := s.tray.txns.dropLast ++ h.toList } }).runTray
      else ({ s with txns := s.txns ++ [s.rowTxn o 0 o.wr[0]? p.idx p.ent] }).runLine o.bay ((o.lines.head?).getD 0)

/-- A row transaction ends: its lines are free again. -/
def State.rowFinish (s : State) (o : RowOp) (st : Status) : State :=
  let o := { o with locked := false, fin := some st }
  let s := { s.setRowOp o with tray := { s.tray with txns := s.tray.txns.filter (fun t => ¬(t.bay = o.bay ∧ t.row = some o.id)) } }
  s.runRow o

/-- R262-R264: a row update has read its row: its writes. -/
def State.rowApply (s : State) (o : RowOp) (u : RowUpd) : State :=
  let (new, sat) := u.apply o.bytes
  let s := s.saturated o.bay sat
  let o := { o with writing := true, wr := o.writes u new, got := [] }
  let s := s.setRowOp o
  if o.tray then match s.rowHolder o with | some h => s.trayRowLines o h | none => s.setRowOp { o with fin := some .portDown }
  else
    match s.covers o.addr with
    | some (i, e) => ({ s with txns := (List.range o.need).map (fun k => s.rowTxn o k o.wr[k]? i e) ++ s.txns }).runRow o
    | none => s.rowFinish o .unmapped

/-- Go on with one row transaction. -/
def State.rowStep (s : State) (id : Nat) : State :=
  match s.rowOp id with
  | none => s
  | some o =>
    if o.fin.isSome then s
    else if o.need = 0 then s.rowBegin o
    else if o.tray ∧ !o.locked then
      match s.rowHolder o with
      | none => s.rowFinish o .portDown
      | some h => if h.phase = .rowHold ∧ s.trayRoom o.bay o.need then let o := { o with locked := true }; (s.setRowOp o).trayRowLines o h else s
    else if o.got.length < o.need then (if o.locked then s.runRow o else s)
    else if o.worst ≠ .ok then s.rowFinish o o.worst
    else match o.use with
      | .update u => if o.writing then s.rowFinish o .ok else if o.tray ∧ !s.trayRoom o.bay o.need then s else s.rowApply o u
      | _ => s.rowFinish o .ok

/-- Go on with every row transaction; k bounds the rounds, each of which moves every transaction by one phase. -/
def State.rowSteps : Nat → State → State
  | 0, s => s
  | k + 1, s => State.rowSteps k ((s.hed.ops.map RowOp.id).foldl (fun s id => s.rowStep id) s)

end Sys2Proof.Machine
end

