-- ==== Sys2Proof/Machine/Heddle.lean ====
section
/-!
DEFINITION. Machine/Heddle.lean: the Heddles (R247-R280): tables and their versions, gather, update and filter tasks.
-/
namespace Sys2Proof.Machine

open Sys2Proof

/-! ### Tables (R247, R248) -/

/-- A Table Descriptor. -/
structure TableDesc where
  tid : Nat
  mode : Nat
  mulComb : Bool
  acc : Bool
  fmt : Nat
  size : Nat
  log2stride : Nat
  log2rows : Nat
  base : Nat
  rows : Nat
  mult : Nat
  base2 : Nat
  m : Nat
  version : Nat
deriving DecidableEq, Repr

/-- R16, R247: the fields of a descriptor. A hashed table has 2^LOG2ROWS rows, of which ROWS holds the low 40 bits. -/
def TableDesc.ofLine (l : Line) : TableDesc :=
  let f := fun o n => bytesAt l o n
  { tid := bitsAt l 0 2 12, mode := f 2 1 % 4, mulComb := (f 2 1).testBit 2, acc := (f 2 1).testBit 3, fmt := f 3 1 % 16, size := f 4 1 * 32
    log2stride := f 5 1, log2rows := f 6 1, base := bitsAt l 8 8 48
    rows := if f 2 1 % 4 = 1 then 2 ^ (min 40 (f 6 1)) else bitsAt l 0x10 8 40
    mult := f 0x18 8, base2 := bitsAt l 0x20 8 48, m := bitsAt l 0x28 8 40, version := f 0x30 4 }

/-- R247, R248: is a descriptor free of reserved encodings, with every field in its range? -/
def descOk (l : Line) : Bool :=
  let d := TableDesc.ofLine l
  decide (d.mode < 3) && decide (d.fmt ≤ 6) && decide (32 ≤ d.size) && decide (d.size ≤ 4096) && decide (5 ≤ d.log2stride) &&
  decide (d.log2stride ≤ 12) &&
  (d.mode ≠ 1 || (decide (1 ≤ d.log2rows) && decide (d.log2rows ≤ 40) && decide (bitsAt l 0x10 8 40 = d.rows % 2 ^ 40) && decide (d.mult % 2 = 1))) &&
  (d.mode ≠ 2 || (decide (1 ≤ d.m) && decide (d.fmt ≤ 4)))

/-- The elements of a row (R248). -/
def TableDesc.elems (d : TableDesc) : Nat := d.size / max 1 (fmtSize d.fmt)

/-- The bytes between rows. -/
def TableDesc.stride (d : TableDesc) : Nat := 2 ^ d.log2stride

/-- R248: the rows that an index names; none: out of range. -/
def TableDesc.named (d : TableDesc) (x : Nat) : Option (List Nat) :=
  if d.mode = 0 then (if x < d.rows then some [d.base + x * d.stride] else none)
  else if d.mode = 1 then some [d.base + (x * d.mult % 2 ^ 64) / 2 ^ (64 - d.log2rows) * d.stride]
  else if x < d.rows * d.m then some [d.base + x / d.m * d.stride, d.base2 + x % d.m * d.stride] else none

/-- Does a range lie in one enabled entry of the current map of a composition? stackOnly: of the stack tier. -/
def State.inOne (s : State) (c a n : Nat) (stackOnly : Bool) : Bool :=
  match s.covers a with
  | some (_, e) => decide (e.comp.val = c) && e.holds (granule (a + max 1 n - 1)) && (!stackOnly || decide (e.tier = .stack))
  | none => false

/-! ### The registry (R251, R252, R280) -/

/-- The Heddle registry's page. -/
def pgHReg : Nat := pgHub 0x18

/-- The CURRENT record of a table. -/
def State.curRec (s : State) (c tid : Nat) : Option VerRec := s.hed.recs.find? (fun r => r.comp = c && r.tid = tid && r.state = 0)

/-- A version record. -/
def State.verRec (s : State) (id : Nat) : Option VerRec := s.hed.recs.find? (fun r => r.id = id)

/-- Replace a version record. -/
def State.setRec (s : State) (r : VerRec) : State :=
  { s with hed := { s.hed with recs := s.hed.recs.map (fun q => if q.id = r.id then r else q) } }

/-- R251: RETIRED records that wait for room join the retirement queue, which has 64 entries. -/
def State.retFill (s : State) : State :=
  let n := 64 - s.hed.retired.length
  { s with hed := { s.hed with retired := s.hed.retired ++ s.hed.retWait.take n, retWait := s.hed.retWait.drop n } }

/-- R251, R268: a DRAINING record whose count is 0 becomes RETIRED: it joins the retirement queue once that has room, and its
redirect entries are freed. -/
def State.retireRec (s : State) (id : Nat) : State :=
  match s.verRec id with
  | some r =>
    if r.state = 1 ∧ r.count = 0 then
      let s := (s.setRec { r with state := 2 }).bumpHub Reg.HReg.RETIRE_CNT
      State.retFill { s with hed := { s.hed with retWait := s.hed.retWait ++ [id], redir := s.hed.redir.filter (fun e => e.ver ≠ id) } }
    else s
  | none => s

/-- TBL_STAT with BUSY clear. st, cnt: STATE and the count, for a query. -/
def State.tblResult (s : State) (res st cnt : Nat) : State :=
  s.setHub Reg.HReg.TBL_STAT (BitVec.ofNat 64 (res + cnt % 65536 * 2 ^ 12 + st * 2 ^ 28))

/-- Is a table command busy? -/
def State.tblBusy (s : State) : Bool := bit (s.hub Reg.HReg.TBL_STAT) 31

/-- R251: TBL_CMD OP 0x1: the descriptor at TBL_ADDR is read. -/
def State.tblInstall (s : State) (c tid : Nat) : State :=
  if s.tblBusy then s.overrun (pgOfHub Reg.HReg.TBL_CMD)
  else
    let a := (s.hub Reg.HReg.TBL_ADDR).toNat
    let s := s.setHub Reg.HReg.TBL_STAT (BitVec.ofNat 64 (2 ^ 31))
    let (b, s) := s.startBatch .tblDesc [(hubIn, s.readReq (Fin.ofNat 256 c) a)]
    { s with hed := { s.hed with cmd := some { comp := c, tid := tid, addr := a, batch := b } } }

/-- R280: the RESULT of the checks of a descriptor. -/
def State.tblCheck (s : State) (k : TblCmd) (l : Line) : Nat :=
  let d := TableDesc.ofLine l
  if !descOk l ∨ d.tid ≠ k.tid then 1
  else if !s.inOne k.comp d.base (d.rows * d.stride) false ∨ (d.mode = 2 ∧ !s.inOne k.comp d.base2 (d.m * d.stride) false) then 2
  else if d.base % d.stride ≠ 0 ∨ (d.mode = 2 ∧ d.base2 % d.stride ≠ 0) ∨ d.stride < d.size + (if d.acc then 4 else 0) then 3
  else if 16384 ≤ s.hed.recs.length then 4
  else 0

/-- R251: the descriptor has been read: the install is made or rejected. -/
def State.tblRead (s : State) (cs : List Cmp) : State :=
  match s.hed.cmd with
  | none => s
  | some k =>
    let s := { s with hed := { s.hed with cmd := none } }
    let l := ((cs.head?).bind Cmp.data).getD 0
    if firstBad cs ≠ .ok then s.tblResult 6 0 0
    else
      let res := s.tblCheck k l
      if res ≠ 0 then s.tblResult res 0 0
      else
        let old := s.curRec k.comp k.tid
        let s := match old with | some r => s.setRec { r with state := 1 } | none => s
        let r : VerRec := { id := s.hed.nextRec, comp := k.comp, tid := k.tid, addr := k.addr, version := (TableDesc.ofLine l).version, count := 0
                            state := 0, stride := (TableDesc.ofLine l).stride }
        let s := { s with hed := { s.hed with recs := s.hed.recs ++ [r], nextRec := s.hed.nextRec + 1 } }
        let s := (s.bumpHub Reg.HReg.INSTALL_CNT).tblResult 0 0 0
        match old with | some r => s.retireRec r.id | none => s

/-- R251: TBL_CMD OP 0x2. -/
def State.tblWithdraw (s : State) (c tid : Nat) : State :=
  if s.tblBusy then s.overrun (pgOfHub Reg.HReg.TBL_CMD)
  else match s.curRec c tid with
    | none => s.tblResult 5 0 0
    | some r => ((s.setRec { r with state := 1 }).tblResult 0 0 0).retireRec r.id

/-- R278: TBL_CMD OP 0x3. -/
def State.tblQuery (s : State) (c tid : Nat) : State :=
  if s.tblBusy then s.overrun (pgOfHub Reg.HReg.TBL_CMD)
  else match s.curRec c tid with
    | none => s.tblResult 5 0 0
    | some r => s.tblResult 0 1 r.count

/-- R278: what RET_POP holds. -/
def State.retPop (s : State) : Nat :=
  match s.hed.retired.head?.bind s.verRec with
  | some r => 2 ^ 63 + r.comp * 2 ^ 44 + r.tid * 2 ^ 32 + r.version
  | none => 0

/-- R251, R278: RET_POP is read: the oldest retirement entry is removed and its record freed, and a waiting one takes its room. -/
def State.retDrop (s : State) : State :=
  match s.hed.retired with
  | [] => s
  | id :: r => State.retFill { s with hed := { s.hed with retired := r, recs := s.hed.recs.filter (fun q => q.id ≠ id) } }

/-! ### Tasks (R252, R255) -/

/-- The task at its lead. -/
def State.hedTask (s : State) (t : TaskRef) : Option HedTask := s.hed.tasks.find? (fun h => h.t = t)

/-- Replace a task. -/
def State.setHed (s : State) (h : HedTask) : State :=
  { s with hed := { s.hed with tasks := s.hed.tasks.map (fun g => if g.t = h.t then h else g) } }

/-- R277: record the first failure of a Heddle. -/
def State.hedFault (s : State) (n : Nat) (st : Status) (cause table comp fa : Nat) : State :=
  s.recordFirst (pgHed n) Reg.Hed.HED_FAULT_INFO Reg.Hed.HED_FAULT_ADDR 31
    (2 ^ 31 + st.code * 2 ^ 27 + cause * 2 ^ 23 + table % 4096 * 2 ^ 8 + comp) fa

/-- The LEAD field of a body. -/
def leadOf (l : Line) : Nat := bytesAt l 6 1 % 32

/-- R252, R255: bind a table task, or end it at once. -/
def State.hedBind (s : State) (t : TaskRef) (x : TaskSt) : Option Status × State :=
  if x.kind < 3 ∨ 5 < x.kind then (none, s)
  else
    let n := leadOf x.body
    if 24 ≤ n then (some .unmapped, s)
    else if !s.bayUp n then (some .portDown, s)
    else if s.bayShare x.comp n = 0 then (some .unmapped, s)
    else
      let s := s.wake (.bay (Fin.ofNat 24 n))
      let h : HedTask := { t := t, kind := x.kind, lead := n, comp := x.comp, ver := none, stage := 0, desc := none, lists := [], rows := []
                           scans := [], outs := [], since := 0, cnt := 0, st := .ok }
      if x.kind = 5 then (none, { s with hed := { s.hed with tasks := s.hed.tasks ++ [h] } })
      else
        let table := bitsAt x.body 4 2 12
        match s.curRec x.comp table with
        | none => (some .unmapped, s.hedFault n .unmapped 1 table x.comp 0)
        | some r =>
          let s := (s.setRec { r with count := r.count + 1 }).bumpHub Reg.HReg.BIND_CNT
          (none, { s with hed := { s.hed with tasks := s.hed.tasks ++ [{ h with ver := some r.id }] } })

/-- A gather, update or filter body's common fields. -/
structure HedBody where
  hkind : Nat
  flags : Nat
  fmt : Nat
  comp : Nat
  table : Nat
  lead : Nat
  nidx : Nat
  w3 : Nat
  idx : Nat
  off : Nat
  out : Nat
  key : Nat
  ostride : Nat
  flag : Nat
  last : Nat
deriving DecidableEq, Repr

/-- R16: the fields of a body at the places of R257 and R261. w3: NBAGS, or an update's GSTRIDE. -/
def HedBody.ofLine (l : Line) : HedBody :=
  let f := fun o n => bytesAt l o n
  let g := fun o n k => bitsAt l o n k
  { hkind := f 0 1, flags := f 1 1 % 8, fmt := f 2 1 % 16, comp := f 3 1, table := g 4 2 12, lead := leadOf l, nidx := g 8 4 17
    w3 := if f 0 1 = 1 then g 0x0C 4 16 else g 0x0C 4 17, idx := g 0x10 8 48, off := g 0x18 8 48, out := g 0x20 8 60, key := f 0x28 4
    ostride := g 0x2C 4 24, flag := g 0x30 8 60, last := g 0x38 8 60 }

/-- R257: the checks of a gather body that need no table. -/
def gatherOk (l : Line) : Bool :=
  let b := HedBody.ofLine l
  b.hkind = 0 && decide (b.lead < 24) && decide (1 ≤ b.nidx) && decide (b.nidx ≤ 65536) && b.idx % 8 = 0 && b.out % 64 = 0 &&
  b.ostride % 64 = 0 && b.flag % 8 = 0 && b.last % 64 = 0 && (b.flags % 4 = 0 || (decide (1 ≤ b.w3) && decide (b.w3 ≤ 65536) && b.off % 4 = 0))

/-- R261: the checks of an update body that need no table. -/
def updateOk (l : Line) : Bool :=
  let b := HedBody.ofLine l
  b.hkind = 1 && decide (b.flags % 4 < 3) && decide (b.lead < 24) && decide (1 ≤ b.nidx) && decide (b.nidx ≤ 65536) && b.w3 % 32 = 0 &&
  b.idx % 8 = 0 && b.off % 32 = 0 && b.flag % 8 = 0

/-- A filter body (R273). -/
structure FilterBody where
  emitIdx : Bool
  topk : Bool
  scoreSrc : Bool
  small : Bool
  size : Nat
  comp : Nat
  k : Nat
  lead : Nat
  sfmt : Nat
  src : Nat
  nrec : Nat
  soff : Nat
  prog : Nat
  out : Nat
  key : Nat
  omax : Nat
  scores : Nat
  flag : Nat
deriving DecidableEq, Repr

/-- R16, R273: read a filter body; none: a reserved encoding or a field outside its range. -/
def FilterBody.parse (l : Line) : Option FilterBody :=
  let f := fun o n => bytesAt l o n
  let g := fun o n k => bitsAt l o n k
  let b : FilterBody :=
    { emitIdx := (f 1 1).testBit 0, topk := (f 1 1).testBit 1, scoreSrc := (f 1 1).testBit 2, small := (f 1 1).testBit 3, size := 2 ^ f 2 1
      comp := f 3 1, k := g 4 2 11, lead := leadOf l, sfmt := f 7 1 % 16, src := g 8 8 48, nrec := f 0x10 4, soff := f 0x14 2
      prog := g 0x18 8 48, out := g 0x20 8 60, key := f 0x28 4, omax := f 0x2C 4, scores := g 0x30 8 48, flag := g 0x38 8 60 }
  if f 0 1 = 2 ∧ 3 ≤ f 2 1 ∧ f 2 1 ≤ 12 ∧ (!b.topk ∨ (1 ≤ b.k ∧ b.k ≤ 1024)) ∧ b.lead < 24 ∧ (b.sfmt ≤ 2 ∨ b.sfmt = 5) ∧
     (!b.scoreSrc ∨ b.sfmt = 0) ∧ b.src % b.size = 0 ∧ 1 ≤ b.nrec ∧
     (b.scoreSrc ∨ (b.soff % fmtSize b.sfmt = 0 ∧ b.soff + fmtSize b.sfmt ≤ b.size)) ∧ b.prog % 64 = 0 ∧ b.out % 64 = 0 ∧ b.scores % 4 = 0 ∧
     b.flag % 8 = 0 then some b else none

/-- A read of a line under the Region Key of the region that holds it (R250). -/
def State.regionRead (s : State) (a : Nat) : Req :=
  s.keyRead (match s.covers a with | some (_, e) => e.key | none => 0) a

/-- How many tasks Bay n's Heddle leads (R255). -/
def State.hedLed (s : State) (n : Nat) : Nat := (s.hed.tasks.filter (fun h => h.lead = n && decide (1 ≤ h.stage) && h.stage ≠ 5)).length

/-- A task ends at its lead. -/
def State.hedEnd (s : State) (h : HedTask) (st : Status) : State :=
  let s := s.setHed { h with stage := 5 }
  ({ s with hed := { s.hed with sorter := s.hed.sorter.filter (fun q => q.2 ≠ h.t), poolQ := s.hed.poolQ.filter (fun t => t ≠ h.t) } }).report h.t st

/-- R255: a task with a bad body ends with UNMAPPED; the failure is recorded with its cause. -/
def State.hedReject (s : State) (h : HedTask) (cause table fa : Nat) : State :=
  (s.hedFault h.lead .unmapped cause table h.comp fa).hedEnd h .unmapped

/-- R255: is a task the first that waits at its lead? They are kept in dispatch order. -/
def State.hedFirst (s : State) (h : HedTask) : Bool :=
  (s.hed.tasks.find? (fun g => g.lead = h.lead && g.stage = 0)).map HedTask.t = some h.t

/-- May the Heddle of Bay n begin a task (R255, R268)? -/
def State.hedReady (s : State) (n : Nat) : Bool := s.bayUp n && s.bayRuns n && s.hed.valid.contains n && decide (s.hedLed n < 8)

/-- R255, R258, R263, R275: a task reaches its lead, which reads the descriptor of its version, or its program. -/
def State.hedStart (s : State) (t : TaskRef) (kind : Nat) : State :=
  match s.hedTask t with
  | none => s
  | some h =>
    if h.stage ≠ 0 ∨ h.kind ≠ kind ∨ !s.hedFirst h ∨ !s.hedReady h.lead then s
    else match s.beginTask t kind with
      | none => s
      | some (x, s) =>
        let cnt := if kind = 3 then Reg.Hed.GATHER_CNT else if kind = 4 then Reg.Hed.UPDATE_CNT else Reg.Hed.FILTER_CNT
        let s := s.bump (pgHed h.lead) cnt
        let ok := if kind = 3 then gatherOk x.body else if kind = 4 then updateOk x.body else (FilterBody.parse x.body).isSome
        if !ok then s.hedReject h 2 (if kind = 5 then 0 else bytesAt x.body 4 2) 0
        else
          let a := match h.ver.bind s.verRec with | some r => r.addr | none => bitsAt x.body 0x18 8 48
          ((s.setHed { h with stage := 1 }).startBatch (.hedLists t) [(24 + h.lead, s.regionRead a)]).2

/-- The reads of some bytes by a lead, each line under its region's key. -/
def State.listReads (s : State) (n a len : Nat) : List (Nat × Req) := (spanLines a len).map (fun x => (24 + n, s.regionRead x))

/-- R257, R261: the checks of a body against its table. -/
def bodyFits (kind : Nat) (l : Line) (d : TableDesc) : Bool :=
  let b := HedBody.ofLine l
  if kind = 3 then
    let pool := b.flags % 4
    let op := if pool = 1 then RedOp.sum else if pool = 2 then RedOp.mean else RedOp.max
    let row := if pool = 0 then d.size else d.elems * fmtSize b.fmt
    (pool = 0 || redCombo op d.fmt b.fmt) && decide (alignUp row 64 ≤ b.ostride)
  else
    let uop := b.flags % 4
    (if uop = 1 then b.fmt = d.fmt else decide (b.fmt ≤ 4) && decide (d.fmt ≤ 4)) && !(d.mode = 2 && d.mulComb) && (uop ≠ 2 || d.acc) &&
    decide (d.elems * fmtSize b.fmt ≤ b.w3)

/-- The scanning Heddles of a filter: the Bays that home one of its records. -/
def State.scanBays (s : State) (b : FilterBody) : List Nat :=
  (List.range 24).filter (fun n => (List.range b.nrec).any (fun i => s.homeBay (b.src + i * b.size) = some n))

/-- R249, R275: the row transactions that read a filter's records. -/
def State.startScan (s : State) (h : HedTask) (b : FilterBody) : State :=
  let s := s.setHed { h with stage := 3, scans := s.scanBays b }
  (List.range b.nrec).foldl (fun s i => (s.newRowOp (.scan h.t i) h.comp (b.src + i * b.size) b.size).2) s

/-- One term of a predicate program (R274). -/
def term (l : Line) (j : Nat) : Nat := bytesAt l (8 * j) 8

/-- R274: the terms in use. -/
def terms (l : Line) : List Nat := ((List.range 8).map (term l)).takeWhile (fun t => t.testBit 11)

/-- R274: is a term free of reserved encodings? -/
def termOk (size t : Nat) : Bool :=
  let sz := fmtSize (nfld t 19 16)
  decide (nfld t 19 16 ≤ 6) && decide (nfld t 15 13 ≤ 6) && nfld t 31 20 % max 1 sz = 0 && decide (nfld t 31 20 + sz ≤ size)

/-- R258, R263, R275: what a lead reads next has arrived: first the descriptor or program, then the lists. -/
def State.hedLists (s : State) (t : TaskRef) (cs : List Cmp) : State :=
  match s.hedTask t, s.task t with
  | some h, some x =>
    if firstBad cs ≠ .ok then s.hedEnd h (firstBad cs)
    else
      let b := HedBody.ofLine x.body
      let l := ((cs.head?).bind Cmp.data).getD 0
      let sort := fun (s : State) (h : HedTask) =>
        let s := s.setHed { h with stage := 2 }
        { s with hed := { s.hed with sorter := s.hed.sorter ++ [(h.lead, t)] } }
      match h.desc with
      | some _ =>
        let h := { h with lists := cs.map (fun c => c.data.getD 0) }
        if h.kind = 5 then match FilterBody.parse x.body with | some fb => s.startScan h fb | none => s
        else sort s h
      | none =>
        let h := { h with desc := some l }
        if h.kind = 5 then
          match FilterBody.parse x.body with
          | none => s
          | some fb =>
            if !(terms l).all (termOk fb.size) then s.hedReject h 2 0 0
            else if !s.inOne h.comp fb.src (fb.nrec * fb.size) true then s.hedReject h 0xA 0 (s.node.toNat * 2 ^ 48 + fb.src)
            else if fb.scoreSrc then ((s.setHed h).startBatch (.hedLists t) (s.listReads h.lead fb.scores (4 * fb.nrec))).2
            else s.startScan h fb
        else
          let d := TableDesc.ofLine l
          if !descOk l ∨ !bodyFits h.kind x.body d then s.hedReject h 2 b.table 0
          else
            let w := if b.flags.testBit 2 then 8 else 4
            let second := if h.kind = 4 then s.listReads h.lead b.off ((b.nidx - 1) * b.w3 + d.elems * fmtSize b.fmt)
              else if b.flags % 4 = 0 then [] else s.listReads h.lead b.off (4 * b.w3)
            ((s.setHed h).startBatch (.hedLists t) (s.listReads h.lead b.idx (w * b.nidx) ++ second)).2
  | _, _ => s

/-! ### Sorting, fetching and pooling (R258-R260) -/

/-- The bytes of a list at local offset a, from its lines. -/
def listBytes (ls : List Line) (a : Nat) : List Byte := (ls.flatMap lineBytes).drop (a % 64)

/-- The index list of a task. -/
def HedTask.indices (h : HedTask) (b : HedBody) : List Nat :=
  let w := if b.flags.testBit 2 then 8 else 4
  let bs := listBytes h.lists b.idx
  (List.range b.nidx).map (fun i => num bs (w * i) w)

/-- The lines of the second list of a task. -/
def HedTask.second (h : HedTask) (b : HedBody) : List Line :=
  let w := if b.flags.testBit 2 then 8 else 4
  h.lists.drop (spanLines b.idx (w * b.nidx)).length

/-- The bag offsets of a gather, with the end of the last bag (R257). -/
def HedTask.offsets (h : HedTask) (b : HedBody) : List Nat :=
  let bs := listBytes (h.second b) b.off
  (List.range b.w3).map (fun i => num bs (4 * i) 4) ++ [b.nidx]

/-- R257: do the offsets start at 0 and not decrease? -/
def offsetsOk : List Nat → Bool
  | [] => true
  | [_] => true
  | a :: b :: r => decide (a ≤ b) && offsetsOk (b :: r)

/-- R258 step 3: the unique rows of one part, in rising address, with the positions that name each. -/
def uniqueRows (part : Nat) (named : List (Nat × Nat)) : List HedRow :=
  let places := (named.map Prod.fst).foldl (fun l p => NSet.insert p l) []
  places.map (fun p => { phys := p, pos := (named.filter (fun q => q.1 = p)).map Prod.snd, part := part, tries := 0, op := none, st := none
                         data := 0, pooled := false })

/-- The unique rows of a batch. -/
def TableDesc.rowsOf (d : TableDesc) (idx : List Nat) : List HedRow :=
  let named := (idx.zipIdx).filterMap (fun q => (d.named q.1).map (fun l => (l, q.2)))
  uniqueRows 0 (named.filterMap (fun q => (q.1[0]?).map (fun p => (p, q.2)))) ++
  uniqueRows 1 (named.filterMap (fun q => (q.1[1]?).map (fun p => (p, q.2))))

/-- R268: the present place of a row. -/
def State.placeRow (s : State) (ver row : Nat) : Nat :=
  match s.hed.redir.find? (fun e => e.ver = ver && e.row = row) with
  | some e => e.place
  | none => row

/-- Send the fetch of row i of a task. -/
def State.fetchRow (s : State) (h : HedTask) (i : Nat) (r : HedRow) (size : Nat) : State :=
  let (id, s) := s.newRowOp (.fetch h.t i) h.comp (s.placeRow (h.ver.getD 0) r.phys) size
  match s.hedTask h.t with
  | some h => s.setHed { h with rows := h.rows.set i { r with op := some id } }
  | none => s

/-- The POOL slots of a composition (R228). -/
def State.poolSlots (s : State) (c : Nat) : Nat := (s.quota c).poolHi - (s.quota c).poolLo

/-- The operation that a gather's POOL names. -/
def poolOp (flags : Nat) : RedOp := if flags % 4 = 1 then .sum else if flags % 4 = 2 then .mean else .max

/-- R263: the combined gradient of a row, through the lead's Loom slots from slot k: FP32 patterns. -/
def State.combine (s : State) (n k gfmt e : Nat) (grads : List (List Nat)) : List Nat × State :=
  let w := elemWidth (usesPair .sum gfmt)
  (List.range e).foldl (fun (q : List Nat × State) j =>
    let raw := grads.foldl (fun a g => slotAdd .sum gfmt a (g.getD j 0)) (slotInit .sum)
    (q.1 ++ [(roundSlot .sum gfmt 0 1 raw).1], q.2.setAcc n (k + j * w) (usesPair .sum gfmt) raw)) ([], s)

/-- R263: send the updates of a batch's rows, in sorted order. -/
def State.sendUpdates (s : State) (h : HedTask) (b : HedBody) (d : TableDesc) : State :=
  let uop := b.flags % 4
  let bs := listBytes (h.second b) b.off
  let gsz := fmtSize b.fmt
  let grad := fun (i : Nat) => elemsOf gsz (((bs.drop (i * b.w3)).take (d.elems * gsz)))
  let per := d.elems * elemWidth (usesPair .sum b.fmt)
  let q := s.quota h.comp
  let group := max 1 ((q.poolHi - q.poolLo) / max 1 per)
  (h.rows.zipIdx).foldl (fun s p =>
    let (r, i) := p
    let (data, s) := if uop = 1 then
        (((bs.drop ((r.pos.foldl max 0) * b.w3)).take d.size).map BitVec.toNat, s)
      else s.combine h.lead (q.poolLo + i % group * per) b.fmt d.elems (r.pos.map grad)
    let u : RowUpd := { id := s.hed.next, t := h.t, i := i, comp := h.comp, ver := h.ver.getD 0, phys := r.phys
                        place := s.placeRow (h.ver.getD 0) r.phys, uop := uop, fmt := d.fmt, size := d.size, stride := d.stride, acc := d.acc
                        scale := bytesAt (((s.task h.t).map TaskSt.body).getD 0) 0x20 4
                        decay := bytesAt (((s.task h.t).map TaskSt.body).getD 0) 0x24 4, data := data }
    { s with hed := { s.hed with next := s.hed.next + 1, upds := s.hed.upds ++ [u] } }) s

/-- R312: the Bay of a combine and the slots that it holds there: first and first after. -/
def Comb.slots (c : Comb) : Nat × Nat × Nat :=
  (num c.desc 2 1 % 32, num c.desc 8 4 % 2 ^ 20, num c.desc 8 4 % 2 ^ 20 + num c.desc 3 1 * num c.desc 6 1 * ((num c.desc 4 2 % 512 + 4 + 9) / 10))

/-- R313: does an OPEN combine of a composition hold one of some slots of Bay n? -/
def State.combHolds (s : State) (n comp lo hi : Nat) : Bool :=
  s.sp.combs.any (fun c => c.state = 1 && c.comp = comp && c.slots.1 = n && meet c.slots.2.1 c.slots.2.2 lo hi)

/-- R258: the pooling slots that a gather or an update uses in its lead's Loom (R263). -/
def HedTask.poolNeed (h : HedTask) (x : TaskSt) : Nat :=
  let b := HedBody.ofLine x.body
  let d := TableDesc.ofLine (h.desc.getD 0)
  if h.kind = 3 then (if b.flags % 4 = 0 then 0 else b.w3 * d.elems * elemWidth (usesPair (poolOp b.flags) d.fmt))
  else d.elems * elemWidth (usesPair .sum b.fmt)

/-- R258, R277, R313: must a task wait for its composition's POOL range: for the slots of an open combine, for a batch that
pools there, or for one that waits before it? -/
def State.poolWaits (s : State) (h : HedTask) (x : TaskSt) : Bool :=
  decide (h.poolNeed x ≠ 0) &&
  (s.combHolds h.lead h.comp (s.quota h.comp).poolLo (if h.kind = 3 then (s.quota h.comp).poolLo + h.poolNeed x else (s.quota h.comp).poolHi) ||
   s.hed.tasks.any (fun g => g.t ≠ h.t && g.lead = h.lead && g.comp = h.comp && g.kind = 3 && g.stage = 3 &&
     (match s.task g.t with | some y => decide (g.poolNeed y ≠ 0) | none => false)) ||
   (s.hed.poolQ.takeWhile (fun t => t ≠ h.t)).any (fun t => s.hed.tasks.any (fun g => g.t = t && g.lead = h.lead && g.comp = h.comp)))

/-- R313: does a gather running at Bay n pool into one of some slots of its composition? -/
def State.gatherHolds (s : State) (n comp lo hi : Nat) : Bool :=
  s.hed.tasks.any (fun h => h.lead = n && h.comp = comp && h.kind = 3 && h.stage = 3 &&
    match s.task h.t with
    | some x => meet (s.quota comp).poolLo ((s.quota comp).poolLo + h.poolNeed x) lo hi
    | none => false)

/-- R258, R263: the fetches or the updates of a sorted batch begin. -/
def State.hedRun (s : State) (h : HedTask) (x : TaskSt) : State :=
  let b := HedBody.ofLine x.body
  let d := TableDesc.ofLine (h.desc.getD 0)
  let h := { h with stage := 3 }
  let s := ({ s with hed := { s.hed with poolQ := s.hed.poolQ.filter (fun t => t ≠ h.t) } } : State).setHed h
  if h.kind = 4 then s.sendUpdates h b d
  else (h.rows.zipIdx).foldl (fun s p => s.fetchRow h p.2 p.1 d.size) s

/-- R258, R263: the sorter of a lead finishes its first batch: the batch begins, or waits for its composition's POOL range. -/
def State.sortDone (s : State) (t : TaskRef) : State :=
  match s.hedTask t, s.task t with
  | some h, some x =>
    if h.stage ≠ 2 ∨ (s.hed.sorter.find? (fun q => q.1 = h.lead)).map Prod.snd ≠ some t then s
    else
      let s := { s with hed := { s.hed with sorter := s.hed.sorter.filter (fun q => q.2 ≠ t) } }
      let b := HedBody.ofLine x.body
      let d := TableDesc.ofLine (h.desc.getD 0)
      let idx := h.indices b
      let s := s.addN (pgHed h.lead) Reg.Hed.IDX_CNT b.nidx
      let s := s.addN (pgHed h.lead) Reg.Hed.SORT_CYC_CNT ((b.nidx + 15) / 16)
      let offs := h.offsets b
      if idx.any (fun v => (d.named v).isNone) then s.hedReject h 3 b.table 0
      else if h.kind = 3 ∧ b.flags % 4 ≠ 0 ∧ (offs.head? ≠ some 0 ∨ !offsetsOk offs) then s.hedReject h 3 b.table 0
      else if s.poolSlots h.comp < h.poolNeed x then s.hedReject h 4 b.table 0
      else
        let h := { h with rows := d.rowsOf idx }
        if s.poolWaits h x then
          ({ s with hed := { s.hed with poolQ := s.hed.poolQ ++ [t] } } : State).setHed { h with stage := 6, since := s.now }
        else s.hedRun h x
  | _, _ => s

/-- R258, R277: the batches whose wait for their POOL range is over begin, in their order at the sorter; the wait is counted in
cycles of 1.7 GHz. -/
def State.poolSettle (s : State) : State :=
  s.hed.poolQ.foldl (fun s t =>
    match s.hedTask t, s.task t with
    | some h, some x =>
      if h.stage ≠ 6 ∨ s.poolWaits h x then s
      else (s.addN (pgHed h.lead) Reg.Hed.POOL_WAIT_CYC_CNT ((s.now - h.since) * 17 / 10)).hedRun h x
    | _, _ => s) s

/-- R260: the lowest-addressed failed row of a task. -/
def HedTask.worst (h : HedTask) : Option HedRow :=
  (h.rows.filter (fun r => r.st ≠ some .ok)).foldl (fun (a : Option HedRow) r =>
    match a with
    | some q => if r.phys < q.phys then some r else a
    | none => some r) none

/-- The value of position i of a gather as element patterns, where every row it names was fetched; for a composed table
COMB of the two parts (R248). -/
def HedTask.vector (h : HedTask) (d : TableDesc) (i : Nat) : Option (List Nat) :=
  let part := fun (k : Nat) => (h.rows.find? (fun r => r.part = k && r.pos.contains i)).bind (fun r =>
    if r.st = some .ok then some (elemsOf (fmtSize d.fmt) (leBytes d.size r.data)) else none)
  if d.mode ≠ 2 then part 0
  else match part 0, part 1 with
    | some a, some c => some ((a.zip c).map (fun p =>
        (roundVal d.fmt (if d.mulComb then (valOf d.fmt p.1).mul (valOf d.fmt p.2) else (valOf d.fmt p.1).add (valOf d.fmt p.2))).1))
    | _, _ => none

/-- R258 step 5, R259: pool one bag at slot k of the lead: the output elements. vs: the bag's vectors. -/
def State.poolBag (s : State) (n k e : Nat) (op : RedOp) (sf df : Nat) (vs : List (List Nat)) : List Elem × State :=
  let w := elemWidth (usesPair op sf)
  (List.range e).foldl (fun (q : List Elem × State) j =>
    let raw := vs.foldl (fun a v => slotAdd op sf a (v.getD j 0)) (slotInit op)
    let out : Elem := if vs = [] then (0, false) else roundSlot op sf df vs.length raw
    (q.1 ++ [out], q.2.setAcc n (k + j * w) (usesPair op sf) raw)) ([], s)

/-- The positions of bag b. -/
def bagOf (offs : List Nat) (b : Nat) : List Nat := (List.range (offs.getD (b + 1) 0 - offs.getD b 0)).map (fun i => offs.getD b 0 + i)

/-- Pad bytes with zeros to whole lines. -/
def padLines (bs : List Byte) : List Line := linesOf (bs ++ List.replicate (alignUp bs.length 64 - bs.length) 0)

/-- R258, R259: the output rows of a gather: each its bytes, or none where it failed. -/
def State.gatherRows (s : State) (h : HedTask) (b : HedBody) (d : TableDesc) : List (Option (List Byte)) × State :=
  if b.flags % 4 = 0 then
    ((List.range b.nidx).map (fun i => (h.vector d i).map (fun v => v.flatMap (leBytes (fmtSize d.fmt)))), s)
  else
    let op := poolOp b.flags
    let offs := h.offsets b
    let per := d.elems * elemWidth (usesPair op d.fmt)
    (List.range b.w3).foldl (fun (q : List (Option (List Byte)) × State) j =>
      let vs := (bagOf offs j).map (h.vector d)
      if vs.any Option.isNone then (q.1 ++ [none], q.2)
      else
        let (es, s) := q.2.poolBag h.lead ((q.2.quota h.comp).poolLo + j * per) d.elems op d.fmt b.fmt (vs.filterMap id)
        let s := s.saturated h.lead (es.filter Prod.snd).length
        (q.1 ++ [some (es.flatMap (fun e => leBytes (fmtSize b.fmt) e.1))], s)) ([], s)

/-- The full-line writes of some lines from a fabric address. -/
def State.outWrites (s : State) (n fa : Nat) (key : Word) (ls : List Line) : List (Nat × Req) :=
  ls.zipIdx.map (fun p => (24 + n, s.writeReq (fa + 64 * p.2) key none (BitVec.allOnes 64) p.1))

/-- R260: the error map's lines. -/
def errMap (bad : List Bool) : List Line :=
  (List.range ((bad.length + 511) / 512)).map (fun i =>
    BitVec.ofNat 512 ((((bad.drop (512 * i)).take 512).zipIdx.map (fun p => if p.1 then 2 ^ p.2 else 0)).sum))

/-- R256: a task ends: its flag, if it has one and wrote something, then its status. -/
def State.hedFlag (s : State) (h : HedTask) (flag : Nat) (key : Word) (n : Nat) (st : Status) (wrote : Bool) : State :=
  if flag = 0 ∨ !wrote then s.hedEnd h st
  else
    let h := { h with stage := 4, st := st }
    ((s.setHed h).startBatch (.endWith h.t st) [(24 + h.lead, s.capReq flag key (BitVec.ofNat 64 (n % 2 ^ 32 + st.code * 2 ^ 32)))]).2

/-- R258 step 6, R260: every fetch of a gather has ended: its outputs. -/
def State.gatherOut (s : State) (h : HedTask) (b : HedBody) (d : TableDesc) : State :=
  let bad := h.worst
  let st := match bad with | some r => r.st.getD .ok | none => .ok
  if bad.isSome ∧ b.last = 0 then s.hedEnd h st
  else
    let (rows, s) := s.gatherRows h b d
    let key : Word := BitVec.ofNat 32 b.key
    let ws := (rows.zipIdx).flatMap (fun p => match p.1 with
      | some bs => s.outWrites h.lead (b.out + p.2 * b.ostride) key (padLines bs)
      | none => [])
    let ms := if b.last = 0 then [] else s.outWrites h.lead b.last key (errMap (rows.map Option.isNone))
    let cnt := (h.rows.filter (fun r => r.st = some .ok)).length
    let h := { h with stage := 4, cnt := cnt, st := st, outs := (ws ++ ms).map (fun w => w.2.fabric) }
    if ws ++ ms = [] then (s.setHed h).hedFlag h b.flag key cnt st false
    else ((s.setHed h).startBatch (.hedOut h.t) (ws ++ ms)).2

/-- R260, R276: the output writes of a task have completed. -/
def State.hedOut (s : State) (t : TaskRef) (cs : List Cmp) : State :=
  match s.hedTask t, s.task t with
  | some h, some x =>
    let bad := firstBad cs
    let st := if h.st = .ok then bad else h.st
    let b := HedBody.ofLine x.body
    let fa := (((cs.zip h.outs).find? (fun p => p.1.status ≠ .ok)).map Prod.snd).getD 0
    let s := if bad = .ok then s else s.hedFault h.lead bad 7 (if h.kind = 5 then 0 else b.table) h.comp fa
    let flag := if h.kind = 5 then b.last else b.flag
    s.hedFlag h flag (BitVec.ofNat 32 b.key) h.cnt st true
  | _, _ => s

/-- R267: a Heddle's space-saving count of the rows it fetched most often. -/
def State.countHot (s : State) (lead ver row : Nat) : State :=
  let mine := s.hed.hot.filter (fun e => e.lead = lead)
  let put := fun (l : List Hot) => ({ s with hed := { s.hed with hot := l } } : State)
  if mine.any (fun e => e.ver = ver && e.row = row) then
    put (s.hed.hot.map (fun e => if e.lead = lead ∧ e.ver = ver ∧ e.row = row then { e with n := e.n + 1 } else e))
  else if mine.length < 64 then put (s.hed.hot ++ [{ lead := lead, ver := ver, row := row, n := 1 }])
  else
    match mine.foldl (fun (a : Option Hot) e => match a with | some m => if e.n < m.n then some e else a | none => some e) none with
    | some m => put (s.hed.hot.erase m ++ [{ lead := lead, ver := ver, row := row, n := m.n + 1 }])
    | none => s

/-- MIG_POLICY.MODE of a composition. -/
def State.migMode (s : State) (c : Nat) : Nat := fld (s.rgb pgHReg Reg.HReg.MIG_POLICY c) 31 30

/-- R267: a fetch was served from a place in Bay n. -/
def State.countFetch (s : State) (h : HedTask) (n row : Nat) : State :=
  let s := s.countHot h.lead (h.ver.getD 0) row
  if s.migMode h.comp = 0 then s
  else
    let s := s.count pgHReg Reg.HReg.SKEW_FETCH n h.comp 1
    { s with hed := { s.hed with win := SMap.set (fun _ => 0) s.hed.win (h.comp * 24 + n) (SMap.get (fun _ => 0) s.hed.win (h.comp * 24 + n) + 1) } }

/-- R260: is a failed fetch reissued? -/
def fetchAgain (st : Status) : Bool := st = .portDown || st = .timeout || st = .busyRetry || st = .epochStale

/-- R258-R260: the fetch of row i of a gather has completed: it is kept for pooling, reissued, or failed. -/
def State.fetchDone (s : State) (t : TaskRef) (i : Nat) : State :=
  match s.hedTask t, s.task t with
  | some h, some x =>
    match h.rows[i]? with
    | none => s
    | some r =>
      match r.op.bind s.rowOp with
      | none => s
      | some o =>
        match o.fin with
        | none => s
        | some st =>
          let b := HedBody.ofLine x.body
          let d := TableDesc.ofLine (h.desc.getD 0)
          let s := s.dropRowOp o.id
          if fetchAgain st ∧ r.tries < fld (s.rg (pgHed h.lead) Reg.Hed.HED_CFG) 3 0 then
            (s.bump (pgHed h.lead) Reg.Hed.FETCH_RETRY_CNT).fetchRow h i { r with tries := r.tries + 1 } d.size
          else
            let s := if st = .ok then (s.bump (pgHed h.lead) Reg.Hed.FETCH_CNT).countFetch h o.bay r.phys
              else (s.bump (pgHed h.lead) Reg.Hed.FETCH_FAIL_CNT).hedFault h.lead st 5 b.table h.comp (s.node.toNat * 2 ^ 48 + o.addr)
            let h := { h with rows := h.rows.set i { r with op := none, st := some st, data := leNat o.bytes } }
            let s := s.setHed h
            if h.rows.all (fun q => q.st.isSome) then s.gatherOut h b d else s
  | _, _ => s

/-! ### Updates (R262-R264, R271, R272) -/

/-- R264: a row update has ended: the task learns it. -/
def State.updateEnds (s : State) (u : RowUpd) (st : Status) : State :=
  match s.hedTask u.t, s.task u.t with
  | some h, some x =>
    match h.rows[u.i]? with
    | none => s
    | some r =>
      let b := HedBody.ofLine x.body
      let s := if st = .ok then s else s.hedFault h.lead st 6 b.table h.comp (s.node.toNat * 2 ^ 48 + u.place)
      let h := { h with rows := h.rows.set u.i { r with st := some st } }
      let s := s.setHed h
      if h.rows.all (fun q => q.st.isSome) then
        let st := match h.worst with | some q => q.st.getD .ok | none => .ok
        s.hedFlag h b.flag (BitVec.ofNat 32 b.key) (h.rows.filter (fun q => q.st = some .ok)).length st true
      else s
  | _, _ => s

/-- R263, R264, R267: the home of a row has ended its update. -/
def State.rowUpdated (s : State) (o : RowOp) (u : RowUpd) (st : Status) : State :=
  let s := s.dropRowOp o.id
  let s := if st = .ok then s.bump (pgHed o.bay) Reg.Hed.ROW_UPD_CNT else s.bump (pgHed o.bay) Reg.Hed.ROW_UPD_FAIL_CNT
  let s := if st = .ok ∧ s.migMode u.comp ≠ 0 then s.count pgHReg Reg.HReg.SKEW_UPD o.bay u.comp 1 else s
  s.updateEnds u st

/-- R262, R271, R272: a row update reaches the Heddle of the row's place: it is held by a migration, forwarded, or applied as
one row transaction. -/
def State.rowUpdate (s : State) (id : Nat) : State :=
  match s.hed.upds.find? (fun u => u.id = id) with
  | none => s
  | some u =>
    let o := (s.homeBay u.place).getD 0
    let rest := s.hed.upds.filter (fun v => v.id ≠ id)
    let now := s.placeRow u.ver u.phys
    if !s.bayUp o then ({ s with hed := { s.hed with upds := rest } }).updateEnds u .portDown
    else match s.hed.migs.find? (fun m => m.ver = u.ver && m.row = u.phys && m.src = u.place) with
      | some m =>
        { s with hed := { s.hed with upds := rest, migs := s.hed.migs.map (fun k => if k.id = m.id then { k with held := k.held ++ [u] } else k) } }
      | none =>
        if now ≠ u.place then
          ({ s with hed := { s.hed with upds := rest ++ [{ u with place := now }] } }).bump (pgHed o) Reg.Hed.FWD_UPD_CNT
        else
          let size := u.size + (if u.acc ∧ u.uop = 2 then 4 else 0)
          let (k, s) := ({ s with hed := { s.hed with upds := rest } }).newRowOp (.update u) u.comp u.place size
          match s.rowOp k with
          | some r =>
            if u.uop = 1 ∧ u.size % 64 = 0 ∧ u.place % 64 = 0 then
              s.setRowOp { r with writing := true, wr := r.writes u (u.data.map (fun v => BitVec.ofNat 8 v)) }
            else s
          | none => s

/-! ### Filters (R274-R276) -/

/-- A float pattern or integer as a number that orders by value: zeros are equal; none for a NaN. -/
def valueKey (c b : Nat) : Option Int :=
  match FF.ofCode c with
  | none => some (sx (8 * fmtSize c) b)
  | some f => if f.decode b = .nan then none
              else let m := b % f.signW; some (if b.testBit (f.exp + f.mant) then -(m : Int) else m)

/-- R274: does a field hold against a term? -/
def termTrue (t : Nat) (rec : List Byte) : Bool :=
  let c := nfld t 19 16
  let sz := fmtSize c
  let v := num rec (nfld t 31 20) sz
  let k := nfld t 63 32 % 2 ^ (8 * sz)
  let cmp := nfld t 15 13
  if cmp = 6 then decide (v &&& k ≠ 0)
  else match valueKey c v, valueKey c k with
    | some a, some b => if cmp = 0 then a = b else if cmp = 1 then a ≠ b else if cmp = 2 then a < b else if cmp = 3 then a ≤ b else if cmp = 4 then b < a else b ≤ a
    | _, _ => cmp = 1

/-- R274: the groups of a program: a JOIN of 1 starts a new one. -/
def groups : List Nat → List (List Nat)
  | [] => []
  | t :: r =>
    match groups r with
    | [] => [[t]]
    | g :: gs => if (r.head?.map (fun q => q.testBit 12)).getD false then [t] :: g :: gs else (t :: g) :: gs

/-- R274: does a record pass? -/
def passes (ts : List Nat) (rec : List Byte) : Bool := ts = [] || (groups ts).any (fun g => g.all (fun t => termTrue t rec))

/-- The entries with scores, best first, equal scores by lower index: (index, score pattern, order). -/
def rank (small : Bool) (es : List (Nat × Nat × Int)) : List (Nat × Nat × Int) :=
  sortBy (fun a b => if a.2.2 = b.2.2 then decide (a.1 ≤ b.1) else if small then decide (a.2.2 < b.2.2) else decide (b.2.2 < a.2.2)) es

/-- R275: the entries that a filter emits, before OUT_MAX, and how many records pass. recs: the records in order. -/
def FilterBody.result (f : FilterBody) (prog : Line) (scores : List Byte) (recs : List (List Byte)) : List (List Byte) × Nat :=
  let pass := recs.zipIdx.filter (fun p => passes (terms prog) p.1)
  if !f.topk then (pass.map (fun p => if f.emitIdx then leBytes 4 p.2 else p.1), pass.length)
  else
    let scored := pass.filterMap (fun p =>
      let v := if f.scoreSrc then num scores (4 * p.2) 4 else num p.1 f.soff (fmtSize f.sfmt)
      (valueKey f.sfmt v).map (fun k => (p.2, v, k)))
    let best := (rank f.small scored).take f.k
    (best.map (fun e => if f.emitIdx then leBytes 4 e.1 ++ leBytes 4 e.2.1 else recs.getD e.1 []), pass.length)

/-- The row transactions of a filter task. -/
def State.scanOps (s : State) (t : TaskRef) : List (Nat × RowOp) :=
  s.hed.ops.filterMap (fun o => match o.use with | .scan q i => if q = t then some (i, o) else none | _ => none)

/-- R275, R276: a scanning Heddle has finished its records; once all have, the lead merges their results. -/
def State.scanDone (s : State) (t : TaskRef) (n : Nat) : State :=
  match s.hedTask t, (s.task t).bind (fun x => FilterBody.parse x.body) with
  | some h, some f =>
    let ops := s.scanOps t
    let mine := ops.filter (fun p => p.2.bay = n)
    if !h.scans.contains n ∨ mine.any (fun p => p.2.fin.isNone) then s
    else
      let s := s.addN (pgHed n) Reg.Hed.SCAN_BYTE_CNT (mine.length * f.size)
      let h := { h with scans := h.scans.filter (fun m => m ≠ n) }
      let s := s.setHed h
      if h.scans ≠ [] then s
      else
        let drop := fun (s : State) => ({ s with hed := { s.hed with ops := s.hed.ops.filter (fun o => match o.use with | .scan q _ => q ≠ t | _ => true) } } : State)
        match ops.find? (fun p => p.2.fin ≠ some .ok) with
        | some (_, o) => (drop s).hedEnd h (o.fin.getD .ok)
        | none =>
          let (es, cnt) := f.result (h.desc.getD 0) (listBytes h.lists f.scores) (ops.map (fun p => p.2.bytes))
          let es := if f.omax = 0 then es else es.take f.omax
          let s := (drop s).addN (pgHed h.lead) Reg.Hed.EMIT_CNT es.length
          let ws := s.outWrites h.lead f.out (BitVec.ofNat 32 f.key) (padLines es.flatten)
          let h := { h with stage := 4, cnt := cnt, outs := ws.map (fun w => w.2.fabric) }
          if ws = [] then (s.setHed h).hedFlag h f.flag (BitVec.ofNat 32 f.key) cnt .ok false
          else ((s.setHed h).startBatch (.hedOut t) ws).2
  | _, _ => s

/-! ### The end of a task (R252, R254) -/

/-- Has a task of the Heddles still requests or row transactions outstanding? -/
def State.hedBusy (s : State) (h : HedTask) : Bool :=
  s.batches.any (fun b => (b.owner = .hedLists h.t || b.owner = .hedOut h.t || b.owner = .endWith h.t h.st) && decide (b.got.length < b.need)) ||
  s.hed.upds.any (fun u => u.t = h.t) || s.hed.migs.any (fun m => m.held.any (fun u => u.t = h.t)) ||
  s.hed.ops.any (fun o => o.fin.isNone && (match o.use with | .fetch t _ | .scan t _ => t = h.t | .update u => u.t = h.t | .copy _ => false))

/-- R252: a task has ended and every request it sent has completed: its version's count falls. -/
def State.hedReap (s : State) (h : HedTask) : State :=
  let ended := match s.task h.t with | some x => x.st.isSome | none => true
  if !ended ∨ s.hedBusy h then s
  else
    let s := { s with hed := { s.hed with
      tasks := s.hed.tasks.filter (fun g => g.t ≠ h.t)
      sorter := s.hed.sorter.filter (fun q => q.2 ≠ h.t), poolQ := s.hed.poolQ.filter (fun t => t ≠ h.t)
      ops := s.hed.ops.filter (fun o => match o.use with | .fetch t _ | .scan t _ => t ≠ h.t | _ => true) } }
    match h.ver.bind s.verRec with
    | some r => (s.setRec { r with count := r.count - 1 }).retireRec r.id
    | none => s

/-- R254, R476: the Heddle of Bay n is reset: the tasks it leads end with PORT_DOWN. -/
def State.hedDown (s : State) (n : Nat) : State :=
  let s := { s with hed := { s.hed with valid := NSet.erase n s.hed.valid, hot := s.hed.hot.filter (fun e => e.lead ≠ n) } }
  (s.hed.tasks.filter (fun h => h.lead = n && h.stage ≠ 5)).foldl (fun s h => s.hedEnd h .portDown) s

/-- Ends of row updates that wait for no command, and tasks that can be forgotten. -/
def State.hedSettle (s : State) : State :=
  let s := s.hed.ops.foldl (fun s o => match o.use, o.fin with | .update u, some st => s.rowUpdated o u st | _, _ => s) s
  s.poolSettle.hed.tasks.foldl (fun s h => s.hedReap h) s.poolSettle

end Sys2Proof.Machine
end

