-- ==== Sys2Proof/Machine/Migrate.lean ====
section
/-!
DEFINITION. Machine/Migrate.lean: skew windows and the migration of hot rows (R267-R272, R279).
-/
namespace Sys2Proof.Machine

open Sys2Proof

/-! ### The policy (R269, R279) -/

/-- Clear the SKEW counters of a composition. -/
def State.clearSkew (s : State) (c : Nat) : State :=
  (List.range 24).foldl (fun s b => (s.setReg pgHReg Reg.HReg.SKEW_FETCH b c 0).setReg pgHReg Reg.HReg.SKEW_UPD b c 0) s

/-- R269, R279: a write to MIG_POLICY for the composition in MIG_SEL. -/
def State.migWrite (s : State) (v : Word) : State :=
  let c := fld (s.hub Reg.HReg.MIG_SEL) 7 0
  let old := s.rgb pgHReg Reg.HReg.MIG_POLICY c
  let (new, bad) := Reg.HReg.MIG_POLICY.written old (v.zeroExtend 64)
  let s := if bad then s.writeRejected pgHReg else s
  let was := fld old 31 30
  let want := fld new 31 30
  let g := s.migGranules c
  let cause := s.reg.cur.areaCause s.node c g.1 g.2
  let s := if fld v 31 30 = 2 then s.setReg pgHReg Reg.HReg.MIG_STAT 0 c (BitVec.ofNat 64 cause) else s
  let mode := if want = 2 ∧ cause ≠ 0 then was else want
  let s := s.setReg pgHReg Reg.HReg.MIG_POLICY 0 c (setFld new 31 30 mode)
  if was = 0 ∧ mode ≠ 0 then s.clearSkew c else s

/-! ### Places (R269, R271) -/

/-- MIG_BASE and the size of a composition's migration area. -/
def State.migArea (s : State) (c : Nat) : Nat × Nat :=
  ((s.rgb pgHReg Reg.HReg.MIG_BASE c).toNat, (s.rgb pgHReg Reg.HReg.MIG_SIZE c).toNat * 2 ^ 21)

/-- Is a place free: no redirect entry, migration, or place left less than 4.1 ms ago lies in it (R271)? -/
def State.placeFree (s : State) (a size : Nat) : Bool :=
  let clear := fun (b n : Nat) => decide (a + size ≤ b) || decide (b + n ≤ a)
  s.hed.redir.all (fun e => clear e.place e.size) && s.hed.migs.all (fun m => clear m.dst m.size || m.back) &&
  s.hed.freed.all (fun f => clear f.1 f.2.1 || decide (f.2.2 + 4100000 ≤ s.now))

/-- R269: a free place of the area whose 4 KiB block Bay t homes; the lowest (log entry 31). -/
def State.allotPlace (s : State) (c t size : Nat) : Option Nat :=
  let (base, n) := s.migArea c
  (List.range (n / max 1 size)).findSome? (fun i =>
    let a := base + i * size
    if bayOf s.sel a = t ∧ s.placeFree a size then some a else none)

/-! ### Choosing rows (R270) -/

/-- The up Bays. -/
def State.upBays (s : State) : List Nat := (List.range 24).filter s.bayUp

/-- The window count of fetches served from Bay n for a composition. -/
def State.winCount (s : State) (c n : Nat) : Nat := SMap.get (fun _ => 0) s.hed.win (c * 24 + n)

/-- R270 step 2: is Bay n hot? -/
def State.hotBay (s : State) (c n : Nat) : Bool :=
  let p := s.rgb pgHReg Reg.HReg.MIG_POLICY c
  let up := s.upBays
  decide (fld p 29 24 * (up.map (s.winCount c)).sum < 8 * s.winCount c n * up.length) && decide (64 * fld p 7 0 ≤ s.winCount c n)

/-- The window count of a row, over every Heddle's candidates. -/
def State.rowCount (s : State) (ver row : Nat) : Nat := ((s.hed.hot.filter (fun e => e.ver = ver && e.row = row)).map Hot.n).sum

/-- Begin the migration of a row (R271 step 1): its updates are held from now on. -/
def State.startMig (s : State) (ver row comp src dst size : Nat) (back : Bool) : State :=
  let o := (s.homeBay src).getD 0
  let m : Mig := { id := s.hed.next, ver := ver, row := row, comp := comp, src := src, dst := dst, o := o, t := (s.homeBay dst).getD 0
                   size := size, back := back, phase := 0, start := s.now, batch := none, held := [] }
  ({ s with hed := { s.hed with next := s.hed.next + 1, migs := s.hed.migs ++ [m] } }).bump (pgHed o) Reg.Hed.HOLD_CNT

/-- Is a row being migrated, or redirected? -/
def State.migrating (s : State) (ver row : Nat) : Bool := s.hed.migs.any (fun m => m.ver = ver && m.row = row)
/-- Has a row a redirect entry? -/
def State.redirected (s : State) (ver row : Nat) : Bool := s.hed.redir.any (fun e => e.ver = ver && e.row = row)

/-- R270 step 3: the candidates of Bay b for a composition, hottest first. -/
def State.candidates (s : State) (c b : Nat) : List (Nat × Nat) :=
  let rows := (s.hed.hot.map (fun e => (e.ver, e.row))).eraseDups
  let ok := rows.filter (fun p =>
    (match s.verRec p.1 with | some r => r.state = 0 && r.comp = c | none => false) && s.homeBay p.2 = some b &&
    !s.redirected p.1 p.2 && !s.migrating p.1 p.2)
  sortBy (fun p q => if s.rowCount p.1 p.2 = s.rowCount q.1 q.2 then decide (p.2 ≤ q.2) else decide (s.rowCount q.1 q.2 < s.rowCount p.1 p.2)) ok

/-- R270 step 3: the up Bay with the lowest count that is not hot; ties go to the lowest index (log entry 31). -/
def State.coolBay (s : State) (c : Nat) : Option Nat :=
  (s.upBays.filter (fun n => !s.hotBay c n)).foldl (fun (a : Option Nat) n =>
    match a with | some m => if s.winCount c n < s.winCount c m then some n else a | none => some n) none

/-- Migrate one candidate. -/
def State.migrateOne (s : State) (c : Nat) (p : Nat × Nat) : State :=
  match s.verRec p.1, s.coolBay c with
  | some r, some t =>
    let size := r.stride
    match s.allotPlace c t size with
    | some a => if s.hed.redir.length + (s.hed.migs.filter (fun m => !m.back)).length < 65536 then s.startMig p.1 p.2 c p.2 a size false
                else s.bumpHub Reg.HReg.MIG_SKIP_CNT
    | none => s.bumpHub Reg.HReg.MIG_SKIP_CNT
  | _, _ => s

/-- R270: one composition's choices at the end of a window. -/
def State.skewComp (s : State) (c : Nat) : State :=
  let p := s.rgb pgHReg Reg.HReg.MIG_POLICY c
  let hot := sortBy (fun a b => if s.winCount c a = s.winCount c b then decide (a ≤ b) else decide (s.winCount c b < s.winCount c a)) (s.upBays.filter (s.hotBay c))
  let back := s.hed.redir.filter (fun e => e.comp = c && !s.migrating e.ver e.row && decide (s.rowCount e.ver e.row < fld p 15 8))
  let s := hot.foldl (fun s b => ((s.candidates c b).take (fld p 23 16)).foldl (fun s q => s.migrateOne c q) s) s
  back.foldl (fun s e => s.startMig e.ver e.row c e.place e.row e.size true) s

/-- R270: a skew window ends; the counts start anew. -/
def State.skewEnd (s : State) : State :=
  let s := (s.liveComps.filter (fun c => s.migMode c = 2)).foldl (fun s c => s.skewComp c) s
  { s with hed := { s.hed with win := [], hot := [] } }

/-! ### The steps of a migration (R271) -/

/-- A migration. -/
def State.mig (s : State) (id : Nat) : Option Mig := s.hed.migs.find? (fun m => m.id = id)

/-- Replace a migration. -/
def State.setMig (s : State) (m : Mig) : State :=
  { s with hed := { s.hed with migs := s.hed.migs.map (fun k => if k.id = m.id then m else k) } }

/-- R271: a migration ends: its held updates go on, in order, toward a place. -/
def State.endMig (s : State) (m : Mig) (place : Nat) : State :=
  let us := m.held.map (fun u => { u with place := place })
  { s with hed := { s.hed with migs := s.hed.migs.filter (fun k => k.id ≠ m.id), upds := us ++ s.hed.upds
                               ops := s.hed.ops.filter (fun o => o.use ≠ .copy m.id || o.fin.isNone) } }

/-- R271: a migration aborts: its updates are applied at the old place. st: the status of what failed, TIMEOUT for a slow copy
(log entry 85). -/
def State.abortMig (s : State) (m : Mig) (st : Status) : State :=
  let tid := ((s.verRec m.ver).map VerRec.tid).getD 0
  let s := (s.bump (pgHed m.o) Reg.Hed.MIG_ABORT_CNT).hedFault m.o st 8 tid m.comp (s.node.toNat * 2 ^ 48 + m.src)
  let s := match m.batch with | some b => s.endBatch b | none => s
  s.endMig m m.src

/-- R271 step 2: Bay o copies the row once no update of it is in progress: it reads the whole stride as one row transaction. -/
def State.migCopy (s : State) (id : Nat) : State :=
  match s.mig id with
  | none => s
  | some m =>
    if m.phase ≠ 0 ∨ s.hed.ops.any (fun o => o.fin.isNone && decide (o.addr = m.src) && (match o.use with | .update _ => true | _ => false)) then s
    else (s.setMig { m with phase := 1 }).newRowOp (.copy id) m.comp m.src m.size |>.2

/-- R271 step 2: the stride has been read: it is written to the new place, whole lines where it covers them. -/
def State.migRead (s : State) (o : RowOp) (id : Nat) : State :=
  match s.mig id, o.fin with
  | some m, some st =>
    let s := s.dropRowOp o.id
    if st ≠ .ok then s.abortMig m st
    else
      let key := match s.covers m.dst with | some (_, e) => e.key | none => 0
      let bs := o.bytes
      let rs := (spanLines m.dst m.size).map (fun a =>
        let l := lineOfBytes ((List.range 64).map (fun j => if m.dst ≤ a + j then bs.getD (a + j - m.dst) 0 else 0))
        (24 + m.o, s.writeReq (s.node.toNat * 2 ^ 48 + a) key none (spanMask a m.dst (m.dst + m.size)) l))
      let (b, s) := s.startBatch .hold rs
      s.setMig { m with phase := 2, batch := some b }
  | _, _ => s

/-- R271 step 3: the copy writes have completed: reported, or the migration aborts. -/
def State.migCopied (s : State) (id : Nat) : State :=
  match s.mig id with
  | none => s
  | some m =>
    match m.batch.bind (fun b => (s.batchAll b).map (fun cs => (b, cs))) with
    | none => s
    | some (b, cs) =>
      if m.phase ≠ 2 then s
      else if firstBad cs ≠ .ok then s.abortMig m (firstBad cs)
      else if m.start + 3000 < s.now then s.abortMig m .timeout
      else (s.endBatch b).setMig { m with phase := 3, batch := none }

/-- R271 steps 4, 5: every Heddle out of reset has the entry: the migration commits. -/
def State.migCommit (s : State) (id : Nat) : State :=
  match s.mig id with
  | none => s
  | some m =>
    if m.phase ≠ 3 then s
    else
      let s := (s.bump (pgHed m.o) Reg.Hed.MIG_OUT_CNT).bump (pgHed m.t) Reg.Hed.MIG_IN_CNT
      let keep := s.hed.redir.filter (fun e => ¬(e.ver = m.ver ∧ e.row = m.row))
      let s := if m.back then
          ({ s with hed := { s.hed with redir := keep, freed := s.hed.freed ++ [(m.src, m.size, s.now)] } }).bumpHub Reg.HReg.MIG_BACK_CNT
        else if (s.verRec m.ver).any (fun r => r.state ≠ 2) then
          ({ s with hed := { s.hed with redir := keep ++ [(⟨m.ver, m.row, m.comp, m.dst, m.size⟩ : Redirect)] } }).bumpHub Reg.HReg.MIG_CNT
        else s.bumpHub Reg.HReg.MIG_CNT
      s.endMig m m.dst

/-- R271: the copy is not done 3 us after the start. -/
def State.migAbort (s : State) (id : Nat) : State :=
  match s.mig id with
  | none => s
  | some m => if m.phase < 3 then s.abortMig m .timeout else s

/-- R272: Bay n is reset or goes down: the migrations from it abort, its held updates completing with PORT_DOWN; those toward
it that are not reported abort (R271). -/
def State.migsDown (s : State) (n : Nat) : State :=
  s.hed.migs.foldl (fun s m =>
    if m.o = n then
      let us := m.held
      us.foldl (fun s u => s.updateEnds u .portDown) ((s.setMig { m with held := [] }).abortMig { m with held := [] } .portDown)
    else if m.t = n ∧ m.phase < 3 then s.abortMig m .portDown
    else s) s

/-- The copies that have been read go on at once. -/
def State.migSettle (s : State) : State :=
  s.hed.ops.foldl (fun s o => match o.use with | .copy id => if o.fin.isSome then s.migRead o id else s | _ => s) s

end Sys2Proof.Machine
end

