-- ==== Sys2Proof/Machine/Scalar.lean ====
section
/-!
DEFINITION. Machine/Scalar.lean: the scalar float operations of a Spindle core (R288, R289), exp2 (R295-R297) and the
reciprocal (R298).
-/
namespace Sys2Proof.Machine

open Sys2Proof

/-- R289: an FP32 product, rounded once. A zero product has the sign of the operands' signs. -/
def fp32Mul (x y : Nat) : Nat :=
  match (FF.fp32.decode x).mul (FF.fp32.decode y) with
  | .nan => FF.fp32.nan
  | .inf neg => FF.fp32.infOr neg
  | .fin neg m e => (FF.fp32.round neg m 1 e).1

/-- The pattern with its sign turned. -/
def fp32Neg (x : Nat) : Nat := x ^^^ 0x80000000

/-- R289: an FP32 difference, rounded once. -/
def fp32Sub (x y : Nat) : Nat := if isNaN 0 y then FF.fp32.nan else fp32Add x (fp32Neg y)

/-- R221, R293: the larger of two FP32 patterns; a NaN is sticky. -/
def fp32Max (x y : Nat) : Nat :=
  if isNaN 0 x ∨ isNaN 0 y then FF.fp32.nan else if FF.fp32.key x < FF.fp32.key y then y else x

/-- R221: the smaller of two FP32 patterns; a NaN is sticky. -/
def fp32Min (x y : Nat) : Nat :=
  if isNaN 0 x ∨ isNaN 0 y then FF.fp32.nan else if FF.fp32.key y < FF.fp32.key x then y else x

/-- R289: 1 if x is below y under R221, 0 if not or if either is a NaN. -/
def fp32Lt (x y : Nat) : Nat := if isNaN 0 x ∨ isNaN 0 y then 0 else if FF.fp32.key x < FF.fp32.key y then 1 else 0

/-- R295: c1, c2 and c3. -/
def exp2C1 : Nat := 2977044472
/-- R295: c2. -/
def exp2C2 : Nat := 1031764991
/-- R295: c3, the integer nearest to (ln 2)^3 / 6 x 2^32. -/
def exp2C3 : Nat := 238388332

/-- R295: t[0] to t[63], the integers nearest to 2^(i/64) x 2^30. -/
def exp2Table : List Nat :=
  [1073741824, 1085434106, 1097253708, 1109202018, 1121280436, 1133490379, 1145833280, 1158310587, 1170923762, 1183674286,
   1196563654, 1209593378, 1222764986, 1236080024, 1249540052, 1263146652] ++
  [1276901417, 1290805962, 1304861917, 1319070932, 1333434672, 1347954824, 1362633090, 1377471191, 1392470869, 1407633882,
   1422962010, 1438457051, 1454120821, 1469955159, 1485961921, 1502142985] ++
  [1518500250, 1535035634, 1551751076, 1568648537, 1585730000, 1602997467, 1620452965, 1638098541, 1655936265, 1673968228,
   1692196547, 1710623359, 1729250827, 1748081133, 1767116489, 1786359126] ++
  [1805811301, 1825475297, 1845353420, 1865448001, 1885761398, 1906295993, 1927054196, 1948038440, 1969251188, 1990694927,
   2012372174, 2034285470, 2056437387, 2078830522, 2101467502, 2124350982]

/-- R297: the polynomial. -/
def exp2Poly (r : Nat) : Nat := 2 ^ 32 + (r * (exp2C1 + (r * (exp2C2 + (r * exp2C3) / 2 ^ 24)) / 2 ^ 24)) / 2 ^ 24

/-- R296, R297: exp2 of an FP32 pattern. -/
def fp32Exp2 (x : Nat) : Nat :=
  let neg := x.testBit 31
  let e := nfld x 30 23
  let frac := nfld x 22 0
  if e = 255 then (if frac ≠ 0 then FF.fp32.nan else if neg then 0 else FF.fp32.infOr false)
  else
    let mag := if e = 0 then frac else frac + 0x800000
    let sh : Int := if e = 0 then -149 else (e : Int) - 150
    let up := sh + 24
    let xi : Int := if 0 ≤ up then ((mag <<< up.toNat : Nat) : Int) else ((mag >>> (-up).toNat : Nat) : Int)
    let xi := if neg then -xi else xi
    let n := xi.fdiv 16777216
    let f := (xi - n * 16777216).toNat
    if 128 ≤ n then FF.fp32.infOr false
    else if n < -160 then 0
    else
      let m := exp2Table.getD (f / 2 ^ 18) 0 * exp2Poly (f % 2 ^ 18) / 2 ^ 32
      (FF.fp32.round false m 1 (n - 30)).1

/-- R298: the reciprocal of an FP32 pattern. -/
def fp32Rcp (x : Nat) : Nat :=
  match FF.fp32.decode x with
  | .nan => FF.fp32.nan
  | .inf neg => if neg then FF.fp32.signW else 0
  | .fin neg m e => if m = 0 then FF.fp32.infOr neg else (FF.fp32.round neg 1 m (-e)).1

/-- R288, R289: an FP32 pattern converted to a format code 1 to 4; a NaN gives 0x7FC0_0000. -/
def fp32Cvt (c x : Nat) : Nat := if isNaN 0 x then FF.fp32.nan else (convert 0 c x).1

/-- R288: a signed 32-bit integer as FP32. -/
def fp32FromInt (x : Nat) : Nat := (FF.fp32.ofInt (sx 32 x) 1 0).1

/-- R288: an FP32 pattern as a signed 32-bit integer: nearest, ties to even, saturated; a NaN gives 0. -/
def fp32ToInt (x : Nat) : Nat :=
  match FF.fp32.decode x with
  | .nan => 0
  | .inf neg => if neg then 0x80000000 else 0x7FFFFFFF
  | .fin neg m e =>
    let v : Int := if neg then -(m : Int) else m
    (satInt 32 (if 0 ≤ e then v * 2 ^ e.toNat else nearest v (2 ^ (-e).toNat))).1

/-- R288: the scalar float instructions. -/
inductive SfOp where
  | add | sub | mul | max | min | lt | exp2 | rcp | cvt (fmt : Nat) | fromi | toi
deriving DecidableEq, Repr

/-- R289: what a scalar float instruction computes. -/
def SfOp.run (o : SfOp) (a b : Nat) : Nat :=
  match o with
  | .add => fp32Add a b
  | .sub => fp32Sub a b
  | .mul => fp32Mul a b
  | .max => fp32Max a b
  | .min => fp32Min a b
  | .lt => fp32Lt a b
  | .exp2 => fp32Exp2 a
  | .rcp => fp32Rcp a
  | .cvt c => fp32Cvt c a
  | .fromi => fp32FromInt a
  | .toi => fp32ToInt a

end Sys2Proof.Machine
end

