-- ==== Sys2Proof/Machine/Riscv.lean ====
section
/-!
DEFINITION. Machine/Riscv.lean: the instructions of a Spindle core: RV32IMC (R281), whose encodings the manual takes from the
RISC-V unprivileged architecture (PRESUMED: log entry 40), and the custom-0 instructions of R288.
-/
namespace Sys2Proof.Machine

open Sys2Proof

/-- A core instruction. f: funct3; off: a signed offset. -/
inductive Rv where
  | lui (rd imm : Nat)
  | auipc (rd imm : Nat)
  | jal (rd : Nat) (off : Int)
  | jalr (rd rs : Nat) (off : Int)
  | branch (f rs1 rs2 : Nat) (off : Int)
  | load (f rd rs : Nat) (off : Int)
  | store (f rs1 rs2 : Nat) (off : Int)
  | opImm (f rd rs : Nat) (alt : Bool) (imm : Nat)
  | op (f rd rs1 rs2 : Nat) (alt : Bool)
  | mul (f rd rs1 rs2 : Nat)
  | fence
  | sf (o : SfOp) (rd rs1 rs2 : Nat)
  | dsStart (rd rs : Nat)
  | dsWait (rd rs : Nat)
  | dsPoll (rd rs : Nat)
  | spExit (rs : Nat)
  | spRdcnt (rd idx : Nat)
deriving DecidableEq, Repr

/-- R288: the scalar float operation of a funct7 and an rs2 field, where the row allows the field. -/
def sfOf (f7 rs2 : Nat) : Option SfOp :=
  match f7 with
  | 0 => some .add
  | 1 => some .sub
  | 2 => some .mul
  | 3 => some .max
  | 4 => some .min
  | 5 => some .lt
  | 8 => if rs2 = 0 then some .exp2 else none
  | 9 => if rs2 = 0 then some .rcp else none
  | 10 => if 1 ≤ rs2 ∧ rs2 ≤ 4 then some (.cvt rs2) else none
  | 12 => if rs2 = 0 then some .fromi else none
  | 13 => if rs2 = 0 then some .toi else none
  | _ => none

/-- R288: a custom-0 word. -/
def rvCustom (w : Nat) : Option Rv :=
  let rd := nfld w 11 7
  let rs1 := nfld w 19 15
  let rs2 := nfld w 24 20
  let f7 := nfld w 31 25
  match nfld w 14 12 with
  | 0 => (sfOf f7 rs2).map (fun o => .sf o rd rs1 rs2)
  | 1 =>
    if rs2 ≠ 0 then none
    else match f7 with
      | 0 => some (.dsStart rd rs1)
      | 1 => some (.dsWait rd rs1)
      | 2 => some (.dsPoll rd rs1)
      | _ => none
  | 2 =>
    match f7 with
    | 0 => if rs2 = 0 ∧ rd = 0 then some (.spExit rs1) else none
    | 1 => if rs1 = 0 then some (.spRdcnt rd rs2) else none
    | _ => none
  | _ => none

/-- The I-type immediate. -/
def immI (w : Nat) : Int := sx 12 (nfld w 31 20)

/-- The S-type immediate. -/
def immS (w : Nat) : Int := sx 12 (nfld w 31 25 * 32 + nfld w 11 7)

/-- The B-type immediate. -/
def immB (w : Nat) : Int := sx 13 (nfld w 31 31 * 4096 + nfld w 7 7 * 2048 + nfld w 30 25 * 32 + nfld w 11 8 * 2)

/-- The J-type immediate. -/
def immJ (w : Nat) : Int := sx 21 (nfld w 31 31 * 1048576 + nfld w 19 12 * 4096 + nfld w 20 20 * 2048 + nfld w 30 21 * 2)

/-- A 32-bit instruction word; none: illegal (R288). -/
def rvWord (w : Nat) : Option Rv :=
  let rd := nfld w 11 7
  let f := nfld w 14 12
  let rs1 := nfld w 19 15
  let rs2 := nfld w 24 20
  let f7 := nfld w 31 25
  match nfld w 6 0 with
  | 0x0B => rvCustom w
  | 0x37 => some (.lui rd (w / 4096 * 4096))
  | 0x17 => some (.auipc rd (w / 4096 * 4096))
  | 0x6F => some (.jal rd (immJ w))
  | 0x67 => if f = 0 then some (.jalr rd rs1 (immI w)) else none
  | 0x63 => if f = 2 ∨ f = 3 then none else some (.branch f rs1 rs2 (immB w))
  | 0x03 => if f = 3 ∨ 5 < f then none else some (.load f rd rs1 (immI w))
  | 0x23 => if 2 < f then none else some (.store f rs1 rs2 (immS w))
  | 0x13 =>
    if f = 1 then (if f7 = 0 then some (.opImm 1 rd rs1 false rs2) else none)
    else if f = 5 then (if f7 = 0 then some (.opImm 5 rd rs1 false rs2) else if f7 = 32 then some (.opImm 5 rd rs1 true rs2) else none)
    else some (.opImm f rd rs1 false (toBits 32 (immI w)))
  | 0x33 =>
    if f7 = 1 then some (.mul f rd rs1 rs2)
    else if f7 = 0 then some (.op f rd rs1 rs2 false)
    else if f7 = 32 ∧ (f = 0 ∨ f = 5) then some (.op f rd rs1 rs2 true)
    else none
  | 0x0F => if f = 0 then some .fence else none
  | _ => none

/-- A compressed instruction of quadrant 0. -/
def rvC0 (h : Nat) : Option Rv :=
  let rdp := 8 + nfld h 4 2
  let rsp := 8 + nfld h 9 7
  let offW : Int := (nfld h 5 5 * 64 + nfld h 12 10 * 8 + nfld h 6 6 * 4 : Nat)
  match nfld h 15 13 with
  | 0 =>
    let imm := nfld h 10 7 * 64 + nfld h 12 11 * 16 + nfld h 5 5 * 8 + nfld h 6 6 * 4
    if imm = 0 then none else some (.opImm 0 rdp 2 false imm)
  | 2 => some (.load 2 rdp rsp offW)
  | 6 => some (.store 2 rsp rdp offW)
  | _ => none

/-- The CI-format immediate. -/
def immCI (h : Nat) : Int := sx 6 (nfld h 12 12 * 32 + nfld h 6 2)

/-- The CJ-format offset. -/
def immCJ (h : Nat) : Int :=
  sx 12 (nfld h 12 12 * 2048 + nfld h 8 8 * 1024 + nfld h 10 9 * 256 + nfld h 6 6 * 128 + nfld h 7 7 * 64 + nfld h 2 2 * 32 +
    nfld h 11 11 * 16 + nfld h 5 3 * 2)

/-- The CB-format offset. -/
def immCB (h : Nat) : Int :=
  sx 9 (nfld h 12 12 * 256 + nfld h 6 5 * 64 + nfld h 2 2 * 32 + nfld h 11 10 * 8 + nfld h 4 3 * 2)

/-- A compressed instruction of quadrant 1. -/
def rvC1 (h : Nat) : Option Rv :=
  let rd := nfld h 11 7
  let rdp := 8 + nfld h 9 7
  let rs2p := 8 + nfld h 4 2
  let imm := toBits 32 (immCI h)
  match nfld h 15 13 with
  | 0 => some (.opImm 0 rd rd false imm)
  | 1 => some (.jal 1 (immCJ h))
  | 2 => some (.opImm 0 rd 0 false imm)
  | 3 =>
    if rd = 2 then
      let v := sx 10 (nfld h 12 12 * 512 + nfld h 4 3 * 128 + nfld h 5 5 * 64 + nfld h 2 2 * 32 + nfld h 6 6 * 16)
      if v = 0 then none else some (.opImm 0 2 2 false (toBits 32 v))
    else
      let v := immCI h
      if v = 0 then none else some (.lui rd (toBits 32 (v * 4096)))
  | 4 =>
    match nfld h 11 10 with
    | 0 => if nfld h 12 12 = 1 then none else some (.opImm 5 rdp rdp false (nfld h 6 2))
    | 1 => if nfld h 12 12 = 1 then none else some (.opImm 5 rdp rdp true (nfld h 6 2))
    | 2 => some (.opImm 7 rdp rdp false imm)
    | _ =>
      if nfld h 12 12 = 1 then none
      else match nfld h 6 5 with
        | 0 => some (.op 0 rdp rdp rs2p true)
        | 1 => some (.op 4 rdp rdp rs2p false)
        | 2 => some (.op 6 rdp rdp rs2p false)
        | _ => some (.op 7 rdp rdp rs2p false)
  | 5 => some (.jal 0 (immCJ h))
  | 6 => some (.branch 0 rdp 0 (immCB h))
  | _ => some (.branch 1 rdp 0 (immCB h))

/-- A compressed instruction of quadrant 2. -/
def rvC2 (h : Nat) : Option Rv :=
  let rd := nfld h 11 7
  let rs2 := nfld h 6 2
  match nfld h 15 13 with
  | 0 => if nfld h 12 12 = 1 then none else some (.opImm 1 rd rd false rs2)
  | 2 => if rd = 0 then none else some (.load 2 rd 2 ((nfld h 3 2 * 64 + nfld h 12 12 * 32 + nfld h 6 4 * 4 : Nat)))
  | 4 =>
    if nfld h 12 12 = 0 then
      (if rs2 = 0 then (if rd = 0 then none else some (.jalr 0 rd 0)) else some (.op 0 rd 0 rs2 false))
    else if rs2 = 0 then (if rd = 0 then none else some (.jalr 1 rd 0))
    else some (.op 0 rd rd rs2 false)
  | 6 => some (.store 2 2 rs2 ((nfld h 8 7 * 64 + nfld h 12 9 * 4 : Nat)))
  | _ => none

/-- A compressed instruction; none: illegal. -/
def rvHalf (h : Nat) : Option Rv :=
  match h % 4 with
  | 0 => rvC0 h
  | 1 => rvC1 h
  | _ => rvC2 h

/-- The instruction that the low bits of w begin with, and its length in bytes. -/
def rvDecode (w : Nat) : Option Rv × Nat := if w % 4 = 3 then (rvWord w, 4) else (rvHalf (w % 65536), 2)

/-- An integer register-register or register-immediate operation. alt: SUB or SRA. -/
def rvAlu (f a b : Nat) (alt : Bool) : Nat :=
  match f with
  | 0 => if alt then toBits 32 ((a : Int) - b) else (a + b) % 2 ^ 32
  | 1 => (a <<< (b % 32)) % 2 ^ 32
  | 2 => if sx 32 a < sx 32 b then 1 else 0
  | 3 => if a < b then 1 else 0
  | 4 => a ^^^ b
  | 5 => if alt then toBits 32 ((sx 32 a).fdiv (2 ^ (b % 32))) else a >>> (b % 32)
  | 6 => a ||| b
  | _ => a &&& b

/-- A multiply or divide operation. -/
def rvMul (f a b : Nat) : Nat :=
  let x := sx 32 a
  let y := sx 32 b
  match f with
  | 0 => (a * b) % 2 ^ 32
  | 1 => toBits 32 ((x * y).fdiv (2 ^ 32))
  | 2 => toBits 32 ((x * (b : Int)).fdiv (2 ^ 32))
  | 3 => a * b / 2 ^ 32
  | 4 => if b = 0 then 2 ^ 32 - 1 else toBits 32 (x.tdiv y)
  | 5 => if b = 0 then 2 ^ 32 - 1 else a / b
  | 6 => if b = 0 then a else toBits 32 (x.tmod y)
  | _ => if b = 0 then a else a % b

/-- Is a branch taken? -/
def rvTaken (f a b : Nat) : Bool :=
  match f with
  | 0 => a = b
  | 1 => a ≠ b
  | 4 => decide (sx 32 a < sx 32 b)
  | 5 => decide (sx 32 b ≤ sx 32 a)
  | 6 => decide (a < b)
  | _ => decide (b ≤ a)

/-- The bytes of a load or store of a funct3. -/
def rvSize (f : Nat) : Nat := 2 ^ (f % 4)

/-- What a load of a funct3 puts in its register. -/
def rvExtend (f v : Nat) : Nat := if f < 4 then toBits 32 (sx (8 * rvSize f) v) else v

end Sys2Proof.Machine
end

