-- ==== Sys2Proof/Machine/Spindle.lean ====
section
/-!
DEFINITION. Machine/Spindle.lean: a Spindle (R281-R298): its SRAM and registers, its core's instructions, its streams, its faults
and the end of its part (R302, R303).
-/
namespace Sys2Proof.Machine

open Sys2Proof

/-! ### A Spindle's parts -/

/-- A Spindle. -/
def State.spu (s : State) (n k : Nat) : SpUnit := SMap.get (fun _ => SpUnit.init) s.sp.units (n * 64 + k)

/-- Replace a Spindle. -/
def State.setSpu (s : State) (n k : Nat) (u : SpUnit) : State :=
  { s with sp := { s.sp with units := SMap.set (fun _ => SpUnit.init) s.sp.units (n * 64 + k) u } }

/-- A register of a core; x0 reads as 0. -/
def SpUnit.x (u : SpUnit) (r : Nat) : Nat := if r = 0 then 0 else SMap.get (fun _ => 0) u.regs r

/-- Write a register of a core; a write of x0 is lost. -/
def SpUnit.setX (u : SpUnit) (r v : Nat) : SpUnit := if r = 0 then u else { u with regs := SMap.set (fun _ => 0) u.regs r v }

/-- The size of a Spindle's SRAM (R281). -/
def sramSize : Nat := 0x40000

/-- The size of a Spindle's region (R285). -/
def regionSize : Nat := 0x48000000

/-- n bytes of a Spindle's SRAM. -/
def State.sramBytes (s : State) (n k a len : Nat) : List Byte :=
  (List.range len).map (fun i => SMap.get memDefault s.sram (sramKey n k (a + i)))

/-- Write bytes of a Spindle's SRAM. -/
def State.setSram (s : State) (n k a : Nat) (bs : List Byte) : State := { s with sram := writeBytes s.sram (sramKey n k a) bs }

/-- An FP32 word of a Spindle's SRAM. -/
def State.sramWord (s : State) (n k a : Nat) : Nat := leNat (s.sramBytes n k a 4)

/-- Write a word of a Spindle's SRAM. -/
def State.setSramWord (s : State) (n k a v : Nat) : State := s.setSram n k a (leBytes 4 v)

/-- Byte i of the query registers. -/
def SpUnit.qrByte (u : SpUnit) (i : Nat) : Byte := SMap.get (fun _ => (0 : Byte)) u.qr i

/-- Write bytes of the query registers. -/
def SpUnit.setQr (u : SpUnit) (i : Nat) : List Byte → SpUnit
  | [] => u
  | b :: bs => SpUnit.setQr { u with qr := SMap.set (fun _ => (0 : Byte)) u.qr i b } (i + 1) bs

/-- Element e of accumulator g. -/
def SpUnit.oaw (u : SpUnit) (g e : Nat) : Nat := SMap.get (fun _ => 0) u.oa (256 * g + e)

/-- Write element e of accumulator g. -/
def SpUnit.setOa (u : SpUnit) (g e v : Nat) : SpUnit := { u with oa := SMap.set (fun _ => 0) u.oa (256 * g + e) v }

/-- A launch. -/
def State.launch (s : State) (id : Nat) : Option Launch := s.sp.launches.find? (fun l => l.id = id)

/-- Replace a launch. -/
def State.setLaunch (s : State) (l : Launch) : State :=
  { s with sp := { s.sp with launches := s.sp.launches.map (fun (m : Launch) => if m.id = l.id then l else m) } }

/-- The launch whose part a Spindle runs, if it runs one. -/
def State.running (s : State) (n k : Nat) : Option Launch :=
  match (s.spu n k).launch with
  | some id => match s.launch id with | some l => if l.stage = 6 then some l else none | none => none
  | none => none

/-- Count in a counter of a Spindle. -/
def State.spCount (s : State) (n k : Nat) (r : RegSpec) (v : Nat) : State := s.count (pgSp n) r 0 k v

/-- R304: is a Spindle fenced? -/
def State.spFenced (s : State) (n k : Nat) : Bool := bit (s.rg (pgSp n) Reg.Sp.SP_FENCE) k

/-- SP_STAT.STATE (R316). -/
def State.spState (s : State) (n k : Nat) : Nat :=
  if s.spFenced n k then 4
  else if !s.bayUp n ∨ s.isHeld (.spindle n k) ∨ s.islandState (.spindles (Fin.ofNat 24 n) (Fin.ofNat 8 (k / 8))) ≠ 0 then 0
  else if (s.running n k).isSome then 3
  else if (s.spu n k).launch.isSome then 2 else 1

/-- SP_STAT. -/
def State.spStat (s : State) (n k : Nat) : Nat := s.spState n k * 16 + (s.spu n k).last

/-- SP_OWNER. -/
def State.spOwner (s : State) (n k : Nat) : Nat := (s.spu n k).owner

/-- SP_RESIDENT. -/
def State.spResident (s : State) (n k : Nat) : Nat := ((s.spu n k).resident.map (fun r => r.1)).getD 0

/-! ### Entering a program (R301 steps 4, 5) -/

/-- A field of an image header (R299). -/
def Launch.hdr (l : Launch) (o n : Nat) : Nat := num l.head o n

/-- A field of a launch body (R300). -/
def Launch.fld (l : Launch) (o n : Nat) : Nat := bytesAt l.body o n

/-- R16: the low k bits of a field of a launch body. -/
def Launch.bits (l : Launch) (o n k : Nat) : Nat := bitsAt l.body o n k

/-- R300: IMAGE. -/
def Launch.imageAt (l : Launch) : Nat := l.bits 0x10 8 48
/-- R300: ARG_LEN. -/
def Launch.argLen (l : Launch) : Nat := l.bits 0x20 4 18
/-- R300: ARG_DST. -/
def Launch.argDst (l : Launch) : Nat := l.bits 0x24 4 18
/-- R300: RANGES. -/
def Launch.rangesAt (l : Launch) : Nat := l.bits 0x30 8 48

/-- R300: the argument block, read after the header. -/
def Launch.args (l : Launch) : List Byte := (l.head.drop 64).take l.argLen

/-- R301 step 5: the core starts at ENTRY. -/
def Launch.enter (l : Launch) (k now run : Nat) (u : SpUnit) : SpUnit :=
  let u := { u with regs := [], pc := l.hdr 0x0C 4, run := run, tickets := 0, streams := [], done := [], exiting := none, entry := now
                    upper := 0 }
  (((u.setX 2 (l.hdr 0x1C 4)).setX 10 k).setX 11 l.argDst).setX 12 l.bay

/-- R301 steps 4, 5: a Spindle is prepared and its core starts. again: a re-execution (R303), which does not reload the text. -/
def State.prepare (s : State) (l : Launch) (k : Nat) (again : Bool) : State :=
  let n := l.bay
  let u := s.spu n k
  let text := l.hdr 0x10 4
  let data := l.hdr 0x14 4
  let res := (l.hdr 8 4, l.imageAt, l.comp)
  let (u, s) :=
    if u.owner ≠ l.comp then
      ({ u with qr := [], oa := [], owner := l.comp, resident := none }, { s with sram := SMap.drop (fun x => x / sramSize = n * 64 + k) s.sram })
    else (u, s)
  let s := if again ∨ (u.resident = some res ∧ (l.fld 2 1).testBit 0 = false) then s
    else (s.setSram n k 0 (l.image.take text)).spCount n k Reg.Sp.LOAD_CNT 1
  let s := (s.setSram n k text (l.image.drop text)).setSram n k (text + data) (List.replicate (l.hdr 0x18 4) 0)
  let s := s.setSram n k l.argDst l.args
  let u := l.enter k s.now s.sp.next { u with resident := some res, launch := some l.id, reexec := again }
  let s := { s with sp := { s.sp with next := s.sp.next + 1 } }
  (s.setSpu n k u).spCount n k (if again then Reg.Sp.REEXEC_CNT else Reg.Sp.LAUNCH_CNT) 1

/-! ### The end of a part (R302, R303) -/

/-- R316: the cycles that a Spindle has spent in its part, at 1.7 GHz, are counted. -/
def State.countRun (s : State) (n k : Nat) : State :=
  if (s.running n k).isSome then s.spCount n k Reg.Sp.RUN_CYC_CNT ((s.now - (s.spu n k).entry) * 17 / 10) else s

/-- R302: a Spindle's part ends; its streams that have not completed are discarded. -/
def State.endPart (s : State) (n k : Nat) (st : Status) : State :=
  let u := s.spu n k
  let s := s.countRun n k
  let s := s.setSpu n k { u with launch := none, streams := [], exiting := none, last := st.code }
  match u.launch.bind s.launch with
  | some l => s.setLaunch { l with parts := SMap.set (fun _ => some .ok) l.parts k (some st) }
  | none => s

/-- R303: the status of a part that a fault ends. st: that of a refused access. -/
def faultStatus (cause : Nat) (st : Status) : Status :=
  match cause with
  | 4 => st
  | 5 => .poison
  | 6 | 7 | 8 => .integrity
  | 9 => .timeout
  | 0xC => .portDown
  | _ => .unmapped

/-- R316: record a fault or a refused launch of a Bay in SP_FAULT_INFO, SP_FAULT_PC and SP_FAULT_ADDR, if none is recorded. -/
def State.spRecord (s : State) (n : Nat) (st : Status) (cause : Nat) (launch : Bool) (k pc addr : Nat) : State :=
  if bit (s.rg (pgSp n) Reg.Sp.SP_FAULT_INFO) 31 then s
  else ((s.setN (pgSp n) Reg.Sp.SP_FAULT_INFO (2 ^ 31 + st.code * 2 ^ 27 + cause * 2 ^ 22 + b2n launch * 64 + k)).setN (pgSp n)
    Reg.Sp.SP_FAULT_PC pc).setN (pgSp n) Reg.Sp.SP_FAULT_ADDR addr

/-- R303: a Spindle faults. A first transient fault of a launch whose image allows it re-executes the part. -/
def State.spFault (s : State) (n k cause : Nat) (st : Status) (addr : Nat) : State :=
  let u := s.spu n k
  let st := faultStatus cause st
  let s := (s.spRecord n st cause false k u.pc addr).spCount n k Reg.Sp.FAULT_CNT 1
  let s := if cause = 7 then s.setErr (pgSpGroup n (k / 8)) 2 0 else s
  let transient := decide (cause = 7 ∨ cause = 8)
  let s := if transient then s.raise (.spTransient n k) else s
  match s.running n k with
  | some l => if transient ∧ (l.hdr 6 2).testBit 0 ∧ !u.reexec then (s.countRun n k).prepare l k true else s.endPart n k st
  | none => s.endPart n k st

/-! ### The region (R285-R287) -/

/-- R287: the check of the block of region-local offset r. -/
def State.spCheck (s : State) (n k comp r : Nat) : Option Status :=
  let a := stackAddr s.sel n (regionToBay k r)
  if regionSize ≤ r then some .unmapped
  else match s.covers a with
    | none => some .unmapped
    | some (_, e) =>
      if e.comp.val ≠ comp ∨ (e.mode = .shared ∧ e.inDirectory a) then some .unmapped
      else if s.revoked s.reg.epoch (granule a) then some .revoked
      else none

/-- The reading of a stream: the state, how many lines it has read, the last line and the last block decoded, and the cycles in
which its consumer takes a block. -/
structure SpRead where
  s : State
  n : Nat
  k : Nat
  comp : Nat
  errs : List (Nat × Syms)
  reads : Nat
  line : Option (Nat × Line)
  block : Option (Nat × List Byte)
  pace : Nat

/-- R309, R99: the bank access of a read of the line at region-local offset r (64 B aligned). -/
def SpRead.fetch (x : SpRead) (r : Nat) : Except Status Line × SpRead :=
  let o := regionToBay x.k r
  let syms := ((x.errs.find? (fun e => e.1 = x.reads)).map Prod.snd).getD []
  let (d, s) := (x.s.touchRow x.n o).readLine x.n o 4 syms
  let s := s.spCount x.n x.k Reg.Sp.BANK_BYTE_CNT 64
  let x := { x with s := s, reads := x.reads + 1 }
  match d with
  | .data l => (.ok l, { x with line := some (r, l) })
  | d => (.error d.status, x)

/-- Read the line at region-local offset r (64 B aligned) if its block passes R287; the last line read is kept. -/
def SpRead.readAt (x : SpRead) (r : Nat) : Except Status Line × SpRead :=
  match x.line.filter (fun q => q.1 = r) with
  | some (_, l) => (.ok l, x)
  | none =>
    match x.s.spCheck x.n x.k x.comp r with
    | some st => (.error st, x)
    | none => x.fetch r

/-- The lines from region-local offset r (64 B aligned), m of them, or the first failure. -/
def SpRead.lines : Nat → Nat → SpRead → Except Status (List Byte) × SpRead
  | 0, _, x => (.ok [], x)
  | m + 1, r, x =>
    match x.readAt r with
    | (.error st, x) => (.error st, x)
    | (.ok l, x) =>
      match SpRead.lines m (r + 64) x with
      | (.error st, x) => (.error st, x)
      | (.ok bs, x) => (.ok (lineBytes l ++ bs), x)

/-- n bytes from region-local offset r. -/
def SpRead.bytes (x : SpRead) (r len : Nat) : Except Status (List Byte) × SpRead :=
  match SpRead.lines ((r % 64 + len + 63) / 64) (r / 64 * 64) x with
  | (.ok bs, x) => (.ok ((bs.drop (r % 64)).take len), x)
  | e => e

/-- R330: a failure of a Spindle's decode, with its cause. -/
def SpRead.codecFails (x : SpRead) (cause : Nat) (st : Status) (tid r : Nat) : Status × SpRead :=
  let (st, s) := x.s.codecFail x.n cause st 0 x.comp tid (stackAddr x.s.sel x.n (regionToBay x.k r))
  (st, { x with s := s })

/-- A failed read of a decode: poison is cause 0x7, an uncorrectable line cause 0x8; a refused block keeps its status. -/
def SpRead.codedRead (x : SpRead) (st : Status) (tid r : Nat) : Status × SpRead :=
  if st = .poison then x.codecFails 7 st tid r else if st = .integrity then x.codecFails 8 st tid r else (st, x)

/-- R322, R329, R332, R333: decode the place at region-local offset p (2 KiB aligned). -/
def SpRead.decode (x : SpRead) (tid p : Nat) : Except Status (List Byte) × SpRead :=
  let a := stackAddr x.s.sel x.n (regionToBay x.k p)
  match x.s.codecTable x.n x.comp tid with
  | (.error (cause, st), s) => let (st, x) := ({ x with s := s } : SpRead).codecFails cause st tid p; (.error st, x)
  | (.ok img, s) =>
    let x : SpRead := { x with s := s }
    if img.hmode ≠ 1 ∨ a < img.dataBase ∨ img.dataBase + img.nblk * 2048 ≤ a then
      let (st, x) := x.codecFails 9 .unmapped tid p; (.error st, x)
    else
      let h := img.localHdr (p / 4096) p
      match x.readAt (h / 64 * 64) with
      | (.error st, x) => let (st, x) := x.codedRead st tid p; (.error st, x)
      | (.ok l, x) =>
        let w := bytesAt l (h % 64) 4
        match SpRead.lines (if img.hdrOk w then payLines w else 0) p x with
        | (.error st, x) => let (st, x) := x.codedRead st tid p; (.error st, x)
        | (.ok pl, x) =>
          match x.s.decodeWith img x.n x.comp tid 0 a w pl with
          | (.error st, s) => (.error st, { x with s := s })
          | (.ok out, s) => (.ok out, { x with s := s.spCount x.n x.k Reg.Sp.EXP_STALL_CYC_CNT (img.cycles w - x.pace), block := some (p, out) })

/-- R290: len bytes of operands at region-local offset r, which lie in one place where they are coded. -/
def SpRead.operand (x : SpRead) (coded : Option Nat) (r len : Nat) : Except Status (List Byte) × SpRead :=
  match coded with
  | none => x.bytes r len
  | some tid =>
    let p := r / 2048 * 2048
    let cut := fun (bs : List Byte) => (bs.drop (r - p)).take len
    match x.block with
    | some (q, bs) => if q = p then (.ok (cut bs), x) else
      match x.decode tid p with | (.ok bs, x) => (.ok (cut bs), x) | e => e
    | none => match x.decode tid p with | (.ok bs, x) => (.ok (cut bs), x) | e => e

/-- The reading of a Spindle's bank for its launch. -/
def State.spRead (s : State) (n k comp : Nat) (errs : List (Nat × Syms)) : SpRead :=
  { s := s, n := n, k := k, comp := comp, errs := errs, reads := 0, line := none, block := none, pace := 16 }

/-! ### Stream descriptors (R290, R291) -/

/-- A field of a descriptor. -/
def SpStream.fld (d : SpStream) (o n : Nat) : Nat := num d.desc o n
/-- KIND. -/
def SpStream.kind (d : SpStream) : Nat := d.fld 0 1
/-- MFMT. -/
def SpStream.mfmt (d : SpStream) : Nat := d.fld 1 1 % 16
/-- QFMT. -/
def SpStream.qfmt (d : SpStream) : Nat := d.fld 1 1 / 16
/-- NQ. -/
def SpStream.nq (d : SpStream) : Nat := d.fld 2 1 % 16
/-- LIST. -/
def SpStream.list (d : SpStream) : Bool := (d.fld 3 1).testBit 0
/-- The code table, with CODED. -/
def SpStream.coded (d : SpStream) : Option Nat := if (d.fld 3 1).testBit 1 then some (d.fld 6 2 % 4096) else none
/-- D. -/
def SpStream.elems (d : SpStream) : Nat := d.fld 4 2 % 512
/-- SRC. -/
def SpStream.src (d : SpStream) : Nat := d.fld 8 4
/-- DST. -/
def SpStream.dst (d : SpStream) : Nat := d.fld 0xC 4
/-- COUNT. -/
def SpStream.count (d : SpStream) : Nat := d.fld 0x10 4
/-- STRIDE. -/
def SpStream.stride (d : SpStream) : Nat := d.fld 0x14 4
/-- AUX. -/
def SpStream.aux (d : SpStream) : Nat := d.fld 0x18 4
/-- AUX2. -/
def SpStream.aux2 (d : SpStream) : Nat := d.fld 0x1C 4
/-- R291: the fabric address of a PUT. -/
def SpStream.putAt (d : SpStream) : Nat := (d.aux2 * 2 ^ 32 + d.aux) % 2 ^ 60
/-- The bytes of a row. -/
def SpStream.row (d : SpStream) : Nat := d.elems * fmtSize d.mfmt

/-- Does an SRAM array of len bytes at a lie in the SRAM, aligned to m? -/
def inSram (a len m : Nat) : Bool := decide (a % m = 0) && decide (a + len ≤ sramSize)

/-- R311: the bytes of a partial record. -/
def partialSize (desc : List Byte) : Nat := num desc 6 1 * (16 + 4 * (num desc 4 2 % 512))

/-- R290, R291: is a descriptor free of reserved encodings and in range? part: the size of the launch's partial records. -/
def SpStream.ok (d : SpStream) (part : Nat) : Bool :=
  let nq := decide (1 ≤ d.nq) && decide (d.nq ≤ 8)
  let el := decide (1 ≤ d.elems) && decide (d.elems ≤ 256)
  let rows := nq && el && decide (d.mfmt ≤ 4) && decide (d.row % 32 = 0) && decide (d.stride % 32 = 0) &&
    (!d.list || (decide (1 ≤ d.stride) && decide (d.stride ≤ 4096) &&
      inSram d.src (4 * ((d.count + 4096 / max 1 d.stride - 1) / max 1 (4096 / max 1 d.stride))) 4)) &&
    (d.coded.isNone || (List.range (min d.count 64)).all (fun j =>
      let o := if d.list then j % max 1 (4096 / max 1 d.stride) * d.stride else d.src + j * d.stride
      decide (o % 2048 + d.row ≤ 2048)))
  let bytes := decide (d.count % 64 = 0)
  let scores := 4 * d.nq * d.count
  match d.kind with
  | 0 => nq && el && decide (1 ≤ d.qfmt) && decide (d.qfmt ≤ 4) && inSram d.src (d.nq * d.elems * fmtSize d.qfmt) 1
  | 1 => rows && decide (1 ≤ d.qfmt) && decide (d.qfmt ≤ 4) && inSram d.dst scores 4
  | 2 => rows && inSram d.aux scores 4
  | 3 => nq && inSram d.src scores 4 && inSram d.dst (4 * d.nq) 4
  | 4 => nq && inSram d.src scores 4 && inSram d.aux (4 * d.nq) 4 && inSram d.aux2 (4 * d.nq) 4
  | 5 => nq && el
  | 6 => nq && el && inSram d.aux (4 * d.nq) 4
  | 7 => nq && el && inSram d.dst (4 * d.elems * d.nq) 4
  | 8 => bytes && inSram d.dst d.count 1 &&
      (if d.list then inSram d.src (4 * ((d.count + 4095) / 4096)) 4 else decide (d.src % 64 = 0))
  | 9 => bytes && inSram d.src d.count 1 && decide (d.dst % 64 = 0)
  | 0xA => bytes && inSram d.src d.count 1 && decide (d.aux % 64 = 0)
  | 0xB => inSram d.src part 4
  | _ => false

/-- The partial record size of the launch that a Spindle runs. -/
def State.partSize (s : State) (l : Launch) : Nat :=
  match l.comb.bind (fun c => s.sp.combs.find? (fun e => e.id = c)) with
  | some c => partialSize c.desc
  | none => 0

/-! ### Streams end (R292) -/

/-- R292: the oldest stream of a Spindle has completed with a status. -/
def State.streamEnd (s : State) (n k : Nat) (st : Status) : State :=
  let u := s.spu n k
  match u.streams with
  | [] => s
  | d :: rest =>
    let s := (s.setSpu n k { u with streams := rest, done := SMap.set (fun _ => 15) u.done d.ticket st.code }).spCount n k
      Reg.Sp.STREAM_CNT 1
    match rest, u.exiting with
    | [], some e => s.endPart n k e
    | _, _ => s

/-- The oldest stream of a Spindle that runs a part, if it is of a kind. -/
def State.headStream (s : State) (n k kind : Nat) : Option (Launch × SpStream) :=
  match s.running n k, (s.spu n k).streams with
  | some l, d :: _ => if d.kind = kind ∧ !d.sent then some (l, d) else none
  | _, _ => none

/-- R281, R303: the oldest stream of a Spindle, if it is of a kind, goes on by f with what it reads from the SRAM: a word that the
SRAM has corrected is counted, and an uncorrectable one faults the Spindle. -/
def State.sramGot (s : State) (n k kind : Nat) (e : SramErr) (f : State → State) : State :=
  if (s.headStream n k kind).isNone then s
  else match e with
    | .none => f s
    | .fixed => f (s.spCount n k Reg.Sp.SRAM_CE_CNT 1)
    | .lost => s.spFault n k 7 .ok 0

/-- The region-local offset of row j. -/
def State.rowOff (s : State) (n k : Nat) (d : SpStream) (j : Nat) : Nat :=
  if d.list then
    let per := 4096 / max 1 d.stride
    s.sramWord n k (d.src + 4 * (j / max 1 per)) + j % max 1 per * d.stride
  else d.src + j * d.stride

/-- R294: the cycles of the dot unit for some operand bytes. -/
def SpStream.dotCycles (d : SpStream) (bytes : Nat) : Nat :=
  let narrow := decide (fmtSize d.mfmt = 1) && (decide (d.kind ≠ 1) || decide (fmtSize d.qfmt = 1))
  let m := if narrow then 512 else 256
  let e := 128 / max 1 (fmtSize d.mfmt)
  (bytes + 127) / 128 * max 1 ((e * d.nq + m - 1) / m)

/-- Rows of a SCORE or AXPY from j on, m of them, each by `f`, until one fails. -/
def SpRead.rows (n k : Nat) (d : SpStream) (f : State → Nat → List Nat → State) : Nat → Nat → SpRead → Status × SpRead
  | 0, _, x => (.ok, x)
  | m + 1, j, x =>
    match x.operand d.coded (x.s.rowOff n k d j) d.row with
    | (.error st, x) => (st, x)
    | (.ok bs, x) =>
      let s := (f x.s j (elemsOf (fmtSize d.mfmt) bs)).spCount n k Reg.Sp.DOT_CYC_CNT (d.dotCycles d.row)
      SpRead.rows n k d f m (j + 1) { x with s := s }

/-- R293: SCORE's value for one query register and one row: the exact sum, times the scale, rounded once. -/
def scoreOf (d : SpStream) (q row : List Nat) : Nat :=
  let sum := (q.zip row).foldl (fun (t : FVal) p => t.add ((valOf d.qfmt p.1).mul (valOf d.mfmt p.2))) (.fin false 0 0)
  (FF.fp32.ofVal (sum.mul (FF.fp32.decode d.aux))).1

/-- The elements of a query register. -/
def SpUnit.query (u : SpUnit) (d : SpStream) (g : Nat) : List Nat :=
  elemsOf (fmtSize d.qfmt) ((List.range (d.elems * fmtSize d.qfmt)).map (fun i => u.qrByte (512 * g + i)))

/-- R293: SCORE on row j. -/
def State.scoreRow (n k : Nat) (d : SpStream) (s : State) (j : Nat) (row : List Nat) : State :=
  (List.range d.nq).foldl (fun s g => s.setSramWord n k (d.dst + 4 * (g * d.count + j)) (scoreOf d ((s.spu n k).query d g) row)) s

/-- R293: one element of an AXPY. -/
def axpyOf (d : SpStream) (o w x : Nat) : Nat :=
  (FF.fp32.ofVal ((FF.fp32.decode o).add ((FF.fp32.decode w).mul (valOf d.mfmt x)))).1

/-- R293: AXPY on row j. -/
def State.axpyRow (n k : Nat) (d : SpStream) (s : State) (j : Nat) (row : List Nat) : State :=
  let u := (List.range d.nq).foldl (fun (u : SpUnit) g =>
    let w := s.sramWord n k (d.aux + 4 * (g * d.count + j))
    row.zipIdx.foldl (fun (u : SpUnit) p => u.setOa g p.2 (axpyOf d (u.oaw g p.2) w p.1)) u) (s.spu n k)
  s.setSpu n k u

/-- R292, R293: a SCORE or AXPY stream completes, or the dot unit's residue check fails. -/
def State.dotStream (s : State) (n k kind : Nat) (f : SpStream → State → Nat → List Nat → State) (e : StreamErrs) : State :=
  match s.headStream n k kind with
  | none => s
  | some (l, d) =>
    if e.residue then s.spFault n k 8 .ok 0
    else s.sramGot n k kind e.sram (fun s =>
      let (st, x) := SpRead.rows n k d (f d) d.count 0 { s.spRead n k l.comp e.lines with pace := d.dotCycles 2048 }
      x.s.streamEnd n k st)

/-- R291: a QLOAD completes. -/
def State.qload (s : State) (n k : Nat) : State :=
  match s.headStream n k 0 with
  | none => s
  | some (_, d) =>
    let b := d.elems * fmtSize d.qfmt
    let u := (List.range d.nq).foldl (fun (u : SpUnit) g => u.setQr (512 * g) (s.sramBytes n k (d.src + g * b) b)) (s.spu n k)
    (s.setSpu n k u).streamEnd n k .ok

/-- R293: a VMAX completes. -/
def State.vmax (s : State) (n k : Nat) : State :=
  match s.headStream n k 3 with
  | none => s
  | some (_, d) =>
    let s := (List.range d.nq).foldl (fun s g =>
      let xs := (List.range d.count).map (fun j => s.sramWord n k (d.src + 4 * (g * d.count + j)))
      s.setSramWord n k (d.dst + 4 * g) (xs.foldl fp32Max 0xFF800000)) s
    s.streamEnd n k .ok

/-- R293: a VEXPS completes. -/
def State.vexps (s : State) (n k : Nat) : State :=
  match s.headStream n k 4 with
  | none => s
  | some (_, d) =>
    let s := (List.range d.nq).foldl (fun s g =>
      let c := s.sramWord n k (d.aux + 4 * g)
      let r := (List.range d.count).foldl (fun (q : Nat × State) j =>
        let a := d.src + 4 * (g * d.count + j)
        let y := fp32Exp2 (fp32Sub (q.2.sramWord n k a) c)
        (fp32Add q.1 y, q.2.setSramWord n k a y)) (0, s)
      r.2.setSramWord n k (d.aux2 + 4 * g) r.1) s
    s.streamEnd n k .ok

/-- R291, R293: each accumulator's elements 0 to D - 1 by `f`. -/
def SpUnit.mapOa (u : SpUnit) (d : SpStream) (f : Nat → Nat → Nat) : SpUnit :=
  (List.range d.nq).foldl (fun (u : SpUnit) g => (List.range d.elems).foldl (fun (u : SpUnit) e => u.setOa g e (f g (u.oaw g e))) u) u

/-- R291: an OCLR completes. -/
def State.oclr (s : State) (n k : Nat) : State :=
  match s.headStream n k 5 with
  | none => s
  | some (_, d) => (s.setSpu n k ((s.spu n k).mapOa d (fun _ _ => 0))).streamEnd n k .ok

/-- R293: an OSCALE completes. -/
def State.oscale (s : State) (n k : Nat) : State :=
  match s.headStream n k 6 with
  | none => s
  | some (_, d) =>
    let f := fun g x => (FF.fp32.ofVal ((FF.fp32.decode x).mul (FF.fp32.decode (s.sramWord n k (d.aux + 4 * g))))).1
    (s.setSpu n k ((s.spu n k).mapOa d f)).streamEnd n k .ok

/-- R291: an OSTORE completes. -/
def State.ostore (s : State) (n k : Nat) : State :=
  match s.headStream n k 7 with
  | none => s
  | some (_, d) =>
    let u := s.spu n k
    let s := (List.range d.nq).foldl (fun s g =>
      s.setSram n k (d.dst + 4 * d.elems * g) ((List.range d.elems).flatMap (fun e => leBytes 4 (u.oaw g e)))) s
    s.streamEnd n k .ok

/-- The region-local offset of byte 64 i of a COPY_IN. -/
def State.copyOff (s : State) (n k : Nat) (d : SpStream) (i : Nat) : Nat :=
  if d.list then s.sramWord n k (d.src + 4 * (i / 64)) + i % 64 * 64 else d.src + 64 * i

/-- Lines of a COPY_IN from i on, until one fails. -/
def SpRead.copyIn (n k : Nat) (d : SpStream) : Nat → Nat → SpRead → Status × SpRead
  | 0, _, x => (.ok, x)
  | m + 1, i, x =>
    match x.operand d.coded (x.s.copyOff n k d i) 64 with
    | (.error st, x) => (st, x)
    | (.ok bs, x) => SpRead.copyIn n k d m (i + 1) { x with s := x.s.setSram n k (d.dst + 64 * i) bs }

/-- R291: a COPY_IN completes. -/
def State.copyIn (s : State) (n k : Nat) (e : List (Nat × Syms)) : State :=
  match s.headStream n k 8 with
  | none => s
  | some (l, d) =>
    let (st, x) := SpRead.copyIn n k d (d.count / 64) 0 (s.spRead n k l.comp e)
    x.s.streamEnd n k st

/-- Lines of a COPY_OUT from i on, until a block is refused (R287). -/
def State.copyLines (n k comp : Nat) (d : SpStream) : Nat → Nat → State → Status × State
  | 0, _, s => (.ok, s)
  | m + 1, i, s =>
    let r := d.dst + 64 * i
    match s.spCheck n k comp r with
    | some st => (st, s)
    | none =>
      let o := regionToBay k r
      let s := ((s.touchRow n o).storeLine n o (lineOfBytes (s.sramBytes n k (d.src + 64 * i) 64))).spCount n k Reg.Sp.BANK_BYTE_CNT 64
      State.copyLines n k comp d m (i + 1) s

/-- R291, R309: a COPY_OUT completes. -/
def State.copyOut (s : State) (n k : Nat) : State :=
  match s.headStream n k 9 with
  | none => s
  | some (l, d) => let (st, s) := State.copyLines n k l.comp d (d.count / 64) 0 s; s.streamEnd n k st

/-- The oldest stream has sent what it sends. -/
def SpUnit.markSent (u : SpUnit) : SpUnit :=
  match u.streams with
  | [] => u
  | d :: r => { u with streams := { d with sent := true } :: r }

/-- R291: a PUT sends its writes under the Region Key of its descriptor; it completes with them. -/
def State.put (s : State) (n k : Nat) : State :=
  match s.headStream n k 0xA with
  | none => s
  | some (_, d) =>
    if d.count = 0 then s.streamEnd n k .ok
    else
      let u := s.spu n k
      let fa := d.putAt
      let rs := (List.range (d.count / 64)).map (fun i =>
        (24 + n, s.writeReq (fa + 64 * i) (BitVec.ofNat 32 d.stride) none (BitVec.allOnes 64) (lineOfBytes (s.sramBytes n k (d.src + 64 * i) 64))))
      ((s.setSpu n k u.markSent).startBatch (.spPut n k u.run) rs).2

/-- R292: the writes of a PUT have completed. -/
def State.putDone (s : State) (n k run : Nat) (cs : List Cmp) : State :=
  let u := s.spu n k
  match u.streams with
  | d :: _ => if u.launch.isSome ∧ u.run = run ∧ d.sent ∧ d.kind = 0xA then s.streamEnd n k (firstBad cs) else s
  | [] => s

/-- R314: a PARTIAL sends its record to the combining Loom. -/
def State.sendPartial (s : State) (n k : Nat) : State :=
  match s.headStream n k 0xB with
  | none => s
  | some (l, d) =>
    let u := s.spu n k
    let m : PartMsg := { bay := n, sp := k, run := u.run, ticket := d.ticket, comb := l.comb, idx := d.aux
                         data := s.sramBytes n k d.src (s.partSize l) }
    let s := s.setSpu n k u.markSent
    { s with sp := { s.sp with parts := s.sp.parts ++ [m] } }

/-- R314: the stream of a partial completes. -/
def State.partialDone (s : State) (m : PartMsg) (st : Status) : State :=
  let u := s.spu m.bay m.sp
  match u.streams with
  | d :: _ => if u.launch.isSome ∧ u.run = m.run ∧ d.sent ∧ d.ticket = m.ticket then s.streamEnd m.bay m.sp st else s
  | [] => s

/-! ### The core (R282, R283, R288, R289) -/

/-- Where a core access goes (R282). -/
inductive SpPlace where
  | sram | qr | oa | region | bad
deriving DecidableEq, Repr

/-- R282: what holds len bytes at Spindle address a. -/
def spPlace (a len : Nat) : SpPlace :=
  if a + len ≤ sramSize then .sram
  else if 0x80000 ≤ a ∧ a + len ≤ 0x81000 ∧ len = 4 then .qr
  else if 0x82000 ≤ a ∧ a + len ≤ 0x84000 ∧ len = 4 then .oa
  else if 0x40000000 ≤ a ∧ a + len ≤ 0x40000000 + regionSize then .region
  else .bad

/-- The core goes on to the next instruction. -/
def State.coreNext (s : State) (n k : Nat) (u : SpUnit) (len : Nat) : State := s.setSpu n k { u with pc := (u.pc + len) % 2 ^ 32 }

/-- R282: a load from SRAM, QR or OA. -/
def State.coreLoad (s : State) (n k : Nat) (p : SpPlace) (a len : Nat) : Nat :=
  let u := s.spu n k
  match p with
  | .qr => leNat ((List.range len).map (fun i => u.qrByte (a - 0x80000 + i)))
  | .oa => SMap.get (fun _ => 0) u.oa ((a - 0x82000) / 4)
  | _ => leNat (s.sramBytes n k a len)

/-- R282: a store to SRAM, QR or OA. -/
def State.coreStore (s : State) (n k : Nat) (p : SpPlace) (a len v : Nat) : State :=
  let u := s.spu n k
  match p with
  | .qr => s.setSpu n k (u.setQr (a - 0x80000) (leBytes len v))
  | .oa => s.setSpu n k { u with oa := SMap.set (fun _ => 0) u.oa ((a - 0x82000) / 4) v }
  | _ => s.setSram n k a (leBytes len v)

/-- A scalar float instruction (R288, R289). -/
def State.coreSf (s : State) (n k : Nat) (o : SfOp) (rd rs1 rs2 : Nat) : State :=
  let u := s.spu n k
  s.coreNext n k (u.setX rd (o.run (u.x rs1) (u.x rs2))) 4

/-- DS.START (R290, R292): it waits while 4 streams are started and not completed. -/
def State.coreStart (s : State) (n k rd rs : Nat) : State :=
  let u := s.spu n k
  let a := u.x rs
  match s.running n k with
  | none => s
  | some l =>
    if 4 ≤ u.streams.length then s
    else
      let d : SpStream := { ticket := u.tickets, desc := s.sramBytes n k a 32, sent := false }
      if !inSram a 32 32 ∨ !d.ok (s.partSize l) then s.spFault n k 0xB .ok a
      else s.coreNext n k ({ u with streams := u.streams ++ [d], tickets := (u.tickets + 1) % 65536
                                    done := SMap.set (fun _ => 15) u.done u.tickets 15 }.setX rd u.tickets) 4

/-- The status of a ticket: 0xF while its stream has not completed. -/
def SpUnit.ticketStatus (u : SpUnit) (t : Nat) : Nat := SMap.get (fun _ => 15) u.done (t % 65536)

/-- DS.WAIT (R288). -/
def State.coreWait (s : State) (n k rd rs : Nat) : State :=
  let u := s.spu n k
  let v := u.ticketStatus (u.x rs)
  if v = 15 then s else s.coreNext n k (u.setX rd v) 4

/-- DS.POLL (R288). -/
def State.corePoll (s : State) (n k rd rs : Nat) : State :=
  let u := s.spu n k
  s.coreNext n k (u.setX rd (u.ticketStatus (u.x rs))) 4

/-- SP.EXIT (R302). -/
def State.coreExit (s : State) (n k rs : Nat) : State :=
  let u := s.spu n k
  match Status.ofCode (u.x rs % 16) with
  | none => s.spFault n k 1 .ok 0
  | some st => if u.streams = [] then s.endPart n k st else s.setSpu n k { u with exiting := some st }

/-- SP.RDCNT (R289). Counter 0 follows the model's clock at 1.7 GHz; counters 2 to 7 count stalls, which the model does not
time: free values. -/
def State.coreRdcnt (s : State) (n k rd idx : Nat) : State :=
  let u := s.spu n k
  if idx % 2 = 1 ∧ idx < 8 then s.coreNext n k (u.setX rd u.upper) 4
  else if 8 ≤ idx then s.coreNext n k (u.setX rd 0) 4
  else
    let (v, s) := if idx = 0 then ((s.now - u.entry) * 17 / 10, s) else let (f, s) := s.fresh; (f.toNat, s)
    s.coreNext n k ({ u with upper := v / 2 ^ 32 % 2 ^ 32 }.setX rd (v % 2 ^ 32)) 4

/-- The address of a load or store. -/
def SpUnit.addr (u : SpUnit) (rs : Nat) (off : Int) : Nat := toBits 32 ((u.x rs : Int) + off)

/-- Perform one instruction of len bytes at the pc. A load or store in the region window is left to SPINDLE_LOAD_STORE. -/
def State.coreDo (s : State) (n k : Nat) (i : Rv) (len : Nat) : State :=
  let u := s.spu n k
  let wr := fun rd v => s.coreNext n k (u.setX rd v) len
  match i with
  | .lui rd imm => wr rd imm
  | .auipc rd imm => wr rd ((u.pc + imm) % 2 ^ 32)
  | .jal rd off => s.setSpu n k { (u.setX rd ((u.pc + len) % 2 ^ 32)) with pc := toBits 32 ((u.pc : Int) + off) }
  | .jalr rd rs off => s.setSpu n k { (u.setX rd ((u.pc + len) % 2 ^ 32)) with pc := u.addr rs off / 2 * 2 }
  | .branch f a b off =>
    if rvTaken f (u.x a) (u.x b) then s.setSpu n k { u with pc := toBits 32 ((u.pc : Int) + off) } else s.coreNext n k u len
  | .load f rd rs off =>
    let a := u.addr rs off
    match spPlace a (rvSize f) with
    | .bad => s.spFault n k 3 .ok a
    | p =>
      if a % rvSize f ≠ 0 then s.spFault n k 2 .ok a
      else if p = .region then s
      else wr rd (rvExtend f (s.coreLoad n k p a (rvSize f)))
  | .store f a b off =>
    let at' := u.addr a off
    match spPlace at' (rvSize f) with
    | .bad => s.spFault n k 3 .ok at'
    | p =>
      if at' % rvSize f ≠ 0 then s.spFault n k 2 .ok at'
      else if p = .region then s
      else
        let s := s.coreStore n k p at' (rvSize f) (u.x b % 2 ^ (8 * rvSize f))
        s.coreNext n k (s.spu n k) len
  | .opImm f rd rs alt imm => wr rd (rvAlu f (u.x rs) imm alt)
  | .op f rd a b alt => wr rd (rvAlu f (u.x a) (u.x b) alt)
  | .mul f rd a b => wr rd (rvMul f (u.x a) (u.x b))
  | .fence => s.coreNext n k u len
  | .sf o rd a b => s.coreSf n k o rd a b
  | .dsStart rd rs => s.coreStart n k rd rs
  | .dsWait rd rs => s.coreWait n k rd rs
  | .dsPoll rd rs => s.corePoll n k rd rs
  | .spExit rs => s.coreExit n k rs
  | .spRdcnt rd idx => s.coreRdcnt n k rd idx

/-- Does a Spindle's core execute: a part runs and has not reached its SP.EXIT? -/
def State.coreRuns (s : State) (n k : Nat) : Bool := (s.running n k).isSome && (s.spu n k).exiting.isNone && !(s.spu n k).halted

/-- The instruction at the pc and its length; none: the pc leaves the SRAM. -/
def State.coreFetch (s : State) (n k : Nat) : Option (Option Rv × Nat) :=
  let pc := (s.spu n k).pc
  if sramSize < pc + 2 then none
  else
    let (i, len) := rvDecode (leNat (s.sramBytes n k pc 4))
    if sramSize < pc + len then none else some (i, len)

/-- R281, R303: a core executes the instruction at its pc. e: what the SRAM returns. -/
def State.coreStep (s : State) (n k : Nat) (e : SramErr) : State :=
  if !s.coreRuns n k then s
  else if e = .lost then s.spFault n k 7 .ok 0
  else
    let s := if e = .fixed then s.spCount n k Reg.Sp.SRAM_CE_CNT 1 else s
    match s.coreFetch n k with
    | none => s.spFault n k 3 .ok (s.spu n k).pc
    | some (none, _) => s.spFault n k 1 .ok 0
    | some (some i, len) => s.coreDo n k i len

/-- A custom-0 instruction handed to a core that runs. -/
def State.coreGiven (s : State) (n k : Nat) (f : State → State) : State := if s.coreRuns n k then f s else s

/-- R283, R309: the load or store in the region window at a core's pc, once every stream it started has completed. e: the symbols
in error of the line. -/
def State.regionAccess (s : State) (n k : Nat) (e : Syms) : State :=
  match s.running n k, s.coreFetch n k with
  | some l, some (some i, len) =>
    let u := s.spu n k
    if u.exiting.isSome ∨ u.halted ∨ u.streams ≠ [] then s
    else match i with
      | .load f rd rs off =>
        let a := u.addr rs off
        if spPlace a (rvSize f) ≠ .region ∨ a % rvSize f ≠ 0 then s
        else
          let r := a - 0x40000000
          match s.spCheck n k l.comp r with
          | some st => s.spFault n k 4 st a
          | none =>
            match (s.spRead n k l.comp [(0, e)]).readAt (r / 64 * 64) with
            | (.ok w, x) => x.s.coreNext n k ((x.s.spu n k).setX rd (rvExtend f (bytesAt w (r % 64) (rvSize f)))) len
            | (.error st, x) => x.s.spFault n k (if st = .poison then 5 else 6) st a
      | .store f b c off =>
        let a := u.addr b off
        if spPlace a (rvSize f) ≠ .region ∨ a % rvSize f ≠ 0 then s
        else
          let r := a - 0x40000000
          match s.spCheck n k l.comp r with
          | some st => s.spFault n k 4 st a
          | none =>
            let o := regionToBay k (r / 64 * 64)
            let m := spanMask 0 (r % 64) (r % 64 + rvSize f)
            let d : Line := BitVec.ofNat 512 ((u.x c % 2 ^ (8 * rvSize f)) <<< (8 * (r % 64)))
            let (q, s) := (s.touchRow n o).mergeIn n o 4 e m d
            let s := s.spCount n k Reg.Sp.BANK_BYTE_CNT 64
            match q with
            | .data _ => s.coreNext n k (s.spu n k) len
            | .poison => s.spFault n k 5 .poison a
            | .bad => s.spFault n k 6 .integrity a
      | _ => s
  | _, _ => s

/-- R302: MAXCYC passes. -/
def State.partTimeout (s : State) (n k : Nat) : State := if (s.running n k).isSome then s.spFault n k 9 .ok 0 else s

/-- R304, R303: a Spindle is fenced, or reset at L4: its part ends with PORT_DOWN. -/
def State.spStop (s : State) (n k : Nat) : State :=
  if (s.running n k).isSome then s.spFault n k 0xC .ok 0
  else if (s.spu n k).launch.isSome then s.endPart n k .portDown
  else s

/-- R304: a write of SP_FENCE. -/
def State.spFenceWrite (s : State) (n : Nat) (v : DWord) : State :=
  let old := s.rg (pgSp n) Reg.Sp.SP_FENCE
  let s := s.set (pgSp n) Reg.Sp.SP_FENCE v
  (List.range 64).foldl (fun s k => if bit v k ∧ !bit old k then s.spStop n k else s) s

/-- R304: an L4 reset of a Spindle. -/
def State.spReset (s : State) (n k : Nat) : State :=
  let s := s.spStop n k
  let s := { s with sram := SMap.drop (fun x => x / sramSize = n * 64 + k) s.sram }
  s.setSpu n k { SpUnit.init with last := (s.spu n k).last, kat := 0 }

end Sys2Proof.Machine
end

