-- ==== Sys2Proof/Machine/Launch.lean ====
section
/-!
DEFINITION. Machine/Launch.lean: Spindle launches (R299-R302), their FENCE stages (R307), and the combination of partials
(R311-R315).
-/
namespace Sys2Proof.Machine

open Sys2Proof

/-- The page of the Spindle control registers. -/
def pgSpCtl : Nat := pgOfHub Reg.SpCtl.COMB_STAT

/-! ### Combines (R312-R315) -/

/-- The combine of a COMB_ID, if it is not FREE. -/
def State.comb (s : State) (id : Nat) : Option Comb := s.sp.combs.find? (fun c => c.id = id)

/-- Replace a combine. -/
def State.setComb (s : State) (c : Comb) : State :=
  { s with sp := { s.sp with combs := s.sp.combs.map (fun (d : Comb) => if d.id = c.id then c else d) } }

/-- COMB_BAY. -/
def Comb.bay (c : Comb) : Nat := num c.desc 2 1 % 32
/-- NPART. -/
def Comb.npart (c : Comb) : Nat := num c.desc 3 1
/-- D. -/
def Comb.elems (c : Comb) : Nat := num c.desc 4 2 % 512
/-- NQH. -/
def Comb.heads (c : Comb) : Nat := num c.desc 6 1
/-- OFMT. -/
def Comb.ofmt (c : Comb) : Nat := num c.desc 7 1 % 16
/-- OUT. -/
def Comb.out (c : Comb) : Nat := num c.desc 0x10 8 % 2 ^ 60
/-- FLAG. -/
def Comb.flag (c : Comb) : Nat := num c.desc 0x20 8 % 2 ^ 60
/-- OUT_STRIDE. -/
def Comb.ostride (c : Comb) : Nat := num c.desc 0x1C 4
/-- R312: the slots of one head of a part. -/
def Comb.per (c : Comb) : Nat := (c.elems + 4 + 9) / 10

/-- R16, R312: are the fields of a combine descriptor in their ranges? -/
def Comb.ok (c : Comb) : Bool :=
  decide (c.bay < 24) && decide (1 ≤ c.npart) && decide (c.npart ≤ 64) && decide (1 ≤ c.elems) && decide (c.elems ≤ 256) &&
  decide (1 ≤ c.heads) && decide (c.heads ≤ 64) && decide (c.ofmt ≤ 2) && decide (1 ≤ num c.desc 0xC 2) && decide (c.out % 64 = 0) &&
  decide (c.ostride % 64 = 0) && decide (c.elems * fmtSize c.ofmt ≤ c.ostride) && decide (c.flag % 8 = 0)

/-- R312: the checks of a launch's descriptor against the composition's slots and the combine table. -/
def State.combCheck (s : State) (comp : Nat) (d : List Byte) : Bool :=
  let c : Comb := { id := num d 0 2 % 4096, state := 1, desc := d, comp := comp, parts := [], st := .ok, writing := false }
  let q := s.quota comp
  c.ok && decide (s.bayShare comp c.bay ≠ 0) && decide (q.poolLo ≤ c.slots.2.1) && decide (c.slots.2.2 ≤ q.poolHi) &&
  match s.comb c.id with
  | none => true
  | some e => e.state = 1 && decide (e.desc = d)

/-- R314, R312: word w (M, L, two zero words, then O) of head h of part p, as held in the combining Loom's slots. -/
def State.combWord (s : State) (c : Comb) (p h w : Nat) : Nat :=
  s.slot c.bay (c.slots.2.1 + (p * c.heads + h) * c.per + w / 10) / 2 ^ (32 * (w % 10)) % 2 ^ 32

/-- R312: store a partial record in the combining Loom's slots. -/
def State.storePart (s : State) (c : Comb) (p : Nat) (bs : List Byte) : State :=
  (List.range c.heads).foldl (fun s h =>
    let head := bs.drop (h * (16 + 4 * c.elems))
    (List.range c.per).foldl (fun s i =>
      s.setSlot c.bay (c.slots.2.1 + (p * c.heads + h) * c.per + i)
        (leNat (((head.take (16 + 4 * c.elems)).drop (40 * i)).take 40))) s) s

/-- R315: the combine's flag carries NPART and its status. inp: the Deck port it leaves by. -/
def State.combFlag (s : State) (c : Comb) (inp : Nat) (st : Status) : State :=
  let fa := c.flag
  if fa = 0 then s
  else s.submit inp .plain (s.capReq fa (BitVec.ofNat 32 (num c.desc 0x18 4)) (BitVec.ofNat 64 (c.npart + st.code * 2 ^ 32)))

/-- R315: an OPEN combine becomes DONE (2) or FAILED (3); the launches that named it learn its status. -/
def State.combEnd (s : State) (c : Comb) (state inp : Nat) (st : Status) : State :=
  let s := s.setComb { c with state := state, st := st, writing := false, parts := [] }
  let s := { s with sp := { s.sp with launches := s.sp.launches.map (fun (l : Launch) =>
    if l.comb = some c.id ∧ l.combSt = none then { l with combSt := some st } else l) } }
  (s.bump (pgSp c.bay) (if state = 2 then Reg.Sp.COMB_DONE_CNT else Reg.Sp.COMB_FAIL_CNT)).combFlag c inp st

/-- R314: one head's output elements. m, l, o: the parts' values, in part order. -/
def combHead (fmt d : Nat) (ps : List (Nat × Nat × List Nat)) : List Nat :=
  let mx := ps.foldl (fun a p => fp32Max a p.1) 0xFF800000
  let (lsum, o) := ps.foldl (fun (q : Nat × List Nat) p =>
    let s := if p.1 = 0xFF800000 then 0 else fp32Exp2 (fp32Sub p.1 mx)
    (fp32Add q.1 (fp32Mul p.2.1 s), (q.2.zip p.2.2).map (fun e => fp32Add e.1 (fp32Mul e.2 s)))) (0, List.replicate d 0)
  if lsum = 0 then List.replicate d 0
  else o.map (fun x => (roundVal fmt ((FF.fp32.decode x).mul (FF.fp32.decode (fp32Rcp lsum)))).1)

/-- R314: the combined output of one head. -/
def State.combOutput (s : State) (c : Comb) (h : Nat) : List Nat :=
  combHead c.ofmt c.elems ((List.range c.npart).map (fun p =>
    (s.combWord c p h 0, s.combWord c p h 1, (List.range c.elems).map (fun e => s.combWord c p h (4 + e)))))

/-- R314, R315: all parts are present: the Loom combines each head and writes the outputs. -/
def State.combine' (s : State) (c : Comb) : State :=
  let b := fmtSize c.ofmt
  let rs := (List.range c.heads).flatMap (fun h =>
    let bs := (s.combOutput c h).flatMap (leBytes b)
    let base := c.out + h * c.ostride
    (linesOf (bs ++ List.replicate (alignUp bs.length 64 - bs.length) 0)).zipIdx.map (fun p =>
      (24 + c.bay, s.writeReq (base + 64 * p.2) (BitVec.ofNat 32 (num c.desc 0x18 4)) none (BitVec.allOnes 64) p.1)))
  ((s.setComb { c with writing := true }).startBatch (.combOut c.id) rs).2

/-- R315: the output writes of a combine have completed. -/
def State.combOut (s : State) (id : Nat) (cs : List Cmp) : State :=
  match s.comb id with
  | some c => if c.state = 1 ∧ c.writing then s.combEnd c 2 (24 + c.bay) (firstBad cs) else s
  | none => s

/-- R314: what a partial meets at the combining Loom. -/
def State.partialStored (s : State) (c : Comb) (m : PartMsg) : Status × State :=
  if c.npart ≤ m.idx then (.unmapped, s)
  else if c.state = 3 then (.timeout, s)
  else if c.state = 2 ∨ c.writing ∨ c.parts.contains m.idx then (.ok, s.bump (pgSp c.bay) Reg.Sp.PART_DUP_CNT)
  else
    let c := { c with parts := NSet.insert m.idx c.parts }
    let s := ((s.storePart c m.idx m.data).setComb c).bump (pgSp c.bay) Reg.Sp.PART_CNT
    (.ok, if c.parts.length = c.npart then s.combine' c else s)

/-- R43, R314: the oldest partial of a Spindle reaches the combining Loom; one for a Bay that sleeps waits in its crossing, and the
Bay is woken. -/
def State.partialArrival (s : State) (n k : Nat) : State :=
  match s.sp.parts.find? (fun m => m.bay = n && m.sp = k) with
  | none => s
  | some m =>
    let rest := s.sp.parts.erase m
    let t : State := { s with sp := { s.sp with parts := rest } }
    match m.comb.bind s.comb with
    | none => t.partialDone m .unmapped
    | some c =>
      if !s.bayUp c.bay then t.partialDone m .portDown
      else if !s.bayRuns c.bay then s.wake (.bay (Fin.ofNat 24 c.bay))
      else
        let (st, s) := t.partialStored c m
        s.partialDone m st

/-- R315: CTIMEOUT passes while a combine is OPEN. -/
def State.combTimeout (s : State) (id : Nat) : State :=
  match s.comb id with
  | some c => if c.state = 1 ∧ !c.writing then s.combEnd c 3 (24 + c.bay) .timeout else s
  | none => s

/-- R315: RID_HOLD passes after a combine's end: it is FREE. -/
def State.combHold (s : State) (id : Nat) : State :=
  match s.comb id with
  | some c => if c.state = 1 then s else { s with sp := { s.sp with combs := s.sp.combs.filter (fun d => d.id ≠ id) } }
  | none => s

/-- COMB_STAT (R317): BUSY is 0; STATE and RESULT are those of the last command. -/
def State.combStat (s : State) (st res : Nat) : State :=
  s.setHub Reg.SpCtl.COMB_STAT (setFld (setFld (s.hub Reg.SpCtl.COMB_STAT) 9 8 st) 3 0 res)

/-- The entries of the combine table that are not FREE. -/
def State.combUsed (s : State) : Nat := s.sp.combs.length

/-- R317: COMB_CMD OP 0x1. -/
def State.combQuery (s : State) (id : Nat) : State := s.combStat (((s.comb id).map Comb.state).getD 0) 0

/-- R315, R317: COMB_CMD OP 0x2. -/
def State.combCancel (s : State) (id : Nat) : State :=
  let last := fld (s.hub Reg.SpCtl.COMB_STAT) 9 8
  match s.comb id with
  | some c =>
    if c.state = 1 ∧ !c.writing then ((s.combEnd c 3 (24 + c.bay) .revoked).bumpHub Reg.SpCtl.COMB_CANCEL_CNT).combStat last 0
    else s.combStat last 1
  | none => s.combStat last 1

/-- R476: Bay n is retired or reset, or its Loom is reset: its OPEN combines fail. -/
def State.combsDown (s : State) (n : Nat) : State :=
  (s.sp.combs.filter (fun c => c.bay = n && c.state = 1)).foldl (fun s c => s.combEnd c 3 hubIn .portDown) s

/-! ### Launches (R299-R302) -/

/-- The launch of a task. -/
def State.launchOf (s : State) (t : TaskRef) : Option Launch := s.sp.launches.find? (fun l => l.t = t)

/-- Forget a launch and report its end. -/
def State.launchEnd (s : State) (l : Launch) (st : Status) : State :=
  ({ s with sp := { s.sp with launches := s.sp.launches.filter (fun m => m.id ≠ l.id) } }).report l.t st

/-- R301: a launch fails a check: it ends, and its refusal is recorded. -/
def State.launchRefuse (s : State) (l : Launch) (st : Status) (cause : Nat) : State :=
  let s := if l.bay < 24 then s.spRecord l.bay st cause true 0 0 0 else s
  (s.bumpHub Reg.SpCtl.LAUNCH_REJECT_CNT).launchEnd l st

/-- The Spindles of a launch's MASK. -/
def Launch.mask (l : Launch) : List Nat := (List.range 64).filter (fun k => (l.fld 8 8).testBit k)

/-- R16, R300: are the fields of a launch body in their ranges? -/
def Launch.bodyOk (l : Launch) : Bool :=
  decide (l.bay < 24) && decide (l.fld 8 8 ≠ 0) && decide (l.imageAt % 64 = 0) && decide (l.bits 0x18 8 48 % 64 = 0) &&
  decide (l.argLen % 64 = 0) && decide (l.argDst % 64 = 0) && decide (l.argDst + l.argLen ≤ sramSize) && decide (1 ≤ l.fld 0x28 4) &&
  decide (l.rangesAt % 64 = 0) && ((l.fld 2 1).testBit 1 = false || decide (l.bits 0x38 8 48 % 64 = 0))

/-- The key of a launch's reads. -/
def Launch.key (l : Launch) : Word := BitVec.ofNat 32 (l.fld 4 4)

/-- Does the launch name a range list that counts: in FENCE mode (R307)? -/
def Launch.hasRanges (l : Launch) : Bool := l.fence && decide (l.rangesAt ≠ 0)

/-- Does it take part in a combine? -/
def Launch.hasComb (l : Launch) : Bool := (l.fld 2 1).testBit 1

/-- The local offsets that stage 1 reads: the image header, the arguments, the range list, the combine descriptor. -/
def Launch.headLines (l : Launch) : List Nat :=
  l.imageAt :: ((List.range (l.argLen / 64)).map (fun i => l.bits 0x18 8 48 + 64 * i) ++
    (if l.hasRanges then (List.range 4).map (fun i => l.rangesAt + 64 * i) else []) ++
    (if l.hasComb then [l.bits 0x38 8 48] else []))

/-- R301: a launch task reaches its Bay. -/
def State.spLaunch (s : State) (t : TaskRef) : State :=
  match s.beginTask t 6 with
  | none => s
  | some (x, s) =>
    let comp := bytesAt x.body 1 1
    let l : Launch := { id := s.sp.next, t := t, bay := bitsAt x.body 0 1 5, comp := comp
                        fence := bit (s.rgb pgSpCtl Reg.SpCtl.COH_MODE comp) 0, stage := 1, body := x.body, head := [], image := []
                        ranges := [], comb := none, combSt := none, waits := [], parts := [] }
    let s := { s with sp := { s.sp with next := s.sp.next + 1, launches := s.sp.launches ++ [l] } }
    let s := s.bumpHub Reg.SpCtl.LAUNCH_DEV_CNT
    if l.bay < 24 ∧ !s.bayUp l.bay then s.launchRefuse l .portDown 0x10
    else if !l.bodyOk then s.launchRefuse l .unmapped 0x11
    else if s.bayShare l.comp l.bay = 0 ∨ l.mask.any (fun k => !s.spGranted l.comp l.bay k) then s.launchRefuse l .unmapped 0x12
    else (s.startBatch (.spHead t) (l.headLines.map (fun a => (24 + l.bay, s.keyRead l.key a)))).2

/-- R299: does an image header pass? -/
def Launch.headerOk (l : Launch) : Bool :=
  let text := l.hdr 0x10 4
  decide (l.hdr 0 4 = 0x50534E4B) && decide (l.hdr 4 2 = 1) && decide (l.hdr 0xC 4 % 2 = 0) &&
  decide (l.hdr 0xC 4 < text) && decide (64 ≤ text) && decide (text % 64 = 0) && decide (l.hdr 0x14 4 % 64 = 0) &&
  decide (l.hdr 0x18 4 % 64 = 0) && decide (text + l.hdr 0x14 4 + l.hdr 0x18 4 ≤ sramSize) && decide (l.hdr 0x1C 4 % 16 = 0) &&
  decide (l.hdr 0x1C 4 ≤ sramSize)

/-- R301: what stage 1 read has come: the header is checked and the image read. -/
def State.spHead (s : State) (t : TaskRef) (cs : List Cmp) : State :=
  match s.launchOf t with
  | none => s
  | some l =>
    if firstBad cs ≠ .ok then s.launchRefuse l (firstBad cs) 0x13
    else
      let l := { l with stage := 2, head := cmpBytes cs }
      if !l.headerOk then s.launchRefuse l .integrity 0x14
      else
        let rs := (List.range ((l.hdr 0x10 4 + l.hdr 0x14 4) / 64)).map (fun i => (24 + l.bay, s.keyRead l.key (l.imageAt + 64 + 64 * i)))
        ((s.setLaunch l).startBatch (.spImage t) rs).2

/-- R16, R307: the entries of a range list: BASE, LEN and OUT. -/
def rangesOf : Nat → List Byte → List (Nat × Nat × Bool)
  | 0, _ => []
  | k + 1, bs =>
    let len := num bs 8 8 % 2 ^ 40
    if len = 0 then [] else (num bs 0 8 % 2 ^ 48, len, (num bs 0 8).testBit 63) :: rangesOf k (bs.drop 16)

/-- The bytes of the range list. -/
def Launch.rangeBytes (l : Launch) : List Byte := (l.head.drop (64 + l.argLen)).take 256

/-- The bytes of the combine descriptor. -/
def Launch.combBytes (l : Launch) : List Byte := (l.head.drop (64 + l.argLen + (if l.hasRanges then 256 else 0))).take 64

/-- R307: does a range pass? -/
def State.rangeOk (s : State) (comp : Nat) (r : Nat × Nat × Bool) : Bool :=
  decide (r.1 % 64 = 0) && decide (r.2.1 % 64 = 0) && s.inComp comp r.1 r.2.1 true

/-- R313: open the combine of a launch if it is FREE, or find that its slots must be waited for. -/
def State.combOpen (s : State) (l : Launch) : Option State :=
  match l.comb with
  | none => some s
  | some id =>
    match s.comb id with
    | some _ => some s
    | none =>
      let c : Comb := { id := id, state := 1, desc := l.combBytes, comp := l.comp, parts := [], st := .ok, writing := false }
      if s.gatherHolds c.bay l.comp c.slots.2.1 c.slots.2.2 then none
      else
        let s := ({ s with sp := { s.sp with combs := s.sp.combs ++ [c] } } : State).bump (pgSp c.bay) Reg.Sp.COMB_OPEN_CNT
        some (s.addN (pgSp c.bay) Reg.Sp.COMB_WAIT_CYC_CNT ((s.now - l.slotWait.getD s.now) * 17 / 10))

/-- R301: the image has been read: the remaining checks. -/
def State.spImage (s : State) (t : TaskRef) (cs : List Cmp) : State :=
  match s.launchOf t with
  | none => s
  | some l =>
    if firstBad cs ≠ .ok then s.launchRefuse l (firstBad cs) 0x13
    else
      let l := { l with image := cmpBytes cs }
      let used := l.hdr 0x10 4 + l.hdr 0x14 4 + l.hdr 0x18 4
      let rs := if l.hasRanges then rangesOf 16 l.rangeBytes else []
      if crc32 l.image ≠ l.hdr 0x20 4 then s.launchRefuse l .integrity 0x14
      else if l.argDst < used ∧ l.argLen ≠ 0 then s.launchRefuse l .unmapped 0x11
      else if !rs.all (s.rangeOk l.comp) then s.launchRefuse l .unmapped 0x15
      else if l.hasComb ∧ !s.combCheck l.comp l.combBytes then s.launchRefuse l .unmapped 0x16
      else
        let l := { l with stage := 3, ranges := rs
                          comb := if l.hasComb then some (num l.combBytes 0 2 % 4096) else none
                          parts := l.mask.foldl (fun m k => SMap.set (fun _ => some Status.ok) m k none) [] }
        s.setLaunch l

/-- The Spindles of a launch whose parts have not ended. -/
def Launch.open' (l : Launch) : List Nat := l.mask.filter (fun k => SMap.get (fun _ => some Status.ok) l.parts k = none)

/-- The part of Spindle k ends, before it has run, with a status. -/
def Launch.endAt (l : Launch) (k : Nat) (st : Status) : Launch :=
  { l with parts := l.parts.map (fun p => if p.1 = k then (k, some st) else p) }

/-- R301 step 2: the fenced Spindles of a launch end their parts. -/
def State.fenceParts (s : State) (l : Launch) : Launch :=
  l.open'.foldl (fun l k => if s.spFenced l.bay k then l.endAt k .portDown else l) l

/-- Is a Spindle free for a launch: awake, idle and not under test? -/
def State.spFree (s : State) (n k : Nat) : Bool :=
  s.bayRuns n && decide (s.islandState (.spindles (Fin.ofNat 24 n) (Fin.ofNat 8 (k / 8))) = 0) && (s.spu n k).launch.isNone &&
  decide ((s.spu n k).kat = 0) && !s.isHeld (.spindle n k)

/-- R43, R301 step 2: wake what a launch needs. -/
def State.wakeFor (s : State) (n : Nat) (ks : List Nat) : State :=
  let s := s.wake (.bay (Fin.ofNat 24 n))
  ks.foldl (fun s k => s.wake (.spindles (Fin.ofNat 24 n) (Fin.ofNat 8 (k / 8)))) s

/-- R307 step 2: the requests of ISSUER that a FENCE launch waits for. -/
def State.issuerWaits (s : State) (node : NodeId) : List (Nat × NodeId × BitVec 12 × Option Status) :=
  let from' := fun (p : Nat) (src : NodeId) => decide (src = node) && decide (s.peerNode p = node)
  (s.capWins.filter (fun w => from' w.port w.src)).flatMap (fun w =>
    (w.reqs.filter (fun r => r.2 = none)).map (fun r => (w.port, w.src, r.1, none))) ++
  (s.capHolds.filter (fun h => from' ((h.req.origin.port?).getD 0) h.req.src && h.req.origin.port?.isSome)).flatMap (fun h =>
    (h.waits.filter (fun r => r.2 = none)).map (fun r => ((h.req.origin.port?).getD 0, h.req.src, r.1, none)))

/-- R307 steps 3, 5: recall what the directories record of the lines of a launch's ranges. all: the first recall, of every
range; otherwise the ranges with OUT only. -/
def State.recallRanges (s : State) (l : Launch) (all : Bool) : State :=
  (l.ranges.filter (fun r => all || r.2.2)).foldl (fun s r =>
    (List.range (r.2.1 / 64)).foldl (fun s i =>
      let a := r.1 + 64 * i
      match s.covers a, s.homeBay a with
      | some (idx, e), some n =>
        if e.mode ≠ .shared ∨ e.inDirectory a ∨ !s.bayUp n then s
        else
          let d := dirState (s.rawDir n (e.dirOffset a))
          if d = 2 ∨ ((d = 1 ∨ d = 3) ∧ r.2.2) then
            (s.bump (pgSp n) Reg.Sp.FENCE_RECALL_CNT).addTxn n a (.fence l.id r.2.2) .clean ⟨idx, e, s.reg.epoch⟩
          else s
      | _, _ => s) s) s

/-- Are recalls of a launch outstanding? -/
def State.recalling (s : State) (l : Launch) : Bool :=
  s.txns.any (fun t => match t.work with | .fence id _ => id = l.id | _ => false)

/-- R301 steps 4, 5: the parts of a launch start. -/
def State.startParts (s : State) (l : Launch) : State :=
  let l := { s.fenceParts l with stage := 6 }
  let s := l.mask.foldl (fun s k =>
    if SMap.get (fun _ => some Status.ok) l.parts k = none then s
    else if (s.spu l.bay k).launch = some l.id then s.setSpu l.bay k { s.spu l.bay k with launch := none } else s) (s.setLaunch l)
  l.open'.foldl (fun s k => s.prepare l k false) s

/-- R301 step 2: a launch whose Spindles are all free takes them. -/
def State.tryStart (s : State) (l : Launch) : State :=
  let l := if s.bayUp l.bay then s.fenceParts l else l.open'.foldl (fun l k => l.endAt k .portDown) l
  let s := s.setLaunch l
  let ks := l.open'
  if (l.comb.bind s.comb).any (fun c => c.state ≠ 1 || decide (c.desc ≠ l.combBytes)) then s.launchRefuse l .unmapped 0x16
  else
    let s := s.wakeFor l.bay ks
    if !ks.all (s.spFree l.bay) then s
    else match s.combOpen l with
      | none => s.setLaunch { l with slotWait := some (l.slotWait.getD s.now) }
      | some s =>
        let s := ks.foldl (fun s k => s.setSpu l.bay k { s.spu l.bay k with launch := some l.id }) s
        if l.fence then s.setLaunch { l with stage := 4, waits := s.issuerWaits (BitVec.ofNat 12 (l.bits 0x2C 2 12)) }
        else s.startParts l

/-- R307: a stage of a FENCE launch ends and the next begins. -/
def State.fenceStage (s : State) (t : TaskRef) : State :=
  match s.launchOf t with
  | none => s
  | some l =>
    match l.stage with
    | 4 =>
      if l.waits.any (fun w => w.2.2.2 = none) then s
      else (s.setLaunch { l with stage := 5, waits := [] }).recallRanges l true
    | 5 => if s.recalling l then s else s.startParts l
    | 7 => if s.recalling l then s else s.setLaunch { l with stage := 8 }
    | _ => s

/-- R302: the status of a launch. -/
def Launch.status (l : Launch) : Status :=
  match (l.mask.filterMap (fun k => SMap.get (fun _ => some Status.ok) l.parts k)).find? (fun st => st ≠ .ok) with
  | some st => st
  | none => l.combSt.getD .ok

/-- R302: must a launch wait for its combine: its BAY is the COMB_BAY, and the combine has not ended? -/
def Launch.combWait (l : Launch) : Bool := l.comb.isSome && decide (num l.combBytes 2 1 % 32 = l.bay) && l.combSt.isNone

/-- One launch goes on as far as it can without a command. -/
def State.launchStep (s : State) (id : Nat) : State :=
  match s.launch id with
  | none => s
  | some l =>
    if l.stage = 3 then s.tryStart l
    else if l.stage = 6 ∧ l.open' = [] then
      if l.fence then (s.setLaunch { l with stage := 7 }).recallRanges l false else s.setLaunch { l with stage := 8 }
    else if l.stage = 8 ∧ !l.combWait then
      s.launchEnd l (if decide (num l.combBytes 2 1 % 32 = l.bay) && l.comb.isSome then l.status else { l with combSt := none }.status)
    else s

/-- R486: a test that fell due while its Spindle was busy or asleep begins once it is idle and awake. -/
def State.katStart (s : State) : State :=
  s.sp.units.foldl (fun s p =>
    let n := p.1 / 64
    let k := p.1 % 64
    let u := s.spu n k
    if u.kat = 1 ∧ u.launch.isNone ∧ s.bayRuns n ∧ s.islandState (.spindles (Fin.ofNat 24 n) (Fin.ofNat 8 (k / 8))) = 0 ∧
        !s.spFenced n k then s.setSpu n k { u with kat := 2 }
    else s) s

/-- Launches go on, in order of their dispatch. -/
def State.spSettle (s : State) : State :=
  let s := s.katStart
  let ids := s.sp.launches.map Launch.id
  ids.foldl (fun s id => ((s.launchStep id).launchStep id).launchStep id) s

/-- R476, R304: Bay n is retired or reset at L3: every part of its launches that has not ended ends with PORT_DOWN, and its
combines fail. -/
def State.spBayDown (s : State) (n : Nat) : State :=
  let s := (List.range 64).foldl (fun s k => s.spStop n k) s
  let s := (s.sp.launches.filter (fun l => l.bay = n && decide (3 ≤ l.stage))).foldl (fun s l =>
    match s.launch l.id with
    | some l => s.setLaunch (l.open'.foldl (fun l k => l.endAt k .portDown) { l with stage := max l.stage 6 })
    | none => s) s
  s.combsDown n

end Sys2Proof.Machine
end

