-- ==== Sys2Proof/Machine/Keystone.lean ====
section
/-!
DEFINITION. Machine/Keystone.lean: creating and releasing compositions (R376, R377), and Keystone: boot and recovery (R405-R410),
entropy (R411, R412), tenant keys and consent tokens (R422-R431), SPDM and MCTP (R416-R421).
-/
namespace Sys2Proof.Machine

open Sys2Proof

/-- The Keystone page. -/
def pgKS : Nat := pgOfHub Reg.KS.KS_STAT
/-- The composition page. -/
def pgComp : Nat := pgOfHub Reg.Comp.COMP_CFG

/-! ### Generation (R411-R413) -/

/-- R412: a health test fails. again: the start-up tests fail too. -/
def State.entropyFail (s : State) (again : Bool) : State :=
  if s.ks.entFail then s
  else if !again then s.bumpHub Reg.KS.ENT_FAIL_CNT
  else ({ s with ks := { s.ks with entFail := true } }.bumpHub Reg.KS.ENT_FAIL_CNT).setErr pgKS 13 0

/-- R411: the DRBG is reseeded after every 2^16 requests. -/
def State.reseed (s : State) : State := if s.ks.drbg < 65536 ∨ s.ks.entFail then s else { s with ks := { s.ks with drbg := 0 } }

/-! ### Compositions (R375-R378) -/

/-- COMP_STAT takes a RESULT. -/
def State.compResult (s : State) (res : Nat) : State := s.setHubF Reg.Comp.COMP_STAT 3 0 res

/-- The elements of a banked register take their reset values for a composition. -/
def State.resetBank (s : State) (pg : Nat) (r : RegSpec) (c : Nat) : State :=
  (List.range r.count).foldl (fun s i => s.setReg pg r i c (BitVec.ofNat 64 r.reset)) s

/-- The grant registers of a composition. -/
def grantRegs : List RegSpec := [Reg.Comp.SP_GRANT, Reg.Comp.PORT_GRANT, Reg.Comp.BAY_SHARE, Reg.Comp.PIER_SHARE]

/-- The meters of a composition (R382). -/
def meterRegs : List RegSpec :=
  [Reg.Comp.BAY_SHARE_US, Reg.Comp.SPINDLE_US, Reg.Comp.PIER_US, Reg.Comp.STACK_GIB_US, Reg.Comp.TRAY_GIB_US, Reg.Comp.DEV_EVENT_MS,
   Reg.Comp.SNAP_CNT, Reg.Comp.SNAP_FAIL_CNT]

/-- R428: device-wide debug may have closed: BYPASS takes the place of an instruction that may act no longer. -/
def State.debugClose (s : State) : State :=
  if s.jtagMay s.pins.jtag then s else { s with pins := { s.pins with jtag := .bypass } }

/-- R428: classes close: a halted Spindle whose composition no longer opens SPINDLE_DEBUG resumes. -/
def State.resumeHalted (s : State) : State :=
  { s with sp := { s.sp with units := s.sp.units.map (fun p =>
      if p.2.halted ∧ !(s.classes p.2.owner).testBit 2 then (p.1, { p.2 with halted := false }) else p) } }

/-- R376, R45: COMP_CMD OP 0x1: a new tray key, told apart by the free value that its nonce used up, goes to every XTS engine whose
island runs. -/
def State.compCreate (s : State) : State :=
  let c := s.compSel
  if SMap.get (fun _ => 0) s.comps c ≠ 0 then s.compResult 1
  else match s.keygen with
    | (false, s) => s.compResult 7
    | (true, s) =>
      let s := (meterRegs ++ [Reg.Comp.COMP_CFG, Reg.Comp.SNAP_ADDR, Reg.Comp.SNAP_CFG] ++ grantRegs).foldl (fun s r => s.resetBank pgComp r c) s
      let (nonce, s) := s.nonce
      let s := s.setReg pgKS Reg.KS.COMP_NONCE 0 c nonce
      let s := { s with
        comps := SMap.set (fun _ => 0) s.comps c 1, keyGen := SMap.set (fun _ => 0) s.keyGen c s.free
        snapSeq := SMap.set (fun _ => 0) s.snapSeq c 0, meterRem := SMap.drop (fun k => k / 2 = c) s.meterRem }
      let s := (List.range 24).foldl (fun s n => if s.bayUp n ∧ s.bayRuns n then s.giveKeys n else s) s
      (s.debugClose).compResult 0

/-- R377: why a release is refused, 0 if it is not. -/
def State.releaseCheck (s : State) (c : Nat) : Nat :=
  let named := fun (m : MapBank) => m.rt.any (fun p => p.2.enabled && decide (p.2.comp.val = c))
  let tasks := fun (d : DraftSt) => d.tasks.any (fun x => decide (x.comp = c) && x.inFlight)
  if SMap.get (fun _ => 0) s.comps c ≠ 1 then 2
  else if named s.reg.cur ∨ named s.reg.nxt then 3
  else if s.tr.mc.any (fun e => e.2.en && decide (e.2.comp.val = c)) ∨ s.winOn c ∨ fld (s.rgb pgHReg Reg.HReg.MIG_POLICY c) 31 30 = 2 then 4
  else if s.hed.recs.any (fun r => decide (r.comp = c)) ∨ s.codec.tabs.any (fun t => decide (t.comp = c)) then 5
  else if (s.trd.active.toList ++ s.trd.old).any tasks ∨ s.loom.reds.any (fun r => decide (r.body.comp = c)) ∨
      s.sp.combs.any (fun e => decide (e.comp = c)) then 6
  else 0

/-- R377: what a release clears in a map. -/
def MapBank.dropComp (m : MapBank) (c : Nat) : MapBank := { m with rct := m.rct.filter (fun p => p.2.comp.val ≠ c) }

/-- R377: COMP_CMD OP 0x2. -/
def State.compRelease (s : State) : State :=
  let c := s.compSel
  let res := s.releaseCheck c
  if res ≠ 0 then s.compResult res
  else
    let s := (grantRegs ++ [Reg.Comp.COMP_CFG, Reg.Comp.SNAP_ADDR, Reg.Comp.SNAP_CFG]).foldl (fun s r => s.resetBank pgComp r c) s
    let s := (s.resetBank pgSpCtl Reg.SpCtl.COH_MODE c).resetBank pgHReg Reg.HReg.MIG_POLICY c
    let s := [Reg.Stream.WIN_BASE, Reg.Stream.WIN_CFG, Reg.Stream.WIN_SLOT_SIZE, Reg.Stream.STREAM_BUDGET].foldl
      (fun s r => s.resetBank (pgOfHub Reg.Stream.WIN_CFG) r c) s
    let s := s.setReg pgKS Reg.KS.COMP_NONCE 0 c 0
    ({ s with
        comps := SMap.set (fun _ => 0) s.comps c 0, keyGen := SMap.set (fun _ => 0) s.keyGen c 0, xts := SMap.drop (fun k => k % 256 = c) s.xts
        loom := { s.loom with quota := SMap.set (fun _ => ⟨0, 0, 0, 0⟩) s.loom.quota c ⟨0, 0, 0, 0⟩ }
        reg := { s.reg with members := s.reg.members.filter (fun p => p.2 % 256 ≠ c), cur := s.reg.cur.dropComp c, nxt := s.reg.nxt.dropComp c }
        tokens := SMap.set (fun _ => Token.none) s.tokens c Token.none
        ks := { s.ks with tkeys := SMap.set (fun _ => []) s.ks.tkeys c [], lapsed := NSet.erase c s.ks.lapsed } }.resumeHalted).compResult 0

/-! ### Boot (R402-R410) -/

/-- n bytes of the boot flash. -/
def State.flashBytes (s : State) (o n : Nat) : List Byte := (List.range n).map (fun i => SMap.get Config.flashByte s.ks.flash (o + i))

/-- n bytes of the recovery staging area. -/
def State.stageBytes (s : State) (o n : Nat) : List Byte := (List.range n).map (fun i => SMap.get (fun _ => (0 : Byte)) s.ks.stage (o + i))

/-- R406: checks 0x2 to 0x7 of an image: its header of 4 KiB and what reads its payload; 0 where all pass. -/
def State.imageCheck (s : State) (h : List Byte) (payload : Nat → List Byte) : Nat :=
  let slot := num h 6 1
  let key := (h.drop 0x20).take 96
  let len := num h 0x10 4
  if num h 0 4 ≠ 0x57464E4B ∨ num h 4 2 ≠ 1 ∨ 4 ≤ slot ∨ num h 7 1 ≠ 0 ∨ num h 0x18 8 ≠ 0 ∨ num h 0xB0 16 ≠ 0 ∨
      (h.drop 0x120).any (fun b => b ≠ 0) then 2
  else if Config.sha384 key ≠ Config.rootHash (Fin.ofNat 4 slot) ∨ s.fuses.rootRevoke.getLsbD slot then 3
  else if !Config.ecdsaVerify key (h.take 0xC0) ((h.drop 0xC0).take 96) then 4
  else if num h 8 4 < s.fuses.svn ∨ 64 < num h 8 4 then 5
  else if len % 4096 ≠ 0 ∨ len < 4096 ∨ 2 ^ 24 < len ∨ num h 0x14 4 % 4 ≠ 0 ∨ len ≤ num h 0x14 4 then 6
  else if (Config.sha384 (payload len)).toNat ≠ leNat ((h.drop 0x80).take 48).reverse then 7
  else 0

/-- The certificate chain of the certificate area (R404). -/
def State.certChain (s : State) : List Byte :=
  let n := leNat (s.flashBytes 0x2000000 4)
  if 65532 < n then [] else s.flashBytes 0x2000004 n

/-- R407 step 7: an accepted image runs; the release goes on with its clocks step. -/
def State.runImage (s : State) (h : List Byte) (recovery : Bool) (fail : Nat) : State :=
  let chain := s.certChain
  let s := { s with ks := { s.ks with boot := 1, header := h.take 0x120, recovery := recovery, bootFail := fail
                                      idCert := chain ≠ [] && decide (Config.leafKey chain = Config.idPublic) } }
  if fld (s.hub Reg.Rst.RST_STAT) 30 28 = 2 then s.setHubF Reg.Rst.RST_STAT 30 28 3 else s

/-- R408: recovery begins. -/
def State.startRecovery (s : State) (fail : Nat) : State :=
  ({ s with ks := { s.ks with boot := 2, bootFail := fail, recov := (1, 0, 0), stage := [] } }).raiseAlert

/-- R402, R403, R407, R408: the boot ends. fuseOk: the fuses' parity holds; answers: the flash answers every read. -/
def State.bootComplete (s : State) (fuseOk answers : Bool) : State :=
  if s.ks.boot ≠ 0 ∨ s.held.contains .device = false then s
  else if !fuseOk then ({ s with ks := { s.ks with boot := 3 } }).raiseAlert
  else if 2 ≤ s.fuses.straps.toNat % 4 then s.startRecovery 8
  else if !answers then s.startRecovery 1
  else
    let h := s.flashBytes 0 4096
    match s.imageCheck h (fun n => s.flashBytes 4096 n) with
    | 0 => s.runImage h false 0
    | e => s.startRecovery e

/-- R409: RECOV_CHUNK: a chunk of len 4 KiB units at index i is copied into the staging area. -/
def State.recovChunk (s : State) (len i : Nat) (bs : List Byte) : State :=
  if s.ks.boot ≠ 2 ∨ s.ks.recov.1 = 3 ∨ len = 0 ∨ 128 < len ∨ 32 < i then s
  else
    let n := len * 4096
    let base := 524288 * i
    let st := (List.range n).foldl (fun m j => SMap.set (fun _ => (0 : Byte)) m (base + j) (bs.getD j 0)) s.ks.stage
    { s with ks := { s.ks with stage := st, recov := (2, s.ks.recov.2.1 + len, s.ks.recov.2.2) } }

/-- R409: RECOV_CMD 0x1: the staged image is verified under R406 and run. -/
def State.recovVerify (s : State) : State :=
  if s.ks.boot ≠ 2 ∨ s.ks.recov.1 = 3 then s
  else
    let h := s.stageBytes 0 4096
    match s.imageCheck h (fun n => s.stageBytes 4096 n) with
    | 0 => s.runImage h true s.ks.bootFail
    | e => { s with ks := { s.ks with recov := (4, s.ks.recov.2.1, e) } }

/-- R409: RECOV_CMD 0x2: the staged bytes are discarded. -/
def State.recovDiscard (s : State) : State :=
  if s.ks.boot ≠ 2 ∨ s.ks.recov.1 = 3 then s else { s with ks := { s.ks with stage := [], recov := (1, 0, s.ks.recov.2.2) } }

/-- R409: RECOV_STAT. -/
def State.recovStat (s : State) : Nat :=
  s.ks.recov.1 * 2 ^ 28 + s.ks.recov.2.1 % 2 ^ 20 * 2 ^ 8 + s.ks.recov.2.2

/-- R405: the SVN and KEY_SLOT of the running image. -/
def State.imageSvn (s : State) : Nat := num s.ks.header 8 4
/-- KEY_SLOT of the running image. -/
def State.keySlot (s : State) : Nat := num s.ks.header 6 1

/-- KS_STAT (R430). -/
def State.ksStat (s : State) : Nat :=
  b2n s.ks.recovery * 2 ^ 31 + b2n s.ks.entFail * 2 ^ 30 + b2n s.debugOpen * 2 ^ 29 + b2n s.fuses.debugDisable * 2 ^ 28 +
  b2n s.ks.idCert * 2 ^ 27 + s.imageSvn % 256 * 2 ^ 16 + s.fuses.svn % 256 * 2 ^ 8 + s.keySlot % 4 * 2 ^ 6 + s.ks.bootFail

/-! ### KS_CMD (R410, R423-R431) -/

/-- KS_CMD_STAT with BUSY and a RESULT. -/
def State.ksResult (s : State) (busy : Bool) (res : Nat) : State :=
  let s := s.setHub Reg.KS.KS_CMD_STAT (BitVec.ofNat 64 (b2n busy * 2 ^ 31 + res))
  if res = 0 then s else s.bumpHub Reg.KS.TOKEN_REJECT_CNT

/-- Is a KS_CMD in progress? -/
def State.ksBusy (s : State) : Bool := bit (s.hub Reg.KS.KS_CMD_STAT) 31

/-- KS_SEL. -/
def State.ksSel (s : State) : Nat := fld (s.hub Reg.KS.KS_SEL) 7 0

/-- R423, R425: read n lines at KS_ADDR as a device unit, without a Region Key. -/
def State.ksRead (s : State) (op : Nat) (owner : Owner) (n : Nat) : State :=
  let a := (s.hub Reg.KS.KS_ADDR).toNat % 2 ^ 48
  let c := s.ksSel
  if !s.live c then s.ksResult false 1
  else if !s.inStackTier a (64 * n) then s.ksResult false 2
  else
    let s := { (s.ksResult true 0) with ks := { s.ks with cmd := some (op, c) } }
    (s.startBatch owner ((List.range n).map (fun i => (hubIn, s.readReq (s.compAt (a + 64 * i)) (a + 64 * i))))).2

/-- R423: KS_CMD OP 0x1. -/
def State.ksSetKey (s : State) : State := if s.ksBusy then s.overrun pgKS else s.ksRead 1 .ksKey 2

/-- R425: KS_CMD OP 0x2. -/
def State.ksInstall (s : State) : State := if s.ksBusy then s.overrun pgKS else s.ksRead 2 .ksToken 3

/-- A command whose read has come ends. -/
def State.ksEnd (s : State) (res : Nat) : State := { (s.ksResult false res) with ks := { (s.ksResult false res).ks with cmd := none } }

/-- R423: the tenant key has been read. -/
def State.ksKeyRead (s : State) (cs : List Cmp) : State :=
  match s.ks.cmd with
  | some (1, c) =>
    let key := (cmpBytes cs).take 96
    if !s.live c then s.ksEnd 1
    else if firstBad cs ≠ .ok then s.ksEnd 2
    else if SMap.get (fun _ => []) s.ks.tkeys c ≠ [] ∨ !Config.onCurve key then s.ksEnd 7
    else { s with ks := { s.ks with tkeys := SMap.set (fun _ => []) s.ks.tkeys c key } }.ksEnd 0
  | _ => s

/-- R424, R425, R431: the checks of a token for composition c, in the order of their codes. -/
def State.tokenCheck (s : State) (c : Nat) (t : List Byte) : Nat :=
  let key := SMap.get (fun _ => []) s.ks.tkeys c
  if num t 0 4 ≠ 0x54434E4B ∨ num t 4 2 ≠ 1 ∨ 32 ≤ num t 7 1 ∨ num t 0x28 24 ≠ 0 ∨ num t 0x20 8 ≤ num t 0x18 8 then 3
  else if key = [] ∨ !Config.ecdsaVerify key (t.take 64) ((t.drop 64).take 96) then 4
  else if num t 6 1 ≠ c ∨ num t 8 8 ≠ s.fuses.serial.toNat ∨ num t 0x10 8 ≠ (s.rgb pgKS Reg.KS.COMP_NONCE c).toNat then 5
  else if s.timeFloor < num t 0x18 8 ∨ num t 0x20 8 ≤ s.timeFloor then 6
  else 0

/-- R425: the token has been read. -/
def State.ksTokenRead (s : State) (cs : List Cmp) : State :=
  match s.ks.cmd with
  | some (2, c) =>
    let t := (cmpBytes cs).take 160
    if !s.live c then s.ksEnd 1
    else if firstBad cs ≠ .ok then s.ksEnd 2
    else match s.tokenCheck c t with
      | 0 =>
        let k : Token := { installed := true, classes := num t 7 1, notBefore := num t 0x18 8, notAfter := num t 0x20 8, hash := Config.sha384 t }
        let s := { s with tokens := SMap.set (fun _ => Token.none) s.tokens c k, ks := { s.ks with lapsed := NSet.erase c s.ks.lapsed } }
        (((s.ksEnd 0).bumpHub Reg.KS.TOKEN_INSTALL_CNT).debugClose).resumeHalted
      | e => s.ksEnd e
  | _ => s

/-- R425: KS_CMD OP 0x3. -/
def State.ksRemove (s : State) : State :=
  if s.ksBusy then s.overrun pgKS
  else
    let c := s.ksSel
    if !s.live c then s.ksResult false 1
    else (({ s with tokens := SMap.set (fun _ => Token.none) s.tokens c Token.none }.debugClose).resumeHalted).ksResult false 0

/-- R410: KS_CMD OP 0x4. -/
def State.ksCommit (s : State) : State :=
  if s.ksBusy then s.overrun pgKS
  else if s.imageSvn ≤ s.fuses.svn then s.ksResult false 8
  else { (s.ksResult true 0) with ks := { s.ks with cmd := some (4, 0) } }

/-- R410: the SVN fuses are blown and verified. -/
def State.svnDone (s : State) : State :=
  match s.ks.cmd with
  | some (4, _) => { s with fuses := { s.fuses with svn := s.imageSvn } }.ksEnd 0
  | _ => s

/-- CONSENT_STAT of a composition (R430). -/
def State.consentStat (s : State) (c : Nat) : Nat :=
  b2n (s.token c).installed * 2 ^ 31 + b2n (SMap.get (fun _ => []) s.ks.tkeys c ≠ []) * 2 ^ 30 + s.classes c

/-- TOKEN_END of a composition. -/
def State.tokenEnd (s : State) (c : Nat) : Nat := if (s.token c).installed then (s.token c).notAfter else 0

/-- R428: TIME_FLOOR has reached a token's end: its classes close. -/
def State.tokenLapse (s : State) (c : Nat) : State :=
  let t := s.token c
  if !t.installed ∨ s.timeFloor < t.notAfter ∨ s.ks.lapsed.contains c then s
  else
    let s := ({ s with ks := { s.ks with lapsed := NSet.insert c s.ks.lapsed } }.bumpHub Reg.KS.TOKEN_LAPSE_CNT).resumeHalted
    s.debugClose

/-! ### SPDM and MCTP (R416-R421) -/

/-- A 384-bit digest as bytes. -/
def digestBytes (d : BitVec 384) : List Byte := (leBytes 48 d.toNat).reverse

/-- R421: the entry of a composition in the consent manifest. -/
def State.manifestEntry (s : State) (c st : Nat) : List Byte :=
  let key := SMap.get (fun _ => []) s.ks.tkeys c
  let t := s.token c
  [BitVec.ofNat 8 c, BitVec.ofNat 8 (s.classes c), BitVec.ofNat 8 (b2n (key ≠ []) + 2 * b2n t.installed + 4 * b2n (st = 2))] ++
  List.replicate 5 0 ++ leBytes 8 (s.rgb pgKS Reg.KS.COMP_NONCE c).toNat ++
  (if key = [] then List.replicate 48 0 else digestBytes (Config.sha384 key)) ++
  (if t.installed then digestBytes t.hash else List.replicate 48 0)

/-- R421: the consent manifest. -/
def State.manifest (s : State) : List Byte :=
  let cs := s.comps.filter (fun e => e.2 ≠ 0)
  leBytes 2 cs.length ++ [BitVec.ofNat 8 (b2n s.debugOpen)] ++ List.replicate 13 0 ++ cs.flatMap (fun e => s.manifestEntry e.1 e.2)

/-- R420: a measurement block. -/
def State.measurement (s : State) (i : Nat) : Option (List Byte) :=
  match i with
  | 1 => some (digestBytes Config.romDigest)
  | 2 => some ((s.ks.header.drop 0x80).take 48)
  | 3 => some ([BitVec.ofNat 8 s.keySlot, BitVec.ofNat 8 s.imageSvn, BitVec.ofNat 8 s.fuses.svn, BitVec.ofNat 8 (b2n s.ks.recovery)] ++
      leBytes 4 (num s.ks.header 0xC 4) ++ List.replicate 8 0)
  | 4 => some (digestBytes (Config.fuseDigest s.fuses.svn))
  | 5 => some (leBytes 4 s.fuses.straps.toNat)
  | 6 => some (leBytes 4 (b2n s.fuses.debugDisable + 2 * b2n s.ks.entFail + 4 * b2n s.ks.idCert))
  | 7 => some s.manifest
  | _ => none

/-- Keystone answers an SPDM request; firmware carries it (R417). -/
def State.spdmAnswer (s : State) (via : Via) (r : SpdmRsp) : State :=
  if s.ks.boot ≠ 1 then s
  else
    let s := (s.bumpHub Reg.KS.SPDM_MSG_CNT).emit (.spdm via r)
    if r = .error then s.bumpHub Reg.KS.SPDM_ERR_CNT else s

/-- R416: GET_DIGESTS. -/
def State.spdmDigests (s : State) (via : Via) : State :=
  s.spdmAnswer via (.digests (if s.ks.idCert then [Config.sha384 s.certChain] else []))

/-- R416: GET_CERTIFICATE: a part of slot 0's chain. -/
def State.spdmCertificate (s : State) (via : Via) (off len : Nat) : State :=
  s.spdmAnswer via (if s.ks.idCert ∧ off ≤ s.certChain.length then .certificate ((s.certChain.drop off).take len) else .error)

/-- R419: CHALLENGE: the identity key signs. -/
def State.spdmChallenge (s : State) (via : Via) (nonce : DWord) : State :=
  let (own, s) := s.nonce
  s.spdmAnswer via (.challengeAuth own (Config.idSign (leBytes 8 nonce.toNat ++ leBytes 8 own.toNat)))

/-- R420: GET_MEASUREMENTS: one block, or all of them (index 0xFF), signed where asked. -/
def State.spdmMeasure (s : State) (via : Via) (index : Nat) (sign : Bool) (nonce : DWord) : State :=
  let idx := if index = 0xFF then [1, 2, 3, 4, 5, 6, 7] else [index]
  let blocks := idx.filterMap (fun i => (s.measurement i).map (fun b => (i, b)))
  if blocks = [] then s.spdmAnswer via .error
  else
    s.spdmAnswer via (.measurements blocks
      (if sign then Config.idSign (leBytes 8 nonce.toNat ++ blocks.flatMap Prod.snd) else []))

/-- R417, R419, R412: KEY_EXCHANGE, on the DOE, at most 2 sessions. -/
def State.spdmKeyExchange (s : State) (via : Via) (share : DWord) : State :=
  if s.ks.boot ≠ 1 then s
  else if via ≠ .doe ∨ 2 ≤ s.ks.sessions.length then s.spdmAnswer via .error
  else match s.keygen with
    | (false, s) => s.spdmAnswer via .error
    | (true, s) =>
      let (own, s) := s.nonce
      let id := s.ks.nextSes
      let s := { s with ks := { s.ks with sessions := s.ks.sessions ++ [(id, false)], nextSes := id + 1 } }
      s.spdmAnswer via (.keyExchange id own (Config.idSign (leBytes 8 share.toNat ++ leBytes 8 own.toNat)))

/-- R419: FINISH. ok: its HMAC verifies. -/
def State.spdmFinish (s : State) (via : Via) (id : Nat) (ok : Bool) : State :=
  if s.ks.boot ≠ 1 then s
  else if via ≠ .doe ∨ !s.ks.sessions.contains (id, false) ∨ !ok then s.spdmAnswer via .error
  else
    let s := { s with ks := { s.ks with sessions := s.ks.sessions.map (fun (e : Nat × Bool) => if e.1 = id then (id, true) else e) } }
    s.spdmAnswer via (.finish id)

/-- R413: END_SESSION: the session's keys are destroyed. -/
def State.spdmEnd (s : State) (via : Via) (id : Nat) : State :=
  if s.ks.boot ≠ 1 then s
  else if via ≠ .doe ∨ !s.ks.sessions.contains (id, true) then s.spdmAnswer via .error
  else { s with ks := { s.ks with sessions := s.ks.sessions.filter (fun e => e.1 ≠ id) } }.spdmAnswer via (.endSession id)

/-- R419: HEARTBEAT. -/
def State.spdmHeartbeat (s : State) (via : Via) (id : Nat) : State :=
  s.spdmAnswer via (if via = .doe ∧ s.ks.sessions.contains (id, true) then .heartbeat id else .error)

/-- R418: the number of a binding that has an endpoint ID of its own. -/
def Via.binding : Via → Nat
  | .doe => 0
  | .vdm => 0
  | .smbus => 1
  | .link p => 2 + p.val

/-- R418: Set Endpoint ID. EIDs 0 and 0xFF are none that an endpoint may hold. -/
def State.mctpSetEid (s : State) (via : Via) (eid : Nat) : State :=
  if s.ks.boot ≠ 1 then s
  else if eid = 0 ∨ eid = 255 then s.emit (.mctp via .error)
  else { s with ks := { s.ks with eids := SMap.set (fun _ => 0) s.ks.eids via.binding eid } }.emit (.mctp via (.endpointId eid))

/-- R418: Get Endpoint ID. -/
def State.mctpGetEid (s : State) (via : Via) : State :=
  if s.ks.boot ≠ 1 then s else s.emit (.mctp via (.endpointId (SMap.get (fun _ => 0) s.ks.eids via.binding)))

/-- R418: Get MCTP Version Support. -/
def State.mctpVersions (s : State) (via : Via) : State := if s.ks.boot ≠ 1 then s else s.emit (.mctp via .versions)

/-- R418, R514: Get Message Type Support. -/
def State.mctpTypes (s : State) (via : Via) : State := if s.ks.boot ≠ 1 then s else s.emit (.mctp via (.types [0x00, 0x05, 0x7E]))

end Sys2Proof.Machine
end

