-- ==== Sys2Proof/Machine/Clock.lean ====
section
/-!
DEFINITION. Machine/Clock.lean: clock sources, their monitors, selection, failure and holdover (R432-R441), the clock page
(R469), and the causes of ALERT_N (R538).
-/
namespace Sys2Proof.Machine

open Sys2Proof

/-! ### ALERT_N (R538) -/

/-- R538: does a cause of ALERT_N hold? -/
def State.alertCause (s : State) : Bool :=
  decide (s.hub Reg.Clk.CLK_EVENT ≠ 0) || decide (s.ks.boot = 2) || s.inFootway || decide (s.ks.boot = 3) || s.pwr.tripped ||
    s.rst.stuck || s.regs.any (fun e => e.1 % 4096 = Reg.Hdr.ERR_STAT.off && s.pageAlerts (e.1 / 4096))

/-- R538: ALERT_N follows its causes once its 10 µs are over. -/
def State.reviewAlert (s : State) : State :=
  if s.alertCause then s.raiseAlert else if s.alertHold then s else { s with alert := false }

/-- R538: an assertion's 10 µs are over. -/
def State.alertHoldEnd (s : State) : State := if s.alert then ({ s with alertHold := false } : State).reviewAlert else s

/-! ### Selection (R433, R437, R438) -/

/-- R456: CLK_MODE as sampled. -/
def State.clkStrap (s : State) : Nat := s.fuses.straps.toNat / 4 % 4

/-- R433: the clock policy: 0b11 acts as 0b01. -/
def State.clkMode (s : State) : Nat := if s.clkStrap = 3 then 1 else s.clkStrap

/-- TIMING_PORT, and BACKUP_PORT, of CLK_CFG; 0x1FF none. -/
def State.clkPort (s : State) (backup : Bool) : Nat :=
  if backup then fld (s.hub Reg.Clk.CLK_CFG) 24 16 else fld (s.hub Reg.Clk.CLK_CFG) 8 0

/-- Is a source qualified: 0 REFCLK_156, 1 CXL_REFCLK, 2 primary, 3 backup? -/
def State.clkGood (s : State) (k : Nat) : Bool := NSet.has k s.clk.good

/-- The number of the source that CLK_STAT.SEL names, if it is no ROSC. -/
def State.clkSource (s : State) : Option Nat :=
  match s.clk.sel with
  | 1 => some 0
  | 2 => some 2
  | 3 => some 3
  | _ => none

/-- R437: the first qualified source of the order, as SEL shows it; 0 none. -/
def State.clkFirst (s : State) : Nat :=
  if s.clkMode = 0 then
    if s.clkGood 2 then 2 else if s.clkGood 3 then 3 else if s.clkGood 0 then 1 else 0
  else if s.clkGood 0 then 1 else 0

/-- R438: is the reference of Fabric Time locked? -/
def State.clkLocked (s : State) : Bool :=
  !s.clk.safe && (if s.clkMode = 0 then decide (s.clk.sel = 2 ∨ s.clk.sel = 3) else decide (s.clk.sel = 1) && s.clkGood 0)

/-- R362, R438: TIME_STAT follows the selection: LOCKED, and the timing port in use. -/
def State.syncClock (s : State) : State :=
  let s := s.setHubF Reg.FT.TIME_STAT 8 0 (s.clkPort (s.clk.sel = 3))
  let s := if bit (s.hub Reg.FT.TIME_STAT) 30 = s.clkLocked then s else s.setLocked s.clkLocked
  s.syncSched

/-- R434, R437, R440: select a source, ending holdover. -/
def State.clkSelect (s : State) (sel : Nat) : State := { s with clk := { s.clk with sel := sel, safe := false } }.syncClock

/-- R439, R440: the selected source is lost: the logic trees run on ROSC, and the timing PLLs hold over. -/
def State.clkHold (s : State) : State := { s with clk := { s.clk with sel := 0, safe := true } }.syncClock

/-- R435: a source is disqualified. -/
def State.clkDrop (s : State) (k : Nat) : State :=
  { s with clk := { s.clk with good := NSet.erase k s.clk.good, runs := SMap.set (fun _ => 0) s.clk.runs k 0,
                               refs := SMap.set (fun _ => 0) s.clk.refs k 0 } }

/-! ### Failure (R436, R440, R441) -/

/-- R469: record bits of CLK_EVENT; ALERT_N follows. -/
def State.clkEvent (s : State) (b : Nat) : State :=
  (s.setHub Reg.Clk.CLK_EVENT (setBit (s.hub Reg.Clk.CLK_EVENT) b true)).raiseAlert

/-- R436, R440, R441: a qualified source fails; one that is not qualified only begins to count anew. -/
def State.clkFail (s : State) (k : Nat) : State :=
  if !s.clkGood k then s.clkDrop k
  else
    let used : Bool := s.clkSource = some k
    let s := ((s.clkDrop k).clkEvent k).bumpI (pgHub 0x21) Reg.Clk.CLK_FAIL_CNT k
    if used then (s.clkHold.emit .nmi).notify 7 1 [(s.hub Reg.Clk.CLK_EVENT).toNat]
    else if k = 1 then (s.emit .nmi).raise (.linkDown 288)
    else s

/-- R440: CLK_FAIL_RESET has passed since the selected source failed. -/
def State.clkFailReset (s : State) : State :=
  if s.clk.safe ∧ fld (s.hub Reg.Clk.CLK_MON_CFG) 31 16 ≠ 0 then (s.clkEvent 4).raise (.critical 6 .device) else s

/-- R434: REFCLK_156 has not qualified within the 100 ms of the clocks step. -/
def State.refclkLate (s : State) : State :=
  if fld (s.hub Reg.Rst.RST_STAT) 30 28 = 3 ∧ !s.clkGood 0 ∧ !s.rst.stuck then
    ({ s with rst := { s.rst with stuck := true } } : State).clkEvent 0
  else s

/-! ### Monitor windows (R435, R436) -/

/-- Do two counts differ by more than some ppm of the second? -/
def beyondPpm (count r ppm : Nat) : Bool := decide (ppm * r < ((count : Int) - r).natAbs * 1000000)

/-- R435: the count that a source is expected to show, where one is known. -/
def State.clkExpect (s : State) (k : Nat) : Nat :=
  if k = 0 ∧ !s.clkGood 1 then SMap.get (fun _ => 0) s.clk.refs 0 else 25000

/-- R437: may a source qualify: of a recovered clock, is its logical port ACTIVE or PARKED? -/
def State.clkMay (s : State) (k : Nat) : Bool :=
  if k < 2 then true
  else
    let x := s.clkPort (k = 3)
    decide (x < 288) && (match (s.link x).state with | .active | .parked => true | _ => false)

/-- R435: the first window that ROSC judges REFCLK_156 by since it was disqualified gives the count that it is expected to show
(log entry 100). -/
def State.clkRef (s : State) (count : Nat) : State :=
  if !s.clkGood 1 ∧ SMap.get (fun _ => 0) s.clk.refs 0 = 0 then
    { s with clk := { s.clk with refs := SMap.set (fun _ => 0) s.clk.refs 0 count } }
  else s

/-- R435: a window of a source that is not qualified. -/
def State.clkCount (s : State) (k count : Nat) : State :=
  let ok := count ≠ 0 && s.clkMay k && !beyondPpm count (s.clkExpect k) 200
  let run := if ok then SMap.get (fun _ => 0) s.clk.runs k + 1 else 0
  if run = 16 then
    { s with clk := { s.clk with runs := SMap.set (fun _ => 0) s.clk.runs k 0, good := NSet.insert k s.clk.good } }
  else { s with clk := { s.clk with runs := SMap.set (fun _ => 0) s.clk.runs k run } }

/-- R436: the sources that a window fails. -/
def State.clkFailing (s : State) (c : MonCounts) : List Nat :=
  let ppm := fld (s.hub Reg.Clk.CLK_MON_CFG) 15 0
  let out (k count : Nat) : Bool := s.clkGood k && beyondPpm count (s.clkExpect k) ppm
  let pair : List Nat :=
    if s.clkGood 0 && s.clkGood 1 then
      if !(out 0 c.ref || out 1 c.cxl) then []
      else if s.clk.sel = 2 ∨ s.clk.sel = 3 then
        (if beyondPpm c.refRec 25000 ppm then [0] else []) ++ (if beyondPpm c.cxlRec 25000 ppm then [1] else [])
      else [0]
    else (if out 0 c.ref then [0] else []) ++ (if out 1 c.cxl then [1] else [])
  pair ++ (if out 2 c.prim then [2] else []) ++ (if out 3 c.back then [3] else [])

/-- R437: the selection after a window. was: what was qualified before it; held: the device was in holdover before it. -/
def State.clkChoose (s : State) (was : NSet) (held : Bool) : State :=
  if s.clk.safe then (if held ∧ s.clkFirst ≠ 0 then s.clkSelect s.clkFirst else s)
  else
    let next := match s.clk.sel with
      | 0 => 0
      | 2 => 2
      | 3 => if bit (s.hub Reg.Clk.CLK_CFG) 31 ∧ s.clkGood 2 ∧ !NSet.has 2 was then 2 else 3
      | _ => s.clkFirst
    if next = s.clk.sel then s else (s.clkSelect next).bumpHub Reg.Clk.CLK_SWITCH_CNT

/-- R435-R437: a 10 µs window ends. -/
def State.clkWindow (s : State) (c : MonCounts) : State :=
  let was := s.clk.good
  let held := s.clk.safe
  let s := s.clkRef c.ref
  let failing := s.clkFailing c
  let s := [(0, c.ref), (1, c.cxl), (2, c.prim), (3, c.back)].foldl
    (fun s e => if NSet.has e.1 was then s else s.clkCount e.1 e.2) s
  (failing.foldl (fun s k => s.clkFail k) s).clkChoose was held

/-! ### The clock page (R469) -/

/-- R469: may CLK_CFG name this logical port: an index of R69, or none? -/
def clkPortOk (x : Nat) : Bool := decide (x ≤ 288 ∨ x = 0x1FF)

/-- R437: a clock's logical port changes: the old port's clock is disqualified; where it was selected, the next source of the
order takes over. -/
def State.clkMoved (s : State) (k : Nat) : State :=
  let used : Bool := s.clkSource = some k
  let s := s.clkDrop k
  if !used then s else if s.clkFirst ≠ 0 then s.clkSelect s.clkFirst else s.clkHold

/-- R437, R469: a write to CLK_CFG. -/
def State.clkCfgWrite (s : State) (v : Word) : State :=
  let old := s.hub Reg.Clk.CLK_CFG
  let prim := if clkPortOk (fld v 8 0) then fld v 8 0 else fld old 8 0
  let back := if clkPortOk (fld v 24 16) then fld v 24 16 else fld old 24 16
  let bad := !clkPortOk (fld v 8 0) || !clkPortOk (fld v 24 16)
  let s := s.setHub Reg.Clk.CLK_CFG (setFld (setFld (setBit old 31 (bit v 31)) 8 0 prim) 24 16 back)
  let s := if bad then s.writeRejected (pgHub 0x21) else s
  let s := if prim = fld old 8 0 then s else s.clkMoved 2
  let s := if back = fld old 24 16 then s else s.clkMoved 3
  s.syncClock

/-- R14, R469: a write to CLK_EVENT clears the bits that are 1. -/
def State.clkEventClear (s : State) (v : Word) : State :=
  (s.setHub Reg.Clk.CLK_EVENT (s.hub Reg.Clk.CLK_EVENT &&& ~~~(v.setWidth 64))).reviewAlert

/-- R469: what CLK_STAT reads as. -/
def State.clkStat (s : State) : Nat :=
  s.clkStrap * 2 ^ 30 + s.clk.sel * 2 ^ 27 + b2n s.clk.safe * 2 ^ 26 + b2n s.clk.safe * 2 ^ 25 +
    (b2n (s.clkGood 0) + 2 * b2n (s.clkGood 1) + 4 * b2n (s.clkGood 2) + 8 * b2n (s.clkGood 3)) * 2 ^ 21 +
    b2n (s.clkStrap = 3) * 2 ^ 20

end Sys2Proof.Machine
end

