-- ==== Sys2Proof/Machine/Power.lean ====
section
/-!
DEFINITION. Machine/Power.lean: power states of islands (R442-R445), the crossings of sleeping islands (R43), the wake governor
(R461-R463), the throttle (R464-R466), measurements, and power stages (R458, R471).
-/
namespace Sys2Proof.Machine

open Sys2Proof

def pgPwr : Nat := pgHub 0x23

/-! ### Entry to Sleep and Deep-sleep (R442-R444) -/

/-- R442: may an island enter Sleep or Deep-sleep? -/
def State.mayEnter (s : State) : Island → Bool
  | .bay n =>
    !s.txns.any (fun t => t.bay = n.val) && s.streams.isEmpty && s.bcasts.isEmpty && !s.sp.combs.any (fun c => c.bay = n.val) &&
    !s.loom.reds.any (fun r => r.task.isSome && decide ((r.bay n.val).st = .opened)) && !s.hed.tasks.any (fun h => h.lead = n.val) && !s.hed.ops.any (fun o => o.bay = n.val) &&
    !s.moves.any (fun m => (s.moveBody m.t).any (fun b => s.homeIn b.src = 24 + n.val || s.homeIn b.dst = 24 + n.val)) && !s.sp.launches.any (fun l => l.bay = n.val) && (s.bay n).fill.isNone &&
    (s.bay n).repairing.isEmpty && !s.hed.migs.any (fun m => bayOf s.sel m.src = n.val || bayOf s.sel m.dst = n.val)
  | .group g => (List.range 12).all (fun i =>
      let x := 12 * g.val + i
      !s.portExists x || (match (s.link x).state with | .disabled | .fault => true | _ => false))
  | .spindles n g => (List.range 8).all (fun i => (s.spu n (8 * g.val + i)).launch.isNone)

/-- Is a wake of an island queued at the governor, or in progress (R443)? -/
def State.waking (s : State) (i : Island) : Bool := s.govQ.contains i || s.granted.contains i

/-- Record the entry that an island is to make; 0 none. -/
def State.setReq (s : State) (i : Island) (level : Nat) : State :=
  { s with pwr := { s.pwr with req := SMap.set (fun _ => 0) s.pwr.req i.key level } }

/-- R444: firmware requests Run, Sleep or Deep-sleep of an island. A request made while it wakes takes effect when the wake
ends; Sleep asked of an island in Deep-sleep wakes it first. -/
def State.askIsland (s : State) (i : Island) (level : Nat) : State :=
  let cur := s.islandState i
  if s.waking i then s.setReq i level
  else if level = 0 then (let s := s.setReq i 0; if cur = 0 then s else s.wake i)
  else if cur = level then s.setReq i 0
  else if cur = 2 then (s.wake i).setReq i level
  else s.setReq i level

/-- R443: the state that PWR_STATE of a Spindle page asks of a group. -/
def sgLevel (v : DWord) (g : Nat) : Nat := if bit v (16 + g) then 2 else if bit v (8 + g) then 1 else 0

/-- R443, R444: a write to PWR_STATE. i: the island of a controlling page, whose Spindle page is of Bay n. -/
def State.pwrWrite (s : State) (i : Island) (v : Word) : State :=
  let pg := i.page
  let s := if bit v 30 then s.setF pg Reg.Hdr.PWR_STATE 30 30 0 else s
  match i with
  | .spindles n _ =>
    let s := s.setF pg Reg.Hdr.PWR_STATE 23 8 (fld v 23 8)
    (List.range 8).foldl (fun s g => s.askIsland (.spindles n (Fin.ofNat 8 g)) (sgLevel (v.setWidth 64) g)) s
  | _ =>
    if 2 < fld v 2 0 then s.writeRejected pg
    else (s.setF pg Reg.Hdr.PWR_STATE 2 0 (fld v 2 0)).askIsland i (fld v 2 0)

/-- The lane shells of a Pier group take a state (R47, R442). -/
def State.groupLanes (s : State) (g st : Nat) : State :=
  (List.range 27).foldl (fun s j =>
    let p := 3 * g + j / 9
    s.setLaneShell p (j % 9) (setFld (setFld (s.laneShell p (j % 9)) 3 0 st) 7 7 0)) s

/-- R96, R558: Bay n enters Deep-sleep: what its controller has still to write it writes, its refresh stops, to go on from a debt of 0, and
its next sample is the first after a wake. -/
def State.selfRefresh (s : State) (n : Nat) : State :=
  let s := s.issueWrites n (s.bay n).wq
  (s.setBay n { s.bay n with debt := [], sampled := false }).syncDebt n

/-- R442, R444: an island whose entry condition holds enters the state asked of it. -/
def State.powerEntry (s : State) (i : Island) : State :=
  let level := SMap.get (fun _ => 0) s.pwr.req i.key
  let cur := s.islandState i
  if level = 0 ∨ s.waking i ∨ 2 ≤ cur ∨ !(cur = 1 ∨ s.mayEnter i) then s
  else
    let s : State := ({ s with islands := SMap.set (fun _ => 0) s.islands i.key level } : State).setReq i 0
    match i with
    | .group g => if level = 2 then s.groupLanes g 0 else s
    | .bay n => if level = 2 then s.selfRefresh n else s
    | _ => s

/-- R444: 100 µs have passed and the entry condition does not hold. -/
def State.powerEntryLate (s : State) (i : Island) : State := if s.islandState i = 0 ∧ !s.waking i then s.abandon i else s

/-- R443: what PWR_STATE of a page reads as, where the page's island is i, and is the controlling page or not. -/
def State.pwrState (s : State) (i : Option Island) (pg : Nat) : Nat :=
  let v := (s.rg pg Reg.Hdr.PWR_STATE).toNat
  match i with
  | some i => v + min 2 (s.islandState i) * 2 ^ 24 + b2n (s.waking i) * 2 ^ 31
  | none => v

/-! ### Crossings (R43) -/

/-- R42: is the crossing of an island full? -/
def State.crossingFull (s : State) (i : Island) : Bool := decide (Config.crossingDepth ≤ (s.crossing.filter (fun c => c.1 = i)).length)

/-- A message as it stands at the Deck port of an island: its own queue item, or one made for it. x: the logical port it arrived on. -/
def State.itemFor (s : State) (i : Island) (x : Nat) (m : Msg) : VoqItem :=
  match s.waiting x m with
  | some v => v
  | none =>
    { inp := (match m with | .req r => s.inputOf r | _ => if x < 288 then x / 12 else 52), out := i.port, tc := m.tc, cls := m.cls, arr := x
      dst := 0x1FF, time := s.now, stuck := false, msg := m }

/-- R42, R43: an item of logical port x reaches the crossing of an island that sleeps: it is held, and its island wakes. While the
crossing is full its sender keeps the item. -/
def State.crossingArrive (s : State) (i : Island) (x : Nat) (m : Msg) : State :=
  if s.islandState i = 0 then s.abandon i
  else if s.crossingFull i then s.wake i
  else ({ s.takeFrom x m with crossing := s.crossing ++ [(i, s.itemFor i x m)] } : State).wake i

/-- R43: an island has reached Run: the items that its crossing held are delivered; they stand at its Deck port, ahead of later
ones. -/
def State.deliver (s : State) (i : Island) : State :=
  let held := s.crossing.filter (fun c => c.1 = i)
  { s with crossing := s.crossing.filter (fun c => c.1 ≠ i), voqs := held.map (fun c => c.2) ++ s.voqs }

/-! ### The wake governor (R461-R463) -/

/-- R462: the charge of a wake in units of 0.01 A. -/
def State.charge (s : State) (i : Island) : Nat :=
  let c := s.hub Reg.Pwr.WAKE_CHARGE
  let d := s.hub Reg.Pwr.WAKE_CHARGE2
  let light : Bool := s.islandState i = 1
  match i with
  | .bay _ => if light then fld c 15 8 else fld c 7 0
  | .group _ => if light then fld c 31 24 else fld c 23 16
  | .spindles _ _ => if light then fld d 7 0 else fld d 15 8

/-- The governor's budget is kept in units of 0.25 x 10^-8 A; this many make 0.01 A. -/
def perCentiAmp : Nat := 4000000

/-- R461: the head of the governor's queue is granted once the budget is at least its charge. -/
def State.wakeGrant (s : State) : State :=
  match s.govQ with
  | [] => s
  | i :: rest =>
    if s.pwr.budget < s.charge i * perCentiAmp then s
    else ({ s with govQ := rest, granted := s.granted ++ [i], pwr := { s.pwr with budget := s.pwr.budget - s.charge i * perCentiAmp } } : State).bumpHub
      Reg.Pwr.WAKE_GRANT_CNT

/-- R460, R465: is the supply to be spared: PSU_WARN_N, or an input below 39 V? -/
def State.supplyWeak (s : State) : Bool := s.pwr.warn || s.pwr.low

/-- R461, R463: the budget fills for one ns. -/
def State.fillBudget (s : State) : State :=
  let rate := fld (s.hub Reg.Pwr.CURR_SLEW) 15 0 * (if s.supplyWeak then 1 else 4)
  let cap := fld (s.hub Reg.Pwr.CURR_BURST) 15 0 * perCentiAmp
  if cap ≤ s.pwr.budget then s else { s with pwr := { s.pwr with budget := min cap (s.pwr.budget + rate) } }

/-- R461, R445: a granted island reaches Run. Lane shells that were off calibrate. -/
def State.islandRuns (s : State) (i : Island) : State :=
  if !s.granted.contains i then s
  else
    let was := s.islandState i
    let s : State := { s with granted := s.granted.erase i, islands := SMap.set (fun _ => 0) s.islands i.key 0 }
    let s := match i with
      | .group g => if 2 ≤ was then s.groupLanes g 1 else s
      | .bay n => (s.giveKeys n.val).firstSample n.val
      | _ => s
    s.deliver i

/-- R471: what GOV_STAT reads as. -/
def State.govStat (s : State) : Nat := min 255 s.govQ.length * 2 ^ 24 + s.pwr.budget / perCentiAmp

/-! ### Supply, temperature and the throttle (R460, R464-R468) -/

/-- R463, R471: PSU_WARN_N asserts or deasserts. -/
def State.psuWarn (s : State) (b : Bool) : State :=
  let s := if b ∧ !s.pwr.warn then s.bumpHub Reg.Pwr.PSU_WARN_CNT else s
  let s : State := { s with pwr := { s.pwr with warn := b } }
  s.setHubF Reg.Pwr.THR_STAT 16 16 (b2n s.supplyWeak)

/-- R465: the power cap's demand. -/
def State.capDemand (s : State) (level : Nat) : Nat :=
  let p := fld (s.hub Reg.Pwr.PIN_STAT) 15 0
  let cap := fld (s.hub Reg.Pwr.PWR_CAP) 15 0
  if cap < p then min 7 (level + 1) else if p * 100 < cap * 95 then level - 1 else level

/-- R465: the thermal demand. -/
def State.heatDemand (s : State) (level : Nat) : Nat :=
  let c := s.hub Reg.Pwr.THR_CFG
  let logic := fld (s.hub Reg.Pwr.PIN_STAT) 23 16
  let dram := fld (s.hub Reg.Pwr.PIN_STAT) 31 24
  if fld c 15 8 ≤ logic ∨ fld c 23 16 ≤ dram then min 7 (level + 1)
  else if logic + 5 ≤ fld c 15 8 ∧ dram + 5 ≤ fld c 23 16 then level - 1
  else level

/-- R460, R465, R466: a 10 ms boundary: the level rises to the demand, or falls by one. -/
def State.throttle (s : State) : State :=
  let vin := s.hub Reg.Pwr.VIN_STAT
  let low : Bool := vin ≠ 0 && decide (fld vin 15 0 < 3900)
  let s := if low ∧ !s.pwr.low then s.bumpHub Reg.Pwr.VIN_LOW_CNT else s
  let s : State := { s with pwr := { s.pwr with low := low } }
  let level := fld (s.hub Reg.Pwr.THR_STAT) 2 0
  let supply := if s.supplyWeak then fld (s.hub Reg.Pwr.THR_CFG) 2 0 else 0
  let cap := s.capDemand level
  let heat := s.heatDemand level
  let demand := max supply (max cap heat)
  let next := if level < demand then demand else if demand < level then level - 1 else level
  let s := s.setHub Reg.Pwr.THR_STAT (BitVec.ofNat 64
    (b2n (level < heat) * 2 ^ 18 + b2n (level < cap) * 2 ^ 17 + b2n s.supplyWeak * 2 ^ 16 + demand * 2 ^ 8 + next))
  if next = level then s else s.bumpHub Reg.Pwr.THR_CHANGE_CNT

/-- R471: the 10 µs measurement: volts and amps in units of 10 mV and 10 mA. -/
def State.vinMeasure (s : State) (v i : BitVec 16) : State :=
  s.setHub Reg.Pwr.VIN_STAT (BitVec.ofNat 64 (i.toNat * 2 ^ 16 + v.toNat))

/-- R471: the 1 ms update: the hottest logic junction, and the mean power; the hottest DRAM die is that of the stacks' last
samples. -/
def State.powerStatus (s : State) (logic : BitVec 8) (watts : BitVec 16) : State :=
  let dram := (List.range 24).foldl (fun m n => max m (fld (s.rg (pgMC n) Reg.MC.STACK_TEMP) 7 0)) 0
  s.setHub Reg.Pwr.PIN_STAT (BitVec.ofNat 64 (dram * 2 ^ 24 + logic.toNat * 2 ^ 16 + watts.toNat))

/-! ### Power stages (R458, R459, R471) -/

/-- R458: the unit whose rails a stage feeds. -/
def stageUnit (i : Nat) : ResetUnit :=
  if i < 16 then .span (i / 4)
  else if i < 18 then .device
  else if i < 210 then .bay ((i - 18) / 8)
  else if i < 354 then .group ((i - 210) / 6)
  else if i < 386 then .span ((i - 354) / 8)
  else .device

/-- The shell status word of a stage, and writing it. -/
def State.stageShell (s : State) (i : Nat) : DWord := s.rgb pgPwr Reg.Pwr.PSTAGE_SHELL i

/-- Write the shell status word of a stage. -/
def State.setStageShell (s : State) (i : Nat) (v : DWord) : State := s.setReg pgPwr Reg.Pwr.PSTAGE_SHELL 0 i v

/-- R48, R471: PSTAGE_CMD: a margin measurement or a recalibration of the selected stage. -/
def State.stageCmd (s : State) (op : Nat) : State :=
  let i := fld (s.hub Reg.Pwr.PSTAGE_SEL) 8 0
  if op = 1 then s.setStageShell i (shRequest (s.stageShell i) 4).1
  else if op = 2 then s.setStageShell i (shRequest (s.stageShell i) 5).1
  else s.writeRejected pgPwr

/-- R47: after a reset of the power controller the stages that are powered calibrate: all but those of a Span that is off. -/
def State.stagesOn (s : State) : State :=
  (List.range 398).foldl (fun s i =>
    if (match stageUnit i with
      | .span d => bit (s.hub Reg.Flt.SPAN_FENCED) (4 + d)
      | .bay n => bit (s.hub Reg.Flt.SPAN_FENCED) (4 + n / 6)
      | .group g => bit (s.hub Reg.Flt.SPAN_FENCED) (4 + g / 6)
      | _ => false) then s else s.setStageShell i 1) s

end Sys2Proof.Machine
end

