-- ==== Sys2Proof/Machine/Reset.lean ====
section
/-!
DEFINITION. Machine/Reset.lean: reset levels and their reach (R446, R447, R559), sources and the fuse map (R448-R451), single
units (R454, R455), the release sequence (R457), and the reset log (R470).
-/
namespace Sys2Proof.Machine

open Sys2Proof

def pgRst : Nat := pgHub 0x22

/-! ### Reach -/

/-- R24, R517: the units whose page it is: the reset that a page's registers follow. -/
def pageUnit (pg : Nat) : ResetUnit :=
  let d := pg / 1024
  let c := pg / 16 % 64
  let i := pg % 16
  if d < 4 then
    if c = 0x09 ∨ c = 0x0A then .group (6 * d + i)
    else if c = 0x0C then .pier (18 * d + i)
    else if c = 0x0D then .pier (18 * d + 16 + i)
    else if c = 0x14 then .loom (6 * d + i)
    else if c = 0x15 then .heddle (6 * d + i)
    else if 0x10 ≤ c ∧ c ≤ 0x17 then .bay (6 * d + i)
    else if 0x18 ≤ c then .bay (6 * d + (c - 0x18))
    else .span d
  else .device

/-- R41, R446: does a reset at a level of a unit reach a unit? -/
def reaches (level : Nat) (u v : ResetUnit) : Bool :=
  if level ≤ 1 then true
  else if level = 2 then (match v with | .device | .hostPort => false | _ => true)
  else if level = 3 then
    match u, v with
    | .bay n, .bay m | .bay n, .loom m | .bay n, .heddle m | .bay n, .spindle m _ => n = m
    | .group g, .group h => g = h
    | .group g, .pier p => g = p / 3
    | _, _ => false
  else decide (u = v)

/-- R15: a reset at a level takes every register that it reaches, but for those that keep their value at it, to its reset
value; LAST_LEVEL of R454 shows the level, and HOLD is kept but at L0. -/
def State.resetRegs (s : State) (level : Nat) (u : ResetUnit) : State :=
  let hit (pg : Nat) : Bool := assigned pg && reaches level u (pageUnit pg)
  let keeps (k : Nat) : Bool := match regAt (k / 4096 % 65536) (k % 4096) with
    | some r => decide (0 < level) && r.keep.testBit level
    | none => false
  let pages := (List.range 5120).filter hit
  let holds := if level = 0 then [] else pages.filter (fun pg => bit (s.rg pg Reg.Hdr.RST_CTRL) 16)
  let s : State := { s with regs := SMap.drop (fun k => hit (k / 4096 % 65536) && !keeps k) s.regs }
  pages.foldl (fun s pg => s.setN pg Reg.Hdr.RST_CTRL (level * 2 ^ 28 + b2n (holds.contains pg) * 2 ^ 16)) s

/-! ### The reset log (R470) -/

/-- KIND and INSTANCE of a unit in RST_LOG. -/
def ResetUnit.kind : ResetUnit → Nat × Nat
  | .device | .hostPort => (0, 0)
  | .span s => (1, s)
  | .bay n => (2, n)
  | .group g => (3, g)
  | .spindle n k => (4, 64 * n + k)
  | .loom n => (5, n)
  | .heddle n => (6, n)
  | .pier p => (7, p)

/-- R470: one entry of RST_LOG. ft: Fabric Time when the source fired. -/
def State.logReset (s : State) (source level : Nat) (u : ResetUnit) (ft : Nat) : State :=
  let i := fld (s.hub Reg.Rst.RST_LOG_IDX) 3 0
  let (kind, inst) := u.kind
  let v := 2 ^ 63 + source * 2 ^ 58 + level * 2 ^ 55 + kind * 2 ^ 52 + inst * 2 ^ 41 + ft / 65536 / 1024 % 2 ^ 41
  (s.setReg pgRst Reg.Rst.RST_LOG i 0 (BitVec.ofNat 64 v)).setHubF Reg.Rst.RST_LOG_IDX 3 0 (i + 1)

/-! ### Bays, Pier groups and single units -/

/-- R476: the reductions that Bay n's Loom holds OPEN fail in the other Looms, and its table is cleared. -/
def State.loomDown (s : State) (n : Nat) : State :=
  let s := s.loom.reds.foldl (fun s r =>
    if (r.bay n).st = .opened then
      (List.range 24).foldl (fun s m => if m = n then s else s.failRedBay r.body.rid m .portDown) s
    else s) s
  ({ s with loom := { s.loom with reds := s.loom.reds.map (fun r => r.setBay n { r.bay n with st := .gone }) } } : State).combsDown n

/-- R447, R455, R476: what an L3 reset, or retirement, of a Bay ends: its Deck port goes down, and its units' work with it. -/
def State.bayEnds (s : State) (n : Nat) : State :=
  (((((s.deckDown (24 + n) true).loomDown n).hedDown n).migsDown n).spBayDown n)

/-- R487, R500: a stack test is over. res: RESULT; rows: the failing rows. -/
def State.btestEnd (s : State) (res rows : Nat) : State :=
  let s : State := { s with flt := { s.flt with btest := none }, testing := [] }
  s.setHub Reg.Flt.BTEST_STAT (BitVec.ofNat 64 (res * 2 ^ 28 + min rows (2 ^ 24 - 1)))

/-- R102, R90: what a Bay keeps at a reset below L0: its soft repair table, its marks, its lost directory entries, and its repairs in the
dies and the boot flash. -/
def BaySt.kept (b : BaySt) : BaySt :=
  { BaySt.init with repairs := b.repairs, marks := b.marks, lost := b.lost, hard := b.hard, repairLog := b.repairLog }

/-- R102: what a Bay keeps at an L0 reset: its hard repairs, and the log of the repairs that firmware has had 1 s to copy (DESIGN CHOICE:
log entry 60). -/
def State.keptCold (s : State) (b : BaySt) : BaySt :=
  { BaySt.init with hard := b.hard, repairLog := b.repairLog.filter (fun e => decide (e.2 + 1000000000 ≤ s.now)) }

/-- R446, R447: a Bay's island is cleared. Its stack, soft repair table and marks, and its accumulator slots, are kept;
below L3's reach its scrub goes on where it was. -/
def State.clearBay (s : State) (n : Nat) (scrub : Bool) : State :=
  let b := s.bay n
  let s := s.setBay n { b.kept with scrubLine := if scrub then b.scrubLine else 0 }
  let s : State := { s with
    sp := { s.sp with units := SMap.drop (fun k => k / 64 = n) s.sp.units, parts := s.sp.parts.filter (fun p => p.bay ≠ n) }
    sram := SMap.drop (fun k => k / sramSize / 64 = n) s.sram
    txns := (s.txns.filter (fun t => t.bay ≠ n || decide (t.work = .disable))).map (fun t => if t.bay = n then { t with active := false, await := [] } else t)
    codec := { s.codec with cache := s.codec.cache.filter (fun e => e.1 ≠ n) }
    tray := { s.tray with txns := s.tray.txns.filter (fun t => t.bay ≠ n) }
    islands := SMap.drop (fun k => k = n || (100 + 8 * n ≤ k && k < 108 + 8 * n)) s.islands
    xts := SMap.drop (fun k => k / 256 = n) s.xts
    govQ := s.govQ.filter (fun i => i.port ≠ 24 + n)
    granted := s.granted.filter (fun i => i.port ≠ 24 + n)
    pwr := { s.pwr with req := SMap.drop (fun k => k = n || (100 + 8 * n ≤ k && k < 108 + 8 * n)) s.pwr.req } }
  match s.flt.btest with
  | some b => if b.bay = n then s.btestEnd 5 0 else s
  | none => s

/-- R176, R446: the spare transmit lane of a Pier that is cleared carries no other lane's symbols any more. -/
def State.spareOff (s : State) (p : Nat) : State := if (s.pier p).spareTx.isSome then s.emit (.spare p none) else s

/-- R446: a Pier with its logical ports is cleared. all: with the mapping of its lanes to the spare (R176). -/
def State.clearPier (s : State) (p : Nat) (all : Bool) : State :=
  let s := (s.pierPorts p).foldl (fun s x => if (s.link x).state.takes then s.portDown x else s) s
  let s : State := { s with
    links := SMap.drop (fun x => x / 4 = p && x < 288) s.links
    landing := SMap.drop (fun k => k / 32 = p && k < 2304) s.landing }
  let s := if all then (s.spareOff p).setPier p PierSt.init else s.setPier p { s.pier p with loop := none, sparing := none }
  if all then s.clearGates p else s

/-- R446: a Pier group's island is cleared. -/
def State.clearGroup (s : State) (g : Nat) : State :=
  let s := [3 * g, 3 * g + 1, 3 * g + 2].foldl (fun s p => s.clearPier p true) s
  { s with
    policers := SMap.drop (fun k => k / 1024 = g) s.policers, polMap := SMap.drop (fun k => k / 4096 = g) s.polMap
    capHolds := s.capHolds.filter (fun h => match h.req.origin.port? with | some x => x / 12 ≠ g | none => true)
    capWins := s.capWins.filter (fun w => w.port / 12 ≠ g)
    voqs := s.voqs.filter (fun v => v.inp ≠ g)
    crossing := s.crossing.filter (fun c => c.1.port ≠ g)
    govQ := s.govQ.filter (fun i => i.port ≠ g)
    granted := s.granted.filter (fun i => i.port ≠ g)
    islands := SMap.drop (fun k => k = 24 + g) s.islands
    pwr := { s.pwr with req := SMap.drop (fun k => k = 24 + g) s.pwr.req } }

/-- Hold a unit in reset. -/
def State.hold (s : State) (u : ResetUnit) : State := if s.held.contains u then s else { s with held := s.held ++ [u] }

/-- R455: an L3 reset of a Bay or a Pier group. -/
def State.islandReset (s : State) (u : ResetUnit) : State :=
  match u with
  | .bay n => (((s.bayEnds n).clearBay n true).resetRegs 3 u).hold u
  | .group g => ((s.clearGroup g).resetRegs 3 u).hold u
  | _ => s

/-- R304, R454, R476: an L4 reset of a unit. -/
def State.unitReset (s : State) (u : ResetUnit) : State :=
  match u with
  | .spindle n k =>
    let s := (s.spReset n k).hold u
    if bit (s.rg (pgSp n) Reg.Hdr.RST_CTRL) 16 ∧ !s.rst.holding.contains u then { s with rst := { s.rst with holding := s.rst.holding ++ [u] } } else s
  | .loom n => ((s.loomDown n).resetRegs 4 u).hold u
  | .heddle n => (((s.hedDown n).migsDown n).resetRegs 4 u).hold u
  | .pier p => ((s.clearPier p false).resetRegs 4 u).hold u
  | _ => s

/-! ### The device -/

/-- R385, R386, R559: what an L2 reset does to a map switch or a copy, and to what waits for requests. -/
def State.mapsRestart (s : State) : State :=
  let s : State := { s with reg := { s.reg with
    rtCmd := s.reg.rtCmd.map (fun c => { c with marked := [] }), rctCmd := s.reg.rctCmd.map (fun c => { c with marked := [] })
    revs := s.reg.revs.map (fun e => (e.1, { e.2 with marked := [] })) } }
  match s.reg.phase with
  | .idle => s
  | .checking | .copying => (({ s with reg := { s.reg with phase := .idle } } : State).syncMap 0).runWaiting
  | .draining | .rebuilding =>
    let s := s.drainEnd
    (({ s with reg := { s.reg with phase := .idle } } : State).syncMap 0).runWaiting

/-- The Bays whose BAY_EXCLUDE bit is set (R477), and those of Spans that are off (R482). -/
def State.excluded (s : State) : List Nat :=
  (List.range 24).filter (fun n => bit (s.hub Reg.Flt.BAY_EXCLUDE) n || bit (s.hub Reg.Flt.SPAN_FENCED) (4 + n / 6))

/-- R457, R477, R484: a restart holds every Bay and Pier group, off until the governor powers it; excluded Bays stay retired;
what a restart returns returns. -/
def State.restart (s : State) (step : Nat) : State :=
  let off := (List.range 4).filter (fun sp => bit (s.hub Reg.Flt.SPAN_FENCED) (4 + sp))
  let gone := (List.range 24).filter (fun n => bit (s.hub Reg.Flt.BAY_EXCLUDE) n)
  let s : State := { s with
    held := (if step = 1 then [.device] else []) ++ off.map ResetUnit.span ++ (List.range 24).map ResetUnit.bay ++
      (List.range 24).map ResetUnit.group
    islands := ((List.range 48).map (fun k => (k, 3))), govQ := [], granted := []
    rst := { s.rst with trained := [], calibrated := [], waits := [], holding := [], removed := [] } }
  let s := s.setHub Reg.Flt.BAY_RETIRED (BitVec.ofNat 64 ((gone.map (2 ^ ·)).sum))
  let s := s.setHubF Reg.Flt.SPAN_FENCED 3 0 0
  let s := (s.setHub Reg.Flt.BRIDGE_STAT 0).setHub Reg.Flt.LPART_FENCED 0
  let s := s.setHub Reg.Admit.ADMIT_CTRL 0
  (s.setHubF Reg.Rst.RST_STAT 31 31 0).setHubF Reg.Rst.RST_STAT 30 28 step

/-- R446, R470: an L0 reset. The stacks lose their contents; the fuses are loaded and the straps sampled again. -/
def State.coldReset (s : State) (source : Nat) : State :=
  let s := (List.range 72).foldl (fun s p => s.spareOff p) s
  let s0 : State := { State.reset with
    pending := s.pending, out := s.out, free := s.free, now := s.now, unitNext := s.unitNext, alert := s.alert, alertHold := s.alertHold
    bays := (s.bays.map (fun e => (e.1, s.keptCold e.2))).filter (fun e => e.2 ≠ BaySt.init)
    fuses := { s.fuses with straps := Config.straps }, ks := { KsSt.init with flash := s.ks.flash }
    pwr := { PwrSt.init with warn := s.pwr.warn, stopped := s.pwr.stopped, tripped := s.pwr.tripped }
    host := { HostSt.init with perst := s.host.perst }, pins := { PinSt.init with jtag := s.pins.jtag } }
  let s := (s0.restart 1).logReset source 0 .device 0
  s.stagesOn.reviewAlert

/-- R446, R447, R470: an L1 reset. -/
def State.warmReset (s : State) (source : Nat) (u : ResetUnit) : State :=
  let s := (List.range 72).foldl (fun s p => s.spareOff p) s
  let s0 : State := { State.reset with
    pending := s.pending, out := s.out, free := s.free, now := s.now, unitNext := s.unitNext, alert := s.alert, alertHold := s.alertHold
    regs := s.regs, mem := s.mem, poison := s.poison, upsets := s.upsets, fuses := s.fuses
    bays := (s.bays.map (fun e => (e.1, e.2.kept))).filter
      (fun e => e.2 ≠ BaySt.init)
    loom := { LoomSt.init with slots := s.loom.slots, bad := s.loom.bad }
    ks := { KsSt.init with flash := s.ks.flash, entFail := s.ks.entFail }, flt := { FltSt.init with hist := s.flt.hist, cores := (List.range 16).filter (fun k => bit (s.hub Reg.Flt.WEFT_FENCE) k) }
    pwr := { PwrSt.init with warn := s.pwr.warn, stopped := s.pwr.stopped, tripped := s.pwr.tripped }
    host := { HostSt.init with perst := s.host.perst }, pins := { PinSt.init with jtag := s.pins.jtag } }
  let s1 := ((s0.resetRegs 1 .device).restart 1).logReset source 1 u s.ft
  (s1.bumpI pgRst Reg.Rst.RST_CNT 0).stagesOn.reviewAlert

/-- R138, R139: everything that is inside the fabric when the four Spans are reset is answered with PORT_DOWN where it came from
the Hub: from its device units or the host port. -/
def State.fabricDown (s : State) : State :=
  let done := s.unitDone.map (fun e => e.1)
  let us := (s.unitReqs.filter (fun u => !done.contains u.id)).map (fun u => u.req)
  let hs := (s.host.reqs.filter (fun r => !r.waiting && r.kind ≠ 3)).map (fun r => r.req)
  let s : State := { s with
    voqs := [], capHolds := [], capWins := [], arbLast := [], arb := .init, marred := [], txns := [], crossing := [], tray := .init, returns := [], resume := []
    policers := [], polMap := [], flushing := s.flushing.filter (fun f => f = .port 288), landing := SMap.drop (fun k => k < 2304) s.landing
    tr := { TrestleSt.init with routes := s.tr.routes, groups := s.tr.groups, mc := s.tr.mc, mcNum := s.tr.mcNum, num := s.tr.num, rxNum := s.tr.rxNum } }
  (us ++ hs).foldl (fun s r => s.refuse r .portDown) s

/-- R446, R447, R348, R559: an L2 reset. -/
def State.warpReset (s : State) (source : Nat) (u : ResetUnit) : State :=
  let ft := s.ft
  let s := (List.range 72).foldl (fun s p => s.spareOff p) s.treadleDown
  let s := s.streams.foldl (fun s x => s.streamRetire x.t) s
  let s := (List.range 24).foldl (fun s n => (((s.loomDown n).hedDown n).migsDown n).spBayDown n) s
  let s := s.fabricDown
  let s := (List.range 24).foldl (fun s n => s.clearBay n false) s
  let s : State := { s with
    links := SMap.drop (fun x => x < 288) s.links, piers := [], gates := [], glists := [], stamps := [], bcasts := [], moves := []
    hed := { s.hed with ops := [], upds := [], migs := [], win := [] }
    loom := { s.loom with reds := [] }, codec := { s.codec with cache := [] }
    pwr := { s.pwr with req := [] }, flt := { s.flt with dpath := none, beats := [], bridge := [] } }
  let s := (s.mapsRestart).resetRegs 2 .device
  let s := (List.range 4).foldl (fun s i => s.set (pgSlice i) Reg.Slice.TC_MODE (s.rg (pgSlice 4) Reg.Slice.TC_MODE)) s
  ((s.restart 4).logReset source 2 u ft).bumpI pgRst Reg.Rst.RST_CNT 1

/-! ### Sources (R448-R451) -/

/-- R449: the level of an entry: 6 and 7 act as L1. -/
def State.mapLevel (s : State) (entry : Nat) : Nat :=
  let v := fld s.fuses.resetMap (3 * entry + 2) (3 * entry)
  if 6 ≤ v then 1 else v

/-- R449, RST_STAT.MAP_ERR: does an entry hold 6 or 7? -/
def State.mapErr (s : State) : Bool := (List.range 16).any (fun i => decide (6 ≤ fld s.fuses.resetMap (3 * i + 2) (3 * i)))

/-- R450: the smallest level whose reach includes the unit where a source occurs. A device-wide source has no unit of its own:
L2 is the smallest level that no single unit bounds. -/
def smallestLevel (entry : Nat) : ResetUnit → Nat
  | .spindle _ _ | .loom _ | .heddle _ | .pier _ => 4
  | .bay _ | .group _ => 3
  | .span _ => 2
  | .hostPort => 1
  | .device => if entry = 0 ∨ entry = 4 ∨ entry = 6 ∨ entry = 0xC then 2 else 1

/-- The island of a unit (R41). -/
def ResetUnit.island : ResetUnit → ResetUnit
  | .spindle n _ | .loom n | .heddle n => .bay n
  | .pier p => .group (p / 3)
  | u => u

/-- The power island that must run before a unit is reset (R445). -/
def ResetUnit.power : ResetUnit → Option Island
  | .bay n => some (.bay (Fin.ofNat 24 n))
  | .group g => some (.group (Fin.ofNat 24 g))
  | _ => none

/-- R445, R446: perform a reset at a level. A sleeping island is woken first. -/
def State.doReset (s : State) (level : Nat) (u : ResetUnit) (source : Nat) : State :=
  if level = 0 then s.coldReset source
  else if level = 1 then s.warmReset source .device
  else if level = 2 then s.warpReset source .device
  else if level = 5 then s.logReset source 5 u s.ft
  else
    -- a Bay or a Pier group at L3, a unit at L4
    let v := if level = 3 then u.island else u
    match u.island.power with
    | none => s
    | some i =>
      if s.islandState i ≠ 0 then { s.wake i with rst := { s.rst with waits := s.rst.waits ++ [⟨v, level, source⟩] } }
      else
        let t := if level = 3 then s.islandReset v else s.unitReset v
        (t.logReset source level v s.ft).bumpI pgRst Reg.Rst.RST_CNT (level - 1)

/-- Is a unit held in reset, with its island, its Span or the device? -/
def State.inReset (s : State) (u : ResetUnit) : Bool :=
  s.held.contains .device || s.held.contains u || s.held.contains u.island ||
    (match u.island with | .bay n => s.spanFenced (n / 6) | .group g => s.spanFenced (g / 6) | _ => false)

/-- R449-R451: the level that a source of the fuse map performs at a unit; 5: it is only logged. -/
def State.sourceLevel (s : State) (entry : Nat) (u : ResetUnit) : Nat × Bool :=
  let m := s.mapLevel entry
  let least := smallestLevel entry u
  if m = 5 then (5, false) else if least < m then (least, true) else (m, false)

/-- R451: is a reset in progress whose reach includes a unit, and no narrower than that of a level? While the Hub is in reset the device is. -/
def State.resetHides (s : State) (level : Nat) (u : ResetUnit) : Bool :=
  (decide (3 ≤ level) && s.inReset u) || (decide (1 ≤ level) && s.held.contains .device)

/-- R448, R451: a reset source fires: the reset of its level, or, during a reset whose reach includes its unit, only its log entry. -/
def State.resetSource (s : State) (level : Nat) (u : ResetUnit) (source : Nat) : State :=
  if s.resetHides level u then s.logReset source 5 u s.ft else s.doReset level u source

/-- R449-R451: a source of the fuse map fires at a unit. -/
def State.fire (s : State) (entry : Nat) (u : ResetUnit) : State :=
  let (level, raised) := s.sourceLevel entry u
  let t := s.resetSource level u entry
  if raised ∧ !s.resetHides level u then t.bumpHub Reg.Rst.ESCALATE_CNT else t

/-- R445: an island that has reached Run takes the resets that waited for it. -/
def State.runWaits (s : State) (i : Island) : State :=
  let hit := s.rst.waits.filter (fun w => w.unit.island.power = some i)
  let s : State := { s with rst := { s.rst with waits := s.rst.waits.filter (fun w => w.unit.island.power ≠ some i) } }
  hit.foldl (fun s w => s.resetSource w.level w.unit w.source) s

/-- R43, R445, R461: a granted island reaches Run. A stack powered up trains (R103). -/
def State.islandRun (s : State) (i : Island) : State :=
  if !s.granted.contains i then s
  else
    let was := s.islandState i
    let s := s.islandRuns i
    let s := match i with
      | .bay n => if was = 3 then s.setF (pgMC n) Reg.MC.PHY_SHELL_STAT 3 0 1 else s
      | _ => s
    s.runWaits i

/-- R470: RST_CMD with a level. -/
def State.rstCmd (s : State) (confirm : Byte) (level : Nat) : State :=
  if confirm ≠ 0xA5 ∨ 2 < level then s.writeRejected pgRst else s.resetSource level .device 0x12

/-! ### Release of a unit (R454, R455) -/

/-- The page of a unit's RST_CTRL (R454). -/
def ResetUnit.page : ResetUnit → Nat
  | .bay n => pgMC n
  | .group g => pgPG g
  | .spindle n _ => pgSp n
  | .loom n => pgLoom n
  | .heddle n => pgHed n
  | .pier p => pgPier p
  | .span s => pgSpan s
  | _ => pgRoot

/-- R45, R454, R455: a unit leaves reset. A Bay's tray engine gets its keys, its Heddle loads its redirect copy (R268), and its stack trains (R103); a Pier's lane
shells calibrate. -/
def State.letGo (s : State) (u : ResetUnit) : State :=
  let s : State := { s with held := s.held.erase u, rst := { s.rst with holding := s.rst.holding.erase u } }
  match u with
  | .bay n => { (s.giveKeys n).setF (pgMC n) Reg.MC.PHY_SHELL_STAT 3 0 1 with hed := { s.hed with valid := NSet.insert n s.hed.valid } }
  | .heddle n => { s with hed := { s.hed with valid := NSet.insert n s.hed.valid } }
  | .group g => s.groupLanes g 1
  | .pier p => (List.range 9).foldl (fun s k => s.setLaneShell p k (setFld (s.laneShell p k) 3 0 1)) s
  | _ => s

/-- R454: does HOLD keep a unit in reset? For a Spindle it is HOLD at the time of the request that counts. -/
def State.holds (s : State) (u : ResetUnit) : Bool :=
  match u with
  | .spindle _ _ => s.rst.holding.contains u
  | _ => bit (s.rg u.page Reg.Hdr.RST_CTRL) 16

/-- R454: the reset time of a unit is over: it leaves reset, unless HOLD keeps it there. -/
def State.release (s : State) (u : ResetUnit) : State :=
  if s.holds u then
    (if s.rst.holding.contains u then s else { s with rst := { s.rst with holding := s.rst.holding ++ [u] } })
  else s.letGo u

/-- Does the release sequence, or retirement, hold a unit? -/
def State.heldBack (s : State) (u : ResetUnit) : Bool :=
  match u with
  | .bay n =>
    s.retired n || s.islandState (.bay (Fin.ofNat 24 n)) = 3 || (decide (0 < fld (s.hub Reg.Rst.RST_STAT) 30 28) && !NSet.has n s.rst.trained)
  | .group g => s.islandState (.group (Fin.ofNat 24 g)) = 3 || (decide (0 < fld (s.hub Reg.Rst.RST_STAT) 30 28) && !NSet.has g s.rst.calibrated)
  | .device | .span _ | .hostPort => true
  | _ => false

/-- R455: an L3 or L4 reset is released. -/
def State.resetRelease (s : State) (u : ResetUnit) : State :=
  if s.held.contains u ∧ !s.heldBack u then s.release u else s

/-- R454: HOLD of a page is written 0: what only HOLD kept in reset is released. -/
def State.holdRelease (s : State) (pg : Nat) : State :=
  let s := s.setF pg Reg.Hdr.RST_CTRL 16 16 0
  (s.rst.holding.filter (fun u => u.page = pg)).foldl (fun s u => s.letGo u) s

/-- R454: the unit of a page that a REQ of 3 or 4 resets. -/
def reqUnit (pg req unit : Nat) : Option ResetUnit :=
  match pageUnit pg with
  | .bay n => if req = 3 ∧ pg = pgMC n then some (.bay n) else if req = 4 ∧ pg = pgSp n then some (.spindle n unit) else none
  | .group g => if req = 3 ∧ pg = pgPG g then some (.group g) else none
  | .loom n => if req = 4 then some (.loom n) else none
  | .heddle n => if req = 4 then some (.heddle n) else none
  | .pier p => if req = 4 ∧ pg = pgPier p then some (.pier p) else none
  | _ => none

/-- R454: a write to RST_CTRL. -/
def State.rstCtrlWrite (s : State) (pg : Nat) (v : Word) : State :=
  let was := bit (s.rg pg Reg.Hdr.RST_CTRL) 16
  let s := s.setF pg Reg.Hdr.RST_CTRL 16 16 (b2n (bit v 16))
  let s := (s.setF pg Reg.Hdr.RST_CTRL 13 8 (fld v 13 8)).setF pg Reg.Hdr.RST_CTRL 30 28 (fld v 30 28)
  let s := if was ∧ !bit v 16 then s.holdRelease pg else s
  let req := fld v 2 0
  if req ≠ 3 ∧ req ≠ 4 then s
  else match reqUnit pg req (fld (s.rg pg Reg.Hdr.RST_CTRL) 13 8) with
    | none => s.writeRejected pg
    | some u => s.resetSource req u 0x13

/-- R454: what RST_CTRL of a page reads as. -/
def State.rstCtrl (s : State) (pg : Nat) : Nat :=
  let v := s.rg pg Reg.Hdr.RST_CTRL
  let u : ResetUnit := match pageUnit pg with
    | .bay n => if pageClass pg = 0x16 then .spindle n (fld v 13 8) else .bay n
    | u => u
  fld v 30 0 + b2n (s.inReset u) * 2 ^ 31

/-! ### The release sequence (R457) -/

/-- RST_STAT.STEP. -/
def State.relStep (s : State) : Nat := fld (s.hub Reg.Rst.RST_STAT) 30 28

/-- Set RST_STAT.STEP. -/
def State.toStep (s : State) (n : Nat) : State := s.setHubF Reg.Rst.RST_STAT 30 28 n

/-- R102: hard repairs are made of what the table or the log holds, and their entries freed; lanes are repaired (R90). -/
def BaySt.hardened (b : BaySt) : BaySt :=
  let new := (b.repairs ++ b.repairLog.map Prod.fst).foldl (fun l r => if l.contains r then l else l ++ [r]) b.hard
  { b with hard := new, repairs := [], repairLog := [], marks := [] }

/-- R103, R457, R455: a stack has trained, its sensors sampled first (R558): hard repairs are made (R102) and marks cleared; its shell is in RUN, or in FAULT, which
retires its Bay. -/
def State.stackTrained (s : State) (n fault : Nat) : State :=
  let v := s.rg (pgMC n) Reg.MC.PHY_SHELL_STAT
  if shState v ≠ 1 ∨ s.islandState (.bay (Fin.ofNat 24 n)) ≠ 0 then s
  else
    let s := s.firstSample n
    let s := s.set (pgMC n) Reg.MC.PHY_SHELL_STAT (shCalibrated (setFld v 31 24 0) 3 fault)
    if fault ≠ 0 then s.raise (.bayFault n true)
    else
      let s := (s.setBay n (s.bay n).hardened).syncRepair n
      if s.relStep = 5 ∧ s.held.contains (.bay n) then
        let s : State := { s with rst := { s.rst with trained := NSet.insert n s.rst.trained }
                                  hed := { s.hed with valid := NSet.insert n s.hed.valid } }
        if bit (s.rg (pgMC n) Reg.Hdr.RST_CTRL) 16 then s.release (.bay n) else { s with held := s.held.erase (.bay n) }
      else s

/-- R445, R457: the lane shells of a Pier group have calibrated: the group leaves reset at step 6, and its ports may leave
DISABLED. -/
def State.lanesCalibrated (s : State) (g : Nat) : State :=
  if s.islandState (.group (Fin.ofNat 24 g)) ≠ 0 then s
  else
    let s := (List.range 27).foldl (fun s j =>
      let p := 3 * g + j / 9
      let v := s.laneShell p (j % 9)
      if shState v = 1 then s.setLaneShell p (j % 9) (shCalibrated v 2 0) else s) s
    let s : State := if s.relStep = 6 ∧ s.held.contains (.group g) ∧ !s.spanFenced (g / 6) then
      let s : State := { s with rst := { s.rst with calibrated := NSet.insert g s.rst.calibrated } }
      if bit (s.rg (pgPG g) Reg.Hdr.RST_CTRL) 16 then s.release (.group g) else { s with held := s.held.erase (.group g) }
    else s
    [3 * g, 3 * g + 1, 3 * g + 2].foldl (fun s p => s.tryPier p) s

/-- The Bays that the release sequence trains: not retired, and their Span not off. -/
def State.toTrain (s : State) : List Nat :=
  (List.range 24).filter (fun n => !s.retired n && !bit (s.hub Reg.Flt.SPAN_FENCED) (4 + n / 6))

/-- The Pier groups that the release sequence powers. -/
def State.toPower (s : State) : List Nat := (List.range 24).filter (fun g => !bit (s.hub Reg.Flt.SPAN_FENCED) (4 + g / 6))

/-- R434, R457: the condition of the step in progress holds: the next step begins. -/
def State.releaseStep (s : State) : State :=
  if s.pwr.stopped ∨ s.pwr.tripped then s
  else match s.relStep with
    | 1 => s.toStep 2
    | 2 => if s.ks.boot = 1 then s.toStep 3 else s
    | 3 =>
      if s.rst.stuck ∨ !s.clkGood 0 then s
      else (({ s.clkSelect 1 with held := s.held.erase .device } : State).toStep 4)
    | 4 => (s.toTrain.foldl (fun s n => s.wake (.bay (Fin.ofNat 24 n))) (s.toStep 5))
    | 5 =>
      if s.toTrain.all (fun n => NSet.has n s.rst.trained) ∧ bit (s.hub Reg.Admit.ADMIT_CTRL) 0 then
        (s.toPower.foldl (fun s g => s.wake (.group (Fin.ofNat 24 g))) (s.toStep 6)).beginTraining
      else s
    | 6 => if s.toPower.all (fun g => NSet.has g s.rst.calibrated) then (s.toStep 7).setHubF Reg.Rst.RST_STAT 31 31 1 else s
    | _ => s

/-- R448, R456: PWRGOOD rises: the straps are sampled, and an L0 reset begins. -/
def State.powerOn (s : State) : State :=
  ({ s with pwr := { s.pwr with stopped := false, tripped := false } } : State).coldReset 0x10

/-- R470, R456, R449: what RST_STAT, RST_MAP_LO, RST_MAP_HI and STRAP_STAT read as. -/
def State.rstStat (s : State) : Nat := (s.hub Reg.Rst.RST_STAT).toNat + b2n s.mapErr * 2 ^ 27

end Sys2Proof.Machine
end

