-- ==== Sys2Proof/Machine/Faults.lean ====
section
/-!
DEFINITION. Machine/Faults.lean: fault classes and histories (R472-R474), retirement and fencing (R475-R483), known-answer tests
(R486), stack tests, loopback and the Deck path test (R487-R489), the watchdog (R452), Footway mode (R495-R499), GPIO and the Hub
trace (R492, R493).
-/
namespace Sys2Proof.Machine

open Sys2Proof

def pgFlt : Nat := pgHub 0x24
def pgDiag : Nat := pgHub 0x07

/-! ### Histories (R472, R473) -/

/-- R473: an event of a unit now: is it the need-th within 24 h? The last three times are kept. key: class and unit. -/
def State.judge (s : State) (key need : Nat) : Bool × State :=
  let us := s.now / 1000
  let old := SMap.get (fun _ => []) s.flt.hist key
  let perm := match (old.reverse)[need - 2]? with
    | some t => decide (us ≤ t + 86400000000)
    | none => false
  let new := old ++ [us]
  (perm, { s with flt := { s.flt with hist := SMap.set (fun _ => []) s.flt.hist key (new.drop (new.length - 3)) } })

/-- FAULT_CFG.AUTO_RETIRE, and AUTO_FENCE. -/
def State.autoRetire (s : State) : Bool := bit (s.hub Reg.Flt.FAULT_CFG) 0
/-- FAULT_CFG.AUTO_FENCE. -/
def State.autoFence (s : State) : Bool := bit (s.hub Reg.Flt.FAULT_CFG) 1

/-! ### Retirement (R475, R476) -/

/-- R475, R481, R483: a Bay is retired. exclude: its BAY_EXCLUDE bit is set too; cls: the class of the judgement, 0xF where there
is none: the log entry's CLASS is then left open (log entry 50). -/
def State.retireBay (s : State) (n : Nat) (exclude : Bool) (cls : Nat) : State :=
  if s.retired n then s
  else
    let idx := fld (s.hub Reg.Flt.FAULT_LOG_IDX) 3 0
    let s := s.setHub Reg.Flt.BAY_RETIRED (setBit (s.hub Reg.Flt.BAY_RETIRED) n true)
    let s := if exclude then s.setHub Reg.Flt.BAY_EXCLUDE (setBit (s.hub Reg.Flt.BAY_EXCLUDE) n true) else s
    let (cls, s) := if cls = 0xF then s.freshBelow 16 else (cls, s)
    let s := s.faultLog cls 4 2 n
    let s := (s.islandReset (.bay n)).bumpHub Reg.Flt.BAY_RETIRE_CNT
    (s.notify 3 2 [n, idx]).setErr pgFlt 14 0

/-- R472, R474: an event of class 0x6 on a Bay. phy: its stack PHY is in FAULT. -/
def State.bayFault (s : State) (n : Nat) (phy : Bool) : State :=
  if s.retired n then s
  else if phy ∨ s.autoRetire then s.retireBay n true 6
  else (s.setHub Reg.Flt.PERM_PEND (setBit (s.hub Reg.Flt.PERM_PEND) n true)).faultLog 6 0 2 n

/-- R475, R500: BAY_RETIRE_CMD. -/
def State.bayRetireCmd (s : State) (confirm : Byte) (n : Nat) : State :=
  if confirm ≠ 0xA5 ∨ 24 ≤ n then s.writeRejected pgFlt else s.retireBay n true 0xF

/-- R472: the history of a class 0x7 reset: of the Bay, its Loom or its Heddle. -/
def class7Key (entry : Nat) : ResetUnit → Option (Nat × Nat)
  | .bay n => if entry = 3 ∨ entry = 8 ∨ entry = 9 ∨ entry = 0xB then some (n, n) else none
  | .loom n => if entry = 0xD then some (64 + n, n) else none
  | .heddle n => if entry = 0xE then some (128 + n, n) else none
  | _ => none

/-- R449, R472, R474: a source of the fuse map fires at a unit; a reset of class 0x7 counts in its unit's history. -/
def State.critical (s : State) (entry : Nat) (u : ResetUnit) : State :=
  let level := (s.sourceLevel entry u).1
  let counted : Bool := (match u with | .bay _ => decide (level = 3) | _ => decide (level = 4)) && !s.inReset u
  match class7Key entry u, counted with
  | some (key, n), true =>
    let (perm, s) := s.judge (7 * 4096 + key) 4
    let s := s.fire entry u
    if !perm then s.faultLog 7 1 u.kind.1 u.kind.2
    else if s.autoRetire then s.retireBay n true 7
    else (s.setHub Reg.Flt.PERM_PEND (setBit (s.hub Reg.Flt.PERM_PEND) n true)).faultLog 7 1 u.kind.1 u.kind.2
  | _, _ => s.fire entry u

/-! ### Spindles and Weft cores (R478, R479, R486) -/

/-- R478: the device fences a Spindle, where AUTO_FENCE lets it; the judgement is logged. -/
def State.spindleFault (s : State) (n k cls : Nat) (perm : Bool) : State :=
  if perm ∧ s.autoFence then
    let s := s.spFenceWrite n (setBit (s.rg (pgSp n) Reg.Sp.SP_FENCE) k true)
    (s.faultLog cls 5 4 (64 * n + k)).bumpHub Reg.Flt.SPINDLE_FENCE_CNT
  else s.faultLog cls 0 4 (64 * n + k)

/-- R472: an event of class 0x8 on a Spindle. -/
def State.spTransientFault (s : State) (n k : Nat) : State :=
  let (perm, s) := s.judge (8 * 4096 + 64 * n + k) 3
  s.spindleFault n k 8 perm

/-- R486: a Spindle's known-answer test falls due. -/
def State.katDue (s : State) (n k : Nat) : State :=
  let u := s.spu n k
  if s.spFenced n k ∨ u.kat ≠ 0 ∨ !s.bayUp n then s
  else if u.launch.isSome then (s.setSpu n k { u with kat := 1 }).bumpHub Reg.Flt.KAT_LATE_CNT
  else if s.bayRuns n ∧ s.islandState (.spindles (Fin.ofNat 24 n) (Fin.ofNat 8 (k / 8))) = 0 then s.setSpu n k { u with kat := 2 }
  else s.setSpu n k { u with kat := 1 }

/-- R486, R472: a known-answer test ends. A failed one is repeated at once; a failed repeat fences its Spindle. -/
def State.katDone (s : State) (n k : Nat) (pass : Bool) : State :=
  let u := s.spu n k
  if u.kat < 2 then s
  else
    let s := s.bumpHub Reg.Flt.KAT_CNT
    if pass then s.setSpu n k { u with kat := 0 }
    else
      let s := s.bumpHub Reg.Flt.KAT_FAIL_CNT
      if u.kat = 2 then (s.setSpu n k { u with kat := 3 }).spindleFault n k 9 false
      else (s.setSpu n k { u with kat := 0 }).spindleFault n k 9 true

/-- R472, R479: a machine check stops a Weft core; the second within 24 h fences it. -/
def State.machineCheck (s : State) (k : Nat) : State :=
  let s : State := { s with flt := { s.flt with cores := NSet.insert k s.flt.cores } }
  let (perm, s) := (s.emit .nmi).judge (10 * 4096 + k) 2
  if perm ∧ s.autoFence ∧ k ≠ 0 then
    let s := s.setHub Reg.Flt.WEFT_FENCE (setBit (s.hub Reg.Flt.WEFT_FENCE) k true)
    (s.faultLog 10 6 8 k).bumpHub Reg.Flt.WEFT_FENCE_CNT
  else s.faultLog 10 0 8 k

/-- R479: a write to WEFT_FENCE: bit 0 is ignored; a fenced core stops until an L1 reset after its bit is cleared. -/
def State.weftFenceWrite (s : State) (v : Word) : State :=
  let s := s.writeReg pgFlt Reg.Flt.WEFT_FENCE 0 0 (v.setWidth 64)
  let hit := (List.range 16).filter (fun k => bit (s.hub Reg.Flt.WEFT_FENCE) k)
  { s with flt := { s.flt with cores := hit.foldl (fun m k => NSet.insert k m) s.flt.cores } }

/-! ### Spans, bridges and partitions (R480-R483) -/

/-- R133, R481: a Span fault; a fault of the Hub slice (4) is an L1 reset. cause: the class of what led to it, 0xF a partition. -/
def State.spanFault (s : State) (sp cause : Nat) : State :=
  if 4 ≤ sp then s.warmReset 0xA .device
  else if s.spanFenced sp then s
  else
    let s := s.setHub Reg.Flt.SPAN_FENCED (setBit (s.hub Reg.Flt.SPAN_FENCED) sp true)
    let s := s.bumpHub Reg.Flt.SPAN_FAULT_CNT
    let s := if cause < 0xF then s.faultLog cause 7 1 sp else s
    let s := (List.range 6).foldl (fun s i => s.retireBay (6 * sp + i) false 0xF) s
    let s := (List.range 6).foldl (fun s i => (s.clearGroup (6 * sp + i)).hold (.group (6 * sp + i))) s
    ((s.deckDown (48 + sp) true).hold (.span sp)).notify 4 2 [sp, cause]

/-- R28, R480: a bridge is fenced. -/
def State.bridgeFence (s : State) (k : Nat) : State :=
  if bit (s.hub Reg.Flt.BRIDGE_STAT) k then s
  else
    let s := s.setHub Reg.Flt.BRIDGE_STAT (setBit (s.hub Reg.Flt.BRIDGE_STAT) k true)
    let s := (s.bumpHub Reg.Flt.BRIDGE_FENCE_CNT).faultLog 2 7 9 k
    -- R370: what waits to cross the bridge takes a detour
    let s := if s.trd.active.isSome && s.voqs.any (fun v =>
        s.scheduled v.tc && decide (bridgeOf (spanOfIn v.inp) (spanOfIn v.out) = k) && decide (spanOfIn v.inp ≠ spanOfIn v.out)) then
      s.bumpHub Reg.Trd.SCHED_REROUTE_CNT else s
    if 6 ≤ k then s.spanFault (k - 6) 2
    else (List.range 4).foldl (fun s b =>
      if !s.spanFenced b ∧ (List.range b).any (fun a => !s.spanFenced a && !s.joined a b) then s.spanFault b 2 else s) s

/-- R26, R472, R480: a beat of bridge k fails its CRC and is replayed. again: it is a replay that fails. -/
def State.bridgeBeat (s : State) (k : Nat) (again : Bool) : State :=
  if bit (s.hub Reg.Flt.BRIDGE_STAT) k then s
  else
    let run := if again then SMap.get (fun _ => 0) s.flt.beats k + 1 else 0
    if again ∧ 8 ≤ run then (({ s with flt := { s.flt with beats := SMap.set (fun _ => 0) s.flt.beats k 0 } } : State).bridgeFence k)
    else
      let times := (SMap.get (fun _ => []) s.flt.bridge k).filter (fun t => s.now < t + 1000000000) ++ [s.now]
      let s : State := { s with flt := { s.flt with
        beats := SMap.set (fun _ => 0) s.flt.beats k run, bridge := SMap.set (fun _ => []) s.flt.bridge k times } }
      let s := s.bumpI pgFlt Reg.Flt.BRIDGE_REPLAY_CNT k
      if fld (s.hub Reg.Flt.FAULT_CFG) 15 8 * 256 < times.length then s.bridgeFence k else s

/-- R482: is power stage i one of Span sp's, its Bays' or its Pier groups'? -/
def stageInSpan (sp i : Nat) : Bool :=
  match stageUnit i with
  | .span k => k = sp
  | .bay n => n / 6 = sp
  | .group g => g / 6 = sp
  | _ => false

/-- R482: a Span suffers a Span fault and is powered off; its stacks lose their contents. -/
def State.spanOff (s : State) (sp : Nat) : State :=
  let s := s.spanFault sp 0xF
  let s := s.setHub Reg.Flt.SPAN_FENCED (setBit (s.hub Reg.Flt.SPAN_FENCED) (4 + sp) true)
  let s := ((List.range 398).filter (stageInSpan sp)).foldl (fun s i =>
    s.setStageShell i (setFld (setFld (s.stageShell i) 3 0 0) 7 6 0)) s
  let off (n : Nat) : Bool := n / 6 = sp && n < 24
  { s with
    mem := s.mem.filter (fun c => !off (c.1 / memKey 1 0))
    poison := s.poison.filter (fun k => !off (k / lineKey 1 0))
    upsets := SMap.drop (fun k => off (k / lineKey 1 0)) s.upsets }

/-- R482: the Spans of electrical partition part. -/
def State.epartSpans (s : State) (part : Nat) : List Nat :=
  (List.range 4).filter (fun sp => fld (s.hub Reg.Flt.EPART_MAP) (2 * sp + 1) (2 * sp) = part)

/-- R482: EPART_CMD: every Span of an electrical partition suffers a Span fault and is powered off. -/
def State.epartFence (s : State) (confirm : Byte) (part : Nat) : State :=
  if confirm ≠ 0xA5 then s.writeRejected pgFlt else (s.epartSpans part).foldl (fun s sp => s.spanOff sp) s

/-- R483: the logical partition of unit u: Bay u, or Pier group u - 24. -/
def State.lpart (s : State) (u : Nat) : Nat := fld (s.rgi pgFlt Reg.Flt.LPART_MAP (u / 8)) (4 * (u % 8) + 2) (4 * (u % 8))

/-- R483: LPART_CMD: the Bays of a logical partition are retired, and its Pier groups go down with their lane shells OFF. -/
def State.lpartFence (s : State) (confirm : Byte) (part : Nat) : State :=
  if confirm ≠ 0xA5 then s.writeRejected pgFlt
  else
    let s := (List.range 24).foldl (fun s n => if s.lpart n = part then s.retireBay n false 0xF else s) s
    let s := (List.range 24).foldl (fun s g =>
      if s.lpart (24 + g) = part then ((s.clearGroup g).groupLanes g 0).hold (.group g) else s) s
    s.setHub Reg.Flt.LPART_FENCED (setBit (s.hub Reg.Flt.LPART_FENCED) part true)

/-- Is a Bay logically fenced (R483)? -/
def State.lfenced (s : State) (n : Nat) : Bool := bit (s.hub Reg.Flt.LPART_FENCED) (s.lpart n)

/-! ### Tests (R487-R489) -/

/-- R487: BTEST_CMD OP 1. -/
def State.btestStart (s : State) (confirm : Byte) (n mode : Nat) : State :=
  if confirm ≠ 0xA5 ∨ 24 ≤ n ∨ mode = 3 then s.writeRejected pgFlt
  else if s.flt.btest.isSome then (s.setHubF Reg.Flt.BTEST_STAT 30 28 4).overrun pgFlt
  else if (mode = 2 ∧ !s.retired n ∧ !s.lfenced n) ∨ bit (s.hub Reg.Flt.SPAN_FENCED) (4 + n / 6) then
    s.setHubF Reg.Flt.BTEST_STAT 30 28 4
  else
    let out := s.retired n || s.lfenced n
    let s := if out then s else s.deckDown (24 + n) true
    let s : State := { s with flt := { s.flt with btest := some ⟨n, mode, !out⟩ }, testing := NSet.insert n s.testing }
    s.setHubF Reg.Flt.BTEST_STAT 31 31 1

/-- R487: BTEST_CMD OP 2. -/
def State.btestAbort (s : State) (confirm : Byte) : State :=
  if confirm ≠ 0xA5 then s.writeRejected pgFlt
  else if s.flt.btest.isSome then s.btestEnd 3 0 else s

/-- R487: a stack test ends. rows: offsets in the rows that failed. -/
def State.btestDone (s : State) (rows : List Nat) : State :=
  match s.flt.btest with
  | none => s
  | some b =>
    let n := b.bay
    let s := if b.mode = 0 then
        ((s.upsets.map (fun e => e.1)).filter (fun k => k / lineKey 1 0 = n)).foldl (fun s k => (s.readLine n (k % lineKey 1 0 * 64) 2 []).2) s
      else s
    let s : State := if b.mode = 2 then
        let t : State := { s with mem := s.mem.filter (fun c => c.1 / memKey 1 0 ≠ n), poison := s.poison.filter (fun k => k / lineKey 1 0 ≠ n), upsets := SMap.drop (fun k => k / lineKey 1 0 = n) s.upsets }
        t.setBay n { t.bay n with lost := [] }
      else s
    let failing := ((rows.filter (fun o => o < baySize)).map rowBase).eraseDups
    let s := failing.foldl (fun s o => s.startRepair n o 5) s
    let made := failing.all (fun o => (s.bay n).repairing.contains o)
    s.btestEnd (if failing = [] then 0 else if made then 1 else 2) failing.length

/-- Is a lane free for a loopback (R488)? -/
def State.laneFree (s : State) (p k : Nat) : Bool :=
  let st := s.pier p
  if k = 8 then st.spareRx.isNone && st.spareTx.isNone && st.sparing.isNone
  else (s.pierPorts p).all (fun x => !s.onPort x k || (match (s.link x).state with | .disabled | .fault => true | _ => false))

/-- R488, R502: LOOP_CMD of a Pier page. -/
def State.loopCmd (s : State) (p : Nat) (v : Word) : State :=
  let busy := (s.pier p).loop.isSome
  if bit v 30 then
    (if busy then (s.setPier p { s.pier p with loop := none }).setN (pgPier p) Reg.Pier.LOOP_STAT 2 else s)
  else if !bit v 31 then s
  else if busy then s.overrun (pgPier p)
  else if 8 < fld v 3 0 ∨ fld v 19 8 = 0 then s.writeRejected (pgPier p)
  else if !s.laneFree p (fld v 3 0) then s.setN (pgPier p) Reg.Pier.LOOP_STAT 1
  else (s.setPier p { s.pier p with loop := some (fld v 3 0, s.now + fld v 19 8 * 1000000) }).setF (pgPier p) Reg.Pier.LOOP_STAT 31 31 1

/-- R488: a loopback's time is over; errors: the bit errors found. -/
def State.loopDone (s : State) (p errors : Nat) : State :=
  match (s.pier p).loop with
  | none => s
  | some _ => ((s.setPier p { s.pier p with loop := none }).setN (pgPier p) Reg.Pier.LOOP_STAT 0).addN (pgPier p) Reg.Pier.LOOP_ERR_CNT errors

/-- R121, R489: the test cells as they wait at Deck port 55, in the Management class of TC0. -/
def testCells (port now : Nat) : VoqItem :=
  { inp := 55, out := port, tc := 0, cls := 3, arr := 0x1FF, dst := 0x1FF, time := now, stuck := false, msg := .bulkPart false 0 [], size := 16384 }

/-- R489, R501: DPATH_CMD START. -/
def State.dpathStart (s : State) (port : Nat) : State :=
  if s.flt.dpath.isSome then s.overrun pgDiag
  else if 53 ≤ port then s.writeRejected pgDiag
  else ({ s with flt := { s.flt with dpath := some port }, voqs := s.voqs ++ [testCells port s.now] } : State).setHubF Reg.Diag.DPATH_STAT 31 31 1

/-- R489: the 1,024 cells have come back; bad: how many failed. -/
def State.dpathDone (s : State) (bad : Nat) : State :=
  match s.flt.dpath with
  | none => s
  | some _ =>
    let s : State := { s with flt := { s.flt with dpath := none }, voqs := s.voqs.filter (fun v => v.inp ≠ 55 ∧ v.out ≠ 55) }
    (s.setHub Reg.Diag.DPATH_STAT (BitVec.ofNat 64 (b2n (bad = 0)))).addN pgDiag Reg.Diag.DPATH_ERR_CNT bad

/-! ### Footway mode (R495-R499) -/

/-- R118, R339, R348: the tasks that the Treadle had dispatched have ended with PORT_DOWN: what units still had to do for them they do no more
(log entry 103). -/
def State.unitsStop (s : State) : State :=
  let s := s.streams.foldl (fun s x => s.streamRetire x.t) s
  let s := (s.hed.tasks.filter (fun h => h.stage ≠ 5)).foldl (fun s h => s.hedEnd h .portDown) s
  { s with moves := [], bcasts := [] }

/-- R495, R496: a cause of Footway mode arises: entry, or one more cause. -/
def State.footEnter (s : State) (cause : Nat) : State :=
  let v := s.hub Reg.Flt.FOOT_STAT
  if s.inFootway then s.setHub Reg.Flt.FOOT_STAT (setBit (setBit v cause true) (8 + cause) true)
  else
    let s := s.setHub Reg.Flt.FOOT_STAT (BitVec.ofNat 64 (2 ^ 31 + 2 ^ cause + 2 ^ (8 + cause)))
    let s := ((s.raiseAlert.emit .nmi).bumpHub Reg.Flt.FOOT_ENTRY_CNT).syncSched
    let s := s.treadleDown.unitsStop
    let s := (List.range 4).foldl (fun s sp => s.deckDown (48 + sp) true) s
    let s := s.loom.reds.foldl (fun s r => (List.range 24).foldl (fun s n => s.failRedBay r.body.rid n .portDown) s) s
    let s := (List.range 24).foldl (fun s n => s.spBayDown n) s
    let s := s.hed.migs.foldl (fun s m => if m.phase < 3 then s.abortMig m .portDown else s) s
    s.notify 5 1 [2 ^ cause]

/-- R496 step 5: every Spindle group is in Deep-sleep. -/
def State.footEntered (s : State) : State :=
  if !s.inFootway then s
  else (List.range 192).foldl (fun s j =>
    if s.islandState (.spindles (Fin.ofNat 24 (j / 8)) (Fin.ofNat 8 (j % 8))) < 2 then
      { s with islands := SMap.set (fun _ => 0) s.islands (100 + j) 2 } else s) s

/-- R498: a cause of Footway mode is no longer present. -/
def State.footClear (s : State) (cause : Nat) : State :=
  s.setHub Reg.Flt.FOOT_STAT (setBit (s.hub Reg.Flt.FOOT_STAT) (8 + cause) false)

/-- R495, R500: FOOT_CMD 1. -/
def State.footCmdEnter (s : State) (confirm : Byte) : State :=
  if confirm ≠ 0xA5 then s.writeRejected pgFlt else (s.setHubF Reg.Flt.FOOT_STAT 30 30 0).footEnter 0

/-- R498, R500: FOOT_CMD 2. -/
def State.footCmdExit (s : State) (confirm : Byte) : State :=
  if confirm ≠ 0xA5 then s.writeRejected pgFlt
  else
    let s := (s.setHubF Reg.Flt.FOOT_STAT 30 30 0).footClear 0
    if !s.inFootway then s
    else if fld (s.hub Reg.Flt.FOOT_STAT) 12 8 ≠ 0 then s.setHubF Reg.Flt.FOOT_STAT 30 30 1
    else ((s.setHubF Reg.Flt.FOOT_STAT 31 31 0).syncSched.reviewAlert).notify 6 0 []

/-- R498: the temperature causes clear once the sensors are below their limits. -/
def State.footHeat (s : State) : State :=
  let c := s.hub Reg.Pwr.THR_CFG
  let p := s.hub Reg.Pwr.PIN_STAT
  let s := if fld p 23 16 < fld c 15 8 then s.footClear 3 else s
  if fld p 31 24 < fld c 23 16 then s.footClear 4 else s

/-! ### Supply, heat and rails (R459, R460, R468) -/

/-- R460: the input is above 55 V or below 36 V. -/
def State.inputFault (s : State) : State :=
  (({ s with pwr := { s.pwr with stopped := true } } : State).bumpHub Reg.Pwr.VIN_LOW_CNT).raise (.critical 0 .device)

/-- R460, R498: the input has been within 40 V to 50 V for 10 ms. -/
def State.inputRecovered (s : State) : State := ({ s with pwr := { s.pwr with stopped := false } } : State).footClear 2

/-- R460: the input is below 38 V. -/
def State.undervoltage (s : State) : State := (s.bumpHub Reg.Pwr.VIN_LOW_CNT).footEnter 2

/-- R468: a sensor reaches its trip limit: conversion stops, and the device holds itself in reset. -/
def State.thermalTrip (s : State) : State :=
  let s : State := { s with pwr := { s.pwr with tripped := true, stopped := true } }
  s.raiseAlert.hold .device

/-- R449, R459: a rail of a unit is in brown-out. -/
def State.brownOut (s : State) (u : ResetUnit) : State :=
  match u with
  | .device | .hostPort => s.raise (.critical 1 .device)
  | .span n => s.raise (.critical 2 (.span n))
  | u => s.raise (.critical 3 u.island)

/-- R459: a power stage enters FAULT and removes its rail. -/
def State.stageFault (s : State) (i fault : Nat) : State :=
  let s := s.setStageShell i (setFld (setFld (setFld (s.stageShell i) 3 0 6) 31 24 fault) 7 7 0)
  s.brownOut (stageUnit i)

/-! ### Watchdog (R452) -/

/-- R452, R492: the watchdog's period passes without a kick. slot: a slot start falls in the same cycle. -/
def State.watchdog (s : State) (slot : Bool) : State :=
  if !bit (s.hub Reg.Rst.WDT_CFG) 31 then s
  else
    let s := if slot then s.bumpHub Reg.Diag.TIMER_DEFER_CNT else s
    let n := fld (s.hub Reg.Rst.WDT_STAT) 1 0
    let s := s.setHubF Reg.Rst.WDT_STAT 1 0 (min 3 (n + 1))
    match n with
    | 0 => s.emit .nmi
    | 1 => s.footEnter 1
    | 2 => s.raise (.critical 5 .device)
    | _ => s

/-- R452, R498: WDT_KICK is written. -/
def State.wdtKick (s : State) : State := (s.setHubF Reg.Rst.WDT_STAT 1 0 0).footClear 1

/-! ### Diagnostics (R492, R493, R501) -/

/-- R493: a write to TRACE_SPLIT. -/
def State.traceSplit (s : State) (v : Word) : State :=
  if bit (s.hub Reg.Smp.SMP_CTRL) 31 ∨ bit (s.hub Reg.Diag.TRACE_CTRL) 31 then s.writeRejected pgDiag
  else s.writeReg pgDiag Reg.Diag.TRACE_SPLIT 0 0 (v.setWidth 64)

/-- R493: a write to TRACE_CTRL. -/
def State.traceCtrl (s : State) (v : Word) : State :=
  if bit v 31 ∧ 4194304 < fld (s.hub Reg.Diag.TRACE_SPLIT) 4 0 * 262144 + 32 * (s.hub Reg.Diag.TRACE_ENTRIES).toNat then
    s.writeRejected pgDiag
  else s.writeReg pgDiag Reg.Diag.TRACE_CTRL 0 0 (v.setWidth 64)

/-- R492: GPIO_MUX.EFF: the function in effect. -/
def State.gpioEff (s : State) : Nat :=
  match fld (s.hub Reg.Diag.GPIO_MUX) 1 0 with
  | 1 => 1
  | 2 => if s.debugOpen then 2 else if bit (s.hub Reg.Diag.PPS_CFG) 31 then 1 else 0
  | _ => 0

end Sys2Proof.Machine
end

