-- ==== Sys2Proof/Machine/HostPort.lean ====
section
/-!
DEFINITION. Machine/HostPort.lean: the host port: its link (R503-R505, R513), CXL.mem (R509-R512), the mailbox and the event
logs (R507, R508), DOE (R513), MCTP bindings (R514) and the SMBus (R515, R516).
-/
namespace Sys2Proof.Machine

open Sys2Proof

def pgHP : Nat := pgHub 0x28
def pgHDM : Nat := pgHub 0x29

/-! ### The host link (R504, R513, R537) -/

/-- R527: is the host link up; is CXL.mem enabled? -/
def State.hostUp (s : State) : Bool := bit (s.hub Reg.HP.HP_STAT) 31
/-- R504: HP_STAT.MEM_ON. -/
def State.memOn (s : State) : Bool := s.hostUp && bit (s.hub Reg.HP.HP_STAT) 30

/-- R512, R537: a request in flight when the host link goes down: it fails, and nothing more reaches the host. -/
def State.hostLost (s : State) (r : HostReq) : State :=
  if r.kind = 0 then s.bumpHub Reg.HP.HOST_POISON_CNT
  else if r.kind = 1 ∨ r.kind = 3 then s.bumpHub Reg.HP.HOST_WR_FAIL_CNT
  else s

/-- R512: the first failure since the last read is recorded, with its error and its event. -/
def State.hostFail (s : State) (r : HostReq) (f : Refuse) : State :=
  let s := s.recordFault pgHDM Reg.HDM.FAULT_INFO Reg.HDM.FAULT_ADDR f r.req.src r.req.fabric
  (s.setErr pgHDM 15 0).notify 8 1 [(s.hub Reg.HDM.FAULT_INFO).toNat]

/-- R138, R413, R513: the host link goes down: its IDE keys and the SPDM sessions are destroyed, and port 288 is flushed. -/
def State.hostDown (s : State) : State :=
  if !s.hostUp then s
  else
    let rs := s.host.reqs
    let s := (s.setHub Reg.HP.HP_STAT 0).bumpHub Reg.HP.LINK_DOWN_CNT
    let s := s.setHub Reg.IDE.IDE_STAT 0
    let s : State := { s with host := { s.host with keys := [], reqs := [], inbox := [] }, ks := { s.ks with sessions := [] } }
    (rs.foldl (fun s r => (s.hostLost r).hostFail r ⟨.portDown, 0, s.coverComp r.req⟩) s).portDown 288

/-- R503: does the host port support a width in lanes at a rate in GT/s, in a flit mode (0 the 68 B flit)? -/
def hostLinkMode (flit width rate : Nat) : Bool :=
  decide (flit ≤ 2) && [4, 8, 16].contains width && [8, 16, 32, 64].contains rate && (flit ≠ 0 || decide (rate ≤ 32))

/-- R441, R503, R504: the host link trains. flit: FLIT of HP_STAT; only with a 256 B flit is CXL.mem offered. -/
def State.hostTrained (s : State) (flit width rate : Nat) : State :=
  if s.host.perst ∨ s.hostUp ∨ !hostLinkMode flit width rate ∨ !s.clkGood 1 ∨ s.isHeld .hostPort then s
  else
    let mem : Bool := flit ≠ 0 && bit (s.hub Reg.HP.HP_CFG) 31
    s.setHub Reg.HP.HP_STAT (BitVec.ofNat 64 (2 ^ 31 + b2n mem * 2 ^ 30 + flit * 2 ^ 28 + width * 2 ^ 16 + rate * 2 ^ 8))

/-- R537: HP_PERST_N asserts. -/
def State.perstAssert (s : State) : State := { s.hostDown with host := { s.hostDown.host with perst := true } }

/-- R537: HP_PERST_N deasserts: the host port may train. -/
def State.perstDeassert (s : State) : State := { s with host := { s.host with perst := false } }

/-- R513: an IDE integrity failure. -/
def State.ideFail (s : State) : State := if !s.hostUp then s else (s.bumpHub Reg.IDE.IDE_FAIL_CNT).hostDown

/-- R413, R513: an IDE key-management message inside a finished secured SPDM session installs a stream's keys. -/
def State.ideKey (s : State) (session stream : Nat) : State :=
  if !s.hostUp ∨ s.ks.boot ≠ 1 ∨ !s.ks.sessions.contains (session, true) then s
  else ({ s with host := { s.host with keys := NSet.insert stream s.host.keys } } : State).setHubF Reg.IDE.IDE_STAT stream stream 1

/-! ### HDM decoders (R509) -/

/-- An HDM decoder that is not committed. -/
def HdmDec.none : HdmDec := { base := 0, size := 0, ways := 1, gran := 256, on := false }

/-- R509: has the host port this interleave? -/
def hdmInterleave (ways gran : Nat) : Bool :=
  [1, 2, 4, 8, 16].contains ways && [256, 512, 1024, 2048, 4096, 8192, 16384].contains gran

/-- R509: the host commits a decoder of the DPA range [base, base + size); a range beyond the stack tier fails, and so does an
interleave that the host port has not. -/
def State.hdmCommit (s : State) (n base size ways gran : Nat) : State :=
  if !s.hostUp then s
  else if stackEnd < base + size ∨ !hdmInterleave ways gran then s.emit (.hdmError n)
  else { s with host := { s.host with decs := SMap.set (fun _ => HdmDec.none) s.host.decs n ⟨base, size, ways, gran, true⟩ } }

/-- R509, R510: the decoder that maps a DPA. -/
def State.decoder (s : State) (dpa : Nat) : Option Nat :=
  (s.host.decs.find? (fun e => e.2.on && decide (e.2.base ≤ dpa ∧ dpa < e.2.base + e.2.size))).map (fun e => e.1)

/-! ### CXL.mem (R510-R512) -/

/-- A line of free bits. -/
def State.freeLine (s : State) : Line × State :=
  (List.range 8).foldl (fun (a : Line × State) i => let (v, s) := a.2.fresh; (a.1 ||| (v.setWidth 512 <<< (64 * i)), s)) (0, s)

/-- R511, R512: a request of the host ends. f: its status, with what the host port knows of a refusal. -/
def State.hostEnd (s : State) (r : HostReq) (f : Refuse) (grant : Nat) (data : Option Line) : State :=
  let s : State := { s with host := { s.host with reqs := s.host.reqs.filter (fun q => q ≠ r) } }
  if r.kind = 0 then
    if f.status = .ok then
      let (l, s) := match data with | some l => (l, s) | none => s.freeLine
      s.emit (.memData r.ctag grant false l)
    else
      let (l, s) := s.freeLine
      ((s.bumpHub Reg.HP.HOST_POISON_CNT).hostFail r f).emit (.memData r.ctag grant true l)
  else if r.kind = 2 ∨ f.status = .ok then s.emit (.memCmp r.ctag grant)
  else ((s.bumpHub Reg.HP.HOST_WR_FAIL_CNT).hostFail r f).emit (.memCmp r.ctag 0)

/-- R512: a completion of a request of the host: one to be retried waits. -/
def State.hostCmp (s : State) (r : HostReq) (f : Refuse) (grant : Nat) (data : Option Line) : State :=
  if f.status = .busyRetry ∨ f.status = .epochStale then
    { s with host := { s.host with reqs := s.host.reqs.map (fun q => if q = r then { r with waiting := true, since := s.now } else q) } }
  else s.hostEnd r f grant data

/-- R61, R510: a request of the host is admitted: checks 1 to 3 at the host port; then it enters the Deck through the Hub port. -/
def State.hostAdmit (s : State) (r : HostReq) : State :=
  let q := { r.req with epoch := BitVec.ofNat 8 s.reg.epoch }
  let r' := { r with req := q, waiting := false }
  let s : State := { s with host := { s.host with reqs := s.host.reqs.map (fun x => if x = r then r' else x) } }
  let s := s.noteStore 288 q
  if s.footRefuses q then (s.bumpHub Reg.Flt.FOOT_REFUSE_CNT).hostCmp r' ⟨.busyRetry, 0, 0⟩ 0 none
  else match s.outPort 52 q with
    | .error st => s.hostCmp r' ⟨st, 0, s.coverComp q⟩ 0 none
    | .ok o =>
      match s.check3 288 q with
      | some c => s.hostCmp r' ⟨.rangeFault, 8, c⟩ 0 none
      | none =>
        if !s.outUp o then s.hostCmp r' ⟨.portDown, 0, s.coverComp q⟩ 0 none
        else s.pushVoq { inp := 52, out := o, tc := q.tc.toNat, cls := 0, arr := 288, dst := 0x1FF, time := s.now, stuck := false, msg := .req q }

/-- R510: a CXL.mem request, where a decoder maps its DPA and CXL.mem is on. kind: 0 read, 1 write, 2 ownership. -/
def State.hostIssue (s : State) (kind : Nat) (op : ReqOp) (ctag dpa : Nat) (mask : BitVec 64) (data : Line) (bad : Bool) : State :=
  match s.memOn, s.decoder dpa with
  | true, some n =>
    let q : Req := { op := op, origin := .port 288, src := BitVec.ofNat 12 (fld (s.hub Reg.HP.HP_CFG) 11 0)
                     tag := BitVec.ofNat 12 s.host.tag, dnode := s.node, laddr := BitVec.ofNat 42 (dpa / 64)
                     tc := BitVec.ofNat 3 (fld (s.hub Reg.HP.HP_CFG) 14 12), colour := 3, epoch := 0
                     key := (s.rgi pgHDM Reg.HDM.HDM_KEY n).setWidth 32, mask := mask, opnd := 0, data := data
                     deadline := s.ns + 4000000, keyless := none, bad := bad }
    let r : HostReq := { ctag := ctag, kind := kind, req := q, waiting := true, since := s.now }
    ({ s with host := { s.host with reqs := s.host.reqs ++ [r], tag := (s.host.tag + 1) % 4096 } } : State).hostAdmit r
  | _, _ => s

/-- R511: MemRd. -/
def State.memRd (s : State) (ctag dpa : Nat) (m : MetaValue) : State :=
  let op : ReqOp := match m with | .any => .rdM | .shared => .rdS | _ => .rd
  (if s.memOn then s.bumpHub Reg.HP.MEM_RD_CNT else s).hostIssue 0 op ctag dpa 0 0 false

/-- R511: MemRdData. -/
def State.memRdData (s : State) (ctag dpa : Nat) : State :=
  (if s.memOn then s.bumpHub Reg.HP.MEM_RD_CNT else s).hostIssue 0 .rdS ctag dpa 0 0 false

/-- R511: MemInv. -/
def State.memInv (s : State) (ctag dpa : Nat) (m : MetaValue) : State :=
  if m = .any then s.hostIssue 2 .own ctag dpa 0 0 false
  else if s.memOn then s.emit (.memCmp ctag 0) else s

/-- R511: is the line's entry M with OWNER 288? -/
def State.hostOwns (s : State) (dpa : Nat) : Bool :=
  match s.covers dpa, s.homeBay dpa with
  | some (_, e), some n =>
    e.mode = .shared && !e.inDirectory dpa &&
      (let d := s.rawDir n (e.dirOffset dpa); decide (dirState d = 2) && decide (dirOwner d = 288))
  | _, _ => false

/-- R511: MemWr: a writeback of a line that the host holds in M, otherwise a full write. -/
def State.memWr (s : State) (ctag dpa : Nat) (m : MetaValue) (bad : Bool) (data : Line) : State :=
  let s := if s.memOn then s.bumpHub Reg.HP.MEM_WR_CNT else s
  if !s.hostOwns dpa then s.hostIssue 1 .wr ctag dpa (BitVec.allOnes 64) data bad
  else match s.memOn, s.decoder dpa, s.homeBay dpa with
    | true, some _, some n =>
      let tc := BitVec.ofNat 3 (fld (s.hub Reg.HP.HP_CFG) 14 12)
      let la := BitVec.ofNat 42 (dpa / 64)
      let q : Req := { s.unitReq .wr s.node (dpa / 64 * 64) 0 none with src := BitVec.ofNat 12 (fld (s.hub Reg.HP.HP_CFG) 11 0), origin := .port 288 }
      let wb : Msg := .coh (.wb tc la (decide (m = .shared)) bad data)
      let s : State := { s with host := { s.host with reqs := s.host.reqs ++ [{ ctag := ctag, kind := 3, req := q, waiting := false, since := s.now }] } }
      s.pushVoq { inp := 52, out := 24 + n, tc := tc.toNat, cls := 2, arr := 288, dst := 0x1FF, time := s.now, stuck := false, msg := wb }
    | _, _, _ => s

/-- R511: MemWrPtl. -/
def State.memWrPtl (s : State) (ctag dpa : Nat) (mask : BitVec 64) (bad : Bool) (data : Line) : State :=
  (if s.memOn then s.bumpHub Reg.HP.MEM_WR_CNT else s).hostIssue 1 .wrP ctag dpa mask data bad

/-- R511: BIRspI or BIRspS: a BI_ACK toward the line's home. -/
def State.biRsp (s : State) (la : BitVec 42) : State :=
  if !s.memOn then s
  else
    let m : Msg := .coh (.biAck (BitVec.ofNat 3 (fld (s.hub Reg.HP.HP_CFG) 14 12)) la)
    match s.homeBay (la.toNat * 64) with
    | some n => s.pushVoq { inp := 52, out := 24 + n, tc := m.tc, cls := 2, arr := 288, dst := 0x1FF, time := s.now, stuck := false, msg := m }
    | none => s

/-- R512: HP_RETRY.INTERVAL has passed: a waiting request is reissued, or, past its deadline, ends. -/
def State.hostRetry (s : State) (ctag : Nat) : State :=
  match s.host.reqs.find? (fun r => r.ctag = ctag && r.waiting) with
  | none => s
  | some r =>
    if s.now < r.since + 1000 * fld (s.hub Reg.HP.HP_RETRY) 15 0 then s
    else if r.req.deadline ≤ s.ns then s.hostEnd r ⟨.timeout, 0, s.coverComp r.req⟩ 0 none
    else (s.bumpHub Reg.HP.HOST_RETRY_CNT).hostAdmit r

/-- R511: a message of the device reaches the host port. -/
def State.hostMsg (s : State) (m : Msg) : State :=
  match m with
  | .cmp c =>
    match s.host.reqs.find? (fun r => r.kind ≠ 3 && r.req.tag = c.tag && !r.waiting) with
    | some r => s.hostCmp r ⟨c.status, 0, s.coverComp r.req⟩ c.grant c.data
    | none => s
  | .coh (.recall k _ la) => (s.bumpHub Reg.HP.BISNP_CNT).emit (.biSnp (decide (k = .inv)) la)
  | .coh (.wbAck _ la st) =>
    match s.host.reqs.find? (fun r => r.kind = 3 && r.req.laddr = la) with
    | some r => s.hostEnd r ⟨st, 0, s.coverComp r.req⟩ 0 none
    | none => s
  | m => s.emit (.drop m)

/-- R511: what the device has sent to the host port is converted, in order. -/
def State.hostSettle (s : State) : State :=
  let ms := s.host.inbox
  ms.foldl (fun s m => s.hostMsg m) ({ s with host := { s.host with inbox := [] } } : State)

/-! ### The mailbox (R506-R508) -/

/-- R507: a mailbox command is answered: by firmware, once it runs. -/
def State.mbAnswer (s : State) (code : MboxCode) (data : List Nat) : State :=
  ((s.bumpHub Reg.MB.MB_CMD_CNT).emit (.mailbox code data)).emit (.irq false 0)

/-- Does the mailbox take a command: firmware runs, and the host link is up? -/
def State.mbOn (s : State) : Bool := s.ks.boot = 1 && s.hostUp

/-- R509: Identify Memory Device: the volatile capacity, in bytes. -/
def State.mbIdentify (s : State) : State := if !s.mbOn then s else s.mbAnswer .success [stackEnd, 0]

/-- R507: Get Supported Logs, and Get Log: their contents are not of the manual. -/
def State.mbLogs (s : State) : State :=
  if !s.mbOn then s else (let (v, s) := s.fresh; s.mbAnswer .success [v.toNat])

/-- R508: Get Event Records of a log: how many it has lost, then of each record its handle, code and data. -/
def State.mbEvents (s : State) (log : Nat) : State :=
  if !s.mbOn then s
  else if 2 < log then s.mbAnswer .invalidInput []
  else s.mbAnswer .success (SMap.get (fun _ => 0) s.logs.lost log ::
    (s.logs.recs.filter (fun r => r.log = log)).flatMap (fun r => [r.handle, r.code] ++ r.data))

/-- R508: Clear Event Records of a log: all, or those of some handles. -/
def State.mbClear (s : State) (log : Nat) (all : Bool) (hs : List Nat) : State :=
  if !s.mbOn then s
  else if 2 < log ∨ (!all ∧ !hs.all (fun h => s.logs.recs.any (fun r => r.log = log && r.handle = h))) then s.mbAnswer .invalidInput []
  else
    let keep := s.logs.recs.filter (fun r => r.log ≠ log || !(all || hs.contains r.handle))
    ({ s with logs := { s.logs with recs := keep, lost := SMap.set (fun _ => 0) s.logs.lost log 0 } } : State).mbAnswer .success []

/-- R507: Get Timestamp: what was set, with the time since; 0 where none was set. -/
def State.mbTime (s : State) : State :=
  if !s.mbOn then s
  else s.mbAnswer .success [if s.host.stamp = (0, 0) then 0 else s.host.stamp.1 + (s.now - s.host.stamp.2)]

/-- R507: Set Timestamp. -/
def State.mbSetTime (s : State) (v : DWord) : State :=
  if !s.mbOn then s else ({ s with host := { s.host with stamp := (v.toNat, s.now) } } : State).mbAnswer .success []

/-- R507: 0xC003. -/
def State.mbAnchor (s : State) (cert : List Byte) : State :=
  if !s.mbOn then s
  else if 4096 < cert.length ∨ 4 ≤ s.ks.anchors.length then s.mbAnswer .invalidInput []
  else ({ s with ks := { s.ks with anchors := s.ks.anchors ++ [cert] } } : State).mbAnswer .success []

/-- R507: 0xC004. -/
def State.mbNoAnchors (s : State) : State :=
  if !s.mbOn then s else ({ s with ks := { s.ks with anchors := [] } } : State).mbAnswer .success []

/-- R404, R507: 0xC005: the image slot holds 32 MiB. -/
def State.mbFlash (s : State) (off : Nat) (bs : List Byte) : State :=
  if !s.mbOn then s
  else if 65536 < bs.length ∨ 2 ^ 25 < off + bs.length then s.mbAnswer .invalidInput []
  else
    let f := (List.range bs.length).foldl (fun m i => SMap.set Config.flashByte m (off + i) (bs.getD i 0)) s.ks.flash
    ({ s with ks := { s.ks with flash := f } } : State).mbAnswer .success []

/-- R102, R507: 0xC006: up to 64 entries from an index: Bay, bank, row and spare row of each. -/
def State.mbRepairs (s : State) (index : Nat) : State :=
  if !s.mbOn then s
  else
    let all := s.bays.flatMap (fun e => (e.2.repairLog.filter (fun l => decide (l.2 + 1000000000 ≤ s.now))).map (fun l => [e.1, l.1.bank, l.1.row, l.1.spare]))
    s.mbAnswer .success (((all.drop index).take 64).flatten)

/-! ### DOE, MCTP and the SMBus (R513-R516) -/

/-- R513: a data object is answered on a DOE instance. -/
def State.doeAnswer (s : State) (bs : List Byte) : State :=
  if !s.hostUp then s else (s.bumpHub Reg.DOE.DOE_OBJ_CNT).emit (.doe bs)

/-- R513: DOE discovery on instance 0: the index asked for, the object's vendor and type, and the next index (0 last): discovery,
then CDAT (PRESUMED: the vendor IDs of PCI-SIG and CXL). -/
def State.doeDiscovery (s : State) (index : Nat) : State :=
  s.doeAnswer (if index = 0 then leBytes 2 1 ++ [0, 1] else if index = 1 then leBytes 2 0x1E98 ++ [2, 0] else leBytes 2 0xFFFF ++ [0, 0])

/-- R513: CDAT: the DPA range, the latencies in ns and the bandwidths in GB/s. -/
def State.cdat (s : State) : State :=
  s.doeAnswer (leBytes 8 0 ++ leBytes 8 stackEnd ++ leBytes 4 450 ++ leBytes 4 450 ++ leBytes 4 121 ++ leBytes 4 121)

/-- R527: the host aborts a DOE exchange. -/
def State.doeAbort (s : State) : State := if !s.hostUp then s else s.bumpHub Reg.DOE.DOE_ABORT_CNT

/-- R514: does the device accept a packet's message type: MCTP control, SPDM, or vendor-defined PCI? A packet that continues a
message (its start-of-message flag is 0) carries no type (PRESUMED, DSP0236: log entry 99). -/
def mctpTaken (packet : List Byte) : Bool :=
  !(packet.getD 3 0).getLsbD 7 || [0x00, 0x05, 0x7E].contains ((packet.getD 4 0).toNat % 128)

/-- R418, R514: an MCTP packet arrives on a binding; firmware, once it runs, relays it, or answers another message type with the
error response. -/
def State.mctpArrive (s : State) (via : Via) (packet : List Byte) : State :=
  if packet.length < 5 ∨ 1020 < packet.length ∨ (packet.getD 0 0).toNat % 16 ≠ 1 then s.bumpHub Reg.KS.SPDM_ERR_CNT
  else if s.ks.boot ≠ 1 then s
  else if !mctpTaken packet then s.emit (.mctp via .error)
  else (match via with | .link p => s.peerAuth p.val packet | _ => s).emit (.relayed via packet)

/-- R515: an MCTP packet arrives on the SMBus. -/
def State.smbPacket (s : State) (packet : List Byte) (pecOk : Bool) : State :=
  if !pecOk then s.bumpHub Reg.SMB.SMB_PEC_ERR_CNT else (s.bumpHub Reg.SMB.SMB_PKT_CNT).mctpArrive .smbus packet

/-- R514: an MCTP packet arrives over PCIe VDM. -/
def State.vdmPacket (s : State) (packet : List Byte) : State := if !s.hostUp then s else s.mctpArrive .vdm packet

/-- R516: the 16 B hardware status block. -/
def State.statusBlock (s : State) : List Byte :=
  leBytes 4 s.rstStat ++ leBytes 2 (fld (s.hub Reg.Flt.FOOT_STAT) 15 0) ++ leBytes 2 (fld (s.hub Reg.Pwr.THR_STAT) 15 0) ++
    leBytes 4 (s.hub Reg.Pwr.VIN_STAT).toNat ++ leBytes 2 (fld (s.hub Reg.Pwr.PIN_STAT) 31 16) ++ leBytes 1 (s.ksStat / 2 ^ 24) ++
    leBytes 1 (s.ks.bootFail % 16)

/-- R516: a block read with command code 0x20. -/
def State.smbStatus (s : State) : State := (s.bumpHub Reg.SMB.SMB_STATUS_RD_CNT).emit (.smbus s.statusBlock)

end Sys2Proof.Machine
end

