-- ==== Sys2Proof/Machine/Pins.lean ====
section
/-!
DEFINITION. Machine/Pins.lean: the ends of shell measurements and calibrations (R46-R48), the PPS output (R541, R543), the GPIO
lands (R492, R543), and the JTAG instruction register (R427, R553).
-/
namespace Sys2Proof.Machine

open Sys2Proof

/-! ### Shells (R48) -/

/-- The logical port of Pier p that receives on lane k, if one does. -/
def State.portOn (s : State) (p k : Nat) : Option Nat := (s.pierPorts p).find? (fun x => s.onPort x k)

/-- R47: where a lane shell goes back to: RUN while its link carries flits. -/
def State.laneHome (s : State) (p k : Nat) : Nat :=
  match s.portOn p k with
  | some x => if (s.link x).state.live then 3 else 2
  | none => 2

/-- R48, R176: a lane shell detects a fault: its lane fails if its port is ACTIVE; a spare lane that is free is no longer one to
use. -/
def State.laneLost (s : State) (p k fault : Nat) : State :=
  let s := s.setLaneShell p k (shMargined (s.laneShell p k) 2 fault)
  match s.portOn p k with
  | some x => if (s.link x).state = .active then s.laneFailed x k fault else s
  | none => if k = 8 then s.spareFailed p else s

/-- R48: a margin measurement of a shell ends. result: what the owning block reports; fault: 0, or the shell's FAULT_CODE. -/
def State.marginDone (s : State) (sh : Shell) (result : Word) (fault : Nat) : State :=
  match sh with
  | .lane p k =>
    if shState (s.laneShell p k) ≠ 4 then s
    else if fault ≠ 0 then s.laneLost p k fault
    else (s.setLaneShell p k (shMargined (s.laneShell p k) (s.laneHome p k) 0)).setReg (pgPier p) Reg.Pier.LANE_MARGIN k 0
        (result.setWidth 64)
  | .stack n =>
    let v := s.rg (pgMC n) Reg.MC.PHY_SHELL_STAT
    if shState v ≠ 4 then s
    else
      let s := s.set (pgMC n) Reg.MC.PHY_SHELL_STAT (shMargined v (if (s.bay n).margin then 3 else 2) fault)
      if fault ≠ 0 then s.raise (.bayFault n true) else s.set (pgMC n) Reg.MC.MARGIN_RES (result.setWidth 64)
  | .stage i =>
    if shState (s.stageShell i) ≠ 4 then s
    else if fault ≠ 0 then s.stageFault i fault
    else (s.setStageShell i (shMargined (s.stageShell i) 3 0)).setReg pgPwr Reg.Pwr.PSTAGE_MARGIN 0 i (result.setWidth 64)

/-- R46-R48, R103, R445: a shell's calibration, initial or repeated, ends. -/
def State.calibrated (s : State) (sh : Shell) (fault : Nat) : State :=
  match sh with
  | .lane p k =>
    if shState (s.laneShell p k) ≠ 1 ∧ shState (s.laneShell p k) ≠ 5 then s
    else if fault ≠ 0 then s.laneLost p k fault
    else (s.setLaneShell p k (shCalibrated (s.laneShell p k) (s.laneHome p k) 0)).tryPier p
  | .stack n =>
    let v := s.rg (pgMC n) Reg.MC.PHY_SHELL_STAT
    if shState v = 1 then s.stackTrained n fault
    else if shState v ≠ 5 then s
    else
      let s := s.set (pgMC n) Reg.MC.PHY_SHELL_STAT (shCalibrated v 2 fault)
      if fault ≠ 0 then s.raise (.bayFault n true) else s
  | .stage i =>
    if shState (s.stageShell i) ≠ 1 ∧ shState (s.stageShell i) ≠ 5 then s
    else if fault ≠ 0 then s.stageFault i fault
    else s.setStageShell i (shCalibrated (s.stageShell i) 3 0)

/-! ### GPIO and PPS (R492, R541-R543) -/

/-- R541: a pulse is cut when GPIO6 is no longer TIME_PPS_OUT. -/
def State.cutPulse (s : State) : State :=
  if s.gpioEff = 1 then s else { s with pins := { s.pins with pulse := none } }

/-- R492, R501: a write to GPIO_MUX. -/
def State.gpioMux (s : State) (v : Word) : State :=
  (s.writeReg pgDiag Reg.Diag.GPIO_MUX 0 0 (v.setWidth 64)).cutPulse

/-- R541, R543: Fabric Time has advanced to a whole second: what PPS_CFG holds applies from now, and the land pulses for
WIDTH µs. -/
def State.ppsPulse (s : State) : State :=
  if s.ns % 1000000000 ≠ 0 then s
  else
    let v := s.hub Reg.Diag.PPS_CFG
    let s : State := { s with pins := { s.pins with pps := v } }
    if s.gpioEff = 1 ∧ bit v 31 ∧ (s.synced ∨ ¬bit v 30) then
      ({ s with pins := { s.pins with pulse := some (s.now + 1000 * fld v 15 0) } } : State).emit .pps
    else s

/-- R541: a pulse lasts WIDTH µs, and the land is low while SYNC_ONLY holds it. -/
def State.endPulse (s : State) : State :=
  match s.pins.pulse with
  | some t => if t ≤ s.now ∨ s.gpioEff ≠ 1 ∨ (bit s.pins.pps 30 ∧ ¬s.synced) then { s with pins := { s.pins with pulse := none } } else s
  | none => s

/-- R541-R543: what the device drives on GPIO land i: OUT where OE is 1, and the pulse on GPIO6 while it is TIME_PPS_OUT; a pin with
another function ignores its bits of OE and OUT. What the debug UART transmits is not of the model. -/
def State.gpioDriven (s : State) (i : Nat) : Option Bool :=
  if i = 6 ∧ s.gpioEff = 1 then some s.pins.pulse.isSome
  else if 6 ≤ i ∧ s.gpioEff = 2 then none
  else if bit (s.hub Reg.Diag.GPIO_CTRL) (8 + i) then some (bit (s.hub Reg.Diag.GPIO_CTRL) i)
  else none

/-- R542, R543: GPIO_IN takes the sampled level of every land: what the device drives there, otherwise what is outside. -/
def State.gpioSample (s : State) (levels : Byte) : State :=
  s.setHub Reg.Diag.GPIO_IN (BitVec.ofNat 64 (((List.range 8).map (fun i => b2n ((s.gpioDriven i).getD (levels.getLsbD i)) * 2 ^ i)).sum))

/-! ### JTAG (R427, R553) -/

/-- R427: a JTAG instruction is loaded: one that consent does not open decodes as BYPASS. -/
def State.jtagLoad (s : State) (i : Jtag) : State :=
  if s.jtagMay i then { s with pins := { s.pins with jtag := i } }
  else ({ s with pins := { s.pins with jtag := .bypass } } : State).bumpHub Reg.KS.DEBUG_DENY_CNT

end Sys2Proof.Machine
end

