-- ==== Sys2Proof/Machine/UnitDone.lean ====
section
/-!
DEFINITION. Machine/UnitDone.lean: a completion of a device unit's own request reaches the unit (R34, R250), which goes on with
the work the request was for.
-/
namespace Sys2Proof.Machine

open Sys2Proof

/-- R256, R352: a flag has been sent: the task ends with the status that it carries. -/
def State.flagged (s : State) (t : TaskRef) (st : Status) : State :=
  match s.hedTask t with
  | some h => s.hedEnd h st
  | none => s.report t st

/-- The last request of a batch has completed: its owner goes on. -/
def State.ownerDone (s : State) (id : Nat) (o : Owner) (cs : List Cmp) : State :=
  match o with
  | .hold => s
  | .decl => s.declRead cs
  | .draftHead => if s.trd.pend.any (fun p => p.head = id) then s.draftHead cs else s
  | .bcastRead t => s.bcastGot t cs
  | .bcastSend t => s.bcastSent t cs
  | .bcastFlag t => s.bcastFlagged t cs
  | .moveRead t => s.moveGot t cs
  | .moveWrite t => s.moveWritten t cs
  | .gate t => s.gateLoaded t cs
  | .signal t => s.report t (firstBad cs)
  | .endWith t st => s.flagged t st
  | .moveHead t => s.moveHeads t cs
  | .ctImage => s.ctRead cs
  | .streamTable t => s.streamTable t cs
  | .streamHeads t => s.streamHeads t cs
  | .streamWrote t off => s.streamWrote t off cs
  | .streamRead t => s.streamGot t cs
  | .tblDesc => s.tblRead cs
  | .hedLists t => s.hedLists t cs
  | .hedOut t => s.hedOut t cs
  | .spHead t => s.spHead t cs
  | .spImage t => s.spImage t cs
  | .spPut n k run => s.putDone n k run cs
  | .combOut id => s.combOut id cs
  | .ksKey => s.ksKeyRead cs
  | .ksToken => s.ksTokenRead cs

/-- Does a batch stay once it is complete, for a command or a later step to take up? -/
def Owner.keeps : Owner → Bool
  | .hold | .draftHead => true
  | _ => false

/-- One request of a batch has completed; the last one lets the batch's owner go on. -/
def State.batchDone (s : State) (id i : Nat) (c : Cmp) : State :=
  let s := s.batchGot id i c
  match s.batches.find? (fun b => b.id = id), s.batchAll id with
  | some b, some cs => (if b.owner.keeps then s else s.endBatch id).ownerDone id b.owner cs
  | _, _ => s

/-- What a unit does with the completion of a request. -/
def State.unitGot (s : State) (u : UnitReq) (c : Cmp) : State :=
  let bad := c.status ≠ .ok
  match u.op with
  | .redWrite rid n => s.redWriteDone rid n u.req c.status
  | .redMc rid n => s.redMcDone rid n c.status
  | .push rid n => s.pushDone rid n c.status
  | .pushCap rid n => s.pushCapDone rid n c.status
  | .snapLine comp => if bad then s.count pgComp Reg.Comp.SNAP_FAIL_CNT 0 comp 1 else s
  | .batch id i => s.batchDone id i c
  | .status => if bad then s.bumpHub Reg.Trd.STATUS_WR_FAIL_CNT else s
  | .draftRec flag key value =>
    let s := if bad then s.bumpHub Reg.Trd.STATUS_WR_FAIL_CNT else s
    if flag = 0 then s else s.submit hubIn .plain (s.capReq flag key value)
  | .plain => s
  | .debug =>
    match c.data with
    | some l => s.emit (.debug l)
    | none => if u.req.op = .rd then (let (l, s) := s.freeLine; s.emit (.debug l)) else s

/-- R250: the completion of a device unit's request reaches its unit. -/
def State.unitCompletion (s : State) (id : Nat) : State :=
  match s.unitDone.find? (fun e => e.1 = id), s.unitReqs.find? (fun u => u.id = id) with
  | some e, some u =>
    ({ s with unitDone := s.unitDone.filter (fun d => d.1 ≠ id), unitReqs := s.unitReqs.filter (fun v => v.id ≠ id) } : State).unitGot u e.2
  | _, _ => s

end Sys2Proof.Machine
end

