-- ==== Sys2Proof/Machine/Settle.lean ====
section
/-!
DEFINITION. Machine/Settle.lean: what a command ends with before the next is taken: what errors it met call for (a port that goes
down, a fault judged, a reset), and what the units do at once that waits for no command of its own.
-/
namespace Sys2Proof.Machine

open Sys2Proof

/-! ### The end of a command -/

/-- What an event calls for. -/
def State.handle (s : State) (e : Event) : State :=
  match e with
  | .linkDown x => if x = 288 then s.hostDown else s.portDown x
  | .bayFault n phy => s.bayFault n phy
  | .critical entry u => s.critical entry u
  | .spanFault sp => s.spanFault sp 3
  | .spTransient n k => s.spTransientFault n k

/-- Handle events in the order they were raised; k bounds how many, and those beyond it stay for the next command. -/
def State.settleEvents : Nat → State → State
  | 0, s => s
  | k + 1, s =>
    match s.events with
    | [] => s
    | e :: r => State.settleEvents k (({ s with events := r } : State).handle e)

/-- What units do at once: the writes of handoffs complete (R59), REDUCE steps end (R238), row transactions go from phase to phase (R249), Heddle tasks and migrations end
(R252, R271), launches go on (R301), and the host port converts what it was sent (R511). -/
def State.chores (s : State) : State :=
  (((((State.rowSteps 6 s.handSettle.endReduces).hedSettle).migSettle).spSettle).hostSettle)

/-- R429: TIME_FLOOR follows Fabric Time upward. -/
def State.floor (s : State) : State := { s with timeFloor := max s.timeFloor s.ns }

/-- What a command sets off at once: the events it raised, and what units then do. -/
def State.settle (s : State) : State := (State.settleEvents 64 (State.settleEvents 64 s).chores).chores

/-- What no command does, whatever it reaches: the queue of waiting commands, the block's clock and the device's Node ID stay as they
were, and TIME_FLOOR is never below Fabric Time (R429). s: the state before the command; t: the state its effect has made. -/
def State.seal (s t : State) : State :=
  { t with pending := s.pending, now := s.now, node := s.node, timeFloor := max t.timeFloor t.ns }

end Sys2Proof.Machine
end

