-- ==== Sys2Proof/Machine/RegRead.lean ====
section
/-!
DEFINITION. Machine/RegRead.lean: reading registers at the Weft root: what every register shows (the register store, or what the
block's state says), the bank that a selector names, page availability (R39), the latches of 64-bit registers (R18, R373), and
the registers that a read clears (R14).
-/
namespace Sys2Proof.Machine

open Sys2Proof

/-! ### Views -/

/-- R523: ERRSUM_0 to ERRSUM_4 of the error summary page. -/
def Reg.ErrSum.ERRSUM : RegSpec := ⟨0x103, 0x40, 8, 5, true, .ro, 0, 0, [], 0, 0⟩

/-- Does any page of die d and class c report an error (R523)? -/
def State.classErr (s : State) (d c : Nat) : Bool := (List.range 16).any (fun i => assigned (pageOf d c i) && s.errSummary (pageOf d c i))

/-- R523: ERRSUM of die d. -/
def State.errSum (s : State) (d : Nat) : Nat := ((List.range 64).map (fun c => b2n (s.classErr d c) * 2 ^ c)).sum

/-- The bank that a register's selector names now. pg: the register's page. -/
def State.regBank (s : State) (pg : Nat) (r : RegSpec) : Nat :=
  match r.bank with
  | 1 => s.compSel
  | 2 => fld (s.hub Reg.Stream.STREAM_SEL) 7 0
  | 3 => fld (s.hub Reg.HReg.MIG_SEL) 7 0
  | 4 => fld (s.hub Reg.SpCtl.COH_SEL) 7 0
  | 6 => fld (s.rg pg Reg.Sp.SP_SEL) 5 0
  | 7 => s.ksSel
  | 8 => fld (s.hub Reg.Pwr.PSTAGE_SEL) 8 0
  | _ => 0

/-- The power island of a page's block (R41, R442), if it has one. -/
def pageIsland (pg : Nat) : Option Island :=
  if pageClass pg = 0x18 ∧ pg / 1024 < 4 then
    some (.spindles (Fin.ofNat 24 (6 * (pg / 1024) + (pg / 16 % 64 - 0x18))) (Fin.ofNat 8 (pg % 16)))
  else match pageUnit pg with
    | .bay n | .loom n | .heddle n => some (.bay (Fin.ofNat 24 n))
    | .group g => some (.group (Fin.ofNat 24 g))
    | .pier p => some (.group (Fin.ofNat 24 (p / 3)))
    | _ => none

/-- What a header register shows (R519, R443, R454); none: what the register store holds. -/
def State.viewHeader (s : State) (pg : Nat) (r : RegSpec) : Option Nat :=
  if r = Reg.Hdr.BLK_ID then some (blkId pg)
  else if r = Reg.Hdr.BLK_STAT then some (b2n (s.errPending pg) * 2 ^ 31 + b2n (s.frozen pg) * 2 ^ 30)
  else if r = Reg.Hdr.PWR_STATE then some (s.pwrState (pageIsland pg) pg)
  else if r = Reg.Hdr.RST_CTRL then some (s.rstCtrl pg)
  else none

/-- R147: the cells that a Deck port holds. -/
def State.portCells (s : State) (i : Nat) : Nat :=
  ((s.voqs.filter (fun v => v.inp = i && !v.late)).map VoqItem.cells).sum +
    ((s.landing.filter (fun e => i < 24 && e.1 / 8 / 12 = i)).map (fun e => cellsOf (e.2.map (fun l => l.size)).sum)).sum

/-- R147: UP of a Deck port. -/
def State.portIsUp (s : State) (i : Nat) : Bool := !s.adminDown i && (if i < 24 then s.groupUp i else s.outUp i)

/-- R147: is a flush of a Deck port, or of a logical port of its Pier group, in progress? -/
def State.portFlushing (s : State) (i : Nat) : Bool :=
  s.flushing.any (fun u => match u with | .deck j => decide (j.val = i) | .port x => decide (inputOfPort x.val = i))

/-- The index of a page's unit: DEV_INDEX, but 52 for the Hub's Deck port and 4 for its slice (R24, R525). -/
def unitIndex (pg : Nat) : Nat :=
  if pg / 1024 = 4 then (if pageClass pg = 0x08 then 52 else if pageClass pg = 0x01 then 4 else devIndex pg) else devIndex pg

/-- What a register of a Span page shows; none: what the register store holds. i: the element. -/
def State.viewSpan (s : State) (pg : Nat) (r : RegSpec) (i : Nat) : Option Nat :=
  let u := unitIndex pg
  let k := s.regBank pg r
  if r = Reg.OB.OB_STAT then some (s.obUsed u)
  else if r = Reg.Port.PORT_STAT then
    some (b2n (s.portIsUp u) * 2 ^ 31 + b2n (s.portFlushing u) * 2 ^ 30 + s.portCells u % 65536)
  else if r = Reg.Pier.LINK_STAT then some (s.linkStat (4 * u + i))
  else if r = Reg.Pier.STAMP_NS then some (match s.stampsOf u with | [] => 0 | e :: _ => e.time / 65536)
  else if r = Reg.Pier.STAMP_SEQ then some (match s.stampsOf u with | [] => 0 | e :: _ => e.seq % 65536 * 65536 + e.time % 65536)
  else if r = Reg.Pier.STAMP_INFO then some (s.stampInfo u)
  else if r = Reg.Pier.GATE_STAT then some (s.gateStat u i)
  else if r = Reg.Tr.TR_STAT then
    some (((s.tr.rx.filter (fun x => x.span = u)).map (fun x => ((x.answers.take x.next).filter (fun a => a.isNone)).length)).sum * 2 ^ 16 +
      ((s.tr.xfers.filter (fun x => x.span = u)).map (fun x => (x.recs.map (fun r => r.reqs.length)).sum)).sum +
      (s.tr.held.filter (fun h => h.span = u)).length + (s.tr.caps.filter (fun c => c.span = u)).length)
  else if r = Reg.Loom.LOOM_STAT then some (s.loom.reds.filter (fun d => (d.bay u).st ≠ .gone)).length
  else if r = Reg.Hed.HED_STAT then
    some (b2n (NSet.has u s.hed.valid) * 2 ^ 16 + min 255 (s.hed.migs.filter (fun m => m.o = u)).length * 256 +
      s.hedLed u)
  else if r = Reg.Sp.SP_STAT then some (s.spStat u k)
  else if r = Reg.Sp.SP_OWNER then some (s.spOwner u k)
  else if r = Reg.Sp.SP_RESIDENT then some (s.spResident u k)
  else if r = Reg.Codec.CODEC_STAT then some (s.codec.cache.filter (fun c => c.1 = u)).length
  else none

/-- R183, R484: ADMIT_i: while LATCHED is 1, a removed Node ID reads as 0. -/
def State.admitWord (s : State) (i : Nat) : Nat :=
  ((List.range 32).map (fun k => b2n (s.nodeAdmitted (BitVec.ofNat 12 (32 * i + k))) * 2 ^ k)).sum

/-- What a register of a Hub page shows; none: what the register store holds. -/
def State.viewHub (s : State) (pg : Nat) (r : RegSpec) : Option Nat :=
  let k := s.regBank pg r
  let v := (s.reg? pg r 0 k).toNat
  if r = Reg.RT.HASH_CFG then some s.fuses.hashSel.toNat
  else if r = Reg.HReg.REG_STAT then some (s.hed.recs.length + s.hed.retired.length * 2 ^ 16)
  else if r = Reg.HReg.RET_POP then some s.retPop
  else if r = Reg.HReg.MIG_STAT then some (v % 2 ^ 15 + s.hed.redir.length * 2 ^ 15)
  else if r = Reg.CTab.CT_USED then some s.codec.tabs.length
  else if r = Reg.SpCtl.COMB_STAT then some (v + s.combUsed * 2 ^ 16)
  else if r = Reg.Trd.NEXT_STAT then
    some (v + (match s.trd.pend with | none => 0 | some p => if p.ready.isSome then 2 else 1) * 2 ^ 30)
  else if r = Reg.Trd.TRD_STAT then
    some (b2n s.trd.active.isSome * 2 ^ 31 + b2n (s.trd.old ≠ []) * 2 ^ 30 + s.inFlight % 1024 * 2 ^ 16 +
      (match s.trd.active with | some d => (d.tasks.filter (fun x => x.st.isNone)).length | none => 0))
  else if r = Reg.FT.FT_NS then some (s.ns % 2 ^ 64)
  else if r = Reg.FT.FT_FRAC then some (s.ft % 65536)
  else if r = Reg.Comp.COMP_STAT then some (v + SMap.get (fun _ => 0) s.comps s.compSel * 2 ^ 29)
  else if r = Reg.KS.KS_STAT then some s.ksStat
  else if r = Reg.KS.CONSENT_STAT then some (s.consentStat k)
  else if r = Reg.KS.SERIAL then some s.fuses.serial.toNat
  else if r = Reg.KS.FW_VERSION then some (num s.ks.header 0x0C 4)
  else if r = Reg.KS.TIME_FLOOR then some (s.timeFloor % 2 ^ 64)
  else if r = Reg.KS.TOKEN_END then some (s.tokenEnd k)
  else if r = Reg.Clk.CLK_STAT then some s.clkStat
  else if r = Reg.Rst.RST_STAT then some s.rstStat
  else if r = Reg.Rst.RST_MAP_LO then some (s.fuses.resetMap.toNat % 2 ^ 30)
  else if r = Reg.Rst.RST_MAP_HI then some (s.fuses.resetMap.toNat / 2 ^ 30)
  else if r = Reg.Rst.STRAP_STAT then some s.fuses.straps.toNat
  else if r = Reg.Pwr.GOV_STAT then some s.govStat
  else if r = Reg.Diag.GPIO_MUX then some (v % 4 + s.gpioEff * 16)
  else none

/-- R147: on the Deck ports of Bays, Trestles and the Hub, the limit, policer and shaper registers are not there. -/
def notThere (pg : Nat) (r : RegSpec) : Bool :=
  pageClass pg = 0x08 && decide (24 ≤ unitIndex pg) &&
    (decide (0x48 ≤ r.off ∧ r.off < 0x90) || decide (0xD0 ≤ r.off ∧ r.off < 0x800))

/-- What element i of register r of a page shows (R14). -/
def State.view (s : State) (pg : Nat) (r : RegSpec) (i : Nat) : DWord :=
  if r.acc = .wo ∨ notThere pg r then 0
  else
    match (if r = Reg.ErrSum.ERRSUM then some (s.errSum i) else if r = Reg.Admit.ADMIT then some (s.admitWord i) else if r.cls = 0x200 then s.viewHeader pg r else if r.cls < 0x100 then s.viewSpan pg r i else s.viewHub pg r) with
    | some v => BitVec.ofNat 64 v
    | none => s.reg? pg r i (s.regBank pg r)

/-! ### Finding a register -/

/-- The register, its element, and whether it is the upper half, of an aligned 4 B of a page. -/
def regWord (pg off : Nat) : Option (RegSpec × Nat × Bool) :=
  if pageClass pg = 0x103 ∧ 0x40 ≤ off ∧ off < 0x68 then some (Reg.ErrSum.ERRSUM, (off - 0x40) / 8, off % 8 = 4)
  else
  match regAt pg off with
  | some r => some (r, (off - r.off) / r.stride, false)
  | none =>
    match (if 4 ≤ off then regAt pg (off - 4) else none) with
    | some r => if r.wide then some (r, (off - 4 - r.off) / r.stride, true) else none
    | none => none

/-! ### Clearing reads (R14) -/

/-- The registers that a read of an RC register clears, itself among them (R86, R106, R245, R277, R316, R336). -/
def clearedBy (r : RegSpec) : List RegSpec :=
  if r = Reg.Home.FAULT_INFO then [r, Reg.Home.FAULT_ADDR]
  else if r = Reg.PG.FAULT_INFO then [r, Reg.PG.FAULT_ADDR]
  else if r = Reg.HDM.FAULT_INFO then [r, Reg.HDM.FAULT_ADDR]
  else if r = Reg.MC.UE_INFO then [r, Reg.MC.UE_ADDR]
  else if r = Reg.Loom.LOOM_FAULT_INFO then [r, Reg.Loom.LOOM_FAULT_ID]
  else if r = Reg.Hed.HED_FAULT_INFO then [r, Reg.Hed.HED_FAULT_ADDR]
  else if r = Reg.Sp.SP_FAULT_INFO then [r, Reg.Sp.SP_FAULT_PC, Reg.Sp.SP_FAULT_ADDR]
  else if r = Reg.Codec.CODEC_FAULT_INFO then [r, Reg.Codec.CODEC_FAULT_ADDR]
  else [r]

/-- What a read of an RC register does beside returning its value. -/
def State.readClears (s : State) (pg : Nat) (r : RegSpec) : State :=
  if r.acc ≠ .rc then s
  else if r = Reg.HReg.RET_POP then s.retDrop
  else if r = Reg.Pier.STAMP_INFO then s.stampDrop (devIndex pg)
  else (clearedBy r).foldl (fun s q => s.setN pg q 0) s

/-! ### Latches (R18) -/

/-- R18: an access by a master at an offset of a page discards what the master has latched or staged at another register of the page.
An access of 4 B to either word of the latched or staged register keeps it; an access of 8 B, which takes in both words, keeps
nothing (DEDUCED: log entry 52). -/
def State.touchPage (s : State) (m : Master) (pg off : Nat) (wide : Bool) : State :=
  let keeps : Nat → Bool := fun o => !wide && (off = o || off = o + 4)
  { s with
    latches := s.latches.filter (fun (l : Latch) => decide (l.master ≠ m) || decide (l.page ≠ pg) || keeps l.off)
    staged := s.staged.filter (fun (l : Staged) => decide (l.master ≠ m) || decide (l.page ≠ pg) || keeps l.off) }

/-- Latch a word for a master's next read at off + 4. -/
def State.latch (s : State) (m : Master) (pg off : Nat) (v : Word) : State :=
  { s with latches := s.latches.filter (fun (l : Latch) => l.master ≠ m ∨ l.page ≠ pg ∨ l.off ≠ off) ++
      [{ master := m, page := pg, off := off, upper := v }] }

/-- R373: a read of the lower word of FT_NS latches FT_FRAC too. -/
def State.latchFrac (s : State) (m : Master) (pg : Nat) (r : RegSpec) : State :=
  if r = Reg.FT.FT_NS then s.latch m pg 0x44 (BitVec.ofNat 32 (s.ft % 65536)) else s

/-- A read of 4 B of an available page. -/
def State.read4 (s : State) (m : Master) (pg off : Nat) : Word × State :=
  let s := s.touchPage m pg off false
  match s.latches.find? (fun l => l.master = m ∧ l.page = pg ∧ off = l.off + 4) with
  | some l => (l.upper, { s with latches := s.latches.filter (fun (k : Latch) => k ≠ l) })
  | none =>
    match regWord pg off with
    | none => (0, s)
    | some (r, i, true) => (BitVec.ofNat 32 (fld (s.view pg r i) 63 32), s)
    | some (r, i, false) =>
      let v := s.view pg r i
      let s := if r.wide then (s.latch m pg off (BitVec.ofNat 32 (fld v 63 32))).latchFrac m pg r else s
      (BitVec.ofNat 32 (fld v 31 0), s.readClears pg r)

/-- A read of 8 B of an available page: a 64-bit register whole, or two 32-bit registers. -/
def State.read8 (s : State) (m : Master) (pg off : Nat) : DWord × State :=
  match regWord pg off with
  | some (r, i, false) =>
    if r.wide then
      let s := s.touchPage m pg off true
      let v := s.view pg r i
      (v, (s.latchFrac m pg r).readClears pg r)
    else
      let (a, s) := s.read4 m pg off
      let (b, s) := s.read4 m pg (off + 4)
      (b ++ a, s)
  | _ =>
    let (a, s) := s.read4 m pg off
    let (b, s) := s.read4 m pg (off + 4)
    (b ++ a, s)

/-! ### Page availability (R39, R517) -/

/-- R39: what becomes of an access to a page beyond its header: 0 it is performed, 1 the block is in Deep-sleep or held in reset, 2
its Span controller is held in reset, which it leaves at the end of step 4 of the release (R457). -/
def State.pageState (s : State) (pg : Nat) : Nat :=
  let d := pg / 1024
  if 4 ≤ d then 0
  else if s.held.contains .device ∨ s.relStep < 5 ∨ s.held.contains (.span d) ∨ bit (s.hub Reg.Flt.SPAN_FENCED) (4 + d) then 2
  else
    let asleep : Bool := match pageIsland pg with | some i => decide (2 ≤ s.islandState i) | none => false
    let inReset : Bool := match pageUnit pg with | .span _ => false | u => s.inReset u
    if asleep || inReset then 1 else 0

/-- R39, R517: may an access at a BAR0 offset go on? Otherwise the error that it records. -/
def State.pageBlocked (s : State) (addr : Nat) : Option (Nat × Nat) :=
  let pg := addr / 4096
  if !assigned pg then some (pgRoot, 6)
  else match s.pageState pg with
    | 2 => some (pgRoot, 3)
    | 1 => if addr % 4096 < 0x40 then none else some (pgSpan (pg / 1024), 3)
    | _ => none

/-- The register of a limit, and its element (R147). -/
def LimitReg.reg : LimitReg → RegSpec
  | .rsv => Reg.Port.LIM_RSV | .classLim _ => Reg.Port.CLASS_LIM | .voqCap _ => Reg.Port.VOQ_CAP
def LimitReg.elem : LimitReg → Nat
  | .rsv => 0 | .classLim c => c.val | .voqCap c => c.val

/-- R39: a command given at register r of a page (element i): it acts where an access of the register would; otherwise the page-unavailable
error is recorded. -/
def State.atPage (s : State) (pg : Nat) (r : RegSpec) (i : Nat) (f : State → State) : State :=
  let a := pg * 4096 + (r.off + r.stride * i)
  match s.pageBlocked a with
  | some (q, b) => s.setErr q b (a / 4)
  | none => f s

/-- R526: are the boot flash's offsets open to a master? -/
def Master.drivesFlash : Master → Bool
  | .weft _ | .keystone => true
  | _ => false

/-- R18, R38, R39, R517, R526: an aligned read of 4 B or 8 B at a BAR0 offset. What the boot flash shows the firmware that drives it
is left open: a free value. -/
def State.weftRead (s : State) (m : Master) (addr : Nat) (wide : Bool) : DWord × State :=
  match s.pageBlocked addr with
  | some (pg, b) => (0, s.setErr pg b (addr / 4))
  | none =>
    if addr / 4096 = pgHub 0x2E ∧ 0x40 ≤ addr % 4096 then (if m.drivesFlash then s.fresh else (0, s))
    else if wide then s.read8 m (addr / 4096) (addr % 4096)
    else (let (v, s) := s.read4 m (addr / 4096) (addr % 4096); (v.setWidth 64, s))

/-- The aligned dwords that the bytes from addr on lie in, read in ascending order. -/
def State.readDwords (m : Master) : Nat → Nat → State → List Byte × State
  | 0, _, s => ([], s)
  | k + 1, a, s =>
    let (v, s) := s.weftRead m a false
    let (bs, s) := State.readDwords m k (a + 4) s
    (leBytes 4 v.toNat ++ bs, s)

/-- R427: does the debug port find device-wide debug closed? -/
def State.debugShut (s : State) (m : Master) : Bool := decide (m = .debug) && !s.debugOpen

/-- R427, R518: a read of some bytes: an aligned 4 B or 8 B at once, otherwise bytes of aligned dwords; the debug port reads 0 while
device-wide debug is closed. -/
def State.busRead (s : State) (m : Master) (addr size : Nat) : DWord × State :=
  if s.debugShut m then (0, s.bumpHub Reg.KS.DEBUG_DENY_CNT)
  else if size = 8 ∧ addr % 8 = 0 then s.weftRead m addr true
  else if size = 4 ∧ addr % 4 = 0 then s.weftRead m addr false
  else
    let (bs, s) := State.readDwords m ((addr % 4 + size + 3) / 4) (addr / 4 * 4) s
    (BitVec.ofNat 64 (leNat ((bs.drop (addr % 4)).take size)), s)

end Sys2Proof.Machine
end

