-- ==== Sys2Proof/Machine/RegWrite.lean ====
section
/-!
DEFINITION. Machine/RegWrite.lean: writing registers at the Weft root: what a write to each register does (the plain rules of R14,
R16 and R17, and the actions of the command registers), the staging of 64-bit writes (R18), the widths of R518, the register-page
mirror of the device window (R37), and the debug port (R426, R427).
-/
namespace Sys2Proof.Machine

open Sys2Proof

/-! ### Header registers (R519) -/

/-- What masks or unmasks a page's errors is written: the error summary and ALERT_N follow (R519, R523). -/
def State.remask (s : State) (pg : Nat) (f : State → State) : State :=
  let t := f s
  let t := if t.errSummary pg && !s.errSummary pg then (t.emit (.irq true 0)).emit (.irq false 2) else t
  if t.pageAlerts pg then t.raiseAlert else t.reviewAlert

/-- R519: CNT_CLR: every counter of a page reads 0. -/
def State.clearCounters (s : State) (pg : Nat) : State :=
  s.dropRegs (fun k => k % 2 ^ 28 / 4096 = pg && decide (0x800 ≤ k % 4096))

/-- R522: ERR_STAT written: bits clear; when it becomes zero, ERR_FIRST.VALID clears. -/
def State.errClear (s : State) (pg : Nat) (v : DWord) : State :=
  let s := s.set pg Reg.Hdr.ERR_STAT (s.rg pg Reg.Hdr.ERR_STAT &&& ~~~v)
  let s := if fld (s.rg pg Reg.Hdr.ERR_STAT) 31 0 = 0 then s.setF pg Reg.Hdr.ERR_FIRST 31 31 0 else s
  s.reviewAlert

/-- R519: ERR_INJ: the bits that R521 defines for the page are set as injected. -/
def State.errInject (s : State) (pg : Nat) (v : DWord) : State :=
  (errBits pg).foldl (fun s b => if bit v b then s.recordErr pg b true 0 else s) s

/-- R442, R443: the island whose power state a page controls. -/
def controls (pg : Nat) : Option Island :=
  if pageClass pg = 0x16 then some (.spindles (Fin.ofNat 24 (unitIndex pg)) 0)
  else if pageClass pg = 0x12 then some (.bay (Fin.ofNat 24 (unitIndex pg)))
  else if pageClass pg = 0x09 then some (.group (Fin.ofNat 24 (unitIndex pg)))
  else none

/-- A write to a register of a page header. -/
def State.commitHeader (s : State) (pg : Nat) (r : RegSpec) (v : DWord) : State :=
  if r = Reg.Hdr.BLK_CTRL then
    (if bit v 3 then s.clearCounters pg else s).remask pg (fun s => s.writeReg pg r 0 0 v)
  else if r = Reg.Hdr.ERR_STAT then s.errClear pg v
  else if r = Reg.Hdr.ERR_MASK then s.remask pg (fun s => s.writeReg pg r 0 0 v)
  else if r = Reg.Hdr.ERR_INJ then s.errInject pg v
  else if r = Reg.Hdr.PWR_STATE then
    (match controls pg with
     | some i => s.pwrWrite i (v.setWidth 32)
     | none => s)
  else if r = Reg.Hdr.RST_CTRL then s.rstCtrlWrite pg (v.setWidth 32)
  else s

/-! ### The plain rules (R14, R16, R17) -/

/-- A write to a register that only holds what is written. -/
def State.commitPlain (s : State) (pg : Nat) (r : RegSpec) (i : Nat) (v : DWord) : State :=
  match r.acc with
  | .rw | .rws => s.writeReg pg r i (s.regBank pg r) v
  | .w1c => s.setReg pg r i (s.regBank pg r) (s.reg? pg r i (s.regBank pg r) &&& ~~~(v &&& BitVec.ofNat 64 r.wmask))
  | _ => s

/-- R46, R48: bit 8 of a shell status word is W1C. -/
def State.shellClear (s : State) (pg : Nat) (r : RegSpec) (i : Nat) (v : DWord) : State :=
  if bit v 8 then
    (let k := s.regBank pg r
     s.setReg pg r i k (setFld (s.reg? pg r i k) 8 8 0))
  else s

/-- A register that must not be written while something is in force (R17). -/
def State.unless (s : State) (busy : Bool) (pg : Nat) (f : State → State) : State :=
  if busy then s.writeRejected pg else f s

/-! ### Span pages -/

/-- POL_CMD of Pier group g (R134, R147). -/
def State.polCmd (s : State) (g : Nat) (v : DWord) : State :=
  let i := fld v 31 16
  let op := fld v 3 0
  s.unlessBusy (pgPort g) Reg.Port.POL_STAT fun s =>
  if op = 1 then s.polWrite g i else if op = 2 then s.polRead g i else if op = 3 then s.polCounters g i
  else if op = 4 then s.polMapWrite g i else if op = 5 then s.polMapRead g i else s.polResult g 4

/-- R114: OB_CFG of Span sp: the guarantees of its six Bays and its Trestle must fit its entries. -/
def State.obCfgWrite (s : State) (sp : Nat) (v : DWord) : State :=
  if 8192 < 6 * fld v 11 0 + fld v 27 16 then s.writeRejected (pgOB sp) else s.writeReg (pgOB sp) Reg.OB.OB_CFG 0 0 v

/-- A write to a register of a Span page, or of the Hub's slice or Deck port. -/
def State.commitSpan (s : State) (pg : Nat) (r : RegSpec) (i : Nat) (v : DWord) : State :=
  let u := unitIndex pg
  let w : Word := v.setWidth 32
  if notThere pg r then s
  else if r = Reg.MC.REPAIR_CMD then s.repairCmd u (fld v 3 0)
  else if r = Reg.MC.MARGIN_CMD then s.stackMargin u (fld v 3 0)
  else if r = Reg.MC.FILL_CMD then (if bit v 0 then s.fillStart u else s)
  else if r = Reg.MC.PHY_SHELL_STAT then s.shellClear pg r i v
  else if r = Reg.OB.OB_CFG then s.obCfgWrite u v
  else if r = Reg.Port.PORT_CTRL then s.adminWrite u (bit v 0)
  else if r = Reg.Port.LIM_RSV then s.limitWrite u .rsv w
  else if r = Reg.Port.CLASS_LIM then s.limitWrite u (.classLim (Fin.ofNat 8 i)) w
  else if r = Reg.Port.VOQ_CAP then s.limitWrite u (.voqCap (Fin.ofNat 8 i)) w
  else if r = Reg.Port.SAMPLE_CFG then s.sampleCfg u i w
  else if r = Reg.Port.SHAPER then s.shaperWrite u i w
  else if r = Reg.Port.POL_CMD then s.polCmd u v
  else if r = Reg.Slice.TC_MODE then (if u = 4 then s.tcMode w else s)
  else if r = Reg.Hist.HIST_CLR then (if bit v 0 then s.histClear u else s)
  else if r = Reg.Pier.PIER_CFG then s.pierCfgWrite u w
  else if r = Reg.Pier.LINK_CTRL then s.linkDisable (4 * u + i) (bit v 0)
  else if r = Reg.Pier.MARGIN_CMD then s.pierMargin u w
  else if r = Reg.Pier.LOOP_CMD then s.loopCmd u w
  else if r = Reg.Pier.LANE_SHELL then s.shellClear pg r i v
  else if r = Reg.Sp.SP_FENCE then s.spFenceWrite u v
  else s.commitPlain pg r i v

/-! ### Hub pages -/

/-- RT_CMD (R58). -/
def State.rtCmdWrite (s : State) (v : DWord) : State :=
  let op := fld v 3 0
  if op = 0 ∨ 3 < op then (if s.rtBusy then s.overrun (pgHub 0x10) else s.rtDone 6) else s.rtCommand (fld v 31 16) (bit v 4) op

/-- ROUTE_CMD (R217). -/
def State.routeCmd (s : State) (v : DWord) : State :=
  let op := fld v 3 0
  let i := fld v 31 16
  s.unlessBusy (pgOfHub Reg.Route.ROUTE_STAT) Reg.Route.ROUTE_STAT fun s =>
  if op = 1 then s.routeWrite i else if op = 2 then s.routeRead i else if op = 3 then s.trunkWrite i
  else if op = 4 then s.trunkRead i else s.routeResult 4

/-- MC_CMD (R218). -/
def State.mcCmd (s : State) (v : DWord) : State :=
  let op := fld v 3 0
  let i := fld v 31 16
  s.unlessBusy (pgOfHub Reg.Mcast.MC_STAT) Reg.Mcast.MC_STAT fun s =>
  if op = 1 then s.mcWrite i else if op = 2 then s.mcRead i else if op = 3 then s.mcDisable i else s.mcResult 3

/-- DECL_CMD (R246). -/
def State.declCmd (s : State) (v : DWord) : State :=
  let op := fld v 3 0
  if op = 1 then s.declDeclare else if op = 2 then s.declCancel (fld v 31 16) else if op = 3 then s.declQuery (fld v 31 16)
  else if s.declBusy then s.overrun (pgOfHub Reg.Decl.DECL_CMD) else s.declResult 0xB

/-- TBL_CMD (R278, R280). -/
def State.tblCmd (s : State) (v : DWord) : State :=
  let op := fld v 3 0
  let c := fld v 19 12
  let t := fld v 31 20
  if op = 1 then s.tblInstall c t else if op = 2 then s.tblWithdraw c t else if op = 3 then s.tblQuery c t
  else if s.tblBusy then s.overrun pgHReg else s.tblResult 7 0 0

/-- COMB_CMD (R317). -/
def State.combCmd (s : State) (v : DWord) : State :=
  let op := fld v 3 0
  s.unlessBusy pgSpCtl Reg.SpCtl.COMB_STAT (fun s =>
    if op = 1 then s.combQuery (fld v 31 16) else if op = 2 then s.combCancel (fld v 31 16)
    else s.combStat (fld (s.hub Reg.SpCtl.COMB_STAT) 9 8) 2)

/-- CT_CMD (R337). -/
def State.ctCmd (s : State) (v : DWord) : State :=
  let op := fld v 3 0
  let c := fld v 19 12
  let t := fld v 31 20
  if op = 1 then s.ctInstall c t else if op = 2 then s.ctRemove c t else if op = 3 then s.ctQuery c t
  else if s.ctBusy then s.overrun (pgOfHub Reg.CTab.CT_CMD) else s.ctResult 8

/-- TRD_CMD (R348). -/
def State.trdCmd (s : State) (v : DWord) : State :=
  let op := fld v 3 0
  if op = 1 then s.dropPending 8 else if op = 2 then s.stopDraft else s.writeRejected (pgOfHub Reg.Trd.TRD_CMD)

/-- TIME_CMD (R365, R373). -/
def State.timeCmd (s : State) (v : DWord) : State :=
  let op := fld v 3 0
  if op = 1 then s.timeSet else if op = 2 then s.timeAdjust else s.writeRejected (pgOfHub Reg.FT.TIME_CMD)

/-- COMP_CMD (R400). -/
def State.compCmd (s : State) (v : DWord) : State :=
  let op := fld v 3 0
  if op = 1 then s.compCreate else if op = 2 then s.compRelease else s.compResult 8

/-- MAP_CMD (R400). -/
def State.mapCmd (s : State) (v : DWord) : State :=
  let op := fld v 3 0
  if op = 1 then s.mapSwitch else if op = 2 then s.mapCopy
  else if s.reg.phase ≠ .idle then s.overrun pgComp else s.syncMap 2

/-- MEMB_CMD (R391). -/
def State.membCmd (s : State) (v : DWord) : State :=
  let op := fld v 3 0
  if op = 1 then s.membWrite (fld v 31 16) else if op = 2 then s.membRead (fld v 31 16) else s.writeRejected pgComp

/-- RCT_CMD (R392). -/
def State.rctCmdWrite (s : State) (v : DWord) : State :=
  let op := fld v 3 0
  if op = 0 ∨ 3 < op then (if s.reg.rctCmd.isSome then s.overrun pgComp else s.rctDone 3) else s.rctCommand (fld v 31 16) (bit v 4) op

/-- REV_CMD (R390). -/
def State.revCmd (s : State) (v : DWord) : State :=
  let op := fld v 3 0
  let i := fld v 21 16
  if op = 1 then s.revoke i else if op = 2 then s.revClear i else if op = 3 then s.revRead i else s.revResult 3

/-- KS_CMD (R430). -/
def State.ksCmd (s : State) (v : DWord) : State :=
  let op := fld v 3 0
  if op = 1 then s.ksSetKey else if op = 2 then s.ksInstall else if op = 3 then s.ksRemove else if op = 4 then s.ksCommit
  else if s.ksBusy then s.overrun pgKS else s.ksResult false 9

/-- FOOT_CMD (R500). -/
def State.footCmd (s : State) (v : DWord) : State :=
  let confirm : Byte := BitVec.ofNat 8 (fld v 31 24)
  if fld v 1 0 = 1 then s.footCmdEnter confirm else if fld v 1 0 = 2 then s.footCmdExit confirm else s.writeRejected pgFlt

/-- BTEST_CMD (R500). -/
def State.btestCmd (s : State) (v : DWord) : State :=
  let confirm : Byte := BitVec.ofNat 8 (fld v 31 24)
  if fld v 1 0 = 1 then s.btestStart confirm (fld v 12 8) (fld v 5 4) else if fld v 1 0 = 2 then s.btestAbort confirm
  else s.writeRejected pgFlt

/-- SMP_CTRL (R145, R150). -/
def State.smpCtrl (s : State) (v : DWord) : State :=
  if bit v 31 then s.smpEnable (bit v 30) else s.writeReg (pgOfHub Reg.Smp.SMP_CTRL) Reg.Smp.SMP_CTRL 0 0 v

/-- The commands of the registries: the Region Table, routes, multicast, declarations, tables, the Treadle, time (R57, R217, R218,
R246, R278, R317, R337, R371, R373). none: another register. -/
def State.commitTables (s : State) (pg : Nat) (r : RegSpec) (i : Nat) (v : DWord) : Option State :=
  if r = Reg.RT.RT_CMD then some (s.rtCmdWrite v)
  else if r = Reg.RT.DEAD_SOURCE then some (s.deadSource (BitVec.ofNat 12 (fld v 11 0)))
  else if r = Reg.Admit.ADMIT_CTRL then some (s.admitReady (bit v 0))
  else if r = Reg.Admit.ADMIT then some (s.unless s.latched pg (fun s => s.commitPlain pg r i v))
  else if r = Reg.TMap.TRAY_CFG then some (s.trayCfgWrite v.toNat)
  else if r = Reg.TMap.TRAY_SLOT then some (s.unless s.trayMapped pg (fun s => s.commitPlain pg r i v))
  else if r = Reg.Route.ROUTE_CMD then some (s.routeCmd v)
  else if r = Reg.Mcast.MC_CMD then some (s.mcCmd v)
  else if r = Reg.Stream.WIN_CFG then some (s.winCfgWrite (v.setWidth 32))
  else if r = Reg.Stream.WIN_BASE ∨ r = Reg.Stream.WIN_SLOT_SIZE then
    some (s.unless (s.winOn (fld (s.hub Reg.Stream.STREAM_SEL) 7 0)) pg (fun s => s.commitPlain pg r i v))
  else if r = Reg.Decl.DECL_CMD then some (s.declCmd v)
  else if r = Reg.Decl.QUOTA_CMD then some (if bit v 0 then s.quotaApply else s)
  else if r = Reg.Decl.QUOTA_SEL then some (s.quotaSelect v)
  else if r = Reg.HReg.TBL_CMD then some (s.tblCmd v)
  else if r = Reg.HReg.MIG_POLICY then some (s.migWrite (v.setWidth 32))
  else if r = Reg.HReg.MIG_BASE ∨ r = Reg.HReg.MIG_SIZE then
    some (s.unless (s.migMode (fld (s.hub Reg.HReg.MIG_SEL) 7 0) = 2) pg (fun s => s.commitPlain pg r i v))
  else if r = Reg.CTab.CT_CMD then some (s.ctCmd v)
  else if r = Reg.SpCtl.COMB_CMD then some (s.combCmd v)
  else if r = Reg.Trd.NEXT_TIME then some (s.draftSubmit v)
  else if r = Reg.Trd.TRD_CMD then some (s.trdCmd v)
  else if r = Reg.FT.TIME_CMD then some (s.timeCmd v)
  else none

/-- The commands of compositions and of Keystone (R400, R430). none: another register. -/
def State.commitComp (s : State) (pg : Nat) (r : RegSpec) (i : Nat) (v : DWord) : Option State :=
  if r = Reg.Comp.COMP_CMD then some (s.compCmd v)
  else if r = Reg.Comp.COMP_CFG then some (s.unless (!s.live s.compSel) pg (fun s => s.commitPlain pg r i v))
  else if r = Reg.Comp.MAP_CMD then some (s.mapCmd v)
  else if r = Reg.Comp.MEMB_CMD then some (s.membCmd v)
  else if r = Reg.Comp.RCT_CMD then some (s.rctCmdWrite v)
  else if r = Reg.Comp.REV_CMD then some (s.revCmd v)
  else if r = Reg.Comp.SP_GRANT then some (s.grantWrite (.spindles (Fin.ofNat 24 i)) v)
  else if r = Reg.Comp.PORT_GRANT then some (s.grantWrite (.ports (Fin.ofNat 9 i)) v)
  else if r = Reg.Comp.BAY_SHARE then some (s.grantWrite (.bayShare (Fin.ofNat 6 i)) v)
  else if r = Reg.Comp.PIER_SHARE then some (s.grantWrite (.pierShare (Fin.ofNat 18 i)) v)
  else if r = Reg.KS.KS_CMD then some (s.ksCmd v)
  else none

/-- The commands of clocks, resets, power, faults, sampling and diagnostics (R150, R469-R471, R500, R501). none: another
register. -/
def State.commitCare (s : State) (pg : Nat) (r : RegSpec) (i : Nat) (v : DWord) : Option State :=
  let w : Word := v.setWidth 32
  let confirm : Byte := BitVec.ofNat 8 (fld v 31 24)
  if r = Reg.Clk.CLK_CFG then some (s.clkCfgWrite w)
  else if r = Reg.Clk.CLK_EVENT then some (s.clkEventClear w)
  else if r = Reg.Rst.RST_CMD then some (s.rstCmd confirm (fld v 2 0))
  else if r = Reg.Rst.WDT_KICK then some s.wdtKick
  else if r = Reg.Pwr.PSTAGE_CMD then some (s.stageCmd (fld v 1 0))
  else if r = Reg.Pwr.PSTAGE_SHELL then some (s.shellClear pg r i v)
  else if r = Reg.Flt.BAY_RETIRE_CMD then some (s.bayRetireCmd confirm (fld v 4 0))
  else if r = Reg.Flt.WEFT_FENCE then some (s.weftFenceWrite w)
  else if r = Reg.Flt.EPART_CMD then some (s.epartFence confirm (fld v 1 0))
  else if r = Reg.Flt.LPART_CMD then some (s.lpartFence confirm (fld v 2 0))
  else if r = Reg.Flt.FOOT_CMD then some (s.footCmd v)
  else if r = Reg.Flt.BTEST_CMD then some (s.btestCmd v)
  else if r = Reg.Smp.SMP_CTRL then some (s.smpCtrl v)
  else if r = Reg.Smp.RING_BASE ∨ r = Reg.Smp.RING_ENTRIES then
    some (s.unless (bit (s.hub Reg.Smp.SMP_CTRL) 31) pg (fun s => s.commitPlain pg r i v))
  else if r = Reg.Diag.TRACE_SPLIT then some (s.traceSplit w)
  else if r = Reg.Diag.TRACE_CTRL then some (s.traceCtrl w)
  else if r = Reg.Diag.TRACE_ENTRIES then
    some (s.unless (bit (s.hub Reg.Diag.TRACE_CTRL) 31) pg (fun s => s.commitPlain pg r i v))
  else if r = Reg.Diag.GPIO_MUX then some (s.gpioMux w)
  else if r = Reg.Diag.DPATH_CMD then some (if bit v 31 then s.dpathStart (fld v 5 0) else s)
  else none

/-- A write to a register of a Hub page. -/
def State.commitHub (s : State) (pg : Nat) (r : RegSpec) (i : Nat) (v : DWord) : State :=
  match s.commitTables pg r i v with
  | some t => t
  | none =>
    match s.commitComp pg r i v with
    | some t => t
    | none =>
      match s.commitCare pg r i v with
      | some t => t
      | none => s.commitPlain pg r i v

/-- R14: a write of element i of register r of a page takes effect. -/
def State.regCommit (s : State) (pg : Nat) (r : RegSpec) (i : Nat) (v : DWord) : State :=
  if r.cls = 0x200 then s.commitHeader pg r v
  else if r.cls < 0x100 then s.commitSpan pg r i v
  else s.commitHub pg r i v

/-! ### Widths and staging (R18, R518) -/

/-- R18: may a register's lower word be staged? -/
def RegSpec.stages (r : RegSpec) : Bool := r.wide && (r.acc = .rw || r.acc = .rws)

/-- A write of 4 B of an available page: a 32-bit register whole, or a half of a 64-bit register. -/
def State.write4 (s : State) (m : Master) (pg off : Nat) (v : Word) : State :=
  let s := s.touchPage m pg off false
  match regWord pg off with
  | none => s
  | some (r, i, false) =>
    if !r.wide then s.regCommit pg r i (v.setWidth 64)
    else if r.stages then { s with staged := s.staged.filter (fun (l : Staged) => l.master ≠ m ∨ l.page ≠ pg) ++ [{ master := m, page := pg, off := off, lower := v }] }
    else s
  | some (r, i, true) =>
    if !r.stages then s
    else
      let low : Word := match s.staged.find? (fun l => l.master = m ∧ l.page = pg ∧ off = l.off + 4) with
        | some l => l.lower
        | none => BitVec.ofNat 32 (s.view pg r i).toNat
      let s := { s with staged := s.staged.filter (fun (l : Staged) => l.master ≠ m ∨ l.page ≠ pg) }
      s.regCommit pg r i (v ++ low)

/-- A write of 8 B of an available page: a 64-bit register whole, or two 32-bit registers. -/
def State.write8 (s : State) (m : Master) (pg off : Nat) (v : DWord) : State :=
  match regWord pg off with
  | some (r, i, false) =>
    if r.wide then (s.touchPage m pg off true).regCommit pg r i v
    else (s.write4 m pg off (v.setWidth 32)).write4 m pg (off + 4) (BitVec.ofNat 32 (fld v 63 32))
  | _ => (s.write4 m pg off (v.setWidth 32)).write4 m pg (off + 4) (BitVec.ofNat 32 (fld v 63 32))

/-- R18, R38, R39, R517, R526: an aligned write of 4 B or 8 B at a BAR0 offset. What firmware does to the flash through the boot
flash page's offsets is not given; the mailbox rows give the image writes. -/
def State.weftWrite (s : State) (m : Master) (addr : Nat) (wide : Bool) (v : DWord) : State :=
  match s.pageBlocked addr with
  | some (pg, b) => s.setErr pg b (addr / 4)
  | none =>
    if addr / 4096 = pgHub 0x2E ∧ 0x40 ≤ addr % 4096 then s
    else if wide then s.write8 m (addr / 4096) (addr % 4096) v
    else s.write4 m (addr / 4096) (addr % 4096) (v.setWidth 32)

/-- R427, R518: a write of some bytes: an aligned 4 B or 8 B at once; whole aligned dwords one by one; otherwise it is discarded, as
is any write of the debug port while device-wide debug is closed. -/
def State.busWrite (s : State) (m : Master) (addr size : Nat) (v : DWord) : State :=
  if s.debugShut m then s.bumpHub Reg.KS.DEBUG_DENY_CNT
  else if size = 8 ∧ addr % 8 = 0 then s.weftWrite m addr true v
  else if size = 4 ∧ addr % 4 = 0 then s.weftWrite m addr false v
  else if size = 8 ∧ addr % 4 = 0 then (s.weftWrite m addr false v).weftWrite m (addr + 4) false (BitVec.ofNat 64 (fld v 63 32))
  else s.setErr pgRoot 5 (addr / 4)

/-! ### The register-page mirror (R37, R518) -/

/-- The mirror's reads: k accesses of 8 B, in ascending address. -/
def State.mirrorReads : Nat → Nat → State → List Byte × State
  | 0, _, s => ([], s)
  | k + 1, a, s =>
    let (v, s) := s.weftRead .mirror a true
    let (bs, s) := State.mirrorReads k (a + 8) s
    (leBytes 8 v.toNat ++ bs, s)

/-- One 8 B of a mirror write: en: its byte enables. -/
def State.mirrorPut (s : State) (a en : Nat) (v : DWord) : State :=
  if en = 0xFF then s.weftWrite .mirror a true v
  else
    let half := fun (s : State) (o : Nat) =>
      let e := en / 2 ^ o % 16
      if e = 0xF then s.weftWrite .mirror (a + o) false (BitVec.ofNat 64 (fld v (8 * o + 31) (8 * o)))
      else if e = 0 then s
      else s.setErr pgRoot 5 ((a + o) / 4)
    half (half s 0) 4

/-- A mirror write of a line: its enabled dwords, in ascending address. -/
def State.mirrorWrites (s : State) (a : Nat) (mask : BitVec 64) (l : Line) : State :=
  (List.range 8).foldl (fun s i => s.mirrorPut (a + 8 * i) (fld mask (8 * i + 7) (8 * i)) (BitVec.ofNat 64 (fld l (64 * i + 63) (64 * i)))) s

/-- R37: a request of the Warp to the register-page mirror: it is checked like any other, and performed at the Weft root. -/
def State.mirrorArrive (s : State) (r : Req) : State :=
  let s := s.takeReq r
  let a := r.addr - 0x020000000000
  match s.checkHome 24 r with
  | .error f => s.answerAt 52 r f.status 0 false none
  | .ok p =>
    match r.op with
    | .rd | .rdS | .rdM =>
      let (bs, s) := State.mirrorReads 8 a s
      s.answerAt 52 r .ok (grantOf r p.ent) true (some (lineOfBytes bs))
    | .wr => (s.mirrorWrites a (BitVec.allOnes 64) r.data).answerAt 52 r .ok 0 false none
    | .wrP | .capWr => (s.mirrorWrites a r.mask r.data).answerAt 52 r .ok 0 false none
    | .own => s.answerAt 52 r .ok (grantOf r p.ent) false none
    | .atom | .rsU | .rsD | .mcWr => s.answerAt 52 r .unmapped 0 false none

/-! ### The debug port (R426, R427, R448) -/

/-- R427: a debug-port access that no class opens. read: it reads 0. -/
def State.debugDeny (s : State) (read : Bool) : State :=
  let s := s.bumpHub Reg.KS.DEBUG_DENY_CNT
  if read then s.emit (.debug 0) else s

/-- R426: does class MEMORY open the line at a local offset: does it lie in the extents of a composition that has it? -/
def State.debugMem (s : State) (a : Nat) : Option CompId :=
  match s.covers a with
  | some (_, e) => if (s.classes e.comp.val).testBit 3 then some e.comp else none
  | none => none

/-- R426: does class SPINDLE_DEBUG open a Spindle? -/
def State.debugSp (s : State) (n k : Nat) : Bool :=
  s.comps.any (fun e => e.2 = 1 && s.spGranted e.1 n k && (s.classes e.1).testBit 2)

/-- R426: one step of a halted Spindle's core. -/
def State.debugStep (s : State) (n k : Nat) : State :=
  if !(s.spu n k).halted then s
  else
    let s := s.setSpu n k { s.spu n k with halted := false }
    let t := s.coreStep n k .none
    let t := if t = s then t.regionAccess n k [] else t
    if (t.spu n k).launch.isSome then t.setSpu n k { t.spu n k with halted := true } else t

/-- R427: an operation on a Spindle, where SPINDLE_DEBUG opens it. -/
def State.debugSpOp (s : State) (n k : Nat) (read : Bool) (f : State → State) : State :=
  if s.debugSp n k then f s else s.debugDeny read

/-- R426, R427, R448: an access of the debug port. -/
def State.debugAccess (s : State) (op : DebugOp) : State :=
  match op with
  | .readReg off wide =>
    if s.debugOpen then (let (v, s) := s.busRead .debug off.toNat (if wide then 8 else 4); s.emit (.regRead .debug v))
    else s.debugDeny true
  | .writeReg off wide v => if s.debugOpen then s.busWrite .debug off.toNat (if wide then 8 else 4) v else s.debugDeny false
  | .readLine a =>
    (match s.debugMem (a.toNat * 64) with
     | some c => s.submit hubIn .debug (s.readReq c (a.toNat * 64))
     | none => s.debugDeny true)
  | .writeLine a l =>
    (match s.debugMem (a.toNat * 64) with
     | some c => s.submit hubIn .debug (s.writeReq (s.node.toNat * 2 ^ 48 + a.toNat * 64) 0 (some c) (BitVec.allOnes 64) l)
     | none => s.debugDeny false)
  | .halt n k => s.debugSpOp n.val k.val false (fun s => s.setSpu n.val k.val { s.spu n.val k.val with halted := true })
  | .resume n k => s.debugSpOp n.val k.val false (fun s => s.setSpu n.val k.val { s.spu n.val k.val with halted := false })
  | .step n k => s.debugSpOp n.val k.val false (fun s => s.debugStep n.val k.val)
  | .readX n k r => s.debugSpOp n.val k.val true (fun s => s.emit (.debug (BitVec.ofNat 512 ((s.spu n.val k.val).x r.val))))
  | .writeX n k r v => s.debugSpOp n.val k.val false (fun s => s.setSpu n.val k.val ((s.spu n.val k.val).setX r.val v.toNat))
  | .readSram n k off =>
    s.debugSpOp n.val k.val true (fun s => s.emit (.debug (BitVec.ofNat 512 (s.sramWord n.val k.val (off.toNat / 4 * 4)))))
  | .writeSram n k off v => s.debugSpOp n.val k.val false (fun s => s.setSramWord n.val k.val (off.toNat / 4 * 4) v.toNat)
  | .reset level => if s.debugOpen then s.resetSource level.val .device 0x14 else s.debugDeny false

end Sys2Proof.Machine
end

