-- ==== Sys2Proof/Machine/Arrive.lean ====
section
/-!
DEFINITION. Machine/Arrive.lean: what a message does where the Deck delivers it (R43, R50, R61, R77, R142, R178).
-/
namespace Sys2Proof.Machine

open Sys2Proof

/-! ### The end-to-end check (R142) -/

/-- Put a message in the place of the one that a queue item holds; its check is past. -/
def State.reform (s : State) (v : VoqItem) (m : Msg) : State := { s with voqs := putItem v { v with msg := m, path := none } s.voqs }

/-- The items that lie in the same cell as the one before them, which stands first. -/
def joinedTo (v : VoqItem) : List VoqItem → List VoqItem
  | [] => []
  | w :: r => if w.sameQueue v then (if w.joins then w :: joinedTo v r else []) else joinedTo v r

/-- The messages that follow an item in its cell. -/
def State.cellMates (s : State) (v : VoqItem) : List VoqItem := joinedTo v ((s.voqs.dropWhile (fun w => w ≠ v)).drop 1)

/-- R142: a cell is discarded whole: the message and those that follow it there. -/
def State.dropCell (s : State) (v : VoqItem) : State := ((s.cellMates v).foldl (fun s w => s.takeItem w) s).takeItem v

/-- The answers of a reply of n records that are all INTEGRITY. -/
def integrityAnswers (n : Nat) : List RecAns := List.replicate n { status := .integrity, grant := 0, dw := false, lchk := none, data := none }

/-- R142: what a message with a failing beat is delivered as, if it is delivered: a Response without data, a WB marked, another message
of its class unchanged. -/
def Msg.spoilt : Msg → Msg
  | .trayCmp t => .trayCmp { t with status := .integrity, data := [] }
  | .bulkRsp b => .bulkRsp { b with answers := integrityAnswers b.answers.length }
  | .coh (.wb tc la k _ d) => .coh (.wb tc la k true d)
  | m => m

/-- R142: an item from logical port x has failed a check of the Deck; f: what a message does where it arrives. -/
def State.pathError (s : State) (x : Nat) (v : VoqItem) (e : PathErr) (f : Msg → State → State) : State :=
  match e with
  | .tag _ _ => (s.dropCell v).tagError v.inp
  | .beat _ _ =>
    let s := s.dpError v.out
    match v.msg with
    | .req r => (s.takeFrom x v.msg).refuseAt v.out r .integrity
    | .bulk b =>
      (s.takeFrom x v.msg).sendFrom v.out x (.bulkRsp { txid := b.txid, tc := b.tc, seq := b.seq, answers := integrityAnswers b.records.length })
    | .hand _ | .timeX _ | .mctp _ _ => s.takeFrom x v.msg
    | m => f m.spoilt (s.reform v m.spoilt)

/-- R77, R124, R142: what a message of logical port x does when it comes out of the Deck: nothing while another stands before it in its
sub-queue; what its class asks where its check fails; otherwise f. -/
def State.outOfDeck (s : State) (x : Nat) (m : Msg) (f : Msg → State → State) : State :=
  s.inTurn x m (fun s =>
    match s.waiting x m with
    | some v =>
      match v.path with
      | some e => if e.seen then s.pathError x v e f else f m s
      | none => f m s
    | none => f m s)

/-! ### What each message does -/

/-- R43, R444: an item of logical port x for Bay n: it is held while the Bay sleeps; otherwise it abandons an entry that the Bay is about to make. -/
def State.atBay (s : State) (n x : Nat) (m : Msg) (f : State → State) : State :=
  let i : Island := .bay (Fin.ofNat 24 n)
  if s.islandState i ≠ 0 then s.crossingArrive i x m else f (s.abandon i)

/-- R454: does a request need a Loom that is being reset on its own? It then waits. -/
def State.loomWaits (s : State) (n : Nat) (r : Req) : Bool :=
  s.isHeld (.loom n) && (r.op = .atom || r.op = .rsD || r.op = .rsU || (match s.place r.addr with | .loom _ _ => true | _ => false))

/-- R50, R61: a request that has crossed the Deck acts where its address leads: the local Trestle for another device's, the multicast
engine, the register-page mirror, or its home. -/
def State.reached (s : State) (r : Req) (errs : Errs) : State :=
  let s := s.mar r errs.path
  let away := match r.origin with | .trestle _ _ _ => false | _ => decide (r.dnode ≠ s.node)
  if r.op = .mcWr then s.mcArrive r
  else if away then s.trestleArrive r
  else if r.dnode = s.node ∧ s.place r.addr = .mirror then s.mirrorArrive r
  else match (if r.dnode = s.node then s.homeBay r.addr else none) with
    | some n => if s.loomWaits n r then s else s.atBay n r.arr (.req r) (fun s => s.homeArrive r errs)
    | none => s.homeArrive r errs

/-- R73, R75: a Writeback or Recall message of logical port x at the home of its line. -/
def State.cohActs (s : State) (x : Nat) (c : Coh) : State :=
  let act := fun (s : State) => match c with
    | .wb tc la keepS bad data => s.writeBack x tc la keepS bad data
    | .biAck _ la => s.recallAck x la
    | _ => s
  match s.homeBay (c.laddr.toNat * 64) with
  | some n => s.atBay n x (.coh c) (fun s => act (s.takeFrom x (.coh c)))
  | none => act (s.takeFrom x (.coh c))

/-- The Bay whose tray engine a tray on logical port x answers, if x serves a slot (R110). -/
def State.trayBay (s : State) (x : Nat) : Option Nat :=
  ((List.range s.trayN).find? (fun k => s.trayPort k = x)).map (fun k => (s.traySlot k).2)

/-- R203: a tray completion reaches the engine that waits for it; while that Bay sleeps its crossing holds it (R43). -/
def State.trayActs (s : State) (x : Nat) (c : TrayCmp) : State :=
  match s.trayBay x with
  | some n => s.atBay n x (.trayCmp c) (fun s => (s.takeFrom x (.trayCmp c)).trayAnswer x c)
  | none => (s.takeFrom x (.trayCmp c)).trayAnswer x c

/-- R66: a handoff message of Source src reaches firmware, unless an earlier handoff's write of its entry is in progress. -/
def State.handActs (s : State) (x : Nat) (src : NodeId) (h : Hand) : State :=
  if s.handBusy h.granule then s
  else
    let s := s.takeFrom x (.hand h)
    match h.op with
    | .offer => s.offer x src h
    | .accept => s.accept x src h
    | .commit | .cancel => s.handQuiet x src h

/-- R364: a time-exchange message. -/
def State.timeActs (s : State) (x : Nat) (t : TimeX) : State :=
  let s := s.takeFrom x (.timeX t)
  match t.kind with
  | .req => s.timeReq x t
  | .rsp => s.timeRsp x t
  | .fup => s.timeFup x t

/-- What a message from logical port x does where it arrives; errs: what a request meets there. A message that no peer sends does
nothing. -/
def State.act (s : State) (x : Nat) (errs : Errs) (m : Msg) : State :=
  match m with
  | .req r => s.reached r errs
  | .coh c => s.cohActs x c
  | .hand h => s.handActs x (s.peerNode x) h
  | .trayCmp t => s.trayActs x t
  | .bulk b => s.bulkArrive x b
  | .bulkRsp b => (s.takeFrom x m).bulkAnswer x b
  | .timeX t => s.timeActs x t
  | .mctp _ packet => (s.takeFrom x m).mctpArrive (.link (Fin.ofNat 289 x)) packet
  | .cmp _ | .trayReq _ | .bulkPart _ _ _ => s

/-! ### Arrivals -/

/-- A message of logical port x comes out of the Deck, in its turn. -/
def State.arrive (s : State) (x : Nat) (m : Msg) (errs : Errs) : State := s.outOfDeck x m (fun m s => s.act x errs m)

/-- A request comes out of the Deck, in its turn. -/
def State.reach (s : State) (r : Req) (errs : Errs) : State := s.arrive r.arr (.req r) errs

/-- A Writeback or Recall message comes out of the Deck, in its turn. -/
def State.cohAt (s : State) (x : Nat) (c : Coh) : State := s.arrive x (.coh c) .clean

/-- A tray completion comes out of the Deck, in its turn. -/
def State.trayCmp (s : State) (x : Nat) (c : TrayCmp) : State := s.arrive x (.trayCmp c) .clean

/-- A handoff message of Source src comes out of the Deck, in its turn. -/
def State.handAt (s : State) (x : Nat) (src : NodeId) (h : Hand) : State :=
  s.outOfDeck x (.hand h) (fun m s => match m with | .hand h => s.handActs x src h | _ => s)

/-- R79, R212: a Capstone store arrives: on a logical port, at its ingress Pier group; toward another device, at its Trestle. -/
def State.capstone (s : State) (r : Req) : State :=
  match r.origin with
  | .port p =>
    if r.dnode = s.node then s.capArrive p.val (s.vcOf 0 r.tc.toNat) (Msg.req r).slots r false else s.reach r .clean
  | _ => s.reach r .clean

end Sys2Proof.Machine
end

