-- ==== Sys2Proof/Machine/Arbiter.lean ====
section
/-!
DEFINITION. Machine/Arbiter.lean: one cycle of the Deck's crossbar: which head crosses to which output (R130, R131), and where its
cell goes then. How a message of several cells crosses, and what the rules leave open here, is log entry 70.
-/
namespace Sys2Proof.Machine

open Sys2Proof

/-! ### The heads (R122, R124, R129) -/

/-- The physical input of a queue item: a flush's own staging lies at the input that it is for. -/
def VoqItem.input (v : VoqItem) : Nat := v.inp % 64

/-- The first message of every sub-queue that has a cell to move: a part of a bulk body whose cells have all crossed has none. -/
def headsOf : List VoqItem → List VoqItem
  | [] => []
  | v :: r => if v.late || (v.isPart && decide (v.cells ≤ v.sent)) then headsOf r else v :: (headsOf r).filter (fun w => !w.sameQueue v)

/-- R42, R85, R114, R129: does a Bay take a head's message now? -/
def State.bayTakes (s : State) (n : Nat) (v : VoqItem) : Bool :=
  let i : Island := .bay (Fin.ofNat 24 n)
  if s.islandState i ≠ 0 then !s.crossingFull i
  else match v.msg with
    | .req r => decide (s.homeLoad n < 3840) && !s.loomWaits n r && (decide (s.place r.addr ≠ .tray) || s.trayRoom n 1)
    | _ => true

/-- R197, R213: does a Trestle take a head's message now? A multicast store needs an entry for each remote device. -/
def State.trestleTakes (s : State) (sp : Nat) (v : VoqItem) : Bool :=
  match v.msg with
  | .req _ => s.spanFenced sp || s.trestleRoom sp (match v.mc with
      | some id => ((s.tr.mcOut.filter (fun m => m.id = id)).map (fun m => m.dests.length)).sum
      | none => 1)
  | _ => true

/-- R129: has the output of a head room for it? A link's egress queue takes a message whole. -/
def State.outTakes (s : State) (v : VoqItem) : Bool :=
  if v.dst < 289 then decide (0 < v.sent) || s.egressRoom v.dst v.tc v.cls v.cells
  else if v.out < 24 ∨ v.isPart then true
  else if v.out < 48 then s.bayTakes (v.out - 24) v
  else if v.out < 52 then s.trestleTakes (v.out - 48) v
  else match v.msg with
    | .hand h => !s.handBusy h.granule
    | _ => true

/-- R464: may an output grant Best-effort cells in the present ns: at throttle levels 5, 6 and 7 in three, two and one of four (DESIGN CHOICE:
which of them, log entry 70)? -/
def State.beOpen (s : State) : Bool := decide (s.now % 4 < 4 - (fld (s.hub Reg.Pwr.THR_STAT) 2 0 - 4))

/-- R131, R464: is a head eligible? -/
def State.eligible (s : State) (v : VoqItem) : Bool := (s.scheduled v.tc || s.beOpen) && decide (v.out < 53 ∨ v.out = 55) && s.mayCross v && s.outTakes v

/-! ### Grants (R131) -/

/-- R131: BE_QUANTUM of a class at a Deck output. -/
def State.beQuantum (s : State) (o c : Nat) : Nat := fld (s.rgi (pgSlice (sliceOfPort o)) Reg.Slice.BE_QUANTUM c) 11 0

/-- R131: the Best-effort class whose turn it is at an output, of those that have an eligible head. -/
def State.beClass (s : State) (o : Nat) (cs : List Nat) : Option Nat :=
  let t := SMap.get (fun _ => 0) s.arb.turn o
  if 0 < SMap.get (fun _ => 0) s.arb.credit o ∧ cs.contains t then some t
  else ((List.range 8).map (fun i => (t + 1 + i) % 8)).find? (fun c => cs.contains c)

/-- R131: the class that an output serves: the highest Scheduled one, else the Best-effort one whose turn it is. -/
def State.outClass (s : State) (o : Nat) (cs : List Nat) : Option Nat :=
  match ((List.range 8).map (fun i => 7 - i)).find? (fun c => cs.contains c && s.scheduled c) with
  | some c => some c
  | none => s.beClass o cs

/-- The distance of n from p, counted up and round. -/
def ahead (p n : Nat) : Nat := (n + 64 - p % 64) % 64

/-- The member of a list that a rotating pointer comes to first. -/
def firstFrom (f : VoqItem → Nat) (p : Nat) : List VoqItem → Option VoqItem
  | [] => none
  | v :: r =>
    match firstFrom f p r with
    | some w => if ahead p (f w) < ahead p (f v) then some w else some v
    | none => some v

/-- R131: the head that an output grants, of the eligible ones addressed to it. -/
def State.grant (s : State) (o : Nat) (hs : List VoqItem) : Option VoqItem :=
  match s.outClass o (hs.map (fun v => v.tc)) with
  | none => none
  | some c =>
    let mine := hs.filter (fun v => v.tc = c)
    match [2, 1, 3, 0].find? (fun k => mine.any (fun v => v.cls = k)) with
    | none => none
    | some k => firstFrom VoqItem.input (SMap.get (fun _ => 0) s.arb.ptr (o * 8 + c)) (mine.filter (fun v => v.cls = k))

/-- R131: every output without a match grants, and its pointer moves to the input after the one granted. -/
def State.grants (outs : List Nat) (hs : List VoqItem) (s : State) : List VoqItem × State :=
  outs.foldl (fun a o =>
    match a.2.grant o (hs.filter (fun v => v.out = o)) with
    | some v =>
      let arb := { a.2.arb with ptr := SMap.set (fun _ => 0) a.2.arb.ptr (o * 8 + v.tc) ((v.input + 1) % 56) }
      (a.1 ++ [v], { a.2 with arb := arb })
    | none => a) ([], s)

/-! ### Matching (R130) -/

/-- The bridge steps of a path, each with its direction. -/
def hops : List Nat → List (Nat × Nat)
  | a :: b :: r => (a, b) :: hops (b :: r)
  | _ => []

/-- R26: has every bridge on a head's path room beside the cells that cross in this phase: two each way? -/
def State.bridgeRoom (s : State) (ms : List VoqItem) (v : VoqItem) : Bool :=
  let used := (ms.map (fun w => hops ((s.cellPath w.inp w.out).getD []))).flatten
  (hops ((s.cellPath v.inp v.out).getD [])).all (fun h => decide ((used.filter (fun u => u = h)).length < 2))

/-- R130: each input accepts the first of its grants in its rotating order of outputs. -/
def State.accepts (ins : List Nat) (gs ms : List VoqItem) (s : State) : List VoqItem × State :=
  ins.foldl (fun a i =>
    match firstFrom (fun v => v.out) (SMap.get (fun _ => 0) a.2.arb.acc i) (gs.filter (fun v => v.input = i && a.2.bridgeRoom a.1 v)) with
    | some v => (a.1 ++ [v], { a.2 with arb := { a.2.arb with acc := SMap.set (fun _ => 0) a.2.arb.acc i ((v.out + 1) % 56) } })
    | none => a) (ms, s)

/-- R130: k iterations of request, grant and accept among the eligible heads, beside the matches made. -/
def State.matching : Nat → List VoqItem → List VoqItem → State → List VoqItem × State
  | 0, _, ms, s => (ms, s)
  | k + 1, hs, ms, s =>
    let free := hs.filter (fun v => ms.all (fun m => m.input ≠ v.input && m.out ≠ v.out))
    if free = [] then (ms, s)
    else
      let (gs, s) := s.grants (free.map (fun v => v.out)).eraseDups free
      let (ms, s) := s.accepts (gs.map VoqItem.input).eraseDups gs ms
      State.matching k hs ms s

/-! ### Moving a cell -/

/-- R131: a Best-effort cell uses its class's credit at its output; a class that begins its turn gets BE_QUANTUM. -/
def State.useCredit (s : State) (v : VoqItem) : State :=
  if s.scheduled v.tc then s
  else
    let k := SMap.get (fun _ => 0) s.arb.credit v.out
    let left := if SMap.get (fun _ => 0) s.arb.turn v.out = v.tc ∧ 0 < k then k - 1 else s.beQuantum v.out v.tc - 1
    { s with arb := { s.arb with turn := SMap.set (fun _ => 0) s.arb.turn v.out v.tc, credit := SMap.set (fun _ => 0) s.arb.credit v.out left } }

/-- A message has crossed the Deck to a logical port: it enters the egress queue, or is treated as R138 step 4 gives. -/
def State.toLink (s : State) (w : VoqItem) : State :=
  if s.portUp w.dst w.cls then s.toEgress w.dst w.cells w.msg w.mc
  else match w.mc with
    | some id => s.mapMc id (fun m => { m with bad := true, ports := NSet.erase w.dst m.ports })
    | none => s.returnMsg w.dst w.msg

/-- R489: an output sends a test cell back to port 55. -/
def State.testReturn (s : State) (v : VoqItem) : State :=
  if v.inp ≠ 55 then s
  else match s.voqs.find? (fun w => w.out = 55) with
    | some w => { s with voqs := putItem w { w with size := w.size + 16 } s.voqs }
    | none => { s with voqs := s.voqs ++ [{ v with inp := flushInp v.out, out := 55, size := 16, sent := 0, time := s.now }] }

/-- R130: one cell of a head crosses. What has come whole to a logical port goes on; what has come whole to a unit is left for the end of
the cycle: the messages that arrive, in order. -/
def State.moveCell (s : State) (v : VoqItem) : List VoqItem × State :=
  let s := s.useCredit v
  let mates := s.cellMates v
  if v.sent + 1 < v.cells ∨ v.isPart ∧ 288 < v.dst then
    ([], ({ s.crossed v 1 16 with voqs := putItem v { v with sent := v.sent + 1 } s.voqs } : State).testReturn v)
  else if v.dst < 289 then
    let k := v.slots - 16 * v.sent + (mates.map VoqItem.slots).sum
    let s := (mates.foldl (fun s w => s.takeItem w) s).takeItem v
    ([], (v :: mates).foldl (fun s w => s.toLink w) (s.crossed v 1 k))
  else
    ([v] ++ mates.map (fun w => { w with sent := 1 }),
      { s with voqs := s.voqs.map (fun w => if mates.contains w then { w with sent := 1 } else w) })

/-- R130: one phase: the matched cells move. -/
def State.phase (s : State) : List VoqItem × State :=
  let (ms, s) := State.matching 3 ((headsOf s.voqs).filter (fun v => s.eligible v)) [] s
  ms.foldl (fun a v => let (ws, s) := a.2.moveCell v; (a.1 ++ ws, s)) ([], s)

/-! ### Arrivals at units (R78) -/

/-- A message comes out of the Deck at a unit. A multicast copy becomes the records of its Trestle (R201). -/
def State.unitTakes (s : State) (v : VoqItem) : State :=
  match v.mc, v.msg with
  | some id, .req r =>
    if s.trestleTakes (v.out - 48) v then ((s.takeItem v).crossed v 1 v.slots).mcForward (v.out - 48) (flowPort r.origin v.inp) r id else s
  | _, m => s.arrive v.arr m .clean

/-- R78: the requests that reach Bay n in one cycle, in the order of their inputs from the rotating pointer. -/
def State.bayOrder (s : State) (n : Nat) (ws : List VoqItem) : List VoqItem :=
  (List.range 56).flatMap (fun i => ws.filter (fun w => w.input = ((s.bay n).ptr + i) % 56))

/-- Do two requests that arrive go to one line? -/
def twoOfALine (ws : List VoqItem) : Bool :=
  let ls := ws.filterMap (fun w => match w.msg with | .req r => some r.laddr | _ => none)
  decide (ls.eraseDups.length < ls.length)

/-- R78: one Bay cycle of arrivals: SAME_CYCLE_CNT, the requests in order, and the pointer. -/
def State.bayCycle (s : State) (n : Nat) (ws : List VoqItem) : State :=
  match s.bayOrder n ws with
  | [] => s
  | w :: r =>
    let s := if twoOfALine ws then s.bump (pgHome n) Reg.Home.SAME_CYCLE_CNT else s
    let s := s.setBay n { s.bay n with ptr := (w.input + 1) % 56 }
    (w :: r).foldl (fun s v => s.unitTakes v) s

/-- R75, R78: what has crossed to units in a cycle arrives: Writeback and Recall messages first, then what goes to Trestles and the Hub and
the answers of trays, then each Bay's requests. -/
def State.cycleArrives (s : State) (ws : List VoqItem) : State :=
  let toBay := fun (v : VoqItem) => decide (24 ≤ v.out ∧ v.out < 48) && decide (v.cls = 0)
  let s := (ws.filter (fun v => v.cls = 2)).foldl (fun s v => s.unitTakes v) s
  let s := (ws.filter (fun v => decide (v.cls ≠ 2) && !toBay v)).foldl (fun s v => s.unitTakes v) s
  let rs := ws.filter toBay
  ((rs.map (fun v => v.out)).eraseDups).foldl (fun s o => s.bayCycle (o - 24) (rs.filter (fun v => v.out = o))) s

/-! ### A cycle -/

/-- R201: the multicast stores at the head of their queues become copies. -/
def State.expandMc (s : State) : State :=
  ((headsOf s.voqs).filter (fun v => v.out = outMc && v.mc.isNone)).foldl (fun s v => s.arrive v.arr v.msg .clean) s

/-- The last item of a list that satisfies a test, changed. -/
def changeLast (p : VoqItem → Bool) (f : VoqItem → VoqItem) : List VoqItem → List VoqItem
  | [] => []
  | v :: r => if p v && !r.any p then f v :: r else v :: changeLast p f r

/-- R122: the cell at the end of each sub-queue that may be granted is closed: nothing more of it waits. -/
def State.closeCells (s : State) : State :=
  ((headsOf s.voqs).filter (fun v => s.eligible v)).foldl (fun s v =>
    { s with voqs := changeLast (fun w => w.sameQueue v && !w.late) (fun w => { w with shut := true }) s.voqs }) s

/-- R133: a slice that stands still does so for one cycle less. -/
def State.stallDown (s : State) : State :=
  if s.arb.stall = [] then s
  else { s with arb := { s.arb with stall := (s.arb.stall.map (fun e => (e.1, e.2 - 1))).filter (fun e => 0 < e.2) } }

/-- R123, R130: one cycle of the crossbar. -/
def State.crossbar (s : State) : State :=
  let s := s.expandMc.closeCells
  let (ws1, s) := s.phase
  let (ws2, s) := s.phase
  State.stageAll s.voqs.length ((s.cycleArrives (ws1 ++ ws2)).stallDown)

end Sys2Proof.Machine
end

