-- ==== Sys2Proof/Machine/Tick.lean ====
section
/-!
DEFINITION. Machine/Tick.lean: what passes while no command waits: one ns (log entry 5), and the Deck's cycles in it.
-/
namespace Sys2Proof.Machine

open Sys2Proof

/-! ### Time (log entry 5) -/

/-- The counters of µs (R463, R469, R498): one µs ends. -/
def State.tickUs (s : State) : State :=
  let s := if s.clk.sel = 0 then s.bumpHub Reg.Clk.SAFE_US_CNT else s
  let s := if s.clk.safe then s.bumpHub Reg.Clk.HOLDOVER_US_CNT else s
  let s := if s.govQ ≠ [] then s.bumpHub Reg.Pwr.WAKE_WAIT_US_CNT else s
  if s.inFootway then s.bumpHub Reg.Flt.FOOT_US_CNT else s

/-- R471: one ms ends at a throttle level. -/
def State.tickMs (s : State) : State := s.bumpI pgPwr Reg.Pwr.THR_MS (fld (s.hub Reg.Pwr.THR_STAT) 2 0)

/-- R100: the scrub period of a Bay that tracks rows runs on while it is in Run or Sleep. -/
def State.tickBays (s : State) : State :=
  ((s.bays.filter (fun e => e.2.rows ≠ [])).map (fun e => e.1)).foldl (fun s n =>
    if s.refreshes n then s.setBay n { s.bay n with clock := (s.bay n).clock + 1 } else s) s

/-! ### What waits in the Deck -/

/-- Count one in a register of each page of a list. -/
def State.countAll (s : State) (pages : List Nat) (r : RegSpec) : State := pages.eraseDups.foldl (fun s pg => s.bump pg r) s

/-- R126, R147: every landing queue tries its head; the Pier groups whose heads waited, and whose policers held one, count the cycle. -/
def State.landAll (s : State) : State :=
  let keys := (s.landing.filter (fun e => e.2 ≠ [])).map (fun e => e.1)
  let (ws, hs, s) := keys.foldl (fun (a : List Nat × List Nat × State) k =>
    match a.2.2.landStep (k / 8) (k % 8) none with
    | (.waits, s) => (a.1 ++ [pgPort (k / 96)], a.2.1, s)
    | (.held, s) => (a.1, a.2.1 ++ [pgPort (k / 96)], s)
    | (_, s) => (a.1, a.2.1, s)) ([], [], s)
  (s.countAll ws Reg.Port.LAND_WAIT_CNT).countAll hs Reg.Port.HOLD_CYC_CNT

/-- R115: the Spans in which a requester waits for an outbound entry. -/
def State.obWaiters (s : State) : List Nat :=
  (headsOf s.voqs).filterMap (fun v =>
    if 48 ≤ v.out ∧ v.out < 52 then (if s.trestleTakes (v.out - 48) v then none else some (v.out - 48))
    else if 24 ≤ v.out ∧ v.out < 48 then (match v.msg with
      | .req r => if s.place r.addr = .tray ∧ !s.trayRoom (v.out - 24) 1 then some ((v.out - 24) / 6) else none
      | _ => none)
    else none) ++
  s.hed.ops.filterMap (fun o => if o.tray ∧ !o.locked ∧ (s.rowHolder o).any (fun h => h.phase = .rowHold) ∧ !s.trayRoom o.bay o.need then some (o.bay / 6) else none)

/-- R115, R182: the counters of cycles in which something waits. -/
def State.countWaits (s : State) : State :=
  let s := s.countAll (s.capHolds.filterMap (fun h => h.req.origin.port?.map (fun p => pgPG (p / 12)))) Reg.PG.CAP_HOLD_CYC_CNT
  let s := s.countAll (((s.voqs.map (fun v => v.arr)).eraseDups.filter (fun x => decide (x < 288) && s.lineFull x)).map (fun x => pgPG (x / 12)))
    Reg.PG.LINE_FULL_CYC_CNT
  s.countAll (s.obWaiters.map pgOB) Reg.OB.OB_WAIT_CNT

/-- One cycle of the Deck. -/
def State.cycle (s : State) : State :=
  if s.voqs = [] ∧ s.landing.all (fun e => e.2 = []) ∧ s.capHolds = [] ∧ s.arb.stall = [] ∧ s.hed.ops = [] then s
  else s.landAll.crossbar.countWaits

/-- The Deck's cycles that end in the ns that ends now: 1.7 in each. -/
def State.cycles (s : State) : Nat := 17 * s.now / 10 - 17 * (s.now - 1) / 10

/-- R137: does the wait of a head stand still: its class is gated closed at its destination Pier, or its port is flushing? -/
def State.waitStops (s : State) (v : VoqItem) : Bool :=
  (decide (v.dst < 288) && !(s.gateMask (v.dst / 4)).testBit v.tc) ||
    s.flushing.any (fun u => match u with | .port p => p.val = v.dst || p.val = v.arr | .deck i => i.val = v.out || i.val = v.inp)

/-- R137: the heads have waited one ns more. -/
def State.headsWait (s : State) : State :=
  if s.voqs = [] then s
  else
    let hs := (headsOf s.voqs).filter (fun v => !s.waitStops v)
    { s with voqs := s.voqs.map (fun v => if hs.contains v then { v with waited := v.waited + 1 } else v) }

/-! ### The links -/

/-- R165-R167: what a logical port sends of itself: what its egress queue may send, and IDLE flits for the reports it owes or while its
replay buffer is full; one in RETRAIN goes on when its lanes have a signal (R169). -/
def State.linkTick (s : State) (x : Nat) : State :=
  let s := if (s.link x).egress = [] then s else s.pump x
  let l := s.link x
  if l.state = .retrain then s.retrainOn x
  else if l.state.takes ∧ (0 < l.owed ∨ (l.egress ≠ [] ∧ s.replayDepth x ≤ l.replay.length)) then s.sendIdle x
  else s

/-- R369: the Piers on which a message waits for its gate or its guard count the cycles that end in this ns. -/
def State.countGuards (s : State) : State :=
  let ps := (((s.links.filter (fun e => e.2.egress ≠ [] && s.gateWaits e.1)).map (fun e => e.1 / 4))).eraseDups
  ps.foldl (fun s p => s.addN (pgPier p) Reg.Pier.GUARD_CYC_CNT s.cycles) s

/-- The links of the device. -/
def State.linksTick (s : State) : State := ((s.links.map (fun e => e.1)).foldl (fun s x => s.linkTick x) s).countGuards

/-! ### One ns -/

/-- One ns passes: Fabric Time advances (R362), the wake budget fills (R461), a PPS pulse may end (R541), the Deck's cycles run (R130)
and the links send. -/
def State.tick (s : State) : State :=
  let u : State := { s with now := s.now + 1 }
  let s := ((u.tickFt.fillBudget).endPulse).tickSweeps.tickBays
  let s := if s.now % 1000 = 0 then s.tickUs else s
  let s := if s.now % 1000000 = 0 then s.tickMs else s
  let s := { s with sampler := { s.sampler with lane := [] } }
  let t := (List.range s.cycles).foldl (fun s _ => s.cycle) s
  u.seal (State.settle (t.headsWait.linksTick.timeFups))

end Sys2Proof.Machine
end

