-- ==== Sys2Proof/Machine/ExecAccess.lean ====
section
/-!
DEFINITION. Machine/ExecAccess.lean: the commands of register accesses, crossings and wakes (R37-R45, R461), one meaning each.
-/
namespace Sys2Proof.Machine

open Sys2Proof

/-- R40: a register access that is unanswered after 5 us: the Weft root completes it with zero, or discards it. -/
def State.weftTimeout (s : State) (m : Master) (addr : Nat) (isWrite : Bool) : State :=
  let s := s.setErr pgRoot 4 (addr / 4)
  if isWrite then s else s.emit (.regRead m 0)

/-- R14, R38: a read of a register of a page; its value leaves the block. -/
def State.rcRead (s : State) (m : Master) (pg : Nat) (r : RegSpec) : State :=
  let (v, s) := s.weftRead m (pg * 4096 + r.off) r.wide
  s.emit (.regRead m v)

/-- R39, R517: a write to a page's header, where the page may be reached. -/
def State.onPage (s : State) (pg : Nat) (f : State → State) : State :=
  match s.pageBlocked (pg * 4096 + 0x10) with
  | some (p, b) => s.setErr p b (pg * 1024 + 4)
  | none => f s

/-- REG_WRITE (R38). -/
def execRegWrite (m : Master) (addr : BitVec 26) (size : Fin 9) (value : DWord) (s : State) : Host.Outcome State Fault Refusal :=
  .next (s.seal (State.settle (s.busWrite m addr.toNat size.val value)))

/-- WEFT_TIMEOUT (R40). -/
def execWeftTimeout (m : Master) (addr : BitVec 26) (isWrite : Bool) (s : State) : Host.Outcome State Fault Refusal :=
  .next (s.seal (s.weftTimeout m addr.toNat isWrite))

/-- CROSSING_ARRIVAL (R43). -/
def execCrossingArrival (i : Island) (item : Msg) (s : State) : Host.Outcome State Fault Refusal :=
  .next (s.seal (s.crossingArrive i item.arr item))

/-- WAKE_GRANT (R461). -/
def execWakeGrant (s : State) : Host.Outcome State Fault Refusal := .next (s.seal s.wakeGrant)

/-- ISLAND_RUN (R461). -/
def execIslandRun (i : Island) (s : State) : Host.Outcome State Fault Refusal := .next (s.seal (State.settle (s.islandRun i)))

end Sys2Proof.Machine
end

