-- ==== Sys2Proof/Machine/ExecMemory.lean ====
section
/-!
DEFINITION. Machine/ExecMemory.lean: the commands of requests at their homes, recalls, handoffs, the Region Table, the memory controllers and the tray tier (R50-R120, R185-R205), one meaning each.
-/
namespace Sys2Proof.Machine

open Sys2Proof

/-- RD (R71). -/
def execRd (r : Req) (errs : Errs) (s : State) : Host.Outcome State Fault Refusal :=
  .next (s.seal (State.settle (s.reach { r with op := .rd } errs)))

/-- RD_S (R71). -/
def execRdS (r : Req) (errs : Errs) (s : State) : Host.Outcome State Fault Refusal :=
  .next (s.seal (State.settle (s.reach { r with op := .rdS } errs)))

/-- RD_M (R71). -/
def execRdM (r : Req) (errs : Errs) (s : State) : Host.Outcome State Fault Refusal :=
  .next (s.seal (State.settle (s.reach { r with op := .rdM } errs)))

/-- OWN (R71). -/
def execOwn (r : Req) (errs : Errs) (s : State) : Host.Outcome State Fault Refusal :=
  .next (s.seal (State.settle (s.reach { r with op := .own } errs)))

/-- WR (R71). -/
def execWr (r : Req) (errs : Errs) (s : State) : Host.Outcome State Fault Refusal :=
  .next (s.seal (State.settle (s.reach { r with op := .wr } errs)))

/-- WR_P (R88). -/
def execWrP (r : Req) (errs : Errs) (s : State) : Host.Outcome State Fault Refusal :=
  .next (s.seal (State.settle (s.reach { r with op := .wrP } errs)))

/-- ATOM (R242). -/
def execAtom (r : Req) (errs : Errs) (s : State) : Host.Outcome State Fault Refusal :=
  .next (s.seal (State.settle (s.reach { r with op := .atom } errs)))

/-- CAP_WR (R79). -/
def execCapWr (r : Req) (s : State) : Host.Outcome State Fault Refusal :=
  .next (s.seal (State.settle (s.capstone { r with op := .capWr })))

/-- CAP_WR_RELEASE (R79). -/
def execCapWrRelease (p : PortId) (src : NodeId) (tag : BitVec 12) (s : State) : Host.Outcome State Fault Refusal :=
  .next (s.seal (State.settle (s.capRelease p.val src tag)))

/-- CAP_WR_APPLY (R79). -/
def execCapWrApply (r : Req) (errs : Errs) (s : State) : Host.Outcome State Fault Refusal :=
  .next (s.seal (State.settle (s.reach { r with op := .capWr } errs)))

/-- MC_WR (R201). -/
def execMcWr (r : Req) (s : State) : Host.Outcome State Fault Refusal :=
  .next (s.seal (State.settle (s.reach { r with op := .mcWr } .clean)))

/-- MC_WR_COMPLETE (R202). -/
def execMcWrComplete (id : Nat) (s : State) : Host.Outcome State Fault Refusal :=
  .next (s.seal (State.settle (s.mcComplete id)))

/-- RS_D (R231). -/
def execRsD (r : Req) (errs : Errs) (s : State) : Host.Outcome State Fault Refusal :=
  .next (s.seal (State.settle (s.reach { r with op := .rsD } errs)))

/-- RS_U (R236). -/
def execRsU (r : Req) (errs : Errs) (s : State) : Host.Outcome State Fault Refusal :=
  .next (s.seal (State.settle (s.reach { r with op := .rsU } errs)))

/-- WB (R75). -/
def execWb (p : PortId) (tc : BitVec 3) (laddr : BitVec 42) (keepS : Bool) (bad : Bool) (data : Line) (s : State) : Host.Outcome State Fault Refusal :=
  .next (s.seal (State.settle (s.cohAt p.val (.wb tc laddr keepS bad data))))

/-- BI_ACK (R73). -/
def execBiAck (p : PortId) (tc : BitVec 3) (laddr : BitVec 42) (s : State) : Host.Outcome State Fault Refusal :=
  .next (s.seal (State.settle (s.cohAt p.val (.biAck tc laddr))))

/-- UNDELIVERABLE_RECALL (R140). -/
def execUndeliverableRecall (p : PortId) (laddr : BitVec 42) (s : State) : Host.Outcome State Fault Refusal :=
  .next (s.seal (State.settle (s.undeliverable p.val laddr)))

/-- RECALL_TIMEOUT_EXPIRY (R74). -/
def execRecallTimeoutExpiry (laddr : BitVec 42) (s : State) : Host.Outcome State Fault Refusal :=
  .next (s.seal (State.settle (s.recallTimeout laddr)))

/-- OFFER (R66). -/
def execOffer (p : PortId) (src : NodeId) (h : Hand) (s : State) : Host.Outcome State Fault Refusal :=
  .next (s.seal (State.settle (s.handAt p.val src { h with op := .offer })))

/-- ACCEPT (R66). -/
def execAccept (p : PortId) (src : NodeId) (h : Hand) (s : State) : Host.Outcome State Fault Refusal :=
  .next (s.seal (State.settle (s.handAt p.val src { h with op := .accept })))

/-- COMMIT (R66). -/
def execHandoffCommit (p : PortId) (src : NodeId) (h : Hand) (s : State) : Host.Outcome State Fault Refusal :=
  .next (s.seal (State.settle (s.handAt p.val src { h with op := .commit })))

/-- CANCEL (R66). -/
def execHandoffCancel (p : PortId) (src : NodeId) (h : Hand) (s : State) : Host.Outcome State Fault Refusal :=
  .next (s.seal (State.settle (s.handAt p.val src { h with op := .cancel })))

/-- HANDOFF_TIMER_EXPIRY (R66). -/
def execHandoffTimerExpiry (index : BitVec 16) (s : State) : Host.Outcome State Fault Refusal :=
  .next (s.seal (State.settle (s.handTimeout index.toNat)))

/-- RT_WRITE (R55). -/
def execRtWrite (index : BitVec 16) (next : Bool) (s : State) : Host.Outcome State Fault Refusal :=
  .next (s.seal (State.settle (s.rtCommand index.toNat next 1)))

/-- RT_READ (R58). -/
def execRtRead (index : BitVec 16) (next : Bool) (s : State) : Host.Outcome State Fault Refusal :=
  .next (s.seal (s.rtCommand index.toNat next 2))

/-- RT_DISABLE (R60). -/
def execRtDisable (index : BitVec 16) (next : Bool) (s : State) : Host.Outcome State Fault Refusal :=
  .next (s.seal (State.settle (s.rtCommand index.toNat next 3)))

/-- RT_COMMAND_COMPLETE (R59). -/
def execRtCommandComplete (s : State) : Host.Outcome State Fault Refusal := .next (s.seal (State.settle (s.rtComplete)))

/-- DEAD_SOURCE_WRITE (R83). -/
def execDeadSourceWrite (node : NodeId) (s : State) : Host.Outcome State Fault Refusal := .next (s.seal (s.deadSource node))

/-- SWEEP_END (R83). -/
def execSweepEnd (n : BayId) (s : State) : Host.Outcome State Fault Refusal := .next (s.seal (State.settle (s.endSweep n.val)))

/-- REQUEST_DEADLINE (R198). -/
def execRequestDeadline (o : Origin) (tag : BitVec 12) (s : State) : Host.Outcome State Fault Refusal :=
  .next (s.seal (State.settle (s.deadline o tag)))

/-- REPAIR_CMD (R100). -/
def execRepairCmd (n : BayId) (op : BitVec 4) (s : State) : Host.Outcome State Fault Refusal :=
  .next (s.seal (State.settle (s.atPage (pgMC n.val) Reg.MC.REPAIR_CMD 0 (fun s => s.repairCmd n.val op.toNat))))

/-- ROW_REPAIR_DONE (R101). -/
def execRowRepairDone (n : BayId) (s : State) : Host.Outcome State Fault Refusal :=
  .next (s.seal (State.settle (s.rowRepairDone n.val)))

/-- STACK_MARGIN_START (R48). -/
def execStackMarginStart (n : BayId) (op : BitVec 4) (s : State) : Host.Outcome State Fault Refusal :=
  .next (s.seal (s.atPage (pgMC n.val) Reg.MC.MARGIN_CMD 0 (fun s => s.stackMargin n.val op.toNat)))

/-- SHELL_MARGIN_DONE (R48). -/
def execShellMarginDone (sh : Shell) (result : Word) (fault : BitVec 8) (s : State) : Host.Outcome State Fault Refusal :=
  .next (s.seal (State.settle (s.marginDone sh result fault.toNat)))

/-- SHELL_RECALIBRATION_DONE (R48). -/
def execShellRecalibrationDone (sh : Shell) (fault : BitVec 8) (s : State) : Host.Outcome State Fault Refusal :=
  .next (s.seal (State.settle (s.calibrated sh fault.toNat)))

/-- FILL_START (R108). -/
def execFillStart (n : BayId) (s : State) : Host.Outcome State Fault Refusal :=
  .next (s.seal (State.settle (s.atPage (pgMC n.val) Reg.MC.FILL_CMD 0 (fun s => s.fillStart n.val))))

/-- FILL_DONE (R108). -/
def execFillDone (n : BayId) (s : State) : Host.Outcome State Fault Refusal := .next (s.seal (State.settle (s.fillDone n.val)))

/-- REFRESH_DUE (R94). -/
def execRefreshDue (n : BayId) (pch : Fin 32) (waiting : Bool) (upsets : Upsets) (s : State) : Host.Outcome State Fault Refusal :=
  .next (s.seal (State.settle (s.refreshDue n.val pch.val waiting upsets)))

/-- SCRUB_LINE (R98). -/
def execScrubLine (n : BayId) (errs : Syms) (s : State) : Host.Outcome State Fault Refusal :=
  .next (s.seal (State.settle (s.scrubLine n.val errs)))

/-- PAGE_TIMEOUT (R92). -/
def execPageTimeout (n : BayId) (pch : Fin 32) (bank : Fin 32) (s : State) : Host.Outcome State Fault Refusal :=
  .next (s.seal (s.closeRow n.val pch.val bank.val))

/-- AGE_CAP_REACHED (R92). -/
def execAgeCapReached (n : BayId) (pch : Fin 32) (s : State) : Host.Outcome State Fault Refusal := .next (s.seal (s.ageCap n.val pch.val))

/-- STACK_TEMP_SAMPLE (R558). -/
def execStackTempSample (n : BayId) (dram : List (BitVec 8)) (base : BitVec 8) (s : State) : Host.Outcome State Fault Refusal :=
  .next (s.seal (State.settle (s.tempSample n.val dram base)))

/-- TRAY_CFG_WRITE (R110). -/
def execTrayCfgWrite (value : Word) (s : State) : Host.Outcome State Fault Refusal :=
  .next (s.seal (s.trayCfgWrite value.toNat))

/-- TCMP (R203). -/
def execTcmp (p : PortId) (t : TrayCmp) (s : State) : Host.Outcome State Fault Refusal :=
  .next (s.seal (State.settle (s.trayCmp p.val { t with data := [] })))

/-- TCMP_D (R203). -/
def execTcmpD (p : PortId) (t : TrayCmp) (s : State) : Host.Outcome State Fault Refusal :=
  .next (s.seal (State.settle (s.trayCmp p.val t)))

/-- TRAY_SCRUB_ISSUE (R205). -/
def execTrayScrubIssue (n : BayId) (slot : Fin 48) (s : State) : Host.Outcome State Fault Refusal :=
  .next (s.seal (State.settle (s.trayScrub n.val slot.val)))

/-- WIN_ENABLE (R116). -/
def execWinEnable (value : Word) (s : State) : Host.Outcome State Fault Refusal := .next (s.seal (s.winCfgWrite value))

/-- STREAM_BLOCK_READ_DONE (R118). -/
def execStreamBlockReadDone (t : TaskRef) (off : Nat) (s : State) : Host.Outcome State Fault Refusal :=
  .next (s.seal (State.settle (s.streamBlockDone t off)))

/-- STREAM_SEND_DONE (R117). -/
def execStreamSendDone (t : TaskRef) (s : State) : Host.Outcome State Fault Refusal :=
  .next (s.seal (State.settle (s.streamSent t)))

end Sys2Proof.Machine
end

