-- ==== Sys2Proof/Machine/ExecDeck.lean ====
section
/-!
DEFINITION. Machine/ExecDeck.lean: the commands of the Deck: landing queues, limits, policers, flushes, sampling (R121-R150), one meaning each.
-/
namespace Sys2Proof.Machine

open Sys2Proof

/-- LANDING_QUEUE_ADMIT (R126). -/
def execLandingQueueAdmit (p : PortId) (vc : Fin 8) (path : Option PathErr) (s : State) : Host.Outcome State Fault Refusal :=
  .next (s.seal (State.settle (s.landingAdmit p.val vc.val path)))

/-- LIMIT_WRITE (R127). -/
def execLimitWrite (g : GroupId) (which : LimitReg) (value : Word) (s : State) : Host.Outcome State Fault Refusal :=
  .next (s.seal (s.atPage (pgPort g.val) which.reg which.elem (fun s => s.limitWrite g.val which value)))

/-- POL_WRITE (R134). -/
def execPolWrite (g : GroupId) (index : BitVec 16) (s : State) : Host.Outcome State Fault Refusal :=
  .next (s.seal (s.atPage (pgPort g.val) Reg.Port.POL_CMD 0 (fun s => s.unlessBusy (pgPort g.val) Reg.Port.POL_STAT (fun s => s.polWrite g.val index.toNat))))

/-- POL_READ (R134). -/
def execPolRead (g : GroupId) (index : BitVec 16) (s : State) : Host.Outcome State Fault Refusal :=
  .next (s.seal (s.atPage (pgPort g.val) Reg.Port.POL_CMD 0 (fun s => s.unlessBusy (pgPort g.val) Reg.Port.POL_STAT (fun s => s.polRead g.val index.toNat))))

/-- POL_CNT_READ (R147). -/
def execPolCntRead (g : GroupId) (index : BitVec 16) (s : State) : Host.Outcome State Fault Refusal :=
  .next (s.seal (s.atPage (pgPort g.val) Reg.Port.POL_CMD 0 (fun s => s.unlessBusy (pgPort g.val) Reg.Port.POL_STAT (fun s => s.polCounters g.val index.toNat))))

/-- POL_MAP_WRITE (R134). -/
def execPolMapWrite (g : GroupId) (index : BitVec 16) (s : State) : Host.Outcome State Fault Refusal :=
  .next (s.seal (s.atPage (pgPort g.val) Reg.Port.POL_CMD 0 (fun s => s.unlessBusy (pgPort g.val) Reg.Port.POL_STAT (fun s => s.polMapWrite g.val index.toNat))))

/-- POL_MAP_READ (R134). -/
def execPolMapRead (g : GroupId) (index : BitVec 16) (s : State) : Host.Outcome State Fault Refusal :=
  .next (s.seal (s.atPage (pgPort g.val) Reg.Port.POL_CMD 0 (fun s => s.unlessBusy (pgPort g.val) Reg.Port.POL_STAT (fun s => s.polMapRead g.val index.toNat))))

/-- ARB_MISMATCH (R133). -/
def execArbMismatch (slice : Fin 5) (again : Bool) (s : State) : Host.Outcome State Fault Refusal :=
  .next (s.seal (State.settle (s.arbMismatch slice.val again)))

/-- STUCK_REPORT (R137). -/
def execStuckReport (inp : Fin 53) (out : Fin 53) (tc : BitVec 3) (cls : Fin 4) (s : State) : Host.Outcome State Fault Refusal :=
  .next (s.seal (s.stuckReport inp.val out.val tc.toNat cls.val))

/-- ADMIN_DOWN_WRITE (R138). -/
def execAdminDownWrite (dp : Fin 53) (down : Bool) (s : State) : Host.Outcome State Fault Refusal :=
  .next (s.seal (State.settle (s.atPage (pgPort dp.val) Reg.Port.PORT_CTRL 0 (fun s => s.adminWrite dp.val down))))

/-- FLUSH_END (R138). -/
def execFlushEnd (u : FlushUnit) (s : State) : Host.Outcome State Fault Refusal := .next (s.seal (State.settle (s.flushEnd u)))

/-- HIST_SAMPLE (R146). -/
def execHistSample (g : GroupId) (s : State) : Host.Outcome State Fault Refusal := .next (s.seal (s.histSample g.val))

/-- HIST_CLR (R149). -/
def execHistClr (g : GroupId) (value : Word) (s : State) : Host.Outcome State Fault Refusal :=
  .next (s.seal (s.atPage (pgHist g.val) Reg.Hist.HIST_CLR 0 (fun s => if bit value 0 then s.histClear g.val else s)))

/-- SMP_ENABLE (R145). -/
def execSmpEnable (overwrite : Bool) (s : State) : Host.Outcome State Fault Refusal := .next (s.seal (s.smpEnable overwrite))

/-- SAMPLE_CFG_WRITE (R143). -/
def execSampleCfgWrite (dp : Fin 53) (c : Fin 8) (value : Word) (s : State) : Host.Outcome State Fault Refusal :=
  .next (s.seal (s.atPage (pgPort dp.val) Reg.Port.SAMPLE_CFG c.val (fun s => s.sampleCfg dp.val c.val value)))

/-- TC_MODE_WRITE (R132). -/
def execTcModeWrite (value : Word) (s : State) : Host.Outcome State Fault Refusal := .next (s.seal (s.tcMode value))

end Sys2Proof.Machine
end

