-- ==== Sys2Proof/Machine/ExecPier.lean ====
section
/-!
DEFINITION. Machine/ExecPier.lean: the commands of the Piers and the Jargar Link (R151-R183), one meaning each.
-/
namespace Sys2Proof.Machine

open Sys2Proof

/-- PIER_CFG_WRITE (R154). -/
def execPierCfgWrite (p : PierId) (value : Word) (s : State) : Host.Outcome State Fault Refusal :=
  .next (s.seal (State.settle (s.atPage (pgPier p.val) Reg.Pier.PIER_CFG 0 (fun s => s.pierCfgWrite p.val value))))

/-- LINK_DISABLE_WRITE (R169). -/
def execLinkDisableWrite (p : PortId) (disable : Bool) (s : State) : Host.Outcome State Fault Refusal :=
  .next (s.seal (State.settle (s.atPage (pgPier (p.val / 4)) Reg.Pier.LINK_CTRL (p.val % 4) (fun s => s.linkDisable p.val disable))))

/-- SIGNAL_PRESENT (R169). -/
def execSignalPresent (p : PortId) (s : State) : Host.Outcome State Fault Refusal :=
  .next (s.seal (State.settle (s.signalPresent p.val)))

/-- LOSS_OF_SIGNAL (R169). -/
def execLossOfSignal (p : PortId) (lanes : List (Fin 9)) (s : State) : Host.Outcome State Fault Refusal :=
  .next (s.seal (State.settle (s.signalLost p.val (lanes.map (fun k => k.val)))))

/-- EQUALIZE_DONE (R152). -/
def execEqualizeDone (p : PortId) (s : State) : Host.Outcome State Fault Refusal :=
  .next (s.seal (State.settle (s.equalizeDone p.val)))

/-- LOCK_END_MARKER (R156). -/
def execLockEndMarker (p : PortId) (marks : List (BitVec 120)) (skew clean : Nat) (s : State) : Host.Outcome State Fault Refusal :=
  .next (s.seal (State.settle (s.lockEnd p.val marks skew clean)))

/-- LINK_STATE_TIMEOUT (R169). -/
def execLinkStateTimeout (p : PortId) (s : State) : Host.Outcome State Fault Refusal :=
  .next (s.seal (State.settle (s.linkTimeout p.val)))

/-- DATA_FLIT (R166). -/
def execDataFlit (p : PortId) (f : Flit) (s : State) : Host.Outcome State Fault Refusal :=
  .next (s.seal (State.settle (s.dataFlit p.val f)))

/-- SECURED_FLIT (R175). -/
def execSecuredFlit (p : PortId) (f : Flit) (s : State) : Host.Outcome State Fault Refusal :=
  .next (s.seal (State.settle (s.securedFlit p.val f)))

/-- IDLE_FLIT (R166). -/
def execIdleFlit (p : PortId) (f : Flit) (s : State) : Host.Outcome State Fault Refusal :=
  .next (s.seal (State.settle (s.idleFlit p.val f)))

/-- IDENTIFY (R171). -/
def execIdentify (p : PortId) (f : Flit) (s : State) : Host.Outcome State Fault Refusal :=
  .next (s.seal (State.settle (s.ctrlFlit p.val f)))

/-- IDENTIFY_ACK (R171). -/
def execIdentifyAck (p : PortId) (f : Flit) (s : State) : Host.Outcome State Fault Refusal :=
  .next (s.seal (State.settle (s.ctrlFlit p.val f)))

/-- IDENTIFY_RESEND (R171). -/
def execIdentifyResend (p : PortId) (s : State) : Host.Outcome State Fault Refusal := .next (s.seal (State.settle (s.resendIdentify p.val)))

/-- KEY_SHARE (R174). -/
def execKeyShare (p : PortId) (f : Flit) (s : State) : Host.Outcome State Fault Refusal :=
  .next (s.seal (State.settle (s.ctrlFlit p.val f)))

/-- KEY_SHARE_RESEND (R174). -/
def execKeyShareResend (p : PortId) (s : State) : Host.Outcome State Fault Refusal := .next (s.seal (State.settle (s.resendShare p.val)))

/-- NAK_TIMEOUT_EXPIRY (R168). -/
def execNakTimeoutExpiry (p : PortId) (s : State) : Host.Outcome State Fault Refusal := .next (s.seal (State.settle (s.nakTimeout p.val)))

/-- ACK_TIMEOUT_EXPIRY (R168). -/
def execAckTimeoutExpiry (p : PortId) (s : State) : Host.Outcome State Fault Refusal := .next (s.seal (State.settle (s.ackTimeout p.val)))

/-- PROGRESS_TIMEOUT_EXPIRY (R168). -/
def execProgressTimeoutExpiry (p : PortId) (s : State) : Host.Outcome State Fault Refusal :=
  .next (s.seal (State.settle (s.progressTimeout p.val)))

/-- LANE_FAILURE (R176). -/
def execLaneFailure (p : PortId) (lane : Fin 9) (s : State) : Host.Outcome State Fault Refusal :=
  .next (s.seal (State.settle (s.laneOver p.val lane.val)))

/-- SPARE_REQ (R176). -/
def execSpareReq (p : PortId) (f : Flit) (s : State) : Host.Outcome State Fault Refusal :=
  .next (s.seal (State.settle (s.ctrlFlit p.val f)))

/-- SPARE_ACK (R176). -/
def execSpareAck (p : PortId) (f : Flit) (s : State) : Host.Outcome State Fault Refusal :=
  .next (s.seal (State.settle (s.ctrlFlit p.val f)))

/-- SPARE_DONE (R176). -/
def execSpareDone (p : PortId) (f : Flit) (s : State) : Host.Outcome State Fault Refusal :=
  .next (s.seal (State.settle (s.ctrlFlit p.val f)))

/-- SPARE_REQ_RESEND (R176). -/
def execSpareReqResend (p : PierId) (s : State) : Host.Outcome State Fault Refusal := .next (s.seal (State.settle (s.spareResend p.val)))

/-- SPARE_TIMEOUT (R176). -/
def execSpareTimeout (p : PierId) (s : State) : Host.Outcome State Fault Refusal :=
  .next (s.seal (State.settle (s.spareTimeout p.val)))

/-- PIER_MARGIN_START (R48). -/
def execPierMarginStart (p : PierId) (value : Word) (s : State) : Host.Outcome State Fault Refusal :=
  .next (s.seal (s.atPage (pgPier p.val) Reg.Pier.MARGIN_CMD 0 (fun s => s.pierMargin p.val value)))

/-- ADMIT_READY_WRITE (R170). -/
def execAdmitReadyWrite (ready : Bool) (s : State) : Host.Outcome State Fault Refusal :=
  .next (s.seal (State.settle (s.admitReady ready)))

end Sys2Proof.Machine
end

