-- ==== Sys2Proof/Machine/ExecTrestle.lean ====
section
/-!
DEFINITION. Machine/ExecTrestle.lean: the commands of device-unit completions, Trestles, routes and multicast entries (R196-R219, R250), one meaning each.
-/
namespace Sys2Proof.Machine

open Sys2Proof

/-- UNIT_COMPLETION (R250). -/
def execUnitCompletion (id : Nat) (s : State) : Host.Outcome State Fault Refusal :=
  .next (s.seal (State.settle (s.unitCompletion id)))

/-- BULK (R214). -/
def execBulk (p : PortId) (b : Bulk) (s : State) : Host.Outcome State Fault Refusal :=
  .next (s.seal (State.settle (s.arrive p.val (.bulk b) .clean)))

/-- TRESTLE_RECORD_DONE (R214). -/
def execTrestleRecordDone (span : SpanId) (xfer : Nat) (s : State) : Host.Outcome State Fault Refusal :=
  .next (s.seal (State.settle (s.recordsDone span.val xfer)))

/-- BULK_RSP (R215). -/
def execBulkRsp (p : PortId) (b : BulkRsp) (s : State) : Host.Outcome State Fault Refusal :=
  .next (s.seal (State.settle (s.arrive p.val (.bulkRsp b) .clean)))

/-- TRANSFER_COALESCE_EXPIRE (R208). -/
def execTransferCoalesceExpire (span : SpanId) (flow : Nat) (dest : NodeId) (trunk : PortId) (s : State) : Host.Outcome State Fault Refusal :=
  .next (s.seal (State.settle (s.coalesced span.val flow dest trunk.val)))

/-- TRESTLE_REMAP_DONE (R213). -/
def execTrestleRemapDone (span : SpanId) (group : Fin 16) (s : State) : Host.Outcome State Fault Refusal :=
  .next (s.seal (State.settle (s.endRemap span.val group.val)))

/-- ROUTE_WRITE (R217). -/
def execRouteWrite (index : BitVec 16) (s : State) : Host.Outcome State Fault Refusal :=
  .next (s.seal (State.settle (s.unlessBusy (pgOfHub Reg.Route.ROUTE_STAT) Reg.Route.ROUTE_STAT (fun s => s.routeWrite index.toNat))))

/-- ROUTE_READ (R217). -/
def execRouteRead (index : BitVec 16) (s : State) : Host.Outcome State Fault Refusal := .next (s.seal (s.unlessBusy (pgOfHub Reg.Route.ROUTE_STAT) Reg.Route.ROUTE_STAT (fun s => s.routeRead index.toNat)))

/-- TRUNK_GROUP_WRITE (R217). -/
def execTrunkGroupWrite (index : BitVec 16) (s : State) : Host.Outcome State Fault Refusal :=
  .next (s.seal (State.settle (s.unlessBusy (pgOfHub Reg.Route.ROUTE_STAT) Reg.Route.ROUTE_STAT (fun s => s.trunkWrite index.toNat))))

/-- TRUNK_GROUP_READ (R217). -/
def execTrunkGroupRead (index : BitVec 16) (s : State) : Host.Outcome State Fault Refusal :=
  .next (s.seal (s.unlessBusy (pgOfHub Reg.Route.ROUTE_STAT) Reg.Route.ROUTE_STAT (fun s => s.trunkRead index.toNat)))

/-- MC_ENTRY_WRITE (R218). -/
def execMcEntryWrite (index : BitVec 16) (s : State) : Host.Outcome State Fault Refusal :=
  .next (s.seal (s.unlessBusy (pgOfHub Reg.Mcast.MC_STAT) Reg.Mcast.MC_STAT (fun s => s.mcWrite index.toNat)))

/-- MC_ENTRY_READ (R218). -/
def execMcEntryRead (index : BitVec 16) (s : State) : Host.Outcome State Fault Refusal := .next (s.seal (s.unlessBusy (pgOfHub Reg.Mcast.MC_STAT) Reg.Mcast.MC_STAT (fun s => s.mcRead index.toNat)))

/-- MC_ENTRY_DISABLE (R218). -/
def execMcEntryDisable (index : BitVec 16) (s : State) : Host.Outcome State Fault Refusal :=
  .next (s.seal (s.unlessBusy (pgOfHub Reg.Mcast.MC_STAT) Reg.Mcast.MC_STAT (fun s => s.mcDisable index.toNat)))

end Sys2Proof.Machine
end

