-- ==== Sys2Proof/Machine/ExecTime.lean ====
section
/-!
DEFINITION. Machine/ExecTime.lean: the commands of Fabric Time, its exchanges, stamps and gate lists (R361-R374, R541), one meaning each.
-/
namespace Sys2Proof.Machine

open Sys2Proof

/-- TIME_X_REQ (R364). -/
def execTimeXReq (p : PortId) (t : TimeX) (s : State) : Host.Outcome State Fault Refusal :=
  .next (s.seal (State.settle (s.arrive p.val (.timeX { t with kind := .req }) .clean)))

/-- TIME_X_RSP (R364). -/
def execTimeXRsp (p : PortId) (t : TimeX) (s : State) : Host.Outcome State Fault Refusal :=
  .next (s.seal (State.settle (s.arrive p.val (.timeX { t with kind := .rsp }) .clean)))

/-- TIME_X_FUP (R364). -/
def execTimeXFup (p : PortId) (t : TimeX) (s : State) : Host.Outcome State Fault Refusal :=
  .next (s.seal (State.settle (s.arrive p.val (.timeX { t with kind := .fup }) .clean)))

/-- TIME_EXCHANGE_START (R364). -/
def execTimeExchangeStart (s : State) : Host.Outcome State Fault Refusal := .next (s.seal (State.settle (s.exchStart)))

/-- TIME_EXCHANGE_FAIL (R364). -/
def execTimeExchangeFail (s : State) : Host.Outcome State Fault Refusal := .next (s.seal (State.settle (s.exchTimeout)))

/-- TIME_SET (R373). -/
def execTimeSet (s : State) : Host.Outcome State Fault Refusal := .next (s.seal (State.settle (s.timeSet)))

/-- TIME_ADJUST (R365). -/
def execTimeAdjust (s : State) : Host.Outcome State Fault Refusal := .next (s.seal (State.settle (s.timeAdjust)))

/-- STAMP_INFO_READ (R374). -/
def execStampInfoRead (m : Master) (p : PierId) (s : State) : Host.Outcome State Fault Refusal :=
  .next (s.seal (s.rcRead m (pgPier p.val) Reg.Pier.STAMP_INFO))

/-- GATE_LIST_LOAD (R368). -/
def execGateListLoad (t : TaskRef) (s : State) : Host.Outcome State Fault Refusal :=
  .next (s.seal (State.settle (s.gateLoad t)))

/-- GATE_LIST_ACTIVATE (R369). -/
def execGateListActivate (p : PierId) (c : Fin 8) (s : State) : Host.Outcome State Fault Refusal :=
  .next (s.seal (State.settle (s.gateActivate p.val c.val)))

/-- GATE_ENTRY_ADVANCE (R367). -/
def execGateEntryAdvance (p : PierId) (c : Fin 8) (s : State) : Host.Outcome State Fault Refusal :=
  .next (s.seal (State.settle (s.gateAdvance p.val c.val)))

/-- PPS_PULSE (R541). -/
def execPpsPulse (s : State) : Host.Outcome State Fault Refusal := .next (s.seal s.ppsPulse)

end Sys2Proof.Machine
end

