-- ==== Sys2Proof/Machine/ExecCollect.lean ====
section
/-!
DEFINITION. Machine/ExecCollect.lean: the commands of declarations, reductions and the collective steps (R220-R246), one meaning each.
-/
namespace Sys2Proof.Machine

open Sys2Proof

/-- DECL_DECLARE (R229). -/
def execDeclDeclare (s : State) : Host.Outcome State Fault Refusal := .next (s.seal (State.settle (s.declDeclare)))

/-- DECL_CANCEL (R233). -/
def execDeclCancel (rid : BitVec 16) (s : State) : Host.Outcome State Fault Refusal :=
  .next (s.seal (State.settle (s.declCancel rid.toNat)))

/-- DECL_QUERY (R246). -/
def execDeclQuery (rid : BitVec 16) (s : State) : Host.Outcome State Fault Refusal := .next (s.seal (s.declQuery rid.toNat))

/-- DECL_INSTALLED (R229). -/
def execDeclInstalled (rid : BitVec 16) (s : State) : Host.Outcome State Fault Refusal :=
  .next (s.seal (State.settle (s.declInstalled rid.toNat)))

/-- QUOTA_APPLY (R228). -/
def execQuotaApply (s : State) : Host.Outcome State Fault Refusal := .next (s.seal s.quotaApply)

/-- REDUCTION_TIMEOUT (R233). -/
def execReductionTimeout (n : BayId) (rid : BitVec 16) (s : State) : Host.Outcome State Fault Refusal :=
  .next (s.seal (State.settle (s.redTimeout n.val rid.toNat)))

/-- RID_HOLD_EXPIRY (R233). -/
def execRidHoldExpiry (n : BayId) (e : HeldId) (s : State) : Host.Outcome State Fault Refusal :=
  .next (s.seal (State.settle (match e with | .rid id => s.ridHold n.val id.toNat | .comb id => s.combHold id.toNat)))

/-- REDUCE_STEP (R238). -/
def execReduceStep (t : TaskRef) (s : State) : Host.Outcome State Fault Refusal :=
  .next (s.seal (State.settle (s.reduceStep t)))

/-- BROADCAST_STEP (R239). -/
def execBroadcastStep (t : TaskRef) (s : State) : Host.Outcome State Fault Refusal :=
  .next (s.seal (State.settle (s.bcastStep t)))

end Sys2Proof.Machine
end

