-- ==== Sys2Proof/Machine/ExecHeddle.lean ====
section
/-!
DEFINITION. Machine/ExecHeddle.lean: the commands of Heddle tasks, tables and row migrations (R247-R280), one meaning each.
-/
namespace Sys2Proof.Machine

open Sys2Proof

/-- GATHER_BATCH (R258). -/
def execGatherBatch (t : TaskRef) (s : State) : Host.Outcome State Fault Refusal :=
  .next (s.seal (State.settle (s.hedStart t 3)))

/-- UPDATE_BATCH (R263). -/
def execUpdateBatch (t : TaskRef) (s : State) : Host.Outcome State Fault Refusal :=
  .next (s.seal (State.settle (s.hedStart t 4)))

/-- FILTER_TASK (R275). -/
def execFilterTask (t : TaskRef) (s : State) : Host.Outcome State Fault Refusal :=
  .next (s.seal (State.settle (s.hedStart t 5)))

/-- HEDDLE_SORT_DONE (R258). -/
def execHeddleSortDone (t : TaskRef) (s : State) : Host.Outcome State Fault Refusal :=
  .next (s.seal (State.settle (s.sortDone t)))

/-- ROW_FETCH_DONE (R260). -/
def execRowFetchDone (t : TaskRef) (i : Nat) (s : State) : Host.Outcome State Fault Refusal :=
  .next (s.seal (State.settle (s.fetchDone t i)))

/-- ROW_UPDATE (R262). -/
def execRowUpdate (id : Nat) (s : State) : Host.Outcome State Fault Refusal := .next (s.seal (State.settle (s.rowUpdate id)))

/-- FILTER_SCAN_DONE (R275). -/
def execFilterScanDone (t : TaskRef) (n : BayId) (s : State) : Host.Outcome State Fault Refusal :=
  .next (s.seal (State.settle (s.scanDone t n.val)))

/-- TBL_INSTALL (R251). -/
def execTblInstall (comp : CompId) (tid : BitVec 12) (s : State) : Host.Outcome State Fault Refusal :=
  .next (s.seal (State.settle (s.tblInstall comp.val tid.toNat)))

/-- TBL_WITHDRAW (R251). -/
def execTblWithdraw (comp : CompId) (tid : BitVec 12) (s : State) : Host.Outcome State Fault Refusal :=
  .next (s.seal (State.settle (s.tblWithdraw comp.val tid.toNat)))

/-- TBL_QUERY (R278). -/
def execTblQuery (comp : CompId) (tid : BitVec 12) (s : State) : Host.Outcome State Fault Refusal :=
  .next (s.seal (s.tblQuery comp.val tid.toNat))

/-- RET_POP_READ (R251). -/
def execRetPopRead (m : Master) (s : State) : Host.Outcome State Fault Refusal :=
  .next (s.seal (s.rcRead m pgHReg Reg.HReg.RET_POP))

/-- MIG_MODE_WRITE (R269). -/
def execMigModeWrite (value : Word) (s : State) : Host.Outcome State Fault Refusal := .next (s.seal (s.migWrite value))

/-- SKEW_WINDOW_END (R270). -/
def execSkewWindowEnd (s : State) : Host.Outcome State Fault Refusal := .next (s.seal (State.settle (s.skewEnd)))

/-- MIGRATION_COPY (R271). -/
def execMigrationCopy (id : Nat) (s : State) : Host.Outcome State Fault Refusal := .next (s.seal (State.settle (s.migCopy id)))

/-- MIGRATION_COPY_DONE (R271). -/
def execMigrationCopyDone (id : Nat) (s : State) : Host.Outcome State Fault Refusal :=
  .next (s.seal (State.settle (s.migCopied id)))

/-- MIGRATION_COMMIT (R271). -/
def execMigrationCommit (id : Nat) (s : State) : Host.Outcome State Fault Refusal :=
  .next (s.seal (State.settle (s.migCommit id)))

/-- MIGRATION_ABORT (R271). -/
def execMigrationAbort (id : Nat) (s : State) : Host.Outcome State Fault Refusal :=
  .next (s.seal (State.settle (s.migAbort id)))

end Sys2Proof.Machine
end

