-- ==== Sys2Proof/Machine/ExecSpindle.lean ====
section
/-!
DEFINITION. Machine/ExecSpindle.lean: the commands of Spindles: launches, cores, streams, combines, code tables (R281-R337, R486), one meaning each.
-/
namespace Sys2Proof.Machine

open Sys2Proof

/-- SPINDLE_LAUNCH (R301). -/
def execSpindleLaunch (t : TaskRef) (s : State) : Host.Outcome State Fault Refusal :=
  .next (s.seal (State.settle (s.spLaunch t)))

/-- FENCE_STAGE_DONE (R307). -/
def execFenceStageDone (t : TaskRef) (s : State) : Host.Outcome State Fault Refusal :=
  .next (s.seal (State.settle (s.fenceStage t)))

/-- CORE_INSTRUCTION (R281). -/
def execCoreInstruction (n : BayId) (k : Fin 64) (e : SramErr) (s : State) : Host.Outcome State Fault Refusal :=
  .next (s.seal (State.settle (s.coreStep n.val k.val e)))

/-- SPINDLE_LOAD_STORE (R283). -/
def execSpindleLoadStore (n : BayId) (k : Fin 64) (syms : Syms) (s : State) : Host.Outcome State Fault Refusal :=
  .next (s.seal (State.settle (s.regionAccess n.val k.val syms)))

/-- SF_ADD (R288). -/
def execSfAdd (n : BayId) (k : Fin 64) (rd rs1 rs2 : Fin 32) (s : State) : Host.Outcome State Fault Refusal :=
  .next (s.seal (State.settle (s.coreGiven n.val k.val (fun s => s.coreSf n.val k.val .add rd.val rs1.val rs2.val))))

/-- SF_SUB (R288). -/
def execSfSub (n : BayId) (k : Fin 64) (rd rs1 rs2 : Fin 32) (s : State) : Host.Outcome State Fault Refusal :=
  .next (s.seal (State.settle (s.coreGiven n.val k.val (fun s => s.coreSf n.val k.val .sub rd.val rs1.val rs2.val))))

/-- SF_MUL (R288). -/
def execSfMul (n : BayId) (k : Fin 64) (rd rs1 rs2 : Fin 32) (s : State) : Host.Outcome State Fault Refusal :=
  .next (s.seal (State.settle (s.coreGiven n.val k.val (fun s => s.coreSf n.val k.val .mul rd.val rs1.val rs2.val))))

/-- SF_MAX (R288). -/
def execSfMax (n : BayId) (k : Fin 64) (rd rs1 rs2 : Fin 32) (s : State) : Host.Outcome State Fault Refusal :=
  .next (s.seal (State.settle (s.coreGiven n.val k.val (fun s => s.coreSf n.val k.val .max rd.val rs1.val rs2.val))))

/-- SF_MIN (R288). -/
def execSfMin (n : BayId) (k : Fin 64) (rd rs1 rs2 : Fin 32) (s : State) : Host.Outcome State Fault Refusal :=
  .next (s.seal (State.settle (s.coreGiven n.val k.val (fun s => s.coreSf n.val k.val .min rd.val rs1.val rs2.val))))

/-- SF_LT (R288). -/
def execSfLt (n : BayId) (k : Fin 64) (rd rs1 rs2 : Fin 32) (s : State) : Host.Outcome State Fault Refusal :=
  .next (s.seal (State.settle (s.coreGiven n.val k.val (fun s => s.coreSf n.val k.val .lt rd.val rs1.val rs2.val))))

/-- SF_EXP2 (R297). -/
def execSfExp2 (n : BayId) (k : Fin 64) (rd rs : Fin 32) (s : State) : Host.Outcome State Fault Refusal :=
  .next (s.seal (State.settle (s.coreGiven n.val k.val (fun s => s.coreSf n.val k.val .exp2 rd.val rs.val 0))))

/-- SF_RCP (R298). -/
def execSfRcp (n : BayId) (k : Fin 64) (rd rs : Fin 32) (s : State) : Host.Outcome State Fault Refusal :=
  .next (s.seal (State.settle (s.coreGiven n.val k.val (fun s => s.coreSf n.val k.val .rcp rd.val rs.val 0))))

/-- SF_CVT (R288). -/
def execSfCvt (n : BayId) (k : Fin 64) (rd rs : Fin 32) (fmt : Fin 4) (s : State) : Host.Outcome State Fault Refusal :=
  .next (s.seal (State.settle (s.coreGiven n.val k.val (fun s => s.coreSf n.val k.val (.cvt (fmt.val + 1)) rd.val rs.val 0))))

/-- SF_FROMI (R288). -/
def execSfFromi (n : BayId) (k : Fin 64) (rd rs : Fin 32) (s : State) : Host.Outcome State Fault Refusal :=
  .next (s.seal (State.settle (s.coreGiven n.val k.val (fun s => s.coreSf n.val k.val .fromi rd.val rs.val 0))))

/-- SF_TOI (R288). -/
def execSfToi (n : BayId) (k : Fin 64) (rd rs : Fin 32) (s : State) : Host.Outcome State Fault Refusal :=
  .next (s.seal (State.settle (s.coreGiven n.val k.val (fun s => s.coreSf n.val k.val .toi rd.val rs.val 0))))

/-- DS_START (R292). -/
def execDsStart (n : BayId) (k : Fin 64) (rd rs : Fin 32) (s : State) : Host.Outcome State Fault Refusal :=
  .next (s.seal (State.settle (s.coreGiven n.val k.val (fun s => s.coreStart n.val k.val rd.val rs.val))))

/-- DS_WAIT (R292). -/
def execDsWait (n : BayId) (k : Fin 64) (rd rs : Fin 32) (s : State) : Host.Outcome State Fault Refusal :=
  .next (s.seal (State.settle (s.coreGiven n.val k.val (fun s => s.coreWait n.val k.val rd.val rs.val))))

/-- DS_POLL (R292). -/
def execDsPoll (n : BayId) (k : Fin 64) (rd rs : Fin 32) (s : State) : Host.Outcome State Fault Refusal :=
  .next (s.seal (State.settle (s.coreGiven n.val k.val (fun s => s.corePoll n.val k.val rd.val rs.val))))

/-- SP_EXIT (R302). -/
def execSpExit (n : BayId) (k : Fin 64) (rs : Fin 32) (s : State) : Host.Outcome State Fault Refusal :=
  .next (s.seal (State.settle (s.coreGiven n.val k.val (fun s => s.coreExit n.val k.val rs.val))))

/-- SP_RDCNT (R289). -/
def execSpRdcnt (n : BayId) (k : Fin 64) (rd : Fin 32) (idx : BitVec 12) (s : State) : Host.Outcome State Fault Refusal :=
  .next (s.seal (State.settle (s.coreGiven n.val k.val (fun s => s.coreRdcnt n.val k.val rd.val idx.toNat))))

/-- QLOAD (R291). -/
def execQload (n : BayId) (k : Fin 64) (e : SramErr) (s : State) : Host.Outcome State Fault Refusal :=
  .next (s.seal (State.settle (s.sramGot n.val k.val 0 e (fun s => s.qload n.val k.val))))

/-- SCORE (R293). -/
def execScore (n : BayId) (k : Fin 64) (e : StreamErrs) (s : State) : Host.Outcome State Fault Refusal :=
  .next (s.seal (State.settle (s.dotStream n.val k.val 1 (fun d => State.scoreRow n.val k.val d) e)))

/-- AXPY (R293). -/
def execAxpy (n : BayId) (k : Fin 64) (e : StreamErrs) (s : State) : Host.Outcome State Fault Refusal :=
  .next (s.seal (State.settle (s.dotStream n.val k.val 2 (fun d => State.axpyRow n.val k.val d) e)))

/-- VMAX (R293). -/
def execVmax (n : BayId) (k : Fin 64) (e : SramErr) (s : State) : Host.Outcome State Fault Refusal :=
  .next (s.seal (State.settle (s.sramGot n.val k.val 3 e (fun s => s.vmax n.val k.val))))

/-- VEXPS (R293). -/
def execVexps (n : BayId) (k : Fin 64) (e : SramErr) (s : State) : Host.Outcome State Fault Refusal :=
  .next (s.seal (State.settle (s.sramGot n.val k.val 4 e (fun s => s.vexps n.val k.val))))

/-- OCLR (R291). -/
def execOclr (n : BayId) (k : Fin 64) (s : State) : Host.Outcome State Fault Refusal :=
  .next (s.seal (State.settle (s.oclr n.val k.val)))

/-- OSCALE (R293). -/
def execOscale (n : BayId) (k : Fin 64) (e : SramErr) (s : State) : Host.Outcome State Fault Refusal :=
  .next (s.seal (State.settle (s.sramGot n.val k.val 6 e (fun s => s.oscale n.val k.val))))

/-- OSTORE (R291). -/
def execOstore (n : BayId) (k : Fin 64) (s : State) : Host.Outcome State Fault Refusal :=
  .next (s.seal (State.settle (s.ostore n.val k.val)))

/-- COPY_IN (R291). -/
def execCopyIn (n : BayId) (k : Fin 64) (lines : List (Nat × Syms)) (s : State) : Host.Outcome State Fault Refusal :=
  .next (s.seal (State.settle (s.copyIn n.val k.val lines)))

/-- COPY_OUT (R309). -/
def execCopyOut (n : BayId) (k : Fin 64) (e : SramErr) (s : State) : Host.Outcome State Fault Refusal :=
  .next (s.seal (State.settle (s.sramGot n.val k.val 9 e (fun s => s.copyOut n.val k.val))))

/-- PUT (R291). -/
def execPutStream (n : BayId) (k : Fin 64) (e : SramErr) (s : State) : Host.Outcome State Fault Refusal :=
  .next (s.seal (State.settle (s.sramGot n.val k.val 10 e (fun s => s.put n.val k.val))))

/-- PARTIAL (R314). -/
def execPartialRec (n : BayId) (k : Fin 64) (e : SramErr) (s : State) : Host.Outcome State Fault Refusal :=
  .next (s.seal (State.settle (s.sramGot n.val k.val 11 e (fun s => s.sendPartial n.val k.val))))

/-- PARTIAL_ARRIVAL (R314). -/
def execPartialArrival (n : BayId) (k : Fin 64) (s : State) : Host.Outcome State Fault Refusal :=
  .next (s.seal (State.settle (s.partialArrival n.val k.val)))

/-- COMBINE_TIMEOUT (R315). -/
def execCombineTimeout (id : BitVec 16) (s : State) : Host.Outcome State Fault Refusal :=
  .next (s.seal (State.settle (s.combTimeout id.toNat)))

/-- PART_TIMEOUT (R302). -/
def execPartTimeout (n : BayId) (k : Fin 64) (s : State) : Host.Outcome State Fault Refusal :=
  .next (s.seal (State.settle (s.partTimeout n.val k.val)))

/-- SP_FENCE_WRITE (R304). -/
def execSpFenceWrite (n : BayId) (value : DWord) (s : State) : Host.Outcome State Fault Refusal :=
  .next (s.seal (State.settle (s.atPage (pgSp n.val) Reg.Sp.SP_FENCE 0 (fun s => s.spFenceWrite n.val value))))

/-- COMB_QUERY (R317). -/
def execCombQuery (id : BitVec 16) (s : State) : Host.Outcome State Fault Refusal := .next (s.seal (s.unlessBusy pgSpCtl Reg.SpCtl.COMB_STAT (fun s => s.combQuery id.toNat)))

/-- COMB_CANCEL (R315). -/
def execCombCancel (id : BitVec 16) (s : State) : Host.Outcome State Fault Refusal :=
  .next (s.seal (State.settle (s.unlessBusy pgSpCtl Reg.SpCtl.COMB_STAT (fun s => s.combCancel id.toNat))))

/-- KNOWN_ANSWER_TEST (R486). -/
def execKnownAnswerTest (n : BayId) (k : Fin 64) (s : State) : Host.Outcome State Fault Refusal :=
  .next (s.seal (State.settle (s.katDue n.val k.val)))

/-- KNOWN_ANSWER_TEST_DONE (R486). -/
def execKnownAnswerTestDone (n : BayId) (k : Fin 64) (pass : Bool) (s : State) : Host.Outcome State Fault Refusal :=
  .next (s.seal (State.settle (s.katDone n.val k.val pass)))

/-- CT_INSTALL (R326). -/
def execCtInstall (comp : CompId) (tid : BitVec 12) (s : State) : Host.Outcome State Fault Refusal :=
  .next (s.seal (State.settle (s.ctInstall comp.val tid.toNat)))

/-- CT_REMOVE (R326). -/
def execCtRemove (comp : CompId) (tid : BitVec 12) (s : State) : Host.Outcome State Fault Refusal :=
  .next (s.seal (s.ctRemove comp.val tid.toNat))

/-- CT_QUERY (R337). -/
def execCtQuery (comp : CompId) (tid : BitVec 12) (s : State) : Host.Outcome State Fault Refusal :=
  .next (s.seal (s.ctQuery comp.val tid.toNat))

end Sys2Proof.Machine
end

