-- ==== Sys2Proof/Machine/ExecTreadle.lean ====
section
/-!
DEFINITION. Machine/ExecTreadle.lean: the commands of the Treadle: Drafts and tasks (R338-R360), one meaning each.
-/
namespace Sys2Proof.Machine

open Sys2Proof

/-- R351: a NOP task ends with OK. -/
def State.nopTask (s : State) (t : TaskRef) : State :=
  match s.beginTask t 0 with
  | some (_, s) => s.report t .ok
  | none => s

/-- R118, R349: a task's end; with it a stream task's slots return to EMPTY. -/
def State.endOfTask (s : State) (t : TaskRef) : State :=
  let streams := match s.task t with | some x => decide (x.kind = 7) | none => false
  let told := s.trd.reports.any (fun r => r.1 = t)
  let s := s.taskEnd t
  if streams && told then s.streamRetire t else s

/-- DRAFT_SUBMIT (R345). -/
def execDraftSubmit (time : DWord) (s : State) : Host.Outcome State Fault Refusal :=
  .next (s.seal (State.settle (s.draftSubmit time)))

/-- DRAFT_LOAD_DONE (R346). -/
def execDraftLoadDone (s : State) : Host.Outcome State Fault Refusal := .next (s.seal (State.settle (s.draftLoaded)))

/-- DRAFT_TAKEOVER (R347). -/
def execDraftTakeover (s : State) : Host.Outcome State Fault Refusal := .next (s.seal (State.settle (s.takeover)))

/-- TRD_CANCEL_PENDING (R348). -/
def execTrdCancelPending (s : State) : Host.Outcome State Fault Refusal := .next (s.seal (s.dropPending 8))

/-- TRD_STOP_ACTIVE (R348). -/
def execTrdStopActive (s : State) : Host.Outcome State Fault Refusal := .next (s.seal (State.settle (s.stopDraft)))

/-- TASK_DISPATCH (R349). -/
def execTaskDispatch (s : State) : Host.Outcome State Fault Refusal := .next (s.seal (State.settle (s.dispatch State.hedBind)))

/-- SLOT_START (R349). -/
def execSlotStart (t : TaskRef) (s : State) : Host.Outcome State Fault Refusal := .next (s.seal (State.settle (s.slotStart t)))

/-- TASK_END (R349). -/
def execTaskEnd (t : TaskRef) (s : State) : Host.Outcome State Fault Refusal := .next (s.seal (State.settle (s.endOfTask t)))

/-- NOP_TASK (R351). -/
def execNopTask (t : TaskRef) (s : State) : Host.Outcome State Fault Refusal := .next (s.seal (State.settle (s.nopTask t)))

/-- MOVE_TASK (R352). -/
def execMoveTask (t : TaskRef) (s : State) : Host.Outcome State Fault Refusal := .next (s.seal (State.settle (s.moveTask t)))

/-- STREAM_TASK (R353). -/
def execStreamTask (t : TaskRef) (s : State) : Host.Outcome State Fault Refusal :=
  .next (s.seal (State.settle (s.streamTask t)))

/-- WAIT_ON_FLAG (R358). -/
def execWaitOnFlag (t : TaskRef) (s : State) : Host.Outcome State Fault Refusal :=
  .next (s.seal (State.settle (s.waitOnFlag t)))

/-- WAIT_FLAG_READ_DONE (R359). -/
def execWaitFlagReadDone (t : TaskRef) (s : State) : Host.Outcome State Fault Refusal :=
  .next (s.seal (State.settle (s.waitReadDone t)))

/-- WAIT_FLAG_POLL (R358). -/
def execWaitFlagPoll (t : TaskRef) (s : State) : Host.Outcome State Fault Refusal :=
  .next (s.seal (State.settle (s.waitPoll t)))

/-- WAIT_FLAG_TIMEOUT (R359). -/
def execWaitFlagTimeout (t : TaskRef) (s : State) : Host.Outcome State Fault Refusal :=
  .next (s.seal (State.settle (s.waitTimeout t)))

/-- SIGNAL_TASK (R360). -/
def execSignalTask (t : TaskRef) (s : State) : Host.Outcome State Fault Refusal :=
  .next (s.seal (State.settle (s.signalTask t)))

end Sys2Proof.Machine
end

