-- ==== Sys2Proof/Machine/ExecComp.lean ====
section
/-!
DEFINITION. Machine/ExecComp.lean: the commands of compositions, the next map, membership, range checks, revocation, meters (R375-R400), one meaning each.
-/
namespace Sys2Proof.Machine

open Sys2Proof

/-- COMP_CREATE (R376). -/
def execCompCreate (s : State) : Host.Outcome State Fault Refusal := .next (s.seal (State.settle (s.compCreate)))

/-- COMP_RELEASE (R377). -/
def execCompRelease (s : State) : Host.Outcome State Fault Refusal := .next (s.seal (State.settle (s.compRelease)))

/-- GRANT_WRITE (R379). -/
def execGrantWrite (which : GrantReg) (value : DWord) (s : State) : Host.Outcome State Fault Refusal :=
  .next (s.seal (s.grantWrite which value))

/-- MAP_SWITCH (R386). -/
def execMapSwitch (s : State) : Host.Outcome State Fault Refusal := .next (s.seal s.mapSwitch)

/-- MAP_SWITCH_FLIP (R386). -/
def execMapSwitchFlip (s : State) : Host.Outcome State Fault Refusal := .next (s.seal (State.settle (s.mapFlip)))

/-- MAP_DRAIN_END (R386). -/
def execMapDrainEnd (s : State) : Host.Outcome State Fault Refusal := .next (s.seal s.drainEnd)

/-- MAP_COPY (R384). -/
def execMapCopy (s : State) : Host.Outcome State Fault Refusal := .next (s.seal s.mapCopy)

/-- MAP_COPY_DONE (R384). -/
def execMapCopyDone (s : State) : Host.Outcome State Fault Refusal := .next (s.seal (State.settle (s.mapCopyDone)))

/-- MEMB_WRITE (R391). -/
def execMembWrite (index : BitVec 16) (s : State) : Host.Outcome State Fault Refusal := .next (s.seal (s.membWrite index.toNat))

/-- MEMB_READ (R391). -/
def execMembRead (index : BitVec 16) (s : State) : Host.Outcome State Fault Refusal := .next (s.seal (s.membRead index.toNat))

/-- RCT_WRITE (R392). -/
def execRctWrite (index : BitVec 16) (next : Bool) (s : State) : Host.Outcome State Fault Refusal :=
  .next (s.seal (s.rctCommand index.toNat next 1))

/-- RCT_READ (R392). -/
def execRctRead (index : BitVec 16) (next : Bool) (s : State) : Host.Outcome State Fault Refusal :=
  .next (s.seal (s.rctCommand index.toNat next 2))

/-- RCT_DISABLE (R392). -/
def execRctDisable (index : BitVec 16) (next : Bool) (s : State) : Host.Outcome State Fault Refusal :=
  .next (s.seal (s.rctCommand index.toNat next 3))

/-- RCT_COMMAND_COMPLETE (R392). -/
def execRctCommandComplete (s : State) : Host.Outcome State Fault Refusal := .next (s.seal s.rctComplete)

/-- REV_REVOKE (R390). -/
def execRevRevoke (index : Fin 64) (s : State) : Host.Outcome State Fault Refusal := .next (s.seal (s.revoke index.val))

/-- REV_CLEAR (R390). -/
def execRevClear (index : Fin 64) (s : State) : Host.Outcome State Fault Refusal := .next (s.seal (s.revClear index.val))

/-- REV_READ (R390). -/
def execRevRead (index : Fin 64) (s : State) : Host.Outcome State Fault Refusal := .next (s.seal (s.revRead index.val))

/-- REVOCATION_COMPLETE (R390). -/
def execRevocationComplete (index : Fin 64) (s : State) : Host.Outcome State Fault Refusal :=
  .next (s.seal (s.revDone index.val))

/-- METER_TICK (R382). -/
def execMeterTick (s : State) : Host.Outcome State Fault Refusal := .next (s.seal s.meterTick)

/-- SNAPSHOT (R383). -/
def execSnapshot (c : CompId) (s : State) : Host.Outcome State Fault Refusal := .next (s.seal (State.settle (s.snapshot c)))

end Sys2Proof.Machine
end

