-- ==== Sys2Proof/Machine/ExecKeystone.lean ====
section
/-!
DEFINITION. Machine/ExecKeystone.lean: the commands of Keystone: boot, keys, consent, recovery, SPDM and MCTP (R401-R431), one meaning each.
-/
namespace Sys2Proof.Machine

open Sys2Proof

/-- BOOT_COMPLETE (R407). -/
def execBootComplete (fuseOk answers : Bool) (s : State) : Host.Outcome State Fault Refusal :=
  .next (s.seal (State.settle (s.bootComplete fuseOk answers)))

/-- KS_SET_TENANT_KEY (R423). -/
def execKsSetTenantKey (s : State) : Host.Outcome State Fault Refusal := .next (s.seal (State.settle (s.ksSetKey)))

/-- KS_INSTALL_TOKEN (R425). -/
def execKsInstallToken (s : State) : Host.Outcome State Fault Refusal := .next (s.seal (State.settle (s.ksInstall)))

/-- KS_REMOVE_TOKEN (R425). -/
def execKsRemoveToken (s : State) : Host.Outcome State Fault Refusal := .next (s.seal s.ksRemove)

/-- KS_COMMIT_SVN (R410). -/
def execKsCommitSvn (s : State) : Host.Outcome State Fault Refusal := .next (s.seal s.ksCommit)

/-- SVN_COMMIT_DONE (R410). -/
def execSvnCommitDone (s : State) : Host.Outcome State Fault Refusal := .next (s.seal s.svnDone)

/-- TOKEN_LAPSE (R428). -/
def execTokenLapse (c : CompId) (s : State) : Host.Outcome State Fault Refusal := .next (s.seal (s.tokenLapse c.val))

/-- ENTROPY_HEALTH_FAIL (R412). -/
def execEntropyHealthFail (again : Bool) (s : State) : Host.Outcome State Fault Refusal := .next (s.seal (s.entropyFail again))

/-- DRBG_RESEED (R411). -/
def execDrbgReseed (s : State) : Host.Outcome State Fault Refusal := .next (s.seal s.reseed)

/-- RECOV_CHUNK (R409). -/
def execRecovChunk (len : BitVec 8) (i : BitVec 6) (data : List Byte) (s : State) : Host.Outcome State Fault Refusal :=
  .next (s.seal (s.recovChunk len.toNat i.toNat data))

/-- RECOV_VERIFY (R409). -/
def execRecovVerify (s : State) : Host.Outcome State Fault Refusal := .next (s.seal (State.settle (s.recovVerify)))

/-- RECOV_DISCARD (R409). -/
def execRecovDiscard (s : State) : Host.Outcome State Fault Refusal := .next (s.seal s.recovDiscard)

/-- GET_VERSION (R419). -/
def execGetVersion (via : Via) (s : State) : Host.Outcome State Fault Refusal := .next (s.seal (s.spdmAnswer via .version))

/-- GET_CAPABILITIES (R419). -/
def execGetCapabilities (via : Via) (s : State) : Host.Outcome State Fault Refusal :=
  .next (s.seal (s.spdmAnswer via .capabilities))

/-- NEGOTIATE_ALGORITHMS (R419). -/
def execNegotiateAlgorithms (via : Via) (s : State) : Host.Outcome State Fault Refusal :=
  .next (s.seal (s.spdmAnswer via .algorithms))

/-- GET_DIGESTS (R416). -/
def execGetDigests (via : Via) (s : State) : Host.Outcome State Fault Refusal := .next (s.seal (s.spdmDigests via))

/-- GET_CERTIFICATE (R416). -/
def execGetCertificate (via : Via) (off len : BitVec 16) (s : State) : Host.Outcome State Fault Refusal :=
  .next (s.seal (s.spdmCertificate via off.toNat len.toNat))

/-- CHALLENGE (R419). -/
def execChallenge (via : Via) (nonce : DWord) (s : State) : Host.Outcome State Fault Refusal :=
  .next (s.seal (s.spdmChallenge via nonce))

/-- GET_MEASUREMENTS (R420). -/
def execGetMeasurements (via : Via) (index : Byte) (sign : Bool) (nonce : DWord) (s : State) : Host.Outcome State Fault Refusal :=
  .next (s.seal (s.spdmMeasure via index.toNat sign nonce))

/-- KEY_EXCHANGE (R419). -/
def execKeyExchange (via : Via) (share : DWord) (s : State) : Host.Outcome State Fault Refusal :=
  .next (s.seal (s.spdmKeyExchange via share))

/-- FINISH (R419). -/
def execFinish (via : Via) (session : Nat) (ok : Bool) (s : State) : Host.Outcome State Fault Refusal :=
  .next (s.seal (s.spdmFinish via session ok))

/-- END_SESSION (R413). -/
def execEndSession (via : Via) (session : Nat) (s : State) : Host.Outcome State Fault Refusal :=
  .next (s.seal (s.spdmEnd via session))

/-- HEARTBEAT (R419). -/
def execHeartbeat (via : Via) (session : Nat) (s : State) : Host.Outcome State Fault Refusal :=
  .next (s.seal (s.spdmHeartbeat via session))

/-- SET_ENDPOINT_ID (R418). -/
def execSetEndpointId (via : Via) (eid : Byte) (s : State) : Host.Outcome State Fault Refusal :=
  .next (s.seal (s.mctpSetEid via eid.toNat))

/-- GET_ENDPOINT_ID (R418). -/
def execGetEndpointId (via : Via) (s : State) : Host.Outcome State Fault Refusal := .next (s.seal (s.mctpGetEid via))

/-- GET_MCTP_VERSION_SUPPORT (R418). -/
def execGetMctpVersionSupport (via : Via) (s : State) : Host.Outcome State Fault Refusal := .next (s.seal (s.mctpVersions via))

/-- GET_MESSAGE_TYPE_SUPPORT (R418). -/
def execGetMessageTypeSupport (via : Via) (s : State) : Host.Outcome State Fault Refusal := .next (s.seal (s.mctpTypes via))

/-- MCTP (R418). -/
def execMctp (p : PortId) (tc : BitVec 3) (packet : List Byte) (s : State) : Host.Outcome State Fault Refusal :=
  .next (s.seal (State.settle (s.arrive p.val (.mctp tc packet) .clean)))

end Sys2Proof.Machine
end

