-- ==== Sys2Proof/Machine/ExecPower.lean ====
section
/-!
DEFINITION. Machine/ExecPower.lean: the commands of clocks and power (R432-R469, R471), one meaning each.
-/
namespace Sys2Proof.Machine

open Sys2Proof

/-- CLK_MONITOR_WINDOW (R435). -/
def execClkMonitorWindow (c : MonCounts) (s : State) : Host.Outcome State Fault Refusal :=
  .next (s.seal (State.settle (s.clkWindow c)))

/-- CLOCK_EDGE_LOSS (R436). -/
def execClockEdgeLoss (k : Fin 4) (s : State) : Host.Outcome State Fault Refusal :=
  .next (s.seal (State.settle (s.clkFail k.val)))

/-- CLK_FAIL_RESET_EXPIRY (R440). -/
def execClkFailResetExpiry (s : State) : Host.Outcome State Fault Refusal := .next (s.seal (State.settle (s.clkFailReset)))

/-- REFCLK_QUALIFY_TIMEOUT (R434). -/
def execRefclkQualifyTimeout (s : State) : Host.Outcome State Fault Refusal := .next (s.seal s.refclkLate)

/-- CLK_CFG_WRITE (R437). -/
def execClkCfgWrite (value : Word) (s : State) : Host.Outcome State Fault Refusal :=
  .next (s.seal (State.settle (s.clkCfgWrite value)))

/-- CLK_EVENT_CLEAR (R469). -/
def execClkEventClear (value : Word) (s : State) : Host.Outcome State Fault Refusal := .next (s.seal (s.clkEventClear value))

/-- PWR_STATE_REQUEST (R444). -/
def execPwrStateRequest (i : Island) (value : Word) (s : State) : Host.Outcome State Fault Refusal :=
  .next (s.seal (s.atPage i.page Reg.Hdr.PWR_STATE 0 (fun s => s.pwrWrite i value)))

/-- SG_STATE_WRITE (R443). -/
def execSgStateWrite (n : BayId) (value : Word) (s : State) : Host.Outcome State Fault Refusal :=
  .next (s.seal (s.atPage (pgSp n.val) Reg.Hdr.PWR_STATE 0 (fun s => s.pwrWrite (.spindles n 0) value)))

/-- POWER_ENTRY_DONE (R444). -/
def execPowerEntryDone (i : Island) (s : State) : Host.Outcome State Fault Refusal := .next (s.seal (s.powerEntry i))

/-- POWER_ENTRY_TIMEOUT (R444). -/
def execPowerEntryTimeout (i : Island) (s : State) : Host.Outcome State Fault Refusal := .next (s.seal (s.powerEntryLate i))

/-- THROTTLE_BOUNDARY (R466). -/
def execThrottleBoundary (s : State) : Host.Outcome State Fault Refusal := .next (s.seal s.throttle)

/-- VIN_MEASURE (R471). -/
def execVinMeasure (v a : BitVec 16) (s : State) : Host.Outcome State Fault Refusal := .next (s.seal (s.vinMeasure v a))

/-- POWER_STATUS_UPDATE (R471). -/
def execPowerStatusUpdate (logic : BitVec 8) (watts : BitVec 16) (s : State) : Host.Outcome State Fault Refusal :=
  .next (s.seal (State.settle ((s.powerStatus logic watts).footHeat)))

/-- INPUT_FAULT (R460). -/
def execInputFault (s : State) : Host.Outcome State Fault Refusal := .next (s.seal (State.settle (s.inputFault)))

/-- INPUT_RECOVERED (R460). -/
def execInputRecovered (s : State) : Host.Outcome State Fault Refusal := .next (s.seal (State.settle (s.inputRecovered)))

/-- CRITICAL_UNDERVOLTAGE (R460). -/
def execCriticalUndervoltage (s : State) : Host.Outcome State Fault Refusal := .next (s.seal (State.settle (s.undervoltage)))

/-- FOOTWAY_ENTRY_DONE (R496). -/
def execFootwayEntryDone (s : State) : Host.Outcome State Fault Refusal := .next (s.seal (State.settle (s.footEntered)))

/-- CRITICAL_TEMPERATURE (R468). -/
def execCriticalTemperature (dram : Bool) (s : State) : Host.Outcome State Fault Refusal :=
  .next (s.seal (State.settle (s.footEnter (if dram then 4 else 3))))

/-- THERMAL_TRIP (R468). -/
def execThermalTrip (s : State) : Host.Outcome State Fault Refusal := .next (s.seal (State.settle (s.thermalTrip)))

/-- POWER_STAGE_FAULT (R459). -/
def execPowerStageFault (i : Fin 398) (fault : BitVec 8) (s : State) : Host.Outcome State Fault Refusal :=
  .next (s.seal (State.settle (s.stageFault i.val fault.toNat)))

/-- RAIL_BROWN_OUT (R459). -/
def execRailBrownOut (u : ResetUnit) (s : State) : Host.Outcome State Fault Refusal :=
  .next (s.seal (State.settle (s.brownOut u)))

/-- PSTAGE_MARGIN (R471). -/
def execPstageMargin (s : State) : Host.Outcome State Fault Refusal := .next (s.seal (s.stageCmd 1))

/-- PSTAGE_RECALIBRATE (R471). -/
def execPstageRecalibrate (s : State) : Host.Outcome State Fault Refusal := .next (s.seal (s.stageCmd 2))

/-- PSU_WARN_N_ASSERT (R465). -/
def execPsuWarnNAssert (s : State) : Host.Outcome State Fault Refusal := .next (s.seal (s.psuWarn true))

/-- PSU_WARN_N_DEASSERT (R463). -/
def execPsuWarnNDeassert (s : State) : Host.Outcome State Fault Refusal := .next (s.seal (s.psuWarn false))

end Sys2Proof.Machine
end

