-- ==== Sys2Proof/Machine/ExecCare.lean ====
section
/-!
DEFINITION. Machine/ExecCare.lean: the commands of resets, faults, Footway mode, test and diagnostics (R445-R502, R519-R523), one meaning each.
-/
namespace Sys2Proof.Machine

open Sys2Proof

/-- R449, R521: a parity or double-bit error in a block's critical state: it is recorded in the block's page, and its source of the fuse
map fires. -/
def State.parity (s : State) (pg entry : Nat) (u : ResetUnit) : State := (s.setErr pg 2 0).raise (.critical entry u)

/-- R448: PORST_N: everything starts again as at an L0 reset. -/
def State.porst (s : State) : State := s.coldReset 0x11

/-- R454: a write to RST_CTRL of a page with REQ as given. -/
def State.rstCtrlReq (s : State) (pg req : Nat) (v : Word) : State := s.onPage pg (fun s => s.rstCtrlWrite pg (setFld v 2 0 req))

/-- R454: HOLD of a page is written 0. -/
def State.holdZero (s : State) (pg : Nat) : State :=
  s.onPage pg (fun s => if bit (s.rg pg Reg.Hdr.RST_CTRL) 16 then (s.setF pg Reg.Hdr.RST_CTRL 16 16 0).holdRelease pg else s)

/-- The page that holds a FAULT_INFO, and the register. -/
def FaultPage.reg : FaultPage → Nat × RegSpec
  | .home n => (pgHome n.val, Reg.Home.FAULT_INFO)
  | .group g => (pgPG g.val, Reg.PG.FAULT_INFO)
  | .hdm => (pgHDM, Reg.HDM.FAULT_INFO)

/-- R14, R18: a read of some register by address; its value leaves the block. -/
def State.readOut (s : State) (m : Master) (addr size : Nat) : State :=
  let (v, s) := s.busRead m addr size
  s.emit (.regRead m v)

/-- POWER_ON (R448). -/
def execPowerOn (s : State) : Host.Outcome State Fault Refusal := .next (s.seal (State.settle (s.powerOn)))

/-- PORST_N_ASSERT (R448). -/
def execPorstNAssert (s : State) : Host.Outcome State Fault Refusal := .next (s.seal (State.settle (s.porst)))

/-- WARM_RST_N_ASSERT (R449). -/
def execWarmRstNAssert (s : State) : Host.Outcome State Fault Refusal :=
  .next (s.seal (State.settle (s.raise (.critical 4 .device))))

/-- HP_PERST_N_ASSERT (R537). -/
def execHpPerstNAssert (s : State) : Host.Outcome State Fault Refusal := .next (s.seal (State.settle (s.perstAssert)))

/-- HP_PERST_N_DEASSERT (R537). -/
def execHpPerstNDeassert (s : State) : Host.Outcome State Fault Refusal := .next (s.seal s.perstDeassert)

/-- HOME_TRACKER_PARITY_ERROR (R449). -/
def execHomeTrackerParityError (n : BayId) (s : State) : Host.Outcome State Fault Refusal :=
  .next (s.seal (State.settle (s.parity (pgHome n.val) 8 (.bay n.val))))

/-- DIRECTORY_CACHE_PARITY_ERROR (R70). -/
def execDirectoryCacheParityError (n : BayId) (s : State) : Host.Outcome State Fault Refusal :=
  .next (s.seal (State.settle (s.parity (pgDirc n.val) 9 (.bay n.val))))

/-- ARBITER_PARITY_ERROR (R449). -/
def execArbiterParityError (slice : Fin 5) (s : State) : Host.Outcome State Fault Refusal :=
  .next (s.seal (State.settle (s.parity (pgSlice slice.val) 0xA (if slice.val = 4 then .device else .span slice.val))))

/-- MAP_COPY_PARITY_ERROR (R449). -/
def execMapCopyParityError (group : Bool) (i : Fin 24) (s : State) : Host.Outcome State Fault Refusal :=
  .next (s.seal (State.settle (if group then s.parity (pgPG i.val) 0xB (.group i.val) else s.parity (pgHome i.val) 0xB (.bay i.val))))

/-- TREADLE_PARITY_ERROR (R348). -/
def execTreadleParityError (s : State) : Host.Outcome State Fault Refusal :=
  .next (s.seal (State.settle (s.parity (pgOfHub Reg.Trd.TRD_STAT) 0xC (.device))))

/-- HEDDLE_PARITY_ERROR (R449). -/
def execHeddleParityError (n : BayId) (s : State) : Host.Outcome State Fault Refusal :=
  .next (s.seal (State.settle (s.parity (pgHed n.val) 0xE (.heddle n.val))))

/-- REPLAY_BUFFER_ERROR (R449). -/
def execReplayBufferError (p : PierId) (s : State) : Host.Outcome State Fault Refusal :=
  .next (s.seal (State.settle (s.parity (pgPier p.val) 0xF (.pier p.val))))

/-- WEFT_LOCK_UP (R453). -/
def execWeftLockUp (s : State) : Host.Outcome State Fault Refusal :=
  .next (s.seal (State.settle (s.raise (.critical 7 .device))))

/-- WATCHDOG_EXPIRY (R452). -/
def execWatchdogExpiry (slot : Bool) (s : State) : Host.Outcome State Fault Refusal :=
  .next (s.seal (State.settle (s.watchdog slot)))

/-- WDT_KICK (R452). -/
def execWdtKick (s : State) : Host.Outcome State Fault Refusal := .next (s.seal (State.settle (s.wdtKick)))

/-- RST_CMD_L0 (R470). -/
def execRstCmdL0 (confirm : Byte) (s : State) : Host.Outcome State Fault Refusal :=
  .next (s.seal (State.settle (s.rstCmd confirm 0)))

/-- RST_CMD_L1 (R470). -/
def execRstCmdL1 (confirm : Byte) (s : State) : Host.Outcome State Fault Refusal :=
  .next (s.seal (State.settle (s.rstCmd confirm 1)))

/-- RST_CMD_L2 (R470). -/
def execRstCmdL2 (confirm : Byte) (s : State) : Host.Outcome State Fault Refusal :=
  .next (s.seal (State.settle (s.rstCmd confirm 2)))

/-- RST_CTRL_L3 (R455). -/
def execRstCtrlL3 (page : Fin 5120) (value : Word) (s : State) : Host.Outcome State Fault Refusal :=
  .next (s.seal (State.settle (s.rstCtrlReq page.val 3 value)))

/-- RST_CTRL_L4 (R454). -/
def execRstCtrlL4 (page : Fin 5120) (value : Word) (s : State) : Host.Outcome State Fault Refusal :=
  .next (s.seal (State.settle (s.rstCtrlReq page.val 4 value)))

/-- HOLD_RELEASE (R454). -/
def execHoldRelease (page : Fin 5120) (s : State) : Host.Outcome State Fault Refusal :=
  .next (s.seal (State.settle (s.holdZero page.val)))

/-- RESET_RELEASE (R455). -/
def execResetRelease (u : ResetUnit) (s : State) : Host.Outcome State Fault Refusal :=
  .next (s.seal (State.settle (s.resetRelease u)))

/-- RELEASE_STEP (R457). -/
def execReleaseStep (s : State) : Host.Outcome State Fault Refusal := .next (s.seal (State.settle (s.releaseStep)))

/-- STACK_TRAINING_DONE (R103). -/
def execStackTrainingDone (n : BayId) (fault : BitVec 8) (s : State) : Host.Outcome State Fault Refusal :=
  .next (s.seal (State.settle (s.stackTrained n.val fault.toNat)))

/-- LANE_CALIBRATION_DONE (R445). -/
def execLaneCalibrationDone (g : GroupId) (s : State) : Host.Outcome State Fault Refusal :=
  .next (s.seal (State.settle (s.lanesCalibrated g.val)))

/-- BRIDGE_BEAT_FAIL (R480). -/
def execBridgeBeatFail (k : Fin 10) (again : Bool) (s : State) : Host.Outcome State Fault Refusal :=
  .next (s.seal (State.settle (s.bridgeBeat k.val again)))

/-- MACHINE_CHECK (R472). -/
def execMachineCheck (core : Fin 16) (s : State) : Host.Outcome State Fault Refusal :=
  .next (s.seal (State.settle (s.machineCheck core.val)))

/-- BAY_RETIRE_CMD (R475). -/
def execBayRetireCmd (confirm : Byte) (n : BitVec 5) (s : State) : Host.Outcome State Fault Refusal :=
  .next (s.seal (State.settle (s.bayRetireCmd confirm n.toNat)))

/-- EPART_FENCE (R482). -/
def execEpartFence (confirm : Byte) (part : Fin 4) (s : State) : Host.Outcome State Fault Refusal :=
  .next (s.seal (State.settle (s.epartFence confirm part.val)))

/-- LPART_FENCE (R483). -/
def execLpartFence (confirm : Byte) (part : Fin 8) (s : State) : Host.Outcome State Fault Refusal :=
  .next (s.seal (State.settle (s.lpartFence confirm part.val)))

/-- FOOT_ENTER (R495). -/
def execFootEnter (confirm : Byte) (s : State) : Host.Outcome State Fault Refusal :=
  .next (s.seal (State.settle (s.footCmdEnter confirm)))

/-- FOOT_EXIT (R498). -/
def execFootExit (confirm : Byte) (s : State) : Host.Outcome State Fault Refusal :=
  .next (s.seal (State.settle (s.footCmdExit confirm)))

/-- BTEST_START (R487). -/
def execBtestStart (confirm : Byte) (n : BitVec 5) (mode : Fin 4) (s : State) : Host.Outcome State Fault Refusal :=
  .next (s.seal (State.settle (s.btestStart confirm n.toNat mode.val)))

/-- BTEST_ABORT (R487). -/
def execBtestAbort (confirm : Byte) (s : State) : Host.Outcome State Fault Refusal :=
  .next (s.seal (State.settle (s.btestAbort confirm)))

/-- BTEST_DONE (R487). -/
def execBtestDone (rows : List Nat) (s : State) : Host.Outcome State Fault Refusal :=
  .next (s.seal (State.settle (s.btestDone rows)))

/-- LOOP_START (R488). -/
def execLoopStart (p : PierId) (value : Word) (s : State) : Host.Outcome State Fault Refusal :=
  .next (s.seal (s.atPage (pgPier p.val) Reg.Pier.LOOP_CMD 0 (fun s => s.loopCmd p.val (setFld (setFld value 31 31 1) 30 30 0))))

/-- LOOP_ABORT (R488). -/
def execLoopAbort (p : PierId) (value : Word) (s : State) : Host.Outcome State Fault Refusal :=
  .next (s.seal (s.atPage (pgPier p.val) Reg.Pier.LOOP_CMD 0 (fun s => s.loopCmd p.val (setFld value 30 30 1))))

/-- LOOP_DONE (R488). -/
def execLoopDone (p : PierId) (errors : BitVec 32) (s : State) : Host.Outcome State Fault Refusal :=
  .next (s.seal (s.loopDone p.val errors.toNat))

/-- DPATH_START (R489). -/
def execDpathStart (port : BitVec 6) (s : State) : Host.Outcome State Fault Refusal := .next (s.seal (s.dpathStart port.toNat))

/-- DPATH_DONE (R489). -/
def execDpathDone (bad : BitVec 11) (s : State) : Host.Outcome State Fault Refusal := .next (s.seal (s.dpathDone bad.toNat))

/-- WEFT_FENCE_WRITE (R479). -/
def execWeftFenceWrite (value : Word) (s : State) : Host.Outcome State Fault Refusal := .next (s.seal (s.weftFenceWrite value))

/-- TRACE_SPLIT_WRITE (R493). -/
def execTraceSplitWrite (value : Word) (s : State) : Host.Outcome State Fault Refusal := .next (s.seal (s.traceSplit value))

/-- TRACE_ENABLE (R493). -/
def execTraceEnable (value : Word) (s : State) : Host.Outcome State Fault Refusal :=
  .next (s.seal (s.traceCtrl (setFld value 31 31 1)))

/-- ERR_STAT_CLEAR (R522). -/
def execErrStatClear (page : Fin 5120) (value : Word) (s : State) : Host.Outcome State Fault Refusal :=
  .next (s.seal (s.onPage page.val (fun s => s.errClear page.val (value.setWidth 64))))

/-- ERR_INJECT (R519). -/
def execErrInject (page : Fin 5120) (value : Word) (s : State) : Host.Outcome State Fault Refusal :=
  .next (s.seal (s.onPage page.val (fun s => s.errInject page.val (value.setWidth 64))))

/-- COUNTER_CLEAR (R519). -/
def execCounterClear (page : Fin 5120) (s : State) : Host.Outcome State Fault Refusal :=
  .next (s.seal (s.onPage page.val (fun s => s.clearCounters page.val)))

/-- FAULT_INFO_READ (R86). -/
def execFaultInfoRead (m : Master) (page : FaultPage) (s : State) : Host.Outcome State Fault Refusal :=
  .next (s.seal (s.rcRead m page.reg.1 page.reg.2))

/-- UE_INFO_READ (R106). -/
def execUeInfoRead (m : Master) (n : BayId) (s : State) : Host.Outcome State Fault Refusal :=
  .next (s.seal (s.rcRead m (pgMC n.val) Reg.MC.UE_INFO))

/-- LOOM_FAULT_INFO_READ (R245). -/
def execLoomFaultInfoRead (m : Master) (n : BayId) (s : State) : Host.Outcome State Fault Refusal :=
  .next (s.seal (s.rcRead m (pgLoom n.val) Reg.Loom.LOOM_FAULT_INFO))

/-- HED_FAULT_INFO_READ (R277). -/
def execHedFaultInfoRead (m : Master) (n : BayId) (s : State) : Host.Outcome State Fault Refusal :=
  .next (s.seal (s.rcRead m (pgHed n.val) Reg.Hed.HED_FAULT_INFO))

/-- SP_FAULT_INFO_READ (R316). -/
def execSpFaultInfoRead (m : Master) (n : BayId) (s : State) : Host.Outcome State Fault Refusal :=
  .next (s.seal (s.rcRead m (pgSp n.val) Reg.Sp.SP_FAULT_INFO))

/-- CODEC_FAULT_INFO_READ (R336). -/
def execCodecFaultInfoRead (m : Master) (n : BayId) (s : State) : Host.Outcome State Fault Refusal :=
  .next (s.seal (s.rcRead m (pgCodec n.val) Reg.Codec.CODEC_FAULT_INFO))

/-- STUCK_INFO_READ (R148). -/
def execStuckInfoRead (m : Master) (slice : Fin 5) (s : State) : Host.Outcome State Fault Refusal :=
  .next (s.seal (s.rcRead m (pgSlice slice.val) Reg.Slice.STUCK_INFO))

/-- RC_COUNTER_READ (R14). -/
def execRcCounterRead (m : Master) (addr : BitVec 26) (size : Fin 9) (s : State) : Host.Outcome State Fault Refusal :=
  .next (s.seal (s.readOut m addr.toNat size.val))

/-- REGISTER_READ (R18). -/
def execRegisterRead (m : Master) (addr : BitVec 26) (size : Fin 9) (s : State) : Host.Outcome State Fault Refusal :=
  .next (s.seal (s.readOut m addr.toNat size.val))

/-- GPIO_MUX_WRITE (R492). -/
def execGpioMuxWrite (value : Word) (s : State) : Host.Outcome State Fault Refusal := .next (s.seal (s.gpioMux value))

/-- PPS_CFG_WRITE (R543). -/
def execPpsCfgWrite (value : Word) (s : State) : Host.Outcome State Fault Refusal :=
  .next (s.seal (s.writeReg pgDiag Reg.Diag.PPS_CFG 0 0 (value.setWidth 64)))

/-- ALERT_HOLD_EXPIRY (R538). -/
def execAlertHoldExpiry (s : State) : Host.Outcome State Fault Refusal := .next (s.seal s.alertHoldEnd)

/-- GPIO_SAMPLE (R543). -/
def execGpioSample (levels : Byte) (s : State) : Host.Outcome State Fault Refusal := .next (s.seal (s.gpioSample levels))

/-- JTAG_INSTRUCTION (R427). -/
def execJtagInstruction (i : Jtag) (s : State) : Host.Outcome State Fault Refusal := .next (s.seal (s.jtagLoad i))

/-- DEBUG_ACCESS (R427). -/
def execDebugAccess (op : DebugOp) (s : State) : Host.Outcome State Fault Refusal :=
  .next (s.seal (State.settle (s.debugAccess op)))

end Sys2Proof.Machine
end

