-- ==== Sys2Proof/Machine/ExecHost.lean ====
section
/-!
DEFINITION. Machine/ExecHost.lean: the commands of the host port: CXL.mem, the mailbox, DOE, SMBus and MCTP (R503-R516, R527), one meaning each.
-/
namespace Sys2Proof.Machine

open Sys2Proof

/-- R507: what the Weft root's ERR_STAT shows of accesses: its bits 3 to 6. -/
def State.rootErrs (s : State) : Nat := fld (s.rg pgRoot Reg.Hdr.ERR_STAT) 6 3

/-- R507: 0xC001: firmware reads a BAR0 register; a Weft core makes the access. -/
def State.mbRead (s : State) (core : Fin 16) (off size : Nat) : State :=
  if !s.mbOn then s
  else if size ≠ 4 ∧ size ≠ 8 then s.mbAnswer .invalidInput []
  else
    let (v, s) := s.busRead (.weft core) off size
    s.mbAnswer .success [v.toNat, s.rootErrs]

/-- R507: 0xC002: firmware writes a BAR0 register. The answer gives back the value written. -/
def State.mbWrite (s : State) (core : Fin 16) (off size : Nat) (v : DWord) : State :=
  if !s.mbOn then s
  else if size ≠ 4 ∧ size ≠ 8 then s.mbAnswer .invalidInput []
  else
    let s := s.busWrite (.weft core) off size v
    s.mbAnswer .success [v.toNat, s.rootErrs]

/-- R507: 0xC000: SERIAL, FW_VERSION, KS_STAT, STRAP_STAT and HASH_CFG. -/
def State.mbDevice (s : State) : State :=
  if !s.mbOn then s
  else s.mbAnswer .success [s.fuses.serial.toNat, num s.ks.header 0x0C 4, s.ksStat, s.fuses.straps.toNat, s.fuses.hashSel.toNat]

/-- MEM_RD (R511). -/
def execMemRd (ctag : BitVec 16) (dpa : BitVec 48) (mv : MetaValue) (s : State) : Host.Outcome State Fault Refusal :=
  .next (s.seal (State.settle (s.memRd ctag.toNat dpa.toNat mv)))

/-- MEM_RD_DATA (R511). -/
def execMemRdData (ctag : BitVec 16) (dpa : BitVec 48) (s : State) : Host.Outcome State Fault Refusal :=
  .next (s.seal (State.settle (s.memRdData ctag.toNat dpa.toNat)))

/-- MEM_INV (R511). -/
def execMemInv (ctag : BitVec 16) (dpa : BitVec 48) (mv : MetaValue) (s : State) : Host.Outcome State Fault Refusal :=
  .next (s.seal (State.settle (s.memInv ctag.toNat dpa.toNat mv)))

/-- MEM_WR (R511). -/
def execMemWr (ctag : BitVec 16) (dpa : BitVec 48) (mv : MetaValue) (bad : Bool) (data : Line) (s : State) : Host.Outcome State Fault Refusal :=
  .next (s.seal (State.settle (s.memWr ctag.toNat dpa.toNat mv bad data)))

/-- MEM_WR_PTL (R511). -/
def execMemWrPtl (ctag : BitVec 16) (dpa : BitVec 48) (mask : BitVec 64) (bad : Bool) (data : Line) (s : State) : Host.Outcome State Fault Refusal :=
  .next (s.seal (State.settle (s.memWrPtl ctag.toNat dpa.toNat mask bad data)))

/-- BI_RSP (R511). -/
def execBiRsp (laddr : BitVec 42) (s : State) : Host.Outcome State Fault Refusal :=
  .next (s.seal (State.settle (s.biRsp laddr)))

/-- HOST_RETRY (R512). -/
def execHostRetry (ctag : BitVec 16) (s : State) : Host.Outcome State Fault Refusal :=
  .next (s.seal (State.settle (s.hostRetry ctag.toNat)))

/-- HOST_LINK_TRAINED (R504). -/
def execHostLinkTrained (flit : Fin 3) (width : Byte) (rate : Byte) (s : State) : Host.Outcome State Fault Refusal :=
  .next (s.seal (s.hostTrained flit.val width.toNat rate.toNat))

/-- HOST_LINK_DOWN (R513). -/
def execHostLinkDown (s : State) : Host.Outcome State Fault Refusal := .next (s.seal (State.settle (s.raise (.linkDown 288))))

/-- IDE_INTEGRITY_FAIL (R513). -/
def execIdeIntegrityFail (s : State) : Host.Outcome State Fault Refusal := .next (s.seal (State.settle (s.ideFail)))

/-- HDM_DECODER_COMMIT (R509). -/
def execHdmDecoderCommit (n : Fin 4) (base size : BitVec 48) (ways gran : Nat) (s : State) : Host.Outcome State Fault Refusal :=
  .next (s.seal (s.hdmCommit n.val base.toNat size.toNat ways gran))

/-- IDENTIFY_MEMORY_DEVICE (R507). -/
def execIdentifyMemoryDevice (s : State) : Host.Outcome State Fault Refusal := .next (s.seal s.mbIdentify)

/-- GET_SUPPORTED_LOGS (R507). -/
def execGetSupportedLogs (s : State) : Host.Outcome State Fault Refusal := .next (s.seal s.mbLogs)

/-- GET_LOG (R507). -/
def execGetLog (s : State) : Host.Outcome State Fault Refusal := .next (s.seal s.mbLogs)

/-- GET_EVENT_RECORDS (R508). -/
def execGetEventRecords (log : Fin 4) (s : State) : Host.Outcome State Fault Refusal := .next (s.seal (s.mbEvents log.val))

/-- CLEAR_EVENT_RECORDS (R508). -/
def execClearEventRecords (log : Fin 4) (all : Bool) (handles : List Nat) (s : State) : Host.Outcome State Fault Refusal :=
  .next (s.seal (s.mbClear log.val all handles))

/-- GET_TIMESTAMP (R507). -/
def execGetTimestamp (s : State) : Host.Outcome State Fault Refusal := .next (s.seal s.mbTime)

/-- SET_TIMESTAMP (R507). -/
def execSetTimestamp (value : DWord) (s : State) : Host.Outcome State Fault Refusal := .next (s.seal (s.mbSetTime value))

/-- GET_DEVICE_INFORMATION (R507). -/
def execGetDeviceInformation (s : State) : Host.Outcome State Fault Refusal := .next (s.seal s.mbDevice)

/-- READ_REGISTER (R507). -/
def execReadRegister (core : Fin 16) (off : BitVec 26) (size : Byte) (s : State) : Host.Outcome State Fault Refusal :=
  .next (s.seal (s.mbRead core off.toNat size.toNat))

/-- WRITE_REGISTER (R507). -/
def execWriteRegister (core : Fin 16) (off : BitVec 26) (size : Byte) (value : DWord) (s : State) : Host.Outcome State Fault Refusal :=
  .next (s.seal (State.settle (s.mbWrite core off.toNat size.toNat value)))

/-- ADD_TRUST_ANCHOR (R507). -/
def execAddTrustAnchor (cert : List Byte) (s : State) : Host.Outcome State Fault Refusal := .next (s.seal (s.mbAnchor cert))

/-- CLEAR_TRUST_ANCHORS (R507). -/
def execClearTrustAnchors (s : State) : Host.Outcome State Fault Refusal := .next (s.seal s.mbNoAnchors)

/-- WRITE_FLASH_IMAGE (R507). -/
def execWriteFlashImage (off : BitVec 32) (data : List Byte) (s : State) : Host.Outcome State Fault Refusal :=
  .next (s.seal (s.mbFlash off.toNat data))

/-- READ_REPAIR_LOG (R507). -/
def execReadRepairLog (index : BitVec 16) (s : State) : Host.Outcome State Fault Refusal :=
  .next (s.seal (s.mbRepairs index.toNat))

/-- SMBUS_STATUS_READ (R516). -/
def execSmbusStatusRead (s : State) : Host.Outcome State Fault Refusal := .next (s.seal s.smbStatus)

/-- SMBUS_MCTP_PACKET (R515). -/
def execSmbusMctpPacket (packet : List Byte) (pecOk : Bool) (s : State) : Host.Outcome State Fault Refusal :=
  .next (s.seal (s.smbPacket packet pecOk))

/-- MCTP_OVER_PCIE_VDM (R514). -/
def execMctpOverPcieVdm (packet : List Byte) (s : State) : Host.Outcome State Fault Refusal :=
  .next (s.seal (s.vdmPacket packet))

/-- IDE_KEY_MANAGEMENT (R513). -/
def execIdeKeyManagement (session : Nat) (stream : Fin 2) (s : State) : Host.Outcome State Fault Refusal :=
  .next (s.seal (s.ideKey session stream.val))

/-- DOE_DISCOVERY (R513). -/
def execDoeDiscovery (index : Byte) (s : State) : Host.Outcome State Fault Refusal :=
  .next (s.seal (s.doeDiscovery index.toNat))

/-- CDAT (R513). -/
def execCdat (s : State) : Host.Outcome State Fault Refusal := .next (s.seal s.cdat)

/-- DOE_ABORT (R527). -/
def execDoeAbort (s : State) : Host.Outcome State Fault Refusal := .next (s.seal s.doeAbort)

end Sys2Proof.Machine
end

