-- ==== Sys2Proof/Machine/Dispatch.lean ====
section
/-!
DEFINITION. Machine/Dispatch.lean: what each command does to everything but the queue: one call of its meaning.
-/
namespace Sys2Proof.Machine

open Sys2Proof

def exec (i : Instr) (s : State) : Host.Outcome State Fault Refusal :=
  match i with
  | .regWrite m addr size value => Sys2Proof.Machine.execRegWrite m addr size value s
  | .weftTimeout m addr isWrite => Sys2Proof.Machine.execWeftTimeout m addr isWrite s
  | .crossingArrival x item => Sys2Proof.Machine.execCrossingArrival x item s
  | .wakeGrant => Sys2Proof.Machine.execWakeGrant s
  | .islandRun x => Sys2Proof.Machine.execIslandRun x s
  | .rd r errs => Sys2Proof.Machine.execRd r errs s
  | .rdS r errs => Sys2Proof.Machine.execRdS r errs s
  | .rdM r errs => Sys2Proof.Machine.execRdM r errs s
  | .own r errs => Sys2Proof.Machine.execOwn r errs s
  | .wr r errs => Sys2Proof.Machine.execWr r errs s
  | .wrP r errs => Sys2Proof.Machine.execWrP r errs s
  | .atom r errs => Sys2Proof.Machine.execAtom r errs s
  | .capWr r => Sys2Proof.Machine.execCapWr r s
  | .capWrRelease p src tag => Sys2Proof.Machine.execCapWrRelease p src tag s
  | .capWrApply r errs => Sys2Proof.Machine.execCapWrApply r errs s
  | .mcWr r => Sys2Proof.Machine.execMcWr r s
  | .mcWrComplete id => Sys2Proof.Machine.execMcWrComplete id s
  | .rsD r errs => Sys2Proof.Machine.execRsD r errs s
  | .rsU r errs => Sys2Proof.Machine.execRsU r errs s
  | .wb p tc laddr keepS bad data => Sys2Proof.Machine.execWb p tc laddr keepS bad data s
  | .biAck p tc laddr => Sys2Proof.Machine.execBiAck p tc laddr s
  | .undeliverableRecall p laddr => Sys2Proof.Machine.execUndeliverableRecall p laddr s
  | .recallTimeoutExpiry laddr => Sys2Proof.Machine.execRecallTimeoutExpiry laddr s
  | .offer p src h => Sys2Proof.Machine.execOffer p src h s
  | .accept p src h => Sys2Proof.Machine.execAccept p src h s
  | .handoffCommit p src h => Sys2Proof.Machine.execHandoffCommit p src h s
  | .handoffCancel p src h => Sys2Proof.Machine.execHandoffCancel p src h s
  | .handoffTimerExpiry index => Sys2Proof.Machine.execHandoffTimerExpiry index s
  | .rtWrite index next => Sys2Proof.Machine.execRtWrite index next s
  | .rtRead index next => Sys2Proof.Machine.execRtRead index next s
  | .rtDisable index next => Sys2Proof.Machine.execRtDisable index next s
  | .rtCommandComplete => Sys2Proof.Machine.execRtCommandComplete s
  | .deadSourceWrite node => Sys2Proof.Machine.execDeadSourceWrite node s
  | .sweepEnd n => Sys2Proof.Machine.execSweepEnd n s
  | .requestDeadline o tag => Sys2Proof.Machine.execRequestDeadline o tag s
  | .repairCmd n op => Sys2Proof.Machine.execRepairCmd n op s
  | .rowRepairDone n => Sys2Proof.Machine.execRowRepairDone n s
  | .stackMarginStart n op => Sys2Proof.Machine.execStackMarginStart n op s
  | .shellMarginDone sh result fault => Sys2Proof.Machine.execShellMarginDone sh result fault s
  | .shellRecalibrationDone sh fault => Sys2Proof.Machine.execShellRecalibrationDone sh fault s
  | .fillStart n => Sys2Proof.Machine.execFillStart n s
  | .fillDone n => Sys2Proof.Machine.execFillDone n s
  | .refreshDue n pch waiting upsets => Sys2Proof.Machine.execRefreshDue n pch waiting upsets s
  | .scrubLine n errs => Sys2Proof.Machine.execScrubLine n errs s
  | .pageTimeout n pch bank => Sys2Proof.Machine.execPageTimeout n pch bank s
  | .ageCapReached n pch => Sys2Proof.Machine.execAgeCapReached n pch s
  | .stackTempSample n dram base => Sys2Proof.Machine.execStackTempSample n dram base s
  | .trayCfgWrite value => Sys2Proof.Machine.execTrayCfgWrite value s
  | .tcmp p t => Sys2Proof.Machine.execTcmp p t s
  | .tcmpD p t => Sys2Proof.Machine.execTcmpD p t s
  | .trayScrubIssue n slot => Sys2Proof.Machine.execTrayScrubIssue n slot s
  | .winEnable value => Sys2Proof.Machine.execWinEnable value s
  | .streamBlockReadDone t off => Sys2Proof.Machine.execStreamBlockReadDone t off s
  | .streamSendDone t => Sys2Proof.Machine.execStreamSendDone t s
  | .landingQueueAdmit p vc path => Sys2Proof.Machine.execLandingQueueAdmit p vc path s
  | .limitWrite g which value => Sys2Proof.Machine.execLimitWrite g which value s
  | .polWrite g index => Sys2Proof.Machine.execPolWrite g index s
  | .polRead g index => Sys2Proof.Machine.execPolRead g index s
  | .polCntRead g index => Sys2Proof.Machine.execPolCntRead g index s
  | .polMapWrite g index => Sys2Proof.Machine.execPolMapWrite g index s
  | .polMapRead g index => Sys2Proof.Machine.execPolMapRead g index s
  | .arbMismatch slice again => Sys2Proof.Machine.execArbMismatch slice again s
  | .stuckReport inp out tc cls => Sys2Proof.Machine.execStuckReport inp out tc cls s
  | .adminDownWrite dp down => Sys2Proof.Machine.execAdminDownWrite dp down s
  | .flushEnd u => Sys2Proof.Machine.execFlushEnd u s
  | .histSample g => Sys2Proof.Machine.execHistSample g s
  | .histClr g value => Sys2Proof.Machine.execHistClr g value s
  | .smpEnable overwrite => Sys2Proof.Machine.execSmpEnable overwrite s
  | .sampleCfgWrite dp c value => Sys2Proof.Machine.execSampleCfgWrite dp c value s
  | .tcModeWrite value => Sys2Proof.Machine.execTcModeWrite value s
  | .pierCfgWrite p value => Sys2Proof.Machine.execPierCfgWrite p value s
  | .linkDisableWrite p disable => Sys2Proof.Machine.execLinkDisableWrite p disable s
  | .signalPresent p => Sys2Proof.Machine.execSignalPresent p s
  | .lossOfSignal p lanes => Sys2Proof.Machine.execLossOfSignal p lanes s
  | .equalizeDone p => Sys2Proof.Machine.execEqualizeDone p s
  | .lockEndMarker p marks skew clean => Sys2Proof.Machine.execLockEndMarker p marks skew clean s
  | .linkStateTimeout p => Sys2Proof.Machine.execLinkStateTimeout p s
  | .dataFlit p f => Sys2Proof.Machine.execDataFlit p f s
  | .securedFlit p f => Sys2Proof.Machine.execSecuredFlit p f s
  | .idleFlit p f => Sys2Proof.Machine.execIdleFlit p f s
  | .identify p f => Sys2Proof.Machine.execIdentify p f s
  | .identifyAck p f => Sys2Proof.Machine.execIdentifyAck p f s
  | .identifyResend p => Sys2Proof.Machine.execIdentifyResend p s
  | .keyShare p f => Sys2Proof.Machine.execKeyShare p f s
  | .keyShareResend p => Sys2Proof.Machine.execKeyShareResend p s
  | .nakTimeoutExpiry p => Sys2Proof.Machine.execNakTimeoutExpiry p s
  | .ackTimeoutExpiry p => Sys2Proof.Machine.execAckTimeoutExpiry p s
  | .progressTimeoutExpiry p => Sys2Proof.Machine.execProgressTimeoutExpiry p s
  | .laneFailure p lane => Sys2Proof.Machine.execLaneFailure p lane s
  | .spareReq p f => Sys2Proof.Machine.execSpareReq p f s
  | .spareAck p f => Sys2Proof.Machine.execSpareAck p f s
  | .spareDone p f => Sys2Proof.Machine.execSpareDone p f s
  | .spareReqResend p => Sys2Proof.Machine.execSpareReqResend p s
  | .spareTimeout p => Sys2Proof.Machine.execSpareTimeout p s
  | .pierMarginStart p value => Sys2Proof.Machine.execPierMarginStart p value s
  | .admitReadyWrite ready => Sys2Proof.Machine.execAdmitReadyWrite ready s
  | .unitCompletion id => Sys2Proof.Machine.execUnitCompletion id s
  | .bulk p b => Sys2Proof.Machine.execBulk p b s
  | .trestleRecordDone span xfer => Sys2Proof.Machine.execTrestleRecordDone span xfer s
  | .bulkRsp p b => Sys2Proof.Machine.execBulkRsp p b s
  | .transferCoalesceExpire span flow dest trunk => Sys2Proof.Machine.execTransferCoalesceExpire span flow dest trunk s
  | .trestleRemapDone span group => Sys2Proof.Machine.execTrestleRemapDone span group s
  | .routeWrite index => Sys2Proof.Machine.execRouteWrite index s
  | .routeRead index => Sys2Proof.Machine.execRouteRead index s
  | .trunkGroupWrite index => Sys2Proof.Machine.execTrunkGroupWrite index s
  | .trunkGroupRead index => Sys2Proof.Machine.execTrunkGroupRead index s
  | .mcEntryWrite index => Sys2Proof.Machine.execMcEntryWrite index s
  | .mcEntryRead index => Sys2Proof.Machine.execMcEntryRead index s
  | .mcEntryDisable index => Sys2Proof.Machine.execMcEntryDisable index s
  | .timeXReq p t => Sys2Proof.Machine.execTimeXReq p t s
  | .timeXRsp p t => Sys2Proof.Machine.execTimeXRsp p t s
  | .timeXFup p t => Sys2Proof.Machine.execTimeXFup p t s
  | .timeExchangeStart => Sys2Proof.Machine.execTimeExchangeStart s
  | .timeExchangeFail => Sys2Proof.Machine.execTimeExchangeFail s
  | .mctp p tc packet => Sys2Proof.Machine.execMctp p tc packet s
  | .declDeclare => Sys2Proof.Machine.execDeclDeclare s
  | .declCancel rid => Sys2Proof.Machine.execDeclCancel rid s
  | .declQuery rid => Sys2Proof.Machine.execDeclQuery rid s
  | .declInstalled rid => Sys2Proof.Machine.execDeclInstalled rid s
  | .quotaApply => Sys2Proof.Machine.execQuotaApply s
  | .reductionTimeout n rid => Sys2Proof.Machine.execReductionTimeout n rid s
  | .ridHoldExpiry n e => Sys2Proof.Machine.execRidHoldExpiry n e s
  | .gatherBatch t => Sys2Proof.Machine.execGatherBatch t s
  | .updateBatch t => Sys2Proof.Machine.execUpdateBatch t s
  | .filterTask t => Sys2Proof.Machine.execFilterTask t s
  | .heddleSortDone t => Sys2Proof.Machine.execHeddleSortDone t s
  | .rowFetchDone t x => Sys2Proof.Machine.execRowFetchDone t x s
  | .rowUpdate id => Sys2Proof.Machine.execRowUpdate id s
  | .filterScanDone t n => Sys2Proof.Machine.execFilterScanDone t n s
  | .tblInstall comp tid => Sys2Proof.Machine.execTblInstall comp tid s
  | .tblWithdraw comp tid => Sys2Proof.Machine.execTblWithdraw comp tid s
  | .tblQuery comp tid => Sys2Proof.Machine.execTblQuery comp tid s
  | .retPopRead m => Sys2Proof.Machine.execRetPopRead m s
  | .migModeWrite value => Sys2Proof.Machine.execMigModeWrite value s
  | .skewWindowEnd => Sys2Proof.Machine.execSkewWindowEnd s
  | .migrationCopy id => Sys2Proof.Machine.execMigrationCopy id s
  | .migrationCopyDone id => Sys2Proof.Machine.execMigrationCopyDone id s
  | .migrationCommit id => Sys2Proof.Machine.execMigrationCommit id s
  | .migrationAbort id => Sys2Proof.Machine.execMigrationAbort id s
  | .spindleLaunch t => Sys2Proof.Machine.execSpindleLaunch t s
  | .fenceStageDone t => Sys2Proof.Machine.execFenceStageDone t s
  | .coreInstruction n k e => Sys2Proof.Machine.execCoreInstruction n k e s
  | .spindleLoadStore n k syms => Sys2Proof.Machine.execSpindleLoadStore n k syms s
  | .sfAdd n k rd rs1 rs2 => Sys2Proof.Machine.execSfAdd n k rd rs1 rs2 s
  | .sfSub n k rd rs1 rs2 => Sys2Proof.Machine.execSfSub n k rd rs1 rs2 s
  | .sfMul n k rd rs1 rs2 => Sys2Proof.Machine.execSfMul n k rd rs1 rs2 s
  | .sfMax n k rd rs1 rs2 => Sys2Proof.Machine.execSfMax n k rd rs1 rs2 s
  | .sfMin n k rd rs1 rs2 => Sys2Proof.Machine.execSfMin n k rd rs1 rs2 s
  | .sfLt n k rd rs1 rs2 => Sys2Proof.Machine.execSfLt n k rd rs1 rs2 s
  | .sfExp2 n k rd rs => Sys2Proof.Machine.execSfExp2 n k rd rs s
  | .sfRcp n k rd rs => Sys2Proof.Machine.execSfRcp n k rd rs s
  | .sfCvt n k rd rs fmt => Sys2Proof.Machine.execSfCvt n k rd rs fmt s
  | .sfFromi n k rd rs => Sys2Proof.Machine.execSfFromi n k rd rs s
  | .sfToi n k rd rs => Sys2Proof.Machine.execSfToi n k rd rs s
  | .dsStart n k rd rs => Sys2Proof.Machine.execDsStart n k rd rs s
  | .dsWait n k rd rs => Sys2Proof.Machine.execDsWait n k rd rs s
  | .dsPoll n k rd rs => Sys2Proof.Machine.execDsPoll n k rd rs s
  | .spExit n k rs => Sys2Proof.Machine.execSpExit n k rs s
  | .spRdcnt n k rd idx => Sys2Proof.Machine.execSpRdcnt n k rd idx s
  | .qload n k e => Sys2Proof.Machine.execQload n k e s
  | .score n k e => Sys2Proof.Machine.execScore n k e s
  | .axpy n k e => Sys2Proof.Machine.execAxpy n k e s
  | .vmax n k e => Sys2Proof.Machine.execVmax n k e s
  | .vexps n k e => Sys2Proof.Machine.execVexps n k e s
  | .oclr n k => Sys2Proof.Machine.execOclr n k s
  | .oscale n k e => Sys2Proof.Machine.execOscale n k e s
  | .ostore n k => Sys2Proof.Machine.execOstore n k s
  | .copyIn n k lines => Sys2Proof.Machine.execCopyIn n k lines s
  | .copyOut n k e => Sys2Proof.Machine.execCopyOut n k e s
  | .putStream n k e => Sys2Proof.Machine.execPutStream n k e s
  | .partialRec n k e => Sys2Proof.Machine.execPartialRec n k e s
  | .partialArrival n k => Sys2Proof.Machine.execPartialArrival n k s
  | .combineTimeout id => Sys2Proof.Machine.execCombineTimeout id s
  | .partTimeout n k => Sys2Proof.Machine.execPartTimeout n k s
  | .spFenceWrite n value => Sys2Proof.Machine.execSpFenceWrite n value s
  | .combQuery id => Sys2Proof.Machine.execCombQuery id s
  | .combCancel id => Sys2Proof.Machine.execCombCancel id s
  | .knownAnswerTest n k => Sys2Proof.Machine.execKnownAnswerTest n k s
  | .ctInstall comp tid => Sys2Proof.Machine.execCtInstall comp tid s
  | .ctRemove comp tid => Sys2Proof.Machine.execCtRemove comp tid s
  | .ctQuery comp tid => Sys2Proof.Machine.execCtQuery comp tid s
  | .draftSubmit time => Sys2Proof.Machine.execDraftSubmit time s
  | .draftLoadDone => Sys2Proof.Machine.execDraftLoadDone s
  | .draftTakeover => Sys2Proof.Machine.execDraftTakeover s
  | .trdCancelPending => Sys2Proof.Machine.execTrdCancelPending s
  | .trdStopActive => Sys2Proof.Machine.execTrdStopActive s
  | .taskDispatch => Sys2Proof.Machine.execTaskDispatch s
  | .slotStart t => Sys2Proof.Machine.execSlotStart t s
  | .taskEnd t => Sys2Proof.Machine.execTaskEnd t s
  | .nopTask t => Sys2Proof.Machine.execNopTask t s
  | .moveTask t => Sys2Proof.Machine.execMoveTask t s
  | .reduceStep t => Sys2Proof.Machine.execReduceStep t s
  | .broadcastStep t => Sys2Proof.Machine.execBroadcastStep t s
  | .streamTask t => Sys2Proof.Machine.execStreamTask t s
  | .gateListLoad t => Sys2Proof.Machine.execGateListLoad t s
  | .waitOnFlag t => Sys2Proof.Machine.execWaitOnFlag t s
  | .waitFlagReadDone t => Sys2Proof.Machine.execWaitFlagReadDone t s
  | .waitFlagPoll t => Sys2Proof.Machine.execWaitFlagPoll t s
  | .waitFlagTimeout t => Sys2Proof.Machine.execWaitFlagTimeout t s
  | .signalTask t => Sys2Proof.Machine.execSignalTask t s
  | .timeSet => Sys2Proof.Machine.execTimeSet s
  | .timeAdjust => Sys2Proof.Machine.execTimeAdjust s
  | .stampInfoRead m p => Sys2Proof.Machine.execStampInfoRead m p s
  | .gateListActivate p c => Sys2Proof.Machine.execGateListActivate p c s
  | .gateEntryAdvance p c => Sys2Proof.Machine.execGateEntryAdvance p c s
  | .ppsPulse => Sys2Proof.Machine.execPpsPulse s
  | .compCreate => Sys2Proof.Machine.execCompCreate s
  | .compRelease => Sys2Proof.Machine.execCompRelease s
  | .grantWrite which value => Sys2Proof.Machine.execGrantWrite which value s
  | .mapSwitch => Sys2Proof.Machine.execMapSwitch s
  | .mapSwitchFlip => Sys2Proof.Machine.execMapSwitchFlip s
  | .mapDrainEnd => Sys2Proof.Machine.execMapDrainEnd s
  | .mapCopy => Sys2Proof.Machine.execMapCopy s
  | .mapCopyDone => Sys2Proof.Machine.execMapCopyDone s
  | .membWrite index => Sys2Proof.Machine.execMembWrite index s
  | .membRead index => Sys2Proof.Machine.execMembRead index s
  | .rctWrite index next => Sys2Proof.Machine.execRctWrite index next s
  | .rctRead index next => Sys2Proof.Machine.execRctRead index next s
  | .rctDisable index next => Sys2Proof.Machine.execRctDisable index next s
  | .rctCommandComplete => Sys2Proof.Machine.execRctCommandComplete s
  | .revRevoke index => Sys2Proof.Machine.execRevRevoke index s
  | .revClear index => Sys2Proof.Machine.execRevClear index s
  | .revRead index => Sys2Proof.Machine.execRevRead index s
  | .revocationComplete index => Sys2Proof.Machine.execRevocationComplete index s
  | .meterTick => Sys2Proof.Machine.execMeterTick s
  | .snapshot c => Sys2Proof.Machine.execSnapshot c s
  | .bootComplete fuseOk answers => Sys2Proof.Machine.execBootComplete fuseOk answers s
  | .ksSetTenantKey => Sys2Proof.Machine.execKsSetTenantKey s
  | .ksInstallToken => Sys2Proof.Machine.execKsInstallToken s
  | .ksRemoveToken => Sys2Proof.Machine.execKsRemoveToken s
  | .ksCommitSvn => Sys2Proof.Machine.execKsCommitSvn s
  | .svnCommitDone => Sys2Proof.Machine.execSvnCommitDone s
  | .tokenLapse c => Sys2Proof.Machine.execTokenLapse c s
  | .entropyHealthFail again => Sys2Proof.Machine.execEntropyHealthFail again s
  | .drbgReseed => Sys2Proof.Machine.execDrbgReseed s
  | .recovChunk len x data => Sys2Proof.Machine.execRecovChunk len x data s
  | .recovVerify => Sys2Proof.Machine.execRecovVerify s
  | .recovDiscard => Sys2Proof.Machine.execRecovDiscard s
  | .getVersion via => Sys2Proof.Machine.execGetVersion via s
  | .getCapabilities via => Sys2Proof.Machine.execGetCapabilities via s
  | .negotiateAlgorithms via => Sys2Proof.Machine.execNegotiateAlgorithms via s
  | .getDigests via => Sys2Proof.Machine.execGetDigests via s
  | .getCertificate via off len => Sys2Proof.Machine.execGetCertificate via off len s
  | .challenge via nonce => Sys2Proof.Machine.execChallenge via nonce s
  | .getMeasurements via index sign nonce => Sys2Proof.Machine.execGetMeasurements via index sign nonce s
  | .keyExchange via share => Sys2Proof.Machine.execKeyExchange via share s
  | .finish via session ok => Sys2Proof.Machine.execFinish via session ok s
  | .endSession via session => Sys2Proof.Machine.execEndSession via session s
  | .heartbeat via session => Sys2Proof.Machine.execHeartbeat via session s
  | .setEndpointId via eid => Sys2Proof.Machine.execSetEndpointId via eid s
  | .getEndpointId via => Sys2Proof.Machine.execGetEndpointId via s
  | .getMctpVersionSupport via => Sys2Proof.Machine.execGetMctpVersionSupport via s
  | .getMessageTypeSupport via => Sys2Proof.Machine.execGetMessageTypeSupport via s
  | .clkMonitorWindow c => Sys2Proof.Machine.execClkMonitorWindow c s
  | .clockEdgeLoss k => Sys2Proof.Machine.execClockEdgeLoss k s
  | .clkFailResetExpiry => Sys2Proof.Machine.execClkFailResetExpiry s
  | .refclkQualifyTimeout => Sys2Proof.Machine.execRefclkQualifyTimeout s
  | .clkCfgWrite value => Sys2Proof.Machine.execClkCfgWrite value s
  | .clkEventClear value => Sys2Proof.Machine.execClkEventClear value s
  | .pwrStateRequest x value => Sys2Proof.Machine.execPwrStateRequest x value s
  | .sgStateWrite n value => Sys2Proof.Machine.execSgStateWrite n value s
  | .powerEntryDone x => Sys2Proof.Machine.execPowerEntryDone x s
  | .powerEntryTimeout x => Sys2Proof.Machine.execPowerEntryTimeout x s
  | .throttleBoundary => Sys2Proof.Machine.execThrottleBoundary s
  | .vinMeasure v a => Sys2Proof.Machine.execVinMeasure v a s
  | .powerStatusUpdate logic watts => Sys2Proof.Machine.execPowerStatusUpdate logic watts s
  | .inputFault => Sys2Proof.Machine.execInputFault s
  | .inputRecovered => Sys2Proof.Machine.execInputRecovered s
  | .criticalUndervoltage => Sys2Proof.Machine.execCriticalUndervoltage s
  | .footwayEntryDone => Sys2Proof.Machine.execFootwayEntryDone s
  | .criticalTemperature dram => Sys2Proof.Machine.execCriticalTemperature dram s
  | .thermalTrip => Sys2Proof.Machine.execThermalTrip s
  | .powerStageFault x fault => Sys2Proof.Machine.execPowerStageFault x fault s
  | .railBrownOut u => Sys2Proof.Machine.execRailBrownOut u s
  | .pstageMargin => Sys2Proof.Machine.execPstageMargin s
  | .pstageRecalibrate => Sys2Proof.Machine.execPstageRecalibrate s
  | .powerOn => Sys2Proof.Machine.execPowerOn s
  | .porstNAssert => Sys2Proof.Machine.execPorstNAssert s
  | .warmRstNAssert => Sys2Proof.Machine.execWarmRstNAssert s
  | .hpPerstNAssert => Sys2Proof.Machine.execHpPerstNAssert s
  | .hpPerstNDeassert => Sys2Proof.Machine.execHpPerstNDeassert s
  | .psuWarnNAssert => Sys2Proof.Machine.execPsuWarnNAssert s
  | .psuWarnNDeassert => Sys2Proof.Machine.execPsuWarnNDeassert s
  | .homeTrackerParityError n => Sys2Proof.Machine.execHomeTrackerParityError n s
  | .directoryCacheParityError n => Sys2Proof.Machine.execDirectoryCacheParityError n s
  | .arbiterParityError slice => Sys2Proof.Machine.execArbiterParityError slice s
  | .mapCopyParityError group x => Sys2Proof.Machine.execMapCopyParityError group x s
  | .treadleParityError => Sys2Proof.Machine.execTreadleParityError s
  | .heddleParityError n => Sys2Proof.Machine.execHeddleParityError n s
  | .replayBufferError p => Sys2Proof.Machine.execReplayBufferError p s
  | .weftLockUp => Sys2Proof.Machine.execWeftLockUp s
  | .watchdogExpiry slot => Sys2Proof.Machine.execWatchdogExpiry slot s
  | .wdtKick => Sys2Proof.Machine.execWdtKick s
  | .rstCmdL0 confirm => Sys2Proof.Machine.execRstCmdL0 confirm s
  | .rstCmdL1 confirm => Sys2Proof.Machine.execRstCmdL1 confirm s
  | .rstCmdL2 confirm => Sys2Proof.Machine.execRstCmdL2 confirm s
  | .rstCtrlL3 page value => Sys2Proof.Machine.execRstCtrlL3 page value s
  | .rstCtrlL4 page value => Sys2Proof.Machine.execRstCtrlL4 page value s
  | .holdRelease page => Sys2Proof.Machine.execHoldRelease page s
  | .resetRelease u => Sys2Proof.Machine.execResetRelease u s
  | .releaseStep => Sys2Proof.Machine.execReleaseStep s
  | .stackTrainingDone n fault => Sys2Proof.Machine.execStackTrainingDone n fault s
  | .laneCalibrationDone g => Sys2Proof.Machine.execLaneCalibrationDone g s
  | .bridgeBeatFail k again => Sys2Proof.Machine.execBridgeBeatFail k again s
  | .machineCheck core => Sys2Proof.Machine.execMachineCheck core s
  | .bayRetireCmd confirm n => Sys2Proof.Machine.execBayRetireCmd confirm n s
  | .epartFence confirm part => Sys2Proof.Machine.execEpartFence confirm part s
  | .lpartFence confirm part => Sys2Proof.Machine.execLpartFence confirm part s
  | .footEnter confirm => Sys2Proof.Machine.execFootEnter confirm s
  | .footExit confirm => Sys2Proof.Machine.execFootExit confirm s
  | .btestStart confirm n mode => Sys2Proof.Machine.execBtestStart confirm n mode s
  | .btestAbort confirm => Sys2Proof.Machine.execBtestAbort confirm s
  | .btestDone rows => Sys2Proof.Machine.execBtestDone rows s
  | .loopStart p value => Sys2Proof.Machine.execLoopStart p value s
  | .loopAbort p value => Sys2Proof.Machine.execLoopAbort p value s
  | .loopDone p errors => Sys2Proof.Machine.execLoopDone p errors s
  | .dpathStart port => Sys2Proof.Machine.execDpathStart port s
  | .dpathDone bad => Sys2Proof.Machine.execDpathDone bad s
  | .weftFenceWrite value => Sys2Proof.Machine.execWeftFenceWrite value s
  | .traceSplitWrite value => Sys2Proof.Machine.execTraceSplitWrite value s
  | .traceEnable value => Sys2Proof.Machine.execTraceEnable value s
  | .errStatClear page value => Sys2Proof.Machine.execErrStatClear page value s
  | .errInject page value => Sys2Proof.Machine.execErrInject page value s
  | .counterClear page => Sys2Proof.Machine.execCounterClear page s
  | .faultInfoRead m page => Sys2Proof.Machine.execFaultInfoRead m page s
  | .ueInfoRead m n => Sys2Proof.Machine.execUeInfoRead m n s
  | .loomFaultInfoRead m n => Sys2Proof.Machine.execLoomFaultInfoRead m n s
  | .hedFaultInfoRead m n => Sys2Proof.Machine.execHedFaultInfoRead m n s
  | .spFaultInfoRead m n => Sys2Proof.Machine.execSpFaultInfoRead m n s
  | .codecFaultInfoRead m n => Sys2Proof.Machine.execCodecFaultInfoRead m n s
  | .stuckInfoRead m slice => Sys2Proof.Machine.execStuckInfoRead m slice s
  | .rcCounterRead m addr size => Sys2Proof.Machine.execRcCounterRead m addr size s
  | .gpioMuxWrite value => Sys2Proof.Machine.execGpioMuxWrite value s
  | .ppsCfgWrite value => Sys2Proof.Machine.execPpsCfgWrite value s
  | .alertHoldExpiry => Sys2Proof.Machine.execAlertHoldExpiry s
  | .memRd ctag dpa mv => Sys2Proof.Machine.execMemRd ctag dpa mv s
  | .memRdData ctag dpa => Sys2Proof.Machine.execMemRdData ctag dpa s
  | .memInv ctag dpa mv => Sys2Proof.Machine.execMemInv ctag dpa mv s
  | .memWr ctag dpa mv bad data => Sys2Proof.Machine.execMemWr ctag dpa mv bad data s
  | .memWrPtl ctag dpa mask bad data => Sys2Proof.Machine.execMemWrPtl ctag dpa mask bad data s
  | .biRsp laddr => Sys2Proof.Machine.execBiRsp laddr s
  | .hostRetry ctag => Sys2Proof.Machine.execHostRetry ctag s
  | .hostLinkTrained flit width rate => Sys2Proof.Machine.execHostLinkTrained flit width rate s
  | .hostLinkDown => Sys2Proof.Machine.execHostLinkDown s
  | .ideIntegrityFail => Sys2Proof.Machine.execIdeIntegrityFail s
  | .hdmDecoderCommit n base size ways gran => Sys2Proof.Machine.execHdmDecoderCommit n base size ways gran s
  | .identifyMemoryDevice => Sys2Proof.Machine.execIdentifyMemoryDevice s
  | .getSupportedLogs => Sys2Proof.Machine.execGetSupportedLogs s
  | .getLog => Sys2Proof.Machine.execGetLog s
  | .getEventRecords log => Sys2Proof.Machine.execGetEventRecords log s
  | .clearEventRecords log all handles => Sys2Proof.Machine.execClearEventRecords log all handles s
  | .getTimestamp => Sys2Proof.Machine.execGetTimestamp s
  | .setTimestamp value => Sys2Proof.Machine.execSetTimestamp value s
  | .getDeviceInformation => Sys2Proof.Machine.execGetDeviceInformation s
  | .readRegister core off size => Sys2Proof.Machine.execReadRegister core off size s
  | .writeRegister core off size value => Sys2Proof.Machine.execWriteRegister core off size value s
  | .addTrustAnchor cert => Sys2Proof.Machine.execAddTrustAnchor cert s
  | .clearTrustAnchors => Sys2Proof.Machine.execClearTrustAnchors s
  | .writeFlashImage off data => Sys2Proof.Machine.execWriteFlashImage off data s
  | .readRepairLog index => Sys2Proof.Machine.execReadRepairLog index s
  | .smbusStatusRead => Sys2Proof.Machine.execSmbusStatusRead s
  | .smbusMctpPacket packet pecOk => Sys2Proof.Machine.execSmbusMctpPacket packet pecOk s
  | .jtagInstruction x => Sys2Proof.Machine.execJtagInstruction x s
  | .debugAccess op => Sys2Proof.Machine.execDebugAccess op s
  | .registerRead m addr size => Sys2Proof.Machine.execRegisterRead m addr size s
  | .mctpOverPcieVdm packet => Sys2Proof.Machine.execMctpOverPcieVdm packet s
  | .ideKeyManagement session stream => Sys2Proof.Machine.execIdeKeyManagement session stream s
  | .doeDiscovery index => Sys2Proof.Machine.execDoeDiscovery index s
  | .cdat => Sys2Proof.Machine.execCdat s
  | .doeAbort => Sys2Proof.Machine.execDoeAbort s
  | .gpioSample levels => Sys2Proof.Machine.execGpioSample levels s
  | .knownAnswerTestDone n k pass => Sys2Proof.Machine.execKnownAnswerTestDone n k pass s

end Sys2Proof.Machine
end

