-- ==== Sys2Proof/WellFormed.lean ====
section
/-!
DEFINITION. WellFormed.lean: which terms of `Instr` can be a command at all. The block never sees any other: an access of a
size that no master makes (R38), a flit without its 15 slots (R158), a message whose opcode is not its row's (R185), a line
with the same symbol in error twice (R89), a body of the wrong length. `exec` is total all the same.
-/
namespace Sys2Proof

open Sys2Proof.Machine

/-- R38, R518: an access moves 1, 2, 4 or 8 bytes. -/
def accessSize (n : Nat) : Bool := n = 1 || n = 2 || n = 4 || n = 8

/-- R89: every symbol in error is named once. -/
def Machine.Errs.wf (e : Errs) : Bool := decide e.syms.Nodup

/-- A request under the row of its own opcode (R185). -/
def Machine.Req.isOp (r : Req) (op : ReqOp) : Bool := r.op = op

/-- R155, R158: a flit has 15 slots, and a symbol in error of its codeword is named once. -/
def Machine.Flit.wf (f : Flit) : Bool := decide (f.slots.length = 15) && decide f.word.Nodup

/-- R173: CTRL_OP of a LINK_CTRL flit. -/
def Machine.Flit.ctrlOp (f : Flit) : Nat := ((f.slots.head?).getD 0).toNat % 256

/-- R173: a LINK_CTRL flit of the row with the given CTRL_OP. -/
def Machine.Flit.isCtrl (f : Flit) (op : Nat) : Bool := f.wf && f.ctrlOp = op

/-- R173: a LINK_CTRL flit of the row IDENTIFY, under which those with a reserved CTRL_OP come too: they have no row of their own. -/
def Machine.Flit.isIdentify (f : Flit) : Bool := f.wf && !([2, 3, 5, 6, 7].contains f.ctrlOp)

/-- R203: lines come with TCMP_D, at most 16 of them, and not with TCMP. -/
def Machine.TrayCmp.wf (t : TrayCmp) (lines : Bool) : Bool :=
  if lines then decide (1 ≤ t.data.length) && decide (t.data.length ≤ 16) else t.data.isEmpty

/-- R418: an MCTP packet has 5 to 1,020 bytes. -/
def packetSize (bs : List Byte) : Bool := decide (5 ≤ bs.length) && decide (bs.length ≤ 1020)

/-- R210: a transfer has 1 to 4,094 records. -/
def Machine.Bulk.wf (b : Bulk) : Bool := decide (1 ≤ b.records.length) && decide (b.records.length ≤ 4094)

/-- Is the term a command? -/
def Instr.wf : Instr → Bool
  | .regWrite _ _ size _ => accessSize size.val
  | .registerRead _ _ size => accessSize size.val
  | .rcCounterRead _ _ size => accessSize size.val
  | .rd r e => r.isOp .rd && e.wf
  | .rdS r e => r.isOp .rdS && e.wf
  | .rdM r e => r.isOp .rdM && e.wf
  | .own r e => r.isOp .own && e.wf
  | .wr r e => r.isOp .wr && e.wf
  | .wrP r e => r.isOp .wrP && e.wf
  | .atom r e => r.isOp .atom && e.wf
  | .capWr r => r.isOp .capWr
  | .capWrApply r e => r.isOp .capWr && e.wf
  | .mcWr r => r.isOp .mcWr
  | .rsD r e => r.isOp .rsD && e.wf
  | .rsU r e => r.isOp .rsU && e.wf
  | .offer _ _ h => h.op = .offer
  | .accept _ _ h => h.op = .accept
  | .handoffCommit _ _ h => h.op = .commit
  | .handoffCancel _ _ h => h.op = .cancel
  | .stackTempSample _ dram _ => decide (dram.length = 16)
  | .tcmp _ t => t.wf false
  | .tcmpD _ t => t.wf true
  | .lossOfSignal _ lanes => !lanes.isEmpty && decide lanes.Nodup
  | .dataFlit _ f => f.wf
  | .securedFlit _ f => f.wf
  | .idleFlit _ f => f.wf
  | .identify _ f => f.isIdentify
  | .identifyAck _ f => f.isCtrl 2
  | .keyShare _ f => f.isCtrl 3
  | .spareReq _ f => f.isCtrl 5
  | .spareAck _ f => f.isCtrl 6
  | .spareDone _ f => f.isCtrl 7
  | .bulk _ b => b.wf
  | .bulkRsp _ b => decide (1 ≤ b.answers.length) && decide (b.answers.length ≤ 4094)
  | .timeXReq _ t => t.kind = .req
  | .timeXRsp _ t => t.kind = .rsp
  | .timeXFup _ t => t.kind = .fup
  | .mctp _ _ packet => packetSize packet
  | .recovChunk len _ data => decide (data.length = len.toNat * 4096)
  | _ => true

end Sys2Proof
end

