-- ==== Sys2Proof/Safety.lean ====
section
/-!
DEFINITION. Safety.lean: what a safe run of the block is, in the terms that claims use.
-/
namespace Sys2Proof.Machine

open Sys2Proof

/-- A step that goes on: neither a fault nor a refusal. -/
def State.goesOn (s : State) : Prop := ∃ t, step s = .next t

/-- The state after up to k steps, as long as the block goes on. -/
def State.after (s : State) : Nat → Option State
  | 0 => some s
  | k + 1 =>
    match step s with
    | .next t => t.after k
    | .fault _ => none
    | .refused _ => none

/-- A safe run of k steps: the block goes on at each of them. -/
def State.safeRun (s : State) (k : Nat) : Prop := (s.after k).isSome

/-- Does a launch wait for a command: is it in no stage that it leaves by itself (R301, R307)? -/
def Launch.atRest (l : Launch) : Prop :=
  l.stage ≠ 3 ∧ ¬(l.stage = 6 ∧ l.open' = []) ∧ ¬(l.stage = 8 ∧ l.combWait = false)

/-- A calm state: nothing stands to be done at the end of a command. No event waits, no reduction reports to a task, no row
transaction, Heddle task or pooling is under way, every launch waits for a command, no Spindle stands to be tested, no message waits
for the host port, and no handoff writes the Region Table. -/
def State.calm (s : State) : Prop :=
  s.events = [] ∧ (∀ r ∈ s.loom.reds, r.task = none) ∧ s.hed.ops = [] ∧ s.hed.tasks = [] ∧ (∀ l ∈ s.sp.launches, l.atRest) ∧
    (∀ p ∈ s.sp.units, p.2.kat ≠ 1) ∧ s.host.inbox = [] ∧ s.reg.handWrites = [] ∧ s.hed.poolQ = []

/-- A quiet state: a calm one in which nothing waits in the Deck, on a link, in a Bay or for a stamp. -/
def State.quiet (s : State) : Prop :=
  s.calm ∧ s.voqs = [] ∧ s.landing = [] ∧ s.capHolds = [] ∧ s.arb.stall = [] ∧ s.links = [] ∧ s.bays = [] ∧ s.time.fups = []

/-- May a command be given at element i of register r of a page (R39, R517)? -/
def State.pageOpen (s : State) (pg : Nat) (r : RegSpec) (i : Nat) : Prop := s.pageBlocked (pg * 4096 + (r.off + r.stride * i)) = none

/-- f is a good LINK_CTRL flit of a live link, in its turn, whose body reads as c (R158, R166, R173). -/
def State.hears (s : State) (x : Nat) (f : Flit) (c : Option LinkCtrl) : Prop :=
  (s.link x).state.live = true ∧ (s.link x).takesFlit f = true ∧ fld f.ctrl 63 60 = 3 ∧ fld f.ctrl 59 48 = 0 ∧
    readCtrl (bytesOfSlots f.slots) = c

/-- f is a good flit of a sequenced type, 0 plain and 1 secured, whose SEQ is the next one of the link (R159, R166, R175). -/
def State.nextFlit (s : State) (x ftype : Nat) (f : Flit) : Prop :=
  (s.link x).state.takes = true ∧ (s.link x).takesFlit f = true ∧ fld f.ctrl 63 60 = ftype ∧
    fld f.ctrl 59 48 = (s.link x).rxNext ∧ (s.link x).shared = decide (ftype = 1)

/-- Registers of the Hub whose write only stores, one of each kind of page. -/
def plainRegs : List RegSpec := [Reg.RT.HANDOFF_TIMEOUT, Reg.Smp.RD_IDX, Reg.FT.TIME_CFG, Reg.Pwr.PWR_CAP, Reg.Rst.WDT_CFG]

/-- A home that can serve a request at once (R61, R63): the block is calm, the request names this device and a stack line of Bay n's,
the Bay runs and is reachable, it passes the home's checks under an Owned entry, and nothing else is under way at the Bay: no other
transaction, no row in repair, no poisoned line and no stored symbol error. -/
def State.homeReady (s : State) (n : BayId) (r : Req) (p : Pass) : Prop :=
  s.calm ∧ r.dnode = s.node ∧ r.addr < stackEnd ∧ s.homeBay r.addr = some n.val ∧ s.outUp (24 + n.val) = true ∧ s.bayRuns n.val = true ∧
    s.isHeld (.loom n) = false ∧ SMap.get (fun _ => 0) s.pwr.req n.val = 0 ∧ s.txns = [] ∧ s.voqs = [] ∧ s.checkHome n.val r = .ok p ∧
    p.ent.mode = .owned ∧ (s.bay n.val).repairing = [] ∧ s.poison = [] ∧ s.upsets = []

/-- R303: the state a Spindle goes on in when its SRAM returns e: a corrected error is counted. -/
def State.sramSeen (s : State) (n k : Nat) (e : SramErr) : State := if e = .fixed then s.spCount n k Reg.Sp.SRAM_CE_CNT 1 else s

/-- The invariant of the block: the Node ID is the one the fuses give (R49), and TIME_FLOOR is never below Fabric Time (R429). -/
def State.Inv (s : State) : Prop := s.ns ≤ s.timeFloor ∧ s.node = Config.nodeId

end Sys2Proof.Machine
end

