-- ==== Sys2Proof/Certificates/Slice0/Obligations.lean ====
section
/-!
DEFINITION. Certificates/Slice0/Obligations.lean: the statements for the provers. A completion statement says, for each command it names, in
which states exec answers which next state; s.seal t is t with the queue, the time and the Node ID of s, and State.settle does at once
what the command set off (log entry 6).
-/
open Sys2Proof Sys2Proof.Machine

/-- A step with a command at the front of the queue runs that command on the state with the queue's rest. -/
def Obligations.FrontCommandRuns : Prop :=
  ∀ (c : Instr) (s : State), step { s with pending := c :: s.pending } = exec c s

/-- With no command pending, a step does what the block has set itself to do next; with nothing of that kind either, one ns passes: in a
quiet state Fabric Time then advances by one ns, and no memory, link, Bay or request in progress changes (log entry 5: the model's
choice). -/
def Obligations.EmptyQueueGoesOn : Prop :=
  (∀ (c : Instr) (q : List Instr) (s : State), s.pending = [] → s.resume = c :: q → step s = exec c { s with resume := q }) ∧
  (∀ s : State, s.pending = [] → s.resume = [] → ∃ t, step s = .next t ∧ t.now = s.now + 1 ∧ t.pending = [] ∧ t.node = s.node) ∧
  (∀ s : State, s.pending = [] → s.resume = [] → s.quiet → s.time.adj = 0 → ∃ t, step s = .next t ∧ t.ft = (s.ft + 65536) % 2 ^ 80 ∧
    t.mem = s.mem ∧ t.links = s.links ∧ t.bays = s.bays ∧ t.txns = s.txns ∧ t.voqs = s.voqs)

/-- Every command of the table, with any operands and in any state, answers a next state; it leaves the queue, the time and the Node ID as
they are, and TIME_FLOOR is not below Fabric Time after it (R429). -/
def Obligations.EveryCommandAnswersNext : Prop :=
  ∀ (c : Instr) (s : State), ∃ t, exec c s = .next t ∧ t.pending = s.pending ∧ t.now = s.now ∧ t.node = s.node ∧
    t.ns ≤ t.timeFloor

/-- The block goes on at every step of every run: no state and no queue of commands stops it. -/
def Obligations.RunsNeverStop : Prop := ∀ (s : State) (k : Nat), s.safeRun k

/-- The invariant holds at reset. -/
def Obligations.InvariantAtReset : Prop := State.reset.Inv

/-- R429: every step keeps the Node ID, TIME_FLOOR is never below Fabric Time, and time does not run backward. -/
def Obligations.StepKeepsInvariant : Prop :=
  ∀ s t : State, s.Inv → step s = .next t → t.Inv ∧ s.now ≤ t.now

/-- R435, R436, R440, R434, R469: the commands of the clock monitor and the clock page. -/
def Obligations.ClockCommandsComplete : Prop :=
  -- R435: the sixteenth window in a row within 200 ppm qualifies a source
  (∀ (s : State) (c : MonCounts), s.clk.good = [] → s.clk.safe = false → s.clk.sel = 0 → SMap.get (fun _ => 0) s.clk.runs 0 = 15 →
    c.ref ≠ 0 → SMap.get (fun _ => 0) s.clk.refs 0 = c.ref → c.cxl = 0 → c.prim = 0 → c.back = 0 →
    ∃ t : State, exec (.clkMonitorWindow c) s = .next (s.seal (State.settle t)) ∧ t.clk.good = [0] ∧ t.clk.sel = 0 ∧
      t.regs = s.regs ∧ t.mem = s.mem) ∧
  -- R436, R440: a qualified source that is not in use fails: it is disqualified, recorded and counted
  (∀ (s : State) (k : Fin 4), s.clkGood k.val = true → s.clkSource ≠ some k.val → k.val ≠ 1 →
    exec (.clockEdgeLoss k) s =
      .next (s.seal (State.settle (((s.clkDrop k.val).clkEvent k.val).bumpI (pgHub 0x21) Reg.Clk.CLK_FAIL_CNT k.val)))) ∧
  -- R440: CLK_FAIL_RESET passes in holdover: entry 6 of the fuse map fires
  (∀ s : State, s.clk.safe = true → fld (s.hub Reg.Clk.CLK_MON_CFG) 31 16 ≠ 0 →
    exec .clkFailResetExpiry s = .next (s.seal (State.settle ((s.clkEvent 4).raise (.critical 6 .device))))) ∧
  -- R434: REFCLK_156 has not qualified within 100 ms of the clocks step: the sequence stops
  (∀ s : State, s.relStep = 3 → s.clkGood 0 = false → s.rst.stuck = false →
    exec .refclkQualifyTimeout s = .next (s.seal (({ s with rst := { s.rst with stuck := true } } : State).clkEvent 0))) ∧
  -- R469: CLK_CFG takes RVRT and two logical ports; where neither port changes no source is disturbed
  (∀ (s : State) (v : Word), clkPortOk (fld v 8 0) = true → clkPortOk (fld v 24 16) = true →
    fld v 8 0 = fld (s.hub Reg.Clk.CLK_CFG) 8 0 → fld v 24 16 = fld (s.hub Reg.Clk.CLK_CFG) 24 16 →
    exec (.clkCfgWrite v) s = .next (s.seal (State.settle ((s.setHub Reg.Clk.CLK_CFG
      (setFld (setFld (setBit (s.hub Reg.Clk.CLK_CFG) 31 (bit v 31)) 8 0 (fld v 8 0)) 24 16 (fld v 24 16))).syncClock)))) ∧
  -- R469, R538: a write of 1 clears a bit of CLK_EVENT, and ALERT_N follows
  (∀ (s : State) (v : Word), exec (.clkEventClear v) s =
    .next (s.seal (s.setHub Reg.Clk.CLK_EVENT (s.hub Reg.Clk.CLK_EVENT &&& ~~~(v.setWidth 64))).reviewAlert))

/-- R442-R445, R460-R467, R471: the commands of power states, the supply and the throttle. -/
def Obligations.PowerCommandsComplete : Prop :=
  -- R443, R444: Sleep or Deep-sleep is asked of a Bay or a Pier group that runs: the request stands until its entry
  (∀ (s : State) (n : BayId) (v : Word), fld v 2 0 = 1 ∨ fld v 2 0 = 2 → bit v 30 = false → s.pageOpen (pgMC n.val) Reg.Hdr.PWR_STATE 0 → s.waking (.bay n) = false →
    s.islandState (.bay n) = 0 →
    exec (.pwrStateRequest (.bay n) v) s = .next (s.seal ((s.setF (pgMC n.val) Reg.Hdr.PWR_STATE 2 0 (fld v 2 0)).setReq (.bay n) (fld v 2 0)))) ∧
  -- R443: Run is asked of a Bay that sleeps: it wakes
  (∀ (s : State) (n : BayId) (v : Word), fld v 2 0 = 0 → bit v 30 = false → s.pageOpen (pgMC n.val) Reg.Hdr.PWR_STATE 0 → s.waking (.bay n) = false → s.islandState (.bay n) ≠ 0 →
    exec (.pwrStateRequest (.bay n) v) s =
      .next (s.seal (((s.setF (pgMC n.val) Reg.Hdr.PWR_STATE 2 0 0).setReq (.bay n) 0).wake (.bay n)))) ∧
  -- R443: the Spindle page's PWR_STATE asks a state of each of eight groups
  (∀ (s : State) (n : BayId) (v : Word), bit v 30 = false → s.pageOpen (pgSp n.val) Reg.Hdr.PWR_STATE 0 →
    exec (.sgStateWrite n v) s = .next (s.seal ((List.range 8).foldl
      (fun s g => s.askIsland (.spindles n (Fin.ofNat 8 g)) (if bit v (16 + g) then 2 else if bit v (8 + g) then 1 else 0))
      (s.setF (pgSp n.val) Reg.Hdr.PWR_STATE 23 8 (fld v 23 8))))) ∧
  -- R444: the entry condition holds: the island enters the state asked of it
  (∀ (s : State) (n : BayId) (level : Nat), SMap.get (fun _ => 0) s.pwr.req n.val = level → level ≠ 0 → s.waking (.bay n) = false →
    s.islandState (.bay n) = 0 → s.mayEnter (.bay n) = true →
    exec (.powerEntryDone (.bay n)) s =
      .next (s.seal (if level = 2 then ((({ s with islands := SMap.set (fun _ => 0) s.islands n.val level } : State).setReq (.bay n) 0).selfRefresh n)
        else (({ s with islands := SMap.set (fun _ => 0) s.islands n.val level } : State).setReq (.bay n) 0)))) ∧
  -- R444: 100 us without the entry condition: the entry is abandoned and ENTRY_FAIL reads 1
  (∀ (s : State) (n : BayId), s.islandState (.bay n) = 0 → s.waking (.bay n) = false → SMap.get (fun _ => 0) s.pwr.req n.val ≠ 0 →
    exec (.powerEntryTimeout (.bay n)) s =
      .next (s.seal ((s.setReq (.bay n) 0).setF (pgMC n.val) Reg.Hdr.PWR_STATE 30 30 1))) ∧
  -- R465, R466: the input stands, and the cap or the heat demands more than the level: the level is the demand
  (∀ (s : State) (level cap heat : Nat), s.hub Reg.Pwr.VIN_STAT = 0 → s.pwr.low = false → s.pwr.warn = false →
    level = fld (s.hub Reg.Pwr.THR_STAT) 2 0 → cap = s.capDemand level → heat = s.heatDemand level → level < max cap heat →
    exec .throttleBoundary s = .next (s.seal ((s.setHub Reg.Pwr.THR_STAT (BitVec.ofNat 64
      (b2n (level < heat) * 2 ^ 18 + b2n (level < cap) * 2 ^ 17 + max cap heat * 2 ^ 8 + max cap heat))).bumpHub Reg.Pwr.THR_CHANGE_CNT))) ∧
  -- R471: the 10 us measurement
  (∀ (s : State) (v a : BitVec 16), exec (.vinMeasure v a) s =
    .next (s.seal (s.setHub Reg.Pwr.VIN_STAT (BitVec.ofNat 64 (a.toNat * 2 ^ 16 + v.toNat))))) ∧
  -- R471: the 1 ms update
  (∀ (s : State) (l : BitVec 8) (w : BitVec 16), exec (.powerStatusUpdate l w) s = .next (s.seal (State.settle
    ((s.setHub Reg.Pwr.PIN_STAT (BitVec.ofNat 64
      ((List.range 24).foldl (fun m n => max m (fld (s.rg (pgMC n) Reg.MC.STACK_TEMP) 7 0)) 0 * 2 ^ 24 + l.toNat * 2 ^ 16 + w.toNat))).footHeat)))) ∧
  -- R460, R448: the input falls: the device stops, and its fall is entry 0 of the fuse map
  (∀ s : State, exec .inputFault s = .next (s.seal (State.settle
    ((({ s with pwr := { s.pwr with stopped := true } } : State).bumpHub Reg.Pwr.VIN_LOW_CNT).raise (.critical 0 .device))))) ∧
  (∀ s : State, exec .inputRecovered s = .next (s.seal (State.settle (({ s with pwr := { s.pwr with stopped := false } } : State).footClear 2)))) ∧
  (∀ s : State, exec .criticalUndervoltage s = .next (s.seal (State.settle ((s.bumpHub Reg.Pwr.VIN_LOW_CNT).footEnter 2)))) ∧
  (∀ (s : State) (d : Bool), exec (.criticalTemperature d) s = .next (s.seal (State.settle (s.footEnter (if d then 4 else 3))))) ∧
  -- R468: the thermal trip stops the device, asserts ALERT_N and holds everything in reset
  (∀ s : State, exec .thermalTrip s = .next (s.seal (State.settle
    ((({ s with pwr := { s.pwr with tripped := true, stopped := true } } : State).raiseAlert).hold .device)))) ∧
  -- R463: PSU_WARN_N
  (∀ s : State, s.pwr.warn = false → exec .psuWarnNAssert s = .next (s.seal
    ((({ (s.bumpHub Reg.Pwr.PSU_WARN_CNT) with pwr := { s.pwr with warn := true } } : State)).setHubF Reg.Pwr.THR_STAT 16 16 1))) ∧
  (∀ s : State, exec .psuWarnNDeassert s = .next (s.seal
    ((({ s with pwr := { s.pwr with warn := false } } : State)).setHubF Reg.Pwr.THR_STAT 16 16 (b2n s.pwr.low)))) ∧
  -- R48, R471: PSTAGE_CMD of a stage that is READY or RUN
  (∀ s : State, exec .pstageMargin s = .next (s.seal (s.setStageShell (fld (s.hub Reg.Pwr.PSTAGE_SEL) 8 0)
    (shRequest (s.stageShell (fld (s.hub Reg.Pwr.PSTAGE_SEL) 8 0)) 4).1))) ∧
  (∀ s : State, exec .pstageRecalibrate s = .next (s.seal (s.setStageShell (fld (s.hub Reg.Pwr.PSTAGE_SEL) 8 0)
    (shRequest (s.stageShell (fld (s.hub Reg.Pwr.PSTAGE_SEL) 8 0)) 5).1))) ∧
  -- R458: a stage faults, and the unit whose rail it feeds browns out
  (∀ (s : State) (i : Fin 398) (f : BitVec 8), exec (.powerStageFault i f) s = .next (s.seal (State.settle
    ((s.setStageShell i.val (setFld (setFld (setFld (s.stageShell i.val) 3 0 6) 31 24 f.toNat) 7 7 0)).brownOut (stageUnit i.val))))) ∧
  -- R448, R449: a rail's brown-out is entry 1, 2 or 3 of the fuse map
  (∀ (s : State) (n : BayId), exec (.railBrownOut (.bay n.val)) s = .next (s.seal (State.settle (s.raise (.critical 3 (.bay n.val)))))) ∧
  (∀ (s : State) (k : Nat), exec (.railBrownOut (.span k)) s = .next (s.seal (State.settle (s.raise (.critical 2 (.span k)))))) ∧
  (∀ s : State, exec (.railBrownOut .device) s = .next (s.seal (State.settle (s.raise (.critical 1 .device)))))

/-- R43, R461: crossings and the wake governor. -/
def Obligations.WakeCommandsComplete : Prop :=
  -- R42, R43: an item for a sleeping island is held, unless its crossing is full, and the island asks for a wake
  (∀ (s : State) (i : Island) (m : Msg), s.islandState i ≠ 0 →
    exec (.crossingArrival i m) s = .next (s.seal (if s.crossingFull i then s.wake i
      else ({ s.takeFrom m.arr m with crossing := s.crossing ++ [(i, s.itemFor i m.arr m)] } : State).wake i))) ∧
  -- R444: an item for an island that runs abandons an entry asked of it
  (∀ (s : State) (i : Island) (m : Msg), s.islandState i = 0 →
    exec (.crossingArrival i m) s = .next (s.seal (s.abandon i))) ∧
  -- R461: the head of the queue is granted once the budget covers its charge
  (∀ (s : State) (i : Island) (q : List Island), s.govQ = i :: q → s.charge i * perCentiAmp ≤ s.pwr.budget →
    exec .wakeGrant s = .next (s.seal (({ s with
        govQ := q, granted := s.granted ++ [i], pwr := { s.pwr with budget := s.pwr.budget - s.charge i * perCentiAmp } } : State).bumpHub Reg.Pwr.WAKE_GRANT_CNT))) ∧
  (∀ (s : State) (i : Island) (q : List Island), s.govQ = i :: q → s.pwr.budget < s.charge i * perCentiAmp →
    exec .wakeGrant s = .next (s.seal s)) ∧
  -- R445, R461: a granted Spindle group reaches Run, with nothing held for it
  (∀ (s : State) (n : BayId) (g : Fin 8), s.calm → s.granted = [.spindles n g] → s.crossing = [] → s.rst.waits = [] →
    exec (.islandRun (.spindles n g)) s =
      .next (s.seal { s with granted := [], islands := SMap.set (fun _ => 0) s.islands (100 + 8 * n.val + g.val) 0 })) ∧
  -- R40: an access that nothing answers: a read gives 0, a write is discarded
  (∀ (s : State) (m : Master) (a : BitVec 26), exec (.weftTimeout m a true) s = .next (s.seal (s.setErr pgRoot 4 (a.toNat / 4)))) ∧
  (∀ (s : State) (m : Master) (a : BitVec 26),
    exec (.weftTimeout m a false) s = .next (s.seal ((s.setErr pgRoot 4 (a.toNat / 4)).emit (.regRead m 0))))

/-- R446-R457, R470: the commands of resets and of the release sequence. -/
def Obligations.ResetCommandsComplete : Prop :=
  -- R448, R456: PWRGOOD rises, and PORST_N: an L0 reset
  (∀ s : State, exec .powerOn s =
    .next (s.seal (State.settle (({ s with pwr := { s.pwr with stopped := false, tripped := false } } : State).coldReset 0x10)))) ∧
  (∀ s : State, exec .porstNAssert s = .next (s.seal (State.settle (s.coldReset 0x11)))) ∧
  -- R449: WARM_RST_N is entry 4 of the fuse map, a Weft lock-up entry 7
  (∀ s : State, exec .warmRstNAssert s = .next (s.seal (State.settle (s.raise (.critical 4 .device))))) ∧
  (∀ s : State, exec .weftLockUp s = .next (s.seal (State.settle (s.raise (.critical 7 .device))))) ∧
  -- R448: HP_PERST_N resets the host port alone
  (∀ s : State, exec .hpPerstNAssert s =
    .next (s.seal (State.settle { s.hostDown with host := { s.hostDown.host with perst := true } }))) ∧
  (∀ s : State, exec .hpPerstNDeassert s = .next (s.seal { s with host := { s.host with perst := false } })) ∧
  -- R452: the watchdog's three expiries: an NMI, Footway mode, a reset
  (∀ s : State, bit (s.hub Reg.Rst.WDT_CFG) 31 = true → fld (s.hub Reg.Rst.WDT_STAT) 1 0 = 0 →
    exec (.watchdogExpiry false) s = .next (s.seal (State.settle ((s.setHubF Reg.Rst.WDT_STAT 1 0 1).emit .nmi)))) ∧
  (∀ s : State, bit (s.hub Reg.Rst.WDT_CFG) 31 = true → fld (s.hub Reg.Rst.WDT_STAT) 1 0 = 1 →
    exec (.watchdogExpiry false) s = .next (s.seal (State.settle ((s.setHubF Reg.Rst.WDT_STAT 1 0 2).footEnter 1)))) ∧
  (∀ s : State, bit (s.hub Reg.Rst.WDT_CFG) 31 = true → fld (s.hub Reg.Rst.WDT_STAT) 1 0 = 2 →
    exec (.watchdogExpiry false) s = .next (s.seal (State.settle ((s.setHubF Reg.Rst.WDT_STAT 1 0 3).raise (.critical 5 .device))))) ∧
  (∀ s : State, exec .wdtKick s = .next (s.seal (State.settle ((s.setHubF Reg.Rst.WDT_STAT 1 0 0).footClear 1)))) ∧
  -- R470: RST_CMD with its confirmation
  (∀ s : State, exec (.rstCmdL0 0xA5) s = .next (s.seal (State.settle (s.coldReset 0x12)))) ∧
  (∀ s : State, ResetUnit.device ∉ s.held → exec (.rstCmdL1 0xA5) s = .next (s.seal (State.settle (s.warmReset 0x12 .device)))) ∧
  (∀ s : State, ResetUnit.device ∉ s.held → exec (.rstCmdL2 0xA5) s = .next (s.seal (State.settle (s.warpReset 0x12 .device)))) ∧
  -- R451: while an L0 or L1 reset holds the device, one of them is only logged
  (∀ s : State, ResetUnit.device ∈ s.held →
    exec (.rstCmdL1 0xA5) s = .next (s.seal (State.settle (s.logReset 0x12 5 .device s.ft))) ∧
    exec (.rstCmdL2 0xA5) s = .next (s.seal (State.settle (s.logReset 0x12 5 .device s.ft)))) ∧
  -- R470, R17: a wrong confirmation rejects the write
  (∀ (s : State) (k : Byte), k ≠ 0xA5 → exec (.rstCmdL0 k) s = .next (s.seal (State.settle (s.writeRejected pgRst))) ∧
    exec (.rstCmdL1 k) s = .next (s.seal (State.settle (s.writeRejected pgRst))) ∧
    exec (.rstCmdL2 k) s = .next (s.seal (State.settle (s.writeRejected pgRst))))

/-- R454, R455: the commands of RST_CTRL and of one unit's release. -/
def Obligations.UnitResetCommandsComplete : Prop :=
  -- R454: REQ 3 of a Bay's controlling page that runs: its island is reset, logged and counted
  (∀ (s : State) (n : BayId) (pg : Fin 5120) (v : Word), pg.val = pgMC n.val → s.pageBlocked (pgMC n.val * 4096 + 0x10) = none →
    exec (.rstCtrlL3 pg v) s = .next (s.seal (State.settle (s.rstCtrlWrite (pgMC n.val) (setFld v 2 0 3))))) ∧
  (∀ (s : State) (pg : Nat) (v : Word) (n : BayId), pg = pgMC n.val → bit (s.rg pg Reg.Hdr.RST_CTRL) 16 = false →
    ∀ t : State, t = ((s.setF pg Reg.Hdr.RST_CTRL 16 16 (b2n (bit v 16))).setF pg Reg.Hdr.RST_CTRL 13 8 (fld v 13 8)).setF pg
        Reg.Hdr.RST_CTRL 30 28 (fld v 30 28) →
      fld v 2 0 = 3 → t.resetHides 3 (.bay n.val) = false → s.rstCtrlWrite pg v = t.doReset 3 (.bay n.val) 0x13) ∧
  -- R445, R455: an L3 reset of a Bay whose island runs
  (∀ (s : State) (n : BayId), s.islandState (.bay n) = 0 → s.doReset 3 (.bay n.val) 0x13 =
    ((((((s.bayEnds n.val).clearBay n.val true).resetRegs 3 (.bay n.val)).hold (.bay n.val)).logReset 0x13 3 (.bay n.val) s.ft).bumpI pgRst
      Reg.Rst.RST_CNT 2)) ∧
  -- R454: REQ 4 of a Loom's page
  (∀ (s : State) (n : BayId) (pg : Fin 5120) (v : Word), pg.val = pgLoom n.val → s.pageBlocked (pgLoom n.val * 4096 + 0x10) = none →
    exec (.rstCtrlL4 pg v) s = .next (s.seal (State.settle (s.rstCtrlWrite (pgLoom n.val) (setFld v 2 0 4))))) ∧
  (∀ (s : State) (n : BayId), s.islandState (.bay n) = 0 → s.doReset 4 (.loom n.val) 0x13 =
    (((((s.loomDown n.val).resetRegs 4 (.loom n.val)).hold (.loom n.val)).logReset 0x13 4 (.loom n.val) s.ft).bumpI pgRst Reg.Rst.RST_CNT 3)) ∧
  -- R454: HOLD is written 0: what only HOLD kept in reset is let go
  (∀ (s : State) (pg : Fin 5120), s.pageBlocked (pg.val * 4096 + 0x10) = none → bit (s.rg pg.val Reg.Hdr.RST_CTRL) 16 = true →
    exec (.holdRelease pg) s = .next (s.seal (State.settle ((s.setF pg.val Reg.Hdr.RST_CTRL 16 16 0).holdRelease pg.val)))) ∧
  -- R455: the reset time of a Loom is over
  (∀ (s : State) (n : BayId), s.calm → ResetUnit.loom n.val ∈ s.held → bit (s.rg (pgLoom n.val) Reg.Hdr.RST_CTRL) 16 = false →
    exec (.resetRelease (.loom n.val)) s = .next (s.seal { s with
      held := s.held.erase (.loom n.val), rst := { s.rst with holding := s.rst.holding.erase (.loom n.val) } })) ∧
  -- R457: the steps of the release sequence
  (∀ s : State, s.pwr.stopped = false → s.pwr.tripped = false → s.relStep = 1 →
    exec .releaseStep s = .next (s.seal (State.settle (s.setHubF Reg.Rst.RST_STAT 30 28 2)))) ∧
  (∀ s : State, s.pwr.stopped = false → s.pwr.tripped = false → s.relStep = 2 → s.ks.boot = 1 →
    exec .releaseStep s = .next (s.seal (State.settle (s.setHubF Reg.Rst.RST_STAT 30 28 3)))) ∧
  (∀ s : State, s.pwr.stopped = false → s.pwr.tripped = false → s.relStep = 3 → s.rst.stuck = false → s.clkGood 0 = true →
    exec .releaseStep s = .next (s.seal (State.settle
      (({ (s.clkSelect 1) with held := s.held.erase .device } : State).setHubF Reg.Rst.RST_STAT 30 28 4)))) ∧
  (∀ s : State, s.pwr.stopped = false → s.pwr.tripped = false → s.relStep = 6 → s.toPower.all (fun g => NSet.has g s.rst.calibrated) = true →
    exec .releaseStep s = .next (s.seal (State.settle ((s.setHubF Reg.Rst.RST_STAT 30 28 7).setHubF Reg.Rst.RST_STAT 31 31 1)))) ∧
  -- R103, R455: a stack in training has trained; its repairs are made hard and its marks cleared
  (∀ (s u t : State) (n : BayId), shState (s.rg (pgMC n.val) Reg.MC.PHY_SHELL_STAT) = 1 → s.islandState (.bay n) = 0 →
    u = (s.firstSample n.val).set (pgMC n.val) Reg.MC.PHY_SHELL_STAT (shCalibrated (setFld (s.rg (pgMC n.val) Reg.MC.PHY_SHELL_STAT) 31 24 0) 3 0) →
    t = (u.setBay n.val (u.bay n.val).hardened).syncRepair n.val →
    t.relStep ≠ 5 → exec (.stackTrainingDone n 0) s = .next (s.seal (State.settle t))) ∧
  (∀ (s : State) (n : BayId) (f : BitVec 8), f ≠ 0 → shState (s.rg (pgMC n.val) Reg.MC.PHY_SHELL_STAT) = 1 → s.islandState (.bay n) = 0 →
    exec (.stackTrainingDone n f) s = .next (s.seal (State.settle
      (((s.firstSample n.val).set (pgMC n.val) Reg.MC.PHY_SHELL_STAT (shCalibrated (setFld (s.rg (pgMC n.val) Reg.MC.PHY_SHELL_STAT) 31 24 0) 3 f.toNat)).raise
        (.bayFault n.val true))))) ∧
  -- R445: the lane shells of a Pier group that runs have calibrated; its ports may leave DISABLED
  (∀ (s t : State) (g : GroupId), s.islandState (.group g) = 0 → t = (List.range 27).foldl (fun s j =>
      if shState (s.laneShell (3 * g.val + j / 9) (j % 9)) = 1 then
        s.setLaneShell (3 * g.val + j / 9) (j % 9) (shCalibrated (s.laneShell (3 * g.val + j / 9) (j % 9)) 2 0) else s) s →
    t.relStep ≠ 6 → exec (.laneCalibrationDone g) s =
      .next (s.seal (State.settle ([3 * g.val, 3 * g.val + 1, 3 * g.val + 2].foldl (fun s p => s.tryPier p) t))))

/-- R449, R477-R501: the commands of faults, fences, Footway mode and tests. -/
def Obligations.FaultCommandsComplete : Prop :=
  -- R449, R521: a parity error sets STATE_PARITY on its unit's page, and its entry of the fuse map fires
  (∀ (s : State) (n : BayId), exec (.homeTrackerParityError n) s =
    .next (s.seal (State.settle ((s.setErr (pgHome n.val) 2 0).raise (.critical 8 (.bay n.val)))))) ∧
  (∀ (s : State) (n : BayId), exec (.directoryCacheParityError n) s =
    .next (s.seal (State.settle ((s.setErr (pgDirc n.val) 2 0).raise (.critical 9 (.bay n.val)))))) ∧
  (∀ (s : State) (k : Fin 5), k.val < 4 → exec (.arbiterParityError k) s =
    .next (s.seal (State.settle ((s.setErr (pgSlice k.val) 2 0).raise (.critical 10 (.span k.val)))))) ∧
  (∀ (s : State) (g : Fin 24), exec (.mapCopyParityError true g) s =
    .next (s.seal (State.settle ((s.setErr (pgPG g.val) 2 0).raise (.critical 11 (.group g.val)))))) ∧
  (∀ (s : State) (n : Fin 24), exec (.mapCopyParityError false n) s =
    .next (s.seal (State.settle ((s.setErr (pgHome n.val) 2 0).raise (.critical 11 (.bay n.val)))))) ∧
  (∀ s : State, exec .treadleParityError s =
    .next (s.seal (State.settle ((s.setErr (pgHub 0x1B) 2 0).raise (.critical 12 .device))))) ∧
  (∀ (s : State) (n : BayId), exec (.heddleParityError n) s =
    .next (s.seal (State.settle ((s.setErr (pgHed n.val) 2 0).raise (.critical 14 (.heddle n.val)))))) ∧
  (∀ (s : State) (p : PierId), exec (.replayBufferError p) s =
    .next (s.seal (State.settle ((s.setErr (pgPier p.val) 2 0).raise (.critical 15 (.pier p.val)))))) ∧
  -- R480: a failed beat of a bridge that is not fenced and has had none within a second: it is replayed and counted
  (∀ (s : State) (k : Fin 10), bit (s.hub Reg.Flt.BRIDGE_STAT) k.val = false → SMap.get (fun _ => []) s.flt.bridge k.val = [] →
    (∀ t : State, t = (({ s with flt := { s.flt with beats := SMap.set (fun _ => 0) s.flt.beats k.val 0, bridge := SMap.set (fun _ => []) s.flt.bridge k.val [s.now] } } : State).bumpI
        pgFlt Reg.Flt.BRIDGE_REPLAY_CNT k.val) →
      1 ≤ fld (t.hub Reg.Flt.FAULT_CFG) 15 8 → exec (.bridgeBeatFail k false) s = .next (s.seal (State.settle t)))) ∧
  -- R498: the first machine check of a core: an NMI, the core stands as failed, and the fault log
  (∀ (s : State) (k : Fin 16), SMap.get (fun _ => []) s.flt.hist (10 * 4096 + k.val) = [] →
    exec (.machineCheck k) s = .next (s.seal (State.settle ((({ s with flt := { s.flt with
      cores := NSet.insert k.val s.flt.cores
      hist := SMap.set (fun _ => []) s.flt.hist (10 * 4096 + k.val) [s.now / 1000] } } : State).emit .nmi).faultLog 10 0 8 k.val)))) ∧
  -- R477: BAY_RETIRE_CMD
  (∀ (s : State) (n : BitVec 5), n.toNat < 24 → exec (.bayRetireCmd 0xA5 n) s =
    .next (s.seal (State.settle (s.retireBay n.toNat true 0xF)))) ∧
  -- R482: the fence of an electrical partition: every Span of it suffers a Span fault and is powered off; of one with no Span nothing changes
  (∀ (s : State) (k : Fin 4), exec (.epartFence 0xA5 k) s = .next (s.seal (State.settle
    ((s.epartSpans k.val).foldl (fun t sp => t.spanOff sp) s)))) ∧
  (∀ (s : State) (k : Fin 4), s.calm → (∀ sp < 4, fld (s.hub Reg.Flt.EPART_MAP) (2 * sp + 1) (2 * sp) ≠ k.val) →
    exec (.epartFence 0xA5 k) s = .next (s.seal s)) ∧
  -- R483: the fence of a logical partition: its Bays are retired, its Pier groups go down and are held, and the fence is shown
  (∀ (s : State) (k : Fin 8) (n : BayId), (∀ u < 48, s.lpart u = k.val ↔ u = n.val) → ∃ t,
    exec (.lpartFence 0xA5 k) s = .next (s.seal (State.settle t)) ∧ t.retired n.val = true ∧
      bit (t.hub Reg.Flt.LPART_FENCED) k.val = true) ∧
  (∀ (s : State) (k : Fin 8) (g : GroupId), (∀ u < 48, s.lpart u = k.val ↔ u = 24 + g.val) → ∃ t,
    exec (.lpartFence 0xA5 k) s = .next (s.seal (State.settle t)) ∧ t.isHeld (.group g) = true ∧
      bit (t.hub Reg.Flt.LPART_FENCED) k.val = true) ∧
  (∀ (s : State) (k : Fin 8), (∀ u < 48, s.lpart u ≠ k.val) → exec (.lpartFence 0xA5 k) s =
    .next (s.seal (State.settle (s.setHub Reg.Flt.LPART_FENCED (setBit (s.hub Reg.Flt.LPART_FENCED) k.val true))))) ∧
  -- R490, R500: Footway mode by command
  (∀ s : State, exec (.footEnter 0xA5) s = .next (s.seal (State.settle ((s.setHubF Reg.Flt.FOOT_STAT 30 30 0).footEnter 0)))) ∧
  (∀ (s t : State), t = (s.setHubF Reg.Flt.FOOT_STAT 30 30 0).footClear 0 → t.inFootway = true →
    fld (t.hub Reg.Flt.FOOT_STAT) 12 8 = 0 → exec (.footExit 0xA5) s =
      .next (s.seal (State.settle (((t.setHubF Reg.Flt.FOOT_STAT 31 31 0).syncSched.reviewAlert).notify 6 0 [])))) ∧
  (∀ (s t : State), t = (s.setHubF Reg.Flt.FOOT_STAT 30 30 0).footClear 0 → t.inFootway = true →
    fld (t.hub Reg.Flt.FOOT_STAT) 12 8 ≠ 0 → exec (.footExit 0xA5) s =
      .next (s.seal (State.settle (t.setHubF Reg.Flt.FOOT_STAT 30 30 1)))) ∧
  -- R494: every Spindle group that runs or sleeps enters Deep-sleep
  (∀ s : State, s.inFootway = true → exec .footwayEntryDone s = .next (s.seal (State.settle ((List.range 192).foldl (fun s j =>
    if s.islandState (.spindles (Fin.ofNat 24 (j / 8)) (Fin.ofNat 8 (j % 8))) < 2 then
      { s with islands := SMap.set (fun _ => 0) s.islands (100 + j) 2 } else s) s)))) ∧
  -- R487: a test of a retired Bay's stack; its abort, and its end without a failing row
  (∀ (s : State) (n : BitVec 5) (mode : Fin 4), n.toNat < 24 → mode ≠ 3 → s.flt.btest = none → s.retired n.toNat = true →
    bit (s.hub Reg.Flt.SPAN_FENCED) (4 + n.toNat / 6) = false → exec (.btestStart 0xA5 n mode) s = .next (s.seal (State.settle
      (({ s with flt := { s.flt with btest := some ⟨n.toNat, mode.val, false⟩ }, testing := NSet.insert n.toNat s.testing } : State).setHubF
        Reg.Flt.BTEST_STAT 31 31 1)))) ∧
  (∀ s : State, s.flt.btest ≠ none → exec (.btestAbort 0xA5) s = .next (s.seal (State.settle
    (({ s with flt := { s.flt with btest := none }, testing := [] } : State).setHub Reg.Flt.BTEST_STAT (BitVec.ofNat 64 (3 * 2 ^ 28)))))) ∧
  (∀ (s : State) (n : Nat), s.flt.btest = some ⟨n, 1, false⟩ → exec (.btestDone []) s = .next (s.seal (State.settle
    (({ s with flt := { s.flt with btest := none }, testing := [] } : State).setHub Reg.Flt.BTEST_STAT 0)))) ∧
  -- R501: a loop test of a lane that no live port uses; its abort, and its end
  (∀ (s : State) (p : PierId) (v w : Word), w = setFld (setFld v 31 31 1) 30 30 0 → bit w 30 = false → bit w 31 = true → s.pageOpen (pgPier p.val) Reg.Pier.LOOP_CMD 0 →
    (s.pier p.val).loop = none → fld w 3 0 ≤ 8 → fld w 19 8 ≠ 0 → s.laneFree p.val (fld w 3 0) = true →
    exec (.loopStart p v) s = .next (s.seal ((s.setPier p.val { s.pier p.val with
      loop := some (fld w 3 0, s.now + fld w 19 8 * 1000000) }).setF (pgPier p.val) Reg.Pier.LOOP_STAT 31 31 1))) ∧
  (∀ (s : State) (p : PierId) (v : Word), s.pageOpen (pgPier p.val) Reg.Pier.LOOP_CMD 0 → (s.pier p.val).loop ≠ none → bit (setFld v 30 30 1) 30 = true →
    exec (.loopAbort p v) s =
      .next (s.seal ((s.setPier p.val { s.pier p.val with loop := none }).setN (pgPier p.val) Reg.Pier.LOOP_STAT 2))) ∧
  (∀ (s : State) (p : PierId) (n : BitVec 32), (s.pier p.val).loop ≠ none → exec (.loopDone p n) s =
    .next (s.seal (((s.setPier p.val { s.pier p.val with loop := none }).setN (pgPier p.val) Reg.Pier.LOOP_STAT 0).addN (pgPier p.val)
      Reg.Pier.LOOP_ERR_CNT n.toNat))) ∧
  -- R501: a datapath test of a Deck port, and its end
  (∀ (s : State) (n : BitVec 6), s.flt.dpath = none → n.toNat < 53 → exec (.dpathStart n) s =
    .next (s.seal (({ s with flt := { s.flt with dpath := some n.toNat }, voqs := s.voqs ++ [testCells n.toNat s.now] } : State).setHubF Reg.Diag.DPATH_STAT 31 31 1))) ∧
  (∀ (s : State) (b : BitVec 11), s.flt.dpath ≠ none → exec (.dpathDone b) s =
    .next (s.seal ((({ s with flt := { s.flt with dpath := none }, voqs := s.voqs.filter (fun v => v.inp ≠ 55 ∧ v.out ≠ 55) } : State).setHub Reg.Diag.DPATH_STAT
      (BitVec.ofNat 64 (b2n (b = 0)))).addN (pgHub 0x07) Reg.Diag.DPATH_ERR_CNT b.toNat)))

/-- R14, R16, R17, R38: a write of a 32-bit RW register at its address stores what R16 and R17 let it store. -/
def Obligations.PlainRegisterWritesComplete : Prop :=
  ∀ (s : State) (m : Master) (r : RegSpec) (v : DWord), s.calm → m ≠ .debug → r ∈ plainRegs →
    exec (.regWrite m (BitVec.ofNat 26 (pgOfHub r * 4096 + r.off)) 4 v) s =
      .next (s.seal ((s.touchPage m (pgOfHub r) r.off false).writeReg (pgOfHub r) r 0 0 ((v.setWidth 32).setWidth 64)))

/-- R14, R18: a read of a 32-bit register of the Hub by a master that has latched nothing gives what the register shows and changes
nothing but what the read sends. -/
def Obligations.PlainRegisterReadsComplete : Prop :=
  (∀ (s : State) (m : Master) (r : RegSpec), m ≠ .debug → r ∈ plainRegs → s.latches = [] → s.staged = [] →
    exec (.registerRead m (BitVec.ofNat 26 (pgOfHub r * 4096 + r.off)) 4) s =
      .next (s.seal (s.emit (.regRead m ((BitVec.ofNat 32 (fld (s.view (pgOfHub r) r 0) 31 0)).setWidth 64))))) ∧
  -- R14: the RC counter OB_HWM of a Trestle's Span is returned and cleared
  (∀ (s : State) (m : Master) (sp : Fin 4), m ≠ .debug → s.latches = [] → s.staged = [] → s.pageState (pgOB sp.val) = 0 →
    exec (.rcCounterRead m (BitVec.ofNat 26 (pgOB sp.val * 4096 + 0x48)) 4) s =
      .next (s.seal ((s.setN (pgOB sp.val) Reg.OB.OB_HWM 0).emit
        (.regRead m ((BitVec.ofNat 32 (fld (s.rg (pgOB sp.val) Reg.OB.OB_HWM) 31 0)).setWidth 64))))) ∧
  -- R18, R39: a read of an offset of no page gives 0 and sets UNASSIGNED
  (∀ (s : State) (m : Master) (a : BitVec 26), m ≠ .debug → assigned (a.toNat / 4096) = false → a.toNat % 4 = 0 →
    exec (.registerRead m a 4) s = .next (s.seal ((s.setErr pgRoot 6 (a.toNat / 4)).emit (.regRead m 0))))

/-- R14, R86, R106, R147, R245, R277, R316, R336: a read of a register that a read clears gives its value, and it and the registers
read with it then hold 0. -/
def Obligations.ClearingReadsComplete : Prop :=
  ∀ (s : State) (m : Master), s.latches = [] → s.staged = [] →
    (∀ n : BayId, s.pageState (pgHome n.val) = 0 → exec (.faultInfoRead m (.home n)) s = .next (s.seal
      (((s.setN (pgHome n.val) Reg.Home.FAULT_INFO 0).setN (pgHome n.val) Reg.Home.FAULT_ADDR 0).emit
        (.regRead m ((BitVec.ofNat 32 (fld (s.rg (pgHome n.val) Reg.Home.FAULT_INFO) 31 0)).setWidth 64))))) ∧
    (∀ n : BayId, s.pageState (pgMC n.val) = 0 → exec (.ueInfoRead m n) s = .next (s.seal
      (((s.setN (pgMC n.val) Reg.MC.UE_INFO 0).setN (pgMC n.val) Reg.MC.UE_ADDR 0).emit
        (.regRead m ((BitVec.ofNat 32 (fld (s.rg (pgMC n.val) Reg.MC.UE_INFO) 31 0)).setWidth 64))))) ∧
    (∀ n : BayId, s.pageState (pgLoom n.val) = 0 → exec (.loomFaultInfoRead m n) s = .next (s.seal
      (((s.setN (pgLoom n.val) Reg.Loom.LOOM_FAULT_INFO 0).setN (pgLoom n.val) Reg.Loom.LOOM_FAULT_ID 0).emit
        (.regRead m ((BitVec.ofNat 32 (fld (s.rg (pgLoom n.val) Reg.Loom.LOOM_FAULT_INFO) 31 0)).setWidth 64))))) ∧
    (∀ n : BayId, s.pageState (pgHed n.val) = 0 → exec (.hedFaultInfoRead m n) s = .next (s.seal
      (((s.setN (pgHed n.val) Reg.Hed.HED_FAULT_INFO 0).setN (pgHed n.val) Reg.Hed.HED_FAULT_ADDR 0).emit
        (.regRead m ((BitVec.ofNat 32 (fld (s.rg (pgHed n.val) Reg.Hed.HED_FAULT_INFO) 31 0)).setWidth 64))))) ∧
    (∀ n : BayId, s.pageState (pgSp n.val) = 0 → exec (.spFaultInfoRead m n) s = .next (s.seal
      ((((s.setN (pgSp n.val) Reg.Sp.SP_FAULT_INFO 0).setN (pgSp n.val) Reg.Sp.SP_FAULT_PC 0).setN (pgSp n.val) Reg.Sp.SP_FAULT_ADDR 0).emit
        (.regRead m ((BitVec.ofNat 32 (fld (s.rg (pgSp n.val) Reg.Sp.SP_FAULT_INFO) 31 0)).setWidth 64))))) ∧
    (∀ n : BayId, s.pageState (pgCodec n.val) = 0 → exec (.codecFaultInfoRead m n) s = .next (s.seal
      (((s.setN (pgCodec n.val) Reg.Codec.CODEC_FAULT_INFO 0).setN (pgCodec n.val) Reg.Codec.CODEC_FAULT_ADDR 0).emit
        (.regRead m ((BitVec.ofNat 32 (fld (s.rg (pgCodec n.val) Reg.Codec.CODEC_FAULT_INFO) 31 0)).setWidth 64))))) ∧
    (∀ k : Fin 5, s.pageState (pgSlice k.val) = 0 → exec (.stuckInfoRead m k) s = .next (s.seal
      ((s.setN (pgSlice k.val) Reg.Slice.STUCK_INFO 0).emit
        (.regRead m ((BitVec.ofNat 32 (fld (s.rg (pgSlice k.val) Reg.Slice.STUCK_INFO) 31 0)).setWidth 64)))))

/-- R145, R498, R501, R519, R522, R538, R540, R541, R553: the commands of the page headers, of diagnostics and of the pins. -/
def Obligations.CareCommandsComplete : Prop :=
  -- R498: WEFT_FENCE: a fenced core stands as failed
  (∀ (s t : State) (v : Word), t = s.writeReg pgFlt Reg.Flt.WEFT_FENCE 0 0 (v.setWidth 64) →
    exec (.weftFenceWrite v) s = .next (s.seal { t with flt := { t.flt with
      cores := ((List.range 16).filter (fun k => bit (t.hub Reg.Flt.WEFT_FENCE) k)).foldl (fun m k => NSet.insert k m) t.flt.cores } })) ∧
  -- R150: TRACE_SPLIT while neither the sampler nor the trace runs, and TRACE_CTRL where the rings fit
  (∀ (s : State) (v : Word), bit (s.hub Reg.Smp.SMP_CTRL) 31 = false → bit (s.hub Reg.Diag.TRACE_CTRL) 31 = false →
    exec (.traceSplitWrite v) s = .next (s.seal (s.writeReg (pgHub 0x07) Reg.Diag.TRACE_SPLIT 0 0 (v.setWidth 64)))) ∧
  (∀ (s : State) (v : Word), fld (s.hub Reg.Diag.TRACE_SPLIT) 4 0 * 262144 + 32 * (s.hub Reg.Diag.TRACE_ENTRIES).toNat ≤ 4194304 →
    exec (.traceEnable v) s = .next (s.seal (s.writeReg (pgHub 0x07) Reg.Diag.TRACE_CTRL 0 0 ((setFld v 31 31 1).setWidth 64)))) ∧
  -- R519, R522: the header registers of a page that may be reached
  (∀ (s : State) (pg : Fin 5120) (v : Word), s.pageBlocked (pg.val * 4096 + 0x10) = none →
    exec (.errStatClear pg v) s = .next (s.seal (s.errClear pg.val (v.setWidth 64))) ∧
    exec (.errInject pg v) s = .next (s.seal ((errBits pg.val).foldl
      (fun s b => if bit (v.setWidth 64) b then s.recordErr pg.val b true 0 else s) s)) ∧
    exec (.counterClear pg) s = .next (s.seal { s with
      regs := SMap.drop (fun k => k % 2 ^ 28 / 4096 = pg.val && decide (0x800 ≤ k % 4096)) s.regs })) ∧
  -- R540, R541: GPIO_MUX and PPS_CFG
  (∀ (s : State) (v : Word), exec (.gpioMuxWrite v) s =
    .next (s.seal ((s.writeReg (pgHub 0x07) Reg.Diag.GPIO_MUX 0 0 (v.setWidth 64)).cutPulse))) ∧
  (∀ (s : State) (v : Word), exec (.ppsCfgWrite v) s =
    .next (s.seal (s.writeReg (pgHub 0x07) Reg.Diag.PPS_CFG 0 0 (v.setWidth 64)))) ∧
  -- R538: ALERT_N ends 10 us after its start where no cause holds
  (∀ s : State, s.alert = true → State.alertCause { s with alertHold := false } = false →
    exec .alertHoldExpiry s = .next (s.seal { s with alert := false, alertHold := false })) ∧
  -- R540: the pins' levels, sampled
  (∀ (s : State) (l : Byte), exec (.gpioSample l) s = .next (s.seal (s.gpioSample l))) ∧
  -- R427, R553: an instruction that the gate lets pass, and one that it does not
  (∀ (s : State) (i : Jtag), s.jtagMay i = true →
    exec (.jtagInstruction i) s = .next (s.seal { s with pins := { s.pins with jtag := i } })) ∧
  (∀ (s : State) (i : Jtag), s.jtagMay i = false → exec (.jtagInstruction i) s =
    .next (s.seal (({ s with pins := { s.pins with jtag := .bypass } } : State).bumpHub Reg.KS.DEBUG_DENY_CNT))) ∧
  -- R426, R427: the debug port: halting a Spindle whose composition opens it, and what no class opens
  (∀ (s : State) (n : BayId) (k : Fin 64), s.debugSp n.val k.val = true → exec (.debugAccess (.halt n k)) s =
    .next (s.seal (State.settle (s.setSpu n.val k.val { s.spu n.val k.val with halted := true })))) ∧
  (∀ (s : State) (n : BayId) (k : Fin 64) (r : Fin 32), s.debugSp n.val k.val = true → exec (.debugAccess (.readX n k r)) s =
    .next (s.seal (State.settle (s.emit (.debug (BitVec.ofNat 512 ((s.spu n.val k.val).x r.val))))))) ∧
  (∀ (s : State) (off : BitVec 26) (w : Bool), s.debugOpen = false → exec (.debugAccess (.readReg off w)) s =
    .next (s.seal (State.settle ((s.bumpHub Reg.KS.DEBUG_DENY_CNT).emit (.debug 0)))))

/-- R402-R431: the commands of Keystone: the boot, recovery, tenant keys, tokens and the SVN. -/
def Obligations.KeystoneCommandsComplete : Prop :=
  -- R406, R407, R408: an image that passes every check runs, and the release goes on to its clocks step; one that fails starts recovery
  (∀ (s : State) (e : Nat), s.ks.boot = 0 → ResetUnit.device ∈ s.held → s.fuses.straps.toNat % 4 < 2 →
    s.imageCheck (s.flashBytes 0 4096) (fun n => s.flashBytes 4096 n) = e →
    exec (.bootComplete true true) s = .next (s.seal (State.settle (if e = 0 then s.runImage (s.flashBytes 0 4096) false 0
      else ({ s with ks := { s.ks with boot := 2, bootFail := e, recov := (1, 0, 0), stage := [] } } : State).raiseAlert)))) ∧
  -- R409: RECOV_CHUNK: the chunk lies in the staging area at 512 KiB times its index; RECOV_VERIFY and RECOV_DISCARD
  (∀ (s : State) (len : BitVec 8) (i : BitVec 6) (bs : List Byte), s.ks.boot = 2 → s.ks.recov.1 ≠ 3 → len ≠ 0 → len.toNat ≤ 128 → i.toNat ≤ 32 →
    exec (.recovChunk len i bs) s = .next (s.seal { s with ks := { s.ks with
      stage := (List.range (len.toNat * 4096)).foldl (fun m j => SMap.set (fun _ => (0 : Byte)) m (524288 * i.toNat + j) (bs.getD j 0)) s.ks.stage
      recov := (2, s.ks.recov.2.1 + len.toNat, s.ks.recov.2.2) } })) ∧
  (∀ (s : State) (e : Nat), s.ks.boot = 2 → s.ks.recov.1 ≠ 3 → s.imageCheck (s.stageBytes 0 4096) (fun n => s.stageBytes 4096 n) = e →
    exec .recovVerify s = .next (s.seal (State.settle (if e = 0 then s.runImage (s.stageBytes 0 4096) true s.ks.bootFail
      else { s with ks := { s.ks with recov := (4, s.ks.recov.2.1, e) } })))) ∧
  (∀ s : State, s.ks.boot = 2 → s.ks.recov.1 ≠ 3 → exec .recovDiscard s =
    .next (s.seal { s with ks := { s.ks with stage := [], recov := (1, 0, s.ks.recov.2.2) } })) ∧
  -- R423, R425: KS_CMD reads a key's 128 B, or a token's 192 B, of a live composition, from the Hub's port, keyless
  (∀ (s t : State) (a : Nat), s.ksBusy = false → a = (s.hub Reg.KS.KS_ADDR).toNat % 2 ^ 48 → s.live s.ksSel = true →
    s.inStackTier a 128 = true → t = { (s.ksResult true 0) with ks := { (s.ksResult true 0).ks with cmd := some (1, s.ksSel) } } →
    exec .ksSetTenantKey s = .next (s.seal (State.settle
      (t.startBatch .ksKey ((List.range 2).map (fun i => (hubIn, t.readReq (t.compAt (a + 64 * i)) (a + 64 * i))))).2))) ∧
  (∀ (s t : State) (a : Nat), s.ksBusy = false → a = (s.hub Reg.KS.KS_ADDR).toNat % 2 ^ 48 → s.live s.ksSel = true →
    s.inStackTier a 192 = true → t = { (s.ksResult true 0) with ks := { (s.ksResult true 0).ks with cmd := some (2, s.ksSel) } } →
    exec .ksInstallToken s = .next (s.seal (State.settle
      (t.startBatch .ksToken ((List.range 3).map (fun i => (hubIn, t.readReq (t.compAt (a + 64 * i)) (a + 64 * i))))).2))) ∧
  -- R425: the token of a live composition is removed
  (∀ s : State, s.ksBusy = false → s.live s.ksSel = true → exec .ksRemoveToken s = .next (s.seal
    ((State.resumeHalted (State.debugClose { s with tokens := SMap.set (fun _ => Token.none) s.tokens s.ksSel Token.none })).ksResult false 0))) ∧
  -- R410: an SVN above the fused one is committed, and the fuses then hold it
  (∀ s : State, s.ksBusy = false → s.fuses.svn < s.imageSvn → exec .ksCommitSvn s =
    .next (s.seal { (s.ksResult true 0) with ks := { s.ks with cmd := some (4, 0) } })) ∧
  (∀ (s : State) (c : Nat), s.ks.cmd = some (4, c) → exec .svnCommitDone s =
    .next (s.seal (State.ksEnd { s with fuses := { s.fuses with svn := s.imageSvn } } 0))) ∧
  -- R428: TIME_FLOOR has reached a token's end: its classes close
  (∀ (s : State) (c : CompId), (s.token c.val).installed = true → (s.token c.val).notAfter ≤ s.timeFloor → c.val ∉ s.ks.lapsed →
    exec (.tokenLapse c) s = .next (s.seal (State.debugClose (State.resumeHalted
      (({ s with ks := { s.ks with lapsed := NSet.insert c.val s.ks.lapsed } } : State).bumpHub Reg.KS.TOKEN_LAPSE_CNT))))) ∧
  -- R412: a second health failure stops key generation; the DRBG is reseeded after 65,536 generations
  (∀ s : State, s.ks.entFail = false → exec (.entropyHealthFail true) s = .next (s.seal
    (((({ s with ks := { s.ks with entFail := true } } : State).bumpHub Reg.KS.ENT_FAIL_CNT).setErr (pgHub 0x20) 13 0)))) ∧
  (∀ s : State, s.ks.entFail = false → 65536 ≤ s.ks.drbg →
    exec .drbgReseed s = .next (s.seal { s with ks := { s.ks with drbg := 0 } }))

/-- R416-R421: Keystone answers SPDM while firmware runs, and counts each message. -/
def Obligations.SpdmCommandsComplete : Prop :=
  ∀ (s : State) (via : Via), s.ks.boot = 1 →
    (exec (.getVersion via) s = .next (s.seal ((s.bumpHub Reg.KS.SPDM_MSG_CNT).emit (.spdm via .version)))) ∧
    (exec (.getCapabilities via) s = .next (s.seal ((s.bumpHub Reg.KS.SPDM_MSG_CNT).emit (.spdm via .capabilities)))) ∧
    (exec (.negotiateAlgorithms via) s = .next (s.seal ((s.bumpHub Reg.KS.SPDM_MSG_CNT).emit (.spdm via .algorithms)))) ∧
    -- R416: the digest of slot 0's chain, and a part of the chain, where the certificate stands
    (s.ks.idCert = true → exec (.getDigests via) s =
      .next (s.seal ((s.bumpHub Reg.KS.SPDM_MSG_CNT).emit (.spdm via (.digests [Config.sha384 s.certChain]))))) ∧
    (∀ off len : BitVec 16, s.ks.idCert = true → off.toNat ≤ s.certChain.length → exec (.getCertificate via off len) s =
      .next (s.seal ((s.bumpHub Reg.KS.SPDM_MSG_CNT).emit (.spdm via (.certificate ((s.certChain.drop off.toNat).take len.toNat)))))) ∧
    -- R419: CHALLENGE: a fresh nonce, and a signature by the identity key
    (∀ nonce : DWord, exec (.challenge via nonce) s = .next (s.seal ((s.nonce.2.bumpHub Reg.KS.SPDM_MSG_CNT).emit
      (.spdm via (.challengeAuth s.nonce.1 (Config.idSign (leBytes 8 nonce.toNat ++ leBytes 8 s.nonce.1.toNat))))))) ∧
    -- R420: one unsigned measurement
    (∀ (i : Byte) (nonce : DWord) (b : List Byte), i ≠ 0xFF → s.measurement i.toNat = some b →
      exec (.getMeasurements via i false nonce) s =
        .next (s.seal ((s.bumpHub Reg.KS.SPDM_MSG_CNT).emit (.spdm via (.measurements [(i.toNat, b)] []))))) ∧
    -- R419: a session's end and its heartbeat, on the DOE
    (∀ id : Nat, (id, false) ∈ s.ks.sessions → exec (.finish .doe id true) s = .next (s.seal
      ((State.bumpHub { s with ks := { s.ks with sessions := s.ks.sessions.map (fun (e : Nat × Bool) => if e.1 = id then (id, true) else e) } }
        Reg.KS.SPDM_MSG_CNT).emit (.spdm .doe (.finish id))))) ∧
    (∀ id : Nat, (id, true) ∈ s.ks.sessions → exec (.endSession .doe id) s = .next (s.seal
      ((State.bumpHub { s with ks := { s.ks with sessions := s.ks.sessions.filter (fun e => e.1 ≠ id) } } Reg.KS.SPDM_MSG_CNT).emit
        (.spdm .doe (.endSession id))))) ∧
    (∀ id : Nat, (id, true) ∈ s.ks.sessions → exec (.heartbeat .doe id) s =
      .next (s.seal ((s.bumpHub Reg.KS.SPDM_MSG_CNT).emit (.spdm .doe (.heartbeat id))))) ∧
    -- R417, R419: KEY_EXCHANGE on the DOE, with fewer than two sessions and entropy
    (∀ (share : DWord) (t : State), s.ks.sessions.length < 2 → s.keygen = (true, t) → exec (.keyExchange .doe share) s =
      .next (s.seal (State.spdmAnswer { t.nonce.2 with ks := { t.nonce.2.ks with
          sessions := t.nonce.2.ks.sessions ++ [(t.nonce.2.ks.nextSes, false)], nextSes := t.nonce.2.ks.nextSes + 1 } } .doe
        (.keyExchange t.nonce.2.ks.nextSes t.nonce.1 (Config.idSign (leBytes 8 share.toNat ++ leBytes 8 t.nonce.1.toNat))))))

/-- R418, R514-R516: MCTP control and packets, and the SMBus. -/
def Obligations.ManagementCommandsComplete : Prop :=
  (∀ (s : State) (via : Via) (e : Byte), s.ks.boot = 1 → e ≠ 0 → e ≠ 0xFF → exec (.setEndpointId via e) s = .next (s.seal
    (State.emit { s with ks := { s.ks with eids := SMap.set (fun _ => 0) s.ks.eids via.binding e.toNat } } (.mctp via (.endpointId e.toNat))))) ∧
  (∀ (s : State) (via : Via), s.ks.boot = 1 → exec (.getEndpointId via) s =
    .next (s.seal (s.emit (.mctp via (.endpointId (SMap.get (fun _ => 0) s.ks.eids via.binding)))))) ∧
  (∀ (s : State) (via : Via), s.ks.boot = 1 → exec (.getMctpVersionSupport via) s = .next (s.seal (s.emit (.mctp via .versions)))) ∧
  (∀ (s : State) (via : Via), s.ks.boot = 1 →
    exec (.getMessageTypeSupport via) s = .next (s.seal (s.emit (.mctp via (.types [0x00, 0x05, 0x7E]))))) ∧
  -- R514, R515: a well-formed packet is relayed by firmware
  (∀ (s : State) (p : PortId) (tc : BitVec 3) (b : List Byte), s.ks.boot = 1 → s.voqs = [] → (s.link p.val).state ≠ .securing →
    5 ≤ b.length → b.length ≤ 1020 → (b.getD 0 0).toNat % 16 = 1 → mctpTaken b = true →
    exec (.mctp p tc b) s = .next (s.seal (State.settle (s.emit (.relayed (.link (Fin.ofNat 289 p.val)) b))))) ∧
  (∀ (s : State) (b : List Byte), s.ks.boot = 1 → s.hostUp = true → 5 ≤ b.length → b.length ≤ 1020 → (b.getD 0 0).toNat % 16 = 1 →
    mctpTaken b = true → exec (.mctpOverPcieVdm b) s = .next (s.seal (s.emit (.relayed .vdm b)))) ∧
  (∀ (s : State) (b : List Byte), s.ks.boot = 1 → 5 ≤ b.length → b.length ≤ 1020 → (b.getD 0 0).toNat % 16 = 1 →
    mctpTaken b = true → exec (.smbusMctpPacket b true) s = .next (s.seal ((s.bumpHub Reg.SMB.SMB_PKT_CNT).emit (.relayed .smbus b)))) ∧
  (∀ (s : State) (b : List Byte), exec (.smbusMctpPacket b false) s = .next (s.seal (s.bumpHub Reg.SMB.SMB_PEC_ERR_CNT))) ∧
  (∀ s : State, exec .smbusStatusRead s = .next (s.seal ((s.bumpHub Reg.SMB.SMB_STATUS_RD_CNT).emit
    (.smbus s.statusBlock)))) ∧
  -- R513: DOE
  (∀ s : State, s.hostUp = true → exec (.doeDiscovery 0) s =
    .next (s.seal ((s.bumpHub Reg.DOE.DOE_OBJ_CNT).emit (.doe [1, 0, 0, 1])))) ∧
  (∀ s : State, s.hostUp = true → exec .cdat s = .next (s.seal ((s.bumpHub Reg.DOE.DOE_OBJ_CNT).emit
    (.doe (leBytes 8 0 ++ leBytes 8 stackEnd ++ leBytes 4 450 ++ leBytes 4 450 ++ leBytes 4 121 ++ leBytes 4 121))))) ∧
  (∀ s : State, s.hostUp = true → exec .doeAbort s = .next (s.seal (s.bumpHub Reg.DOE.DOE_ABORT_CNT)))

/-- R507-R509: the mailbox, while firmware runs and the host link is up: each command is answered and counted. -/
def Obligations.MailboxCommandsComplete : Prop :=
  ∀ s : State, s.mbOn = true →
    (exec .identifyMemoryDevice s = .next (s.seal (s.mbAnswer .success [0x01B000000000, 0]))) ∧
    (exec .getSupportedLogs s = .next (s.seal (State.mbAnswer { s with free := s.free + 1 } .success [(Config.freeValue s.free).toNat]))) ∧
    (exec .getLog s = .next (s.seal (State.mbAnswer { s with free := s.free + 1 } .success [(Config.freeValue s.free).toNat]))) ∧
    (∀ log : Fin 4, log ≠ 3 → exec (.getEventRecords log) s = .next (s.seal (s.mbAnswer .success
      (SMap.get (fun _ => 0) s.logs.lost log.val ::
        (s.logs.recs.filter (fun r => r.log = log.val)).flatMap (fun r => [r.handle, r.code] ++ r.data))))) ∧
    (∀ (log : Fin 4) (hs : List Nat), log ≠ 3 → exec (.clearEventRecords log true hs) s = .next (s.seal (State.mbAnswer { s with logs := { s.logs with
      recs := s.logs.recs.filter (fun r => r.log ≠ log.val), lost := SMap.set (fun _ => 0) s.logs.lost log.val 0 } } .success []))) ∧
    (∀ v : DWord, exec (.setTimestamp v) s =
      .next (s.seal (State.mbAnswer { s with host := { s.host with stamp := (v.toNat, s.now) } } .success []))) ∧
    (s.host.stamp ≠ (0, 0) → exec .getTimestamp s =
      .next (s.seal (s.mbAnswer .success [s.host.stamp.1 + (s.now - s.host.stamp.2)]))) ∧
    (exec .getDeviceInformation s = .next (s.seal (s.mbAnswer .success
      [s.fuses.serial.toNat, num s.ks.header 0x0C 4, s.ksStat, s.fuses.straps.toNat, s.fuses.hashSel.toNat]))) ∧
    (∀ (core : Fin 16) (off : BitVec 26), exec (.readRegister core off 4) s = .next (s.seal
      ((s.busRead (.weft core) off.toNat 4).2.mbAnswer .success
        [(s.busRead (.weft core) off.toNat 4).1.toNat, (s.busRead (.weft core) off.toNat 4).2.rootErrs]))) ∧
    (∀ (core : Fin 16) (off : BitVec 26) (v : DWord), exec (.writeRegister core off 4 v) s = .next (s.seal (State.settle
      ((s.busWrite (.weft core) off.toNat 4 v).mbAnswer .success [v.toNat, (s.busWrite (.weft core) off.toNat 4 v).rootErrs])))) ∧
    (∀ cert : List Byte, cert.length ≤ 4096 → s.ks.anchors.length < 4 → exec (.addTrustAnchor cert) s =
      .next (s.seal (State.mbAnswer { s with ks := { s.ks with anchors := s.ks.anchors ++ [cert] } } .success []))) ∧
    (exec .clearTrustAnchors s = .next (s.seal (State.mbAnswer { s with ks := { s.ks with anchors := [] } } .success []))) ∧
    (∀ (off : BitVec 32) (bs : List Byte), bs.length ≤ 65536 → off.toNat + bs.length ≤ 2 ^ 25 → exec (.writeFlashImage off bs) s =
      .next (s.seal (State.mbAnswer { s with ks := { s.ks with
        flash := (List.range bs.length).foldl (fun m i => SMap.set Config.flashByte m (off.toNat + i) (bs.getD i 0)) s.ks.flash } } .success []))) ∧
    (∀ i : BitVec 16, exec (.readRepairLog i) s = .next (s.seal (s.mbAnswer .success
      (((s.bays.flatMap (fun e => (e.2.repairLog.filter (fun l => decide (l.2 + 1000000000 ≤ s.now))).map
        (fun l => [e.1, l.1.bank, l.1.row, l.1.spare]))).drop i.toNat).take 64).flatten)))

/-- R504-R513, R537: the host link and CXL.mem. -/
def Obligations.HostPortCommandsComplete : Prop :=
  -- R504: the link trains in 256 B flit mode, with CXL.mem on
  (∀ (s : State) (w r : Byte), hostLinkMode 1 w.toNat r.toNat = true → s.host.perst = false → s.hostUp = false → s.clkGood 1 = true → s.isHeld .hostPort = false →
    bit (s.hub Reg.HP.HP_CFG) 31 = true → exec (.hostLinkTrained 1 w r) s = .next (s.seal (s.setHub Reg.HP.HP_STAT
      (BitVec.ofNat 64 (2 ^ 31 + 2 ^ 30 + 2 ^ 28 + w.toNat * 2 ^ 16 + r.toNat * 2 ^ 8))))) ∧
  (∀ s : State, exec .hostLinkDown s = .next (s.seal (State.settle (s.raise (.linkDown 288))))) ∧
  -- R513: an IDE integrity failure brings the link down; keys come in a finished session
  (∀ s : State, s.hostUp = true → exec .ideIntegrityFail s =
    .next (s.seal (State.settle ((s.bumpHub Reg.IDE.IDE_FAIL_CNT).hostDown)))) ∧
  (∀ (s : State) (ses : Nat) (k : Fin 2), s.hostUp = true → s.ks.boot = 1 → (ses, true) ∈ s.ks.sessions →
    exec (.ideKeyManagement ses k) s = .next (s.seal
      (State.setHubF { s with host := { s.host with keys := NSet.insert k.val s.host.keys } } Reg.IDE.IDE_STAT k.val k.val 1))) ∧
  -- R509: a decoder within the stack tier is committed; one beyond it fails
  (∀ (s : State) (n : Fin 4) (b z : BitVec 48) (ways gran : Nat), s.hostUp = true → b.toNat + z.toNat ≤ stackEnd →
    hdmInterleave ways gran = true → exec (.hdmDecoderCommit n b z ways gran) s =
    .next (s.seal { s with host := { s.host with decs := SMap.set (fun _ => HdmDec.none) s.host.decs n.val ⟨b.toNat, z.toNat, ways, gran, true⟩ } })) ∧
  (∀ (s : State) (n : Fin 4) (b z : BitVec 48) (ways gran : Nat), s.hostUp = true → stackEnd < b.toNat + z.toNat →
    exec (.hdmDecoderCommit n b z ways gran) s = .next (s.seal (s.emit (.hdmError n.val)))) ∧
  -- R511: each CXL.mem request becomes the fabric request that R511 gives it
  (∀ (s : State) (c : BitVec 16) (d : BitVec 48), s.memOn = true →
    exec (.memRd c d .any) s = .next (s.seal (State.settle ((s.bumpHub Reg.HP.MEM_RD_CNT).hostIssue 0 .rdM c.toNat d.toNat 0 0 false))) ∧
    exec (.memRd c d .shared) s = .next (s.seal (State.settle ((s.bumpHub Reg.HP.MEM_RD_CNT).hostIssue 0 .rdS c.toNat d.toNat 0 0 false))) ∧
    exec (.memRd c d .invalid) s = .next (s.seal (State.settle ((s.bumpHub Reg.HP.MEM_RD_CNT).hostIssue 0 .rd c.toNat d.toNat 0 0 false))) ∧
    exec (.memRdData c d) s = .next (s.seal (State.settle ((s.bumpHub Reg.HP.MEM_RD_CNT).hostIssue 0 .rdS c.toNat d.toNat 0 0 false))) ∧
    exec (.memInv c d .any) s = .next (s.seal (State.settle (s.hostIssue 2 .own c.toNat d.toNat 0 0 false))) ∧
    exec (.memInv c d .invalid) s = .next (s.seal (State.settle (s.emit (.memCmp c.toNat 0))))) ∧
  (∀ (s : State) (c : BitVec 16) (d : BitVec 48) (mv : MetaValue) (bad : Bool) (l : Line), s.memOn = true →
    (s.bumpHub Reg.HP.MEM_WR_CNT).hostOwns d.toNat = false → exec (.memWr c d mv bad l) s = .next (s.seal (State.settle
      ((s.bumpHub Reg.HP.MEM_WR_CNT).hostIssue 1 .wr c.toNat d.toNat (BitVec.allOnes 64) l bad)))) ∧
  (∀ (s : State) (c : BitVec 16) (d : BitVec 48) (m : BitVec 64) (bad : Bool) (l : Line), s.memOn = true →
    exec (.memWrPtl c d m bad l) s = .next (s.seal (State.settle
      ((s.bumpHub Reg.HP.MEM_WR_CNT).hostIssue 1 .wrP c.toNat d.toNat m l bad)))) ∧
  -- R511: BIRsp becomes a BI_ACK toward the line's home
  (∀ (s : State) (la : BitVec 42) (n : Nat), s.memOn = true → s.homeBay (la.toNat * 64) = some n → exec (.biRsp la) s =
    .next (s.seal (State.settle (s.pushVoq {
      inp := 52, out := 24 + n, tc := (Msg.coh (.biAck (BitVec.ofNat 3 (fld (s.hub Reg.HP.HP_CFG) 14 12)) la)).tc, cls := 2, arr := 288, dst := 0x1FF
      time := s.now, stuck := false, msg := .coh (.biAck (BitVec.ofNat 3 (fld (s.hub Reg.HP.HP_CFG) 14 12)) la) })))) ∧
  -- R512: a waiting request is reissued, or ends with TIMEOUT past its deadline
  (∀ (s : State) (c : BitVec 16) (r : HostReq), s.host.reqs.find? (fun r => r.ctag = c.toNat && r.waiting) = some r →
    r.since + 1000 * fld (s.hub Reg.HP.HP_RETRY) 15 0 ≤ s.now → s.ns < r.req.deadline → exec (.hostRetry c) s = .next (s.seal (State.settle ((s.bumpHub Reg.HP.HOST_RETRY_CNT).hostAdmit r)))) ∧
  (∀ (s : State) (c : BitVec 16) (r : HostReq), s.host.reqs.find? (fun r => r.ctag = c.toNat && r.waiting) = some r →
    r.since + 1000 * fld (s.hub Reg.HP.HP_RETRY) 15 0 ≤ s.now → r.req.deadline ≤ s.ns →
    exec (.hostRetry c) s = .next (s.seal (State.settle (s.hostEnd r ⟨.timeout, 0, s.coverComp r.req⟩ 0 none))))

/-- R55, R58-R60, R65, R66, R83: the commands of the Region Table, of handoffs and of dead sources. -/
def Obligations.RegionTableCommandsComplete : Prop :=
  -- R55, R58: a write of a legal entry to the next map
  (∀ (s : State) (i : BitVec 16) (e : RtEntry), s.reg.rtCmd = none → s.reg.phase = .idle → s.rtStaged = some e →
    s.rtCheck s.reg.nxt i.toNat e = 0 → exec (.rtWrite i true) s = .next (s.seal (State.settle
      ((({ s with reg := { s.reg with nxt := s.reg.nxt.setEntry i.toNat e } } : State).bumpHub Reg.RT.RT_UPDATE_CNT).rtDone 0)))) ∧
  -- R59: a write to the current map takes effect at once, and is BUSY while requests checked against the old entry remain
  (∀ (s : State) (i : BitVec 16) (e : RtEntry), s.reg.rtCmd = none → s.rtStaged = some e → s.rtCheck s.reg.cur i.toNat e = 0 →
    exec (.rtWrite i false) s = .next (s.seal (State.settle ((s.rtWait i.toNat 1).rtPut i.toNat e)))) ∧
  -- R55: a refused entry leaves the table as it is and names its reason
  (∀ (s : State) (i : BitVec 16) (e : RtEntry) (res : Nat), s.reg.rtCmd = none → s.rtStaged = some e → res ≠ 0 →
    s.rtCheck s.reg.cur i.toNat e = res → exec (.rtWrite i false) s = .next (s.seal (State.settle (s.rtDone res)))) ∧
  -- R58: a read of the current map fills RT_DATA0-7 with the entry's eight words
  (∀ (s : State) (i : BitVec 16), s.reg.rtCmd = none → exec (.rtRead i false) s = .next (s.seal
    (State.rtDone ((List.range 8).foldl (fun t k => t.setReg (pgOfHub Reg.RT.RT_DATA) Reg.RT.RT_DATA k 0
      (BitVec.ofNat 64 ((s.reg.cur.entry i.toNat).words.getD k 0))) s) 0))) ∧
  -- R60: an Owned entry is disabled at once
  (∀ (s : State) (i : BitVec 16), s.reg.rtCmd = none → (s.reg.cur.entry i.toNat).mode ≠ .shared →
    exec (.rtDisable i false) s = .next (s.seal (State.settle
      ((s.rtWait i.toNat 1).rtPut i.toNat { s.reg.cur.entry i.toNat with mode := .disabled })))) ∧
  -- R60: a Shared-Coherent entry is disabled once every line its directories record is recalled
  (∀ (s : State) (i : BitVec 16), s.reg.rtCmd = none → (s.reg.cur.entry i.toNat).mode = .shared →
    exec (.rtDisable i false) s = .next (s.seal (State.settle ((s.rtWait i.toNat 3).disableAll i.toNat (s.reg.cur.entry i.toNat))))) ∧
  -- R59: no request that waited remains: the command ends and is counted
  (∀ (s : State) (c : MapCmd), s.reg.rtCmd = some c → c.waiting = false → c.op ≠ 3 → s.inHomes.any (fun e => c.marked.contains e.2) = false →
    exec .rtCommandComplete s = .next (s.seal (State.settle ((s.bumpHub Reg.RT.RT_UPDATE_CNT).rtDone 0)))) ∧
  -- R66: an OFFER by the owner, with the region's key: the region stands OFFERED to the peer under the next HSEQ
  (∀ (s : State) (p : PortId) (src : NodeId) (h : Hand) (i : Nat) (e : RtEntry), s.voqs = [] → s.handBusy h.granule = false →
    (s.noteHand src h.granule p.val).handEntry h.granule = some (i, e) → e.own = .held → e.owner = src → e.key = h.key →
    ∃ t : State, exec (.offer p src h) s = .next (s.seal (State.settle t)) ∧
      t.reg.cur = s.reg.cur.setEntry i { e with own := .offered, peer := h.node, hseq := e.hseq + 1 } ∧ t.mem = s.mem) ∧
  -- R65, R66: an ACCEPT by the peer under the region's HSEQ: the peer is the owner, by a write that waits as R59 says for its COMMITs
  (∀ (s : State) (p : PortId) (src : NodeId) (h : Hand) (i : Nat) (e : RtEntry), s.voqs = [] → s.handBusy h.granule = false →
    (s.noteHand src h.granule p.val).handEntry h.granule = some (i, e) → e.own = .offered → e.peer = src → e.hseq = h.hseq →
    ∃ t : State, exec (.accept p src h) s = .next (s.seal (State.settle t)) ∧
      t.reg.cur = s.reg.cur.setEntry i { e with owner := src, own := .held, peer := 0 } ∧
      (∃ w : HandWrite, t.reg.handWrites = s.reg.handWrites ++ [w] ∧ w.index = i ∧ w.commit = true) ∧ t.mem = s.mem) ∧
  -- R191: a COMMIT or a CANCEL only notes the port it came on
  (∀ (s : State) (p : PortId) (src : NodeId) (h : Hand), s.voqs = [] → s.handBusy h.granule = false →
    exec (.handoffCommit p src h) s = .next (s.seal (State.settle (s.noteHand src h.granule p.val))) ∧
    exec (.handoffCancel p src h) s = .next (s.seal (State.settle (s.noteHand src h.granule p.val)))) ∧
  -- R66: the handoff timer: the region is HELD again, under the next HSEQ, and both parties get a CANCEL
  (∀ (s : State) (i : BitVec 16) (e e' : RtEntry), s.reg.cur.entry i.toNat = e → e.mode = .owned → e.own = .offered →
    (∀ w ∈ s.reg.handWrites, w.index ≠ i.toNat) → e' = { e with own := .held, peer := 0, hseq := e.hseq + 1 } → exec (.handoffTimerExpiry i) s = .next (s.seal (State.settle
      (((s.putCur i.toNat e').bumpHub Reg.RT.RT_UPDATE_CNT).cancelBoth i.toNat e e' .timeout)))) ∧
  -- R83: DEAD_SOURCE sweeps the ports whose peer the Node ID is, in every Bay
  (∀ (s : State) (d : NodeId) (x : Nat) (l : Link) (i : Identify), s.links = [(x, l)] → l.peer = some i → i.node = d →
    fld (s.hub Reg.HP.HP_CFG) 11 0 ≠ d.toNat → exec (.deadSourceWrite d) s = .next (s.seal ((s.unadmit d).startSweep x))) ∧
  (∀ (s : State) (d : NodeId), s.links = [] → fld (s.hub Reg.HP.HP_CFG) 11 0 = d.toNat →
    exec (.deadSourceWrite d) s = .next (s.seal ((s.unadmit d).startSweep 288))) ∧
  -- R83: of a Node ID that no port has as its peer it only ends what the Node ID was admitted to
  (∀ (s : State) (d : NodeId), s.links = [] → fld (s.hub Reg.HP.HP_CFG) 11 0 ≠ d.toNat →
    exec (.deadSourceWrite d) s = .next (s.seal (s.unadmit d)))

/-- R377-R400: the commands of compositions, maps, membership, range checks, revocations and meters. -/
def Obligations.CompositionCommandsComplete : Prop :=
  -- R376: an ID that is free becomes a live composition, with a key of its own
  (∀ (s t : State), SMap.get (fun _ => 0) s.comps s.compSel = 0 → s.keygen = (true, t) →
    ∃ u : State, exec .compCreate s = .next (s.seal (State.settle (u.compResult 0))) ∧ u.comps = SMap.set (fun _ => 0) t.comps s.compSel 1 ∧ u.mem = t.mem) ∧
  (∀ s : State, SMap.get (fun _ => 0) s.comps s.compSel ≠ 0 → exec .compCreate s = .next (s.seal (State.settle (s.compResult 1)))) ∧
  -- R379: a grant of a live composition that keeps every resource exclusive
  (∀ (s : State) (g : GrantReg) (v : DWord), s.live s.compSel = true →
    (g.spec.1.written (s.reg? (pgHub 0x11) g.spec.1 g.spec.2 s.compSel) v).2 = false →
    s.grantOk s.compSel g (g.spec.1.written (s.reg? (pgHub 0x11) g.spec.1 g.spec.2 s.compSel) v).1 = true →
    exec (.grantWrite g v) s = .next (s.seal (s.setReg (pgHub 0x11) g.spec.1 g.spec.2 s.compSel
      (g.spec.1.written (s.reg? (pgHub 0x11) g.spec.1 g.spec.2 s.compSel) v).1))) ∧
  -- R386: a switch whose maps pass the checks: checked, flipped, drained and rebuilt
  (∀ s : State, s.reg.phase = .idle → s.switchCheck = 0 →
    exec .mapSwitch s = .next (s.seal (State.syncMap { s with reg := { s.reg with phase := .checking } } 0))) ∧
  (∀ s : State, s.reg.phase = .checking → s.switchCheck = 0 → s.reg.cur.rt = [] → exec .mapSwitchFlip s = .next (s.seal (State.settle
    ((State.bumpHub { s with reg := { s.reg with
      cur := mergeMaps s.reg.cur s.reg.nxt, old := s.reg.cur, epoch := (s.reg.epoch + 1) % 256, draining := true, phase := .draining } }
        Reg.Comp.MAP_SWITCH_CNT).syncMap 0)))) ∧
  (∀ s : State, s.reg.phase = .draining → s.reg.revs = [] → exec .mapDrainEnd s = .next (s.seal (State.syncMap { s with reg := { s.reg with
    old := .empty, draining := false, phase := .rebuilding, nxt := s.reg.cur, revs := [] } } 0))) ∧
  (∀ s : State, s.reg.phase = .idle → exec .mapCopy s =
    .next (s.seal (State.syncMap { s with reg := { s.reg with phase := .copying, nxt := s.reg.cur } } 0))) ∧
  (∀ s : State, s.reg.phase = .copying → s.reg.rtCmd = none → s.reg.rctCmd = none → exec .mapCopyDone s =
    .next (s.seal (State.settle (State.syncMap { s with reg := { s.reg with phase := .idle } } 0)))) ∧
  -- R391: membership
  (∀ (s : State) (i : BitVec 16), i.toNat < 4096 → exec (.membWrite i) s = .next (s.seal { s with reg := { s.reg with
    members := SMap.set (fun _ => 0) s.reg.members i.toNat (fld (s.hub Reg.Comp.MEMB_DATA) 8 0) } })) ∧
  (∀ (s : State) (i : BitVec 16), i.toNat < 4096 → exec (.membRead i) s = .next (s.seal
    (s.setHub Reg.Comp.MEMB_DATA (BitVec.ofNat 64 (SMap.get (fun _ => 0) s.reg.members i.toNat))))) ∧
  -- R392: range-check entries of the next map, and a read of the current one
  (∀ (s : State) (i : BitVec 16), s.reg.rctCmd = none → i.toNat < 4096 → s.reg.phase = .idle → s.rctStaged.base.toNat ≤ s.rctStaged.limit.toNat →
    exec (.rctWrite i true) s =
      .next (s.seal (State.rctDone { s with reg := { s.reg with nxt := s.reg.nxt.setRange i.toNat s.rctStaged } } 0))) ∧
  (∀ (s : State) (i : BitVec 16), s.reg.rctCmd = none → i.toNat < 4096 → s.reg.phase = .idle → exec (.rctDisable i true) s =
    .next (s.seal (State.rctDone { s with reg := { s.reg with
      nxt := s.reg.nxt.setRange i.toNat { s.reg.nxt.range i.toNat with en := false } } } 0))) ∧
  (∀ (s : State) (i : BitVec 16), s.reg.rctCmd = none → i.toNat < 4096 → exec (.rctRead i false) s = .next (s.seal
    (State.rctDone ((List.range 4).foldl (fun t k => t.setReg (pgOfHub Reg.Comp.RCT_DATA) Reg.Comp.RCT_DATA k 0
      (BitVec.ofNat 64 ((s.reg.cur.range i.toNat).words.getD k 0))) s) 0))) ∧
  (∀ (s : State) (c : MapCmd), s.reg.rctCmd = some c → c.waiting = false → s.inHomes.any (fun e => c.marked.contains e.2) = false →
    s.inDeck.any (fun r => c.marked.contains (r.origin, r.tag)) = false → exec .rctCommandComplete s = .next (s.seal (s.rctDone 0))) ∧
  -- R389, R390: a revocation is put in force, cleared, read and completed
  (∀ (s : State) (i : Fin 64) (lo hi : Nat), lo = fld (s.hub Reg.Comp.REV_DATA0) 26 0 → hi = fld (s.hub Reg.Comp.REV_DATA1) 26 0 → lo ≤ hi →
    (s.rev i.val).inForce = false → exec (.revRevoke i) s = .next (s.seal
      (((s.setRev i.val { all := bit (s.hub Reg.Comp.REV_DATA0) 31, base := lo, limit := hi, inForce := true, epoch := s.reg.epoch
                          marked := (s.rev i.val).marked ++ s.tracked }).setHub Reg.Comp.REV_PEND
        (setBit (s.hub Reg.Comp.REV_PEND) i.val true)).revResult 0))) ∧
  (∀ (s : State) (i : Fin 64), exec (.revClear i) s = .next (s.seal ((s.setRev i.val { s.rev i.val with inForce := false }).revResult 0))) ∧
  (∀ (s : State) (i : Fin 64), exec (.revRead i) s = .next (s.seal
    (((s.setHub Reg.Comp.REV_DATA0 (BitVec.ofNat 64 ((s.rev i.val).base + b2n (s.rev i.val).all * 2 ^ 31))).setHub Reg.Comp.REV_DATA1
      (BitVec.ofNat 64 (s.rev i.val).limit)).revResult 0))) ∧
  (∀ (s : State) (i : Fin 64), bit (s.hub Reg.Comp.REV_PEND) i.val = true → (s.rev i.val).marked = [] → exec (.revocationComplete i) s =
    .next (s.seal ((((s.setRev i.val { s.rev i.val with marked := [] }).setHub Reg.Comp.REV_PEND
      (setBit (s.hub Reg.Comp.REV_PEND) i.val false)).bumpHub Reg.Comp.REVOKE_CNT).notify 1 0 [i.val]))) ∧
  -- R382: every live composition's meters advance by one tick
  (∀ s : State, exec .meterTick s = .next (s.seal (s.liveComps.foldl (fun s c => s.meterComp c) s))) ∧
  -- R383: a composition without SNAP_ADDR writes no snapshot; one with it writes three lines and counts
  (∀ (s : State) (c : CompId), s.calm → (s.rgb (pgHub 0x11) Reg.Comp.SNAP_ADDR c.val).toNat = 0 → exec (.snapshot c) s = .next (s.seal s)) ∧
  (∀ (s t : State) (c : CompId) (a : Nat), s.live c.val = true → a = (s.rgb (pgHub 0x11) Reg.Comp.SNAP_ADDR c.val).toNat → a ≠ 0 →
    t = State.count { s with snapSeq := SMap.set (fun _ => 0) s.snapSeq c.val ((SMap.get (fun _ => 0) s.snapSeq c.val + 1) % 2 ^ 32) }
      (pgHub 0x11) Reg.Comp.SNAP_CNT 0 c.val 1 →
    exec (.snapshot c) s = .next (s.seal (State.settle ([0, 1, 2].foldl (fun s' i => s'.submit 52 (.snapLine c.val)
      { s'.unitReq .wr s'.node (a + 64 * i) 0 (some c) with
        data := lineOfBytes (((s.snapRecord c.val (SMap.get (fun _ => 0) s.snapSeq c.val)).drop (64 * i)).take 64) }) t)))) ∧
  -- R377: the release of a composition that nothing names
  (∀ s : State, s.releaseCheck s.compSel = 0 → ∃ t : State, exec .compRelease s = .next (s.seal (State.settle (t.compResult 0))) ∧
    t.comps = SMap.set (fun _ => 0) s.comps s.compSel 0 ∧ t.mem = s.mem)

/-- R63, R71, R84, R88, R231, R236, R242, R79: a request that finds its home ready reads or writes its line and is answered OK. -/
def Obligations.HomeRequestsComplete : Prop :=
  ∀ (s t w : State) (n : BayId) (r : Req) (p : Pass) (l : Line), t = s.readRow n.val (lineOf r.addr) →
    w = s.queueWrite n.val (lineOf r.addr) false → l = s.rawLine n.val (lineOf r.addr) →
    -- R71, R92, R196: a read goes to its row, after the line's queued writes; RD, RD_S and RD_M return the line; a cacheable read of an Owned region is granted E
    (s.homeReady n { r with op := .rd } p → exec (.rd r .clean) s = .next (s.seal (State.settle
      (t.homeAnswer n.val { r with op := .rd } .ok (grantOf { r with op := .rd } p.ent) false (some l))))) ∧
    (s.homeReady n { r with op := .rdS } p → exec (.rdS r .clean) s = .next (s.seal (State.settle
      (t.homeAnswer n.val { r with op := .rdS } .ok (grantOf { r with op := .rdS } p.ent) false (some l))))) ∧
    (s.homeReady n { r with op := .rdM } p → exec (.rdM r .clean) s = .next (s.seal (State.settle
      (t.homeAnswer n.val { r with op := .rdM } .ok (grantOf { r with op := .rdM } p.ent) false (some l))))) ∧
    -- R71: OWN returns no data
    (s.homeReady n { r with op := .own } p → exec (.own r .clean) s = .next (s.seal (State.settle
      (t.homeAnswer n.val { r with op := .own } .ok (grantOf { r with op := .own } p.ent) false none)))) ∧
    -- R84, R92: WR takes a write-queue entry and stores the line whole, or marks it as poisoned where its data failed its check
    (s.homeReady n { r with op := .wr } p → exec (.wr r .clean) s = .next (s.seal (State.settle
      ((if r.bad then w.poisonLine n.val (lineOf r.addr) else w.storeLine n.val (lineOf r.addr) r.data).homeAnswer n.val
        { r with op := .wr } .ok 0 false none)))) ∧
    -- R88, R79: WR_P and an applied Capstone store merge the bytes of their mask
    (s.homeReady n { r with op := .wrP } p → exec (.wrP r .clean) s = .next (s.seal (State.settle
      ((t.storeLine n.val (lineOf r.addr) (mergeLine l r.data r.mask)).homeAnswer n.val { r with op := .wrP } .ok 0 false none)))) ∧
    (s.homeReady n { r with op := .capWr } p → exec (.capWrApply r .clean) s = .next (s.seal (State.settle
      ((t.storeLine n.val (lineOf r.addr) (mergeLine l r.data r.mask)).homeAnswer n.val { r with op := .capWr } .ok 0 false none)))) ∧
    -- R242: ATOM returns the prior value and stores the new one; XADD runs on the window only
    (s.homeReady n { r with op := .atom } p → (atomFields r.opnd).1 ≠ 1 → exec (.atom r .clean) s = .next (s.seal (State.settle
      (((t.storeLine n.val (lineOf r.addr) (atomLine { r with op := .atom } l).1).bump (pgLoom n.val) Reg.Loom.ATOM_CNT).homeAnswer n.val
        { r with op := .atom } .ok 0 true (some (atomLine { r with op := .atom } l).2))))) ∧
    -- R231: RS_D adds to the accumulators of its reduction; its line in memory is not written (where no other transaction follows at the Bay)
    (s.homeReady n { r with op := .rsD } p → (t.redStore n.val r.addr (lineOf r.addr) { r with op := .rsD } .none).2.txns = [] →
      exec (.rsD r .clean) s = .next (s.seal (State.settle
      ((t.redStore n.val r.addr (lineOf r.addr) { r with op := .rsD } .none).2.homeAnswer n.val { r with op := .rsD }
        (t.redStore n.val r.addr (lineOf r.addr) { r with op := .rsD } .none).1 0 false none)))) ∧
    -- R236: RS_U reduces into the stored line and answers NONDETERMINISTIC
    (∀ (o : RedOp) (u : Line × Nat), s.homeReady n { r with op := .rsU } p → RedOp.ofCode (fld r.opnd 11 8) = some o →
      u = rsuLine o (fld r.opnd 15 12) l r.data → exec (.rsU r .clean) s = .next (s.seal (State.settle
        ((((t.storeLine n.val (lineOf r.addr) u.1).saturated n.val u.2).bump (pgHome n.val) Reg.Home.UNDECL_RS_CNT).homeAnswer n.val
          { r with op := .rsU } .nondeterministic 0 false none))))

/-- R73-R79, R83, R140, R198, R201, R202: the commands that follow up requests: Capstone stores that wait, multicast writes, what caches
send, recalls that are lost, sweeps and deadlines. -/
def Obligations.FollowUpCommandsComplete : Prop :=
  -- R79: a Capstone store of a Source none of whose requests is listed goes on at once; one that waits is held and counted
  (∀ (s : State) (r : Req) (p : PortId) (h : CapHold), r.origin = .port p → r.dnode = s.node → s.capWins = [] →
    h = { req := { r with op := .capWr }, waits := [], vc := s.vcOf 0 r.tc.toNat, size := (Msg.req { r with op := .capWr }).slots, red := false } →
    exec (.capWr r) s = .next (s.seal (State.settle (({ s with capWins := [] } : State).capResolve p.val h)))) ∧
  (∀ (s : State) (r : Req) (p : PortId) (w : CapWindow) (h : CapHold), r.origin = .port p → r.dnode = s.node → s.capWins = [w] →
    w.port = p.val → w.src = r.src → h.ready = false →
    h = { req := { r with op := .capWr }, waits := w.reqs, vc := s.vcOf 0 r.tc.toNat, size := (Msg.req { r with op := .capWr }).slots, red := false } →
    exec (.capWr r) s = .next (s.seal (State.settle
      (({ s with capWins := [], capHolds := s.capHolds ++ [h] } : State).bump (pgPG (p.val / 12)) Reg.PG.CAP_HOLD_CNT)))) ∧
  -- R79: the requests that a held Capstone store waited for have completed
  (∀ (s : State) (p : PortId) (h : CapHold), h.req.origin.port? = some p.val → h.ready = true → s.capHolds = [h] →
    exec (.capWrRelease p h.req.src h.req.tag) s = .next (s.seal (State.settle (({ s with capHolds := [] } : State).capResolve p.val h)))) ∧
  -- R201: a multicast write with its group's key is copied to the group's ports and devices; one with another key is refused
  (∀ (s : State) (r : Req) (p : PortId) (e : McEntry), r.origin = .port p → s.voqs = [] → s.mcEntry r.dnode.toNat = e → e.en = true →
    r.key = e.key → e.remotes = [] → exec (.mcWr r) s = .next (s.seal (State.settle
      (e.ports.foldl (fun t x => t.mcMember (s.inputOf { r with op := .mcWr }) e { r with op := .mcWr } s.tr.mcNum x)
        { s.bumpHub Reg.Mcast.MC_RX_CNT with tr := { s.tr with
          mcNum := s.tr.mcNum + 1
          mcOut := s.tr.mcOut ++ [{ id := s.tr.mcNum, req := { r with op := .mcWr }, ports := [], remotes := 0, bad := false, dests := [] }] } })))) ∧
  (∀ (s : State) (r : Req), s.voqs = [] → (s.mcEntry r.dnode.toNat).en = true → r.key ≠ (s.mcEntry r.dnode.toNat).key →
    exec (.mcWr r) s = .next (s.seal (State.settle ((s.bumpHub Reg.Mcast.MC_KEY_FAULT_CNT).refuse { r with op := .mcWr } .keyFault)))) ∧
  -- R202: every copy of a multicast write is acknowledged
  (∀ (s : State) (m : McOut), s.tr.mcOut = [m] → m.ports = [] → m.remotes = 0 → m.dests = [] → exec (.mcWrComplete m.id) s = .next (s.seal
    (State.settle (({ s with tr := { s.tr with mcOut := [] } } : State).refuse m.req (if m.bad then .portDown else .ok))))) ∧
  -- R75: a Writeback by the owner of the line's directory entry, with no transaction on the line: the line is stored, the entry follows
  (∀ (s : State) (p : PortId) (tc : BitVec 3) (la : BitVec 42) (keepS bad : Bool) (l : Line) (n : BayId) (i d : Nat) (e : RtEntry),
    la.toNat * 64 < stackEnd → s.homeBay (la.toNat * 64) = some n.val → bayOf s.sel (la.toNat * 64) = n.val → s.voqs = [] →
    s.islandState (.bay n) = 0 → SMap.get (fun _ => 0) s.pwr.req n.val = 0 → s.bayUp n.val = true → s.txns = [] →
    s.covers (la.toNat * 64) = some (i, e) → e.mode = .shared → e.dirOffset (la.toNat * 64) = d →
    dirState (s.rawDir n.val d) = 2 → dirOwner (s.rawDir n.val d) = p.val →
    exec (.wb p tc la keepS bad l) s = .next (s.seal (State.settle
      (((s.wbStore n.val (lineOf (la.toNat * 64)) bad l).setDir n.val d (if keepS then dirS (groupBit p.val) else dirI)).sendFrom
        (24 + n.val) p.val (.coh (.wbAck tc la .ok)))))) ∧
  -- R73: an acknowledged recall; R140: one that could not be delivered; R74: one that is never answered
  (∀ (s : State) (p : PortId) (tc : BitVec 3) (la : BitVec 42) (n : BayId) (t : Txn), la.toNat * 64 < stackEnd →
    s.homeBay (la.toNat * 64) = some n.val → s.voqs = [] → s.islandState (.bay n) = 0 →
    SMap.get (fun _ => 0) s.pwr.req n.val = 0 → s.activeTxn (bayOf s.sel (la.toNat * 64)) (lineOf (la.toNat * 64)) = some t →
    t.await.contains p.val = true → exec (.biAck p tc la) s = .next (s.seal (State.settle (s.recallAnswered t p.val (s.dirOf t))))) ∧
  (∀ (s : State) (p : PortId) (la : BitVec 42) (t : Txn),
    s.activeTxn (bayOf s.sel (la.toNat * 64)) (lineOf (la.toNat * 64)) = some t → t.await.contains p.val = true →
    exec (.undeliverableRecall p la) s = .next (s.seal (State.settle
      (if dirState (s.dirOf t) = 2 ∧ dirOwner (s.dirOf t) = p.val then s.recallLost t false else s.recallAnswered t p.val (s.dirOf t))))) ∧
  (∀ (s : State) (la : BitVec 42) (t : Txn),
    s.activeTxn (bayOf s.sel (la.toNat * 64)) (lineOf (la.toNat * 64)) = some t → exec (.recallTimeoutExpiry la) s = .next (s.seal
      (State.settle ((s.addN (pgHome t.bay) Reg.Home.RECALL_TIMEOUT_CNT t.await.length).recallLost t true)))) ∧
  -- R83: a sweep of a Bay under a map with no entry: its set is emptied, its end counted and told to the hosts
  (∀ (s t : State) (n : BayId), s.reg.cur.rt = [] → (s.bay n.val).sweep ≠ [] → t = ((s.setBay n.val { s.bay n.val with sweep := [] }).setF (pgHome n.val)
      Reg.Home.SWEEP_STAT 31 31 0).bump (pgHome n.val) Reg.Home.SWEEP_CNT →
    exec (.sweepEnd n) s = .next (s.seal (State.settle (t.notify 2 0 [n.val, (t.rg (pgHome n.val) Reg.Home.SWEEP_SET).toNat])))) ∧
  -- R198: a request that waits in the Deck past its deadline is answered TIMEOUT
  (∀ (s : State) (v : VoqItem) (r : Req), s.landing = [] → s.voqs = [v] → v.mc = none → v.msg = .req r → r.deadline ≤ s.ns →
    exec (.requestDeadline r.origin r.tag) s = .next (s.seal (State.settle ((State.scanned { s with voqs := [] } v.inp).refuse r .timeout))))

/-- R48, R88-R106, R108, R558: the commands of a Bay's memory controller and stack. -/
def Obligations.StackCommandsComplete : Prop :=
  -- R100, R104: REPAIR_CMD 1 begins the repair of the row it names; another code is rejected
  (∀ (s : State) (n : BayId), s.pageOpen (pgMC n.val) Reg.MC.REPAIR_CMD 0 →
    fld (s.rg (pgMC n.val) Reg.MC.REPAIR_ADDR) 36 0 < baySize → exec (.repairCmd n 1) s =
    .next (s.seal (State.settle (s.startRepair n.val (fld (s.rg (pgMC n.val) Reg.MC.REPAIR_ADDR) 36 0) 0xF)))) ∧
  (∀ (s : State) (n : BayId) (op : BitVec 4), s.pageOpen (pgMC n.val) Reg.MC.REPAIR_CMD 0 → op ≠ 1 → exec (.repairCmd n op) s = .next (s.seal (State.settle
    (s.writeRejected (pgMC n.val))))) ∧
  -- R101: the oldest repair is made: the row is in its bank's next spare row, each line corrected or poisoned
  (∀ (s : State) (n : BayId) (o : Nat) (rest : List Nat), (s.bay n.val).repairing = o :: rest → s.txns = [] →
    exec (.rowRepairDone n) s = .next (s.seal (State.settle (s.finishRepair n.val)))) ∧
  -- R39: a command of a page that cannot be reached now is not performed, and the error is recorded
  (∀ (s : State) (n : BayId) (op : BitVec 4) (q b : Nat), s.pageBlocked (pgMC n.val * 4096 + (Reg.MC.REPAIR_CMD.off + Reg.MC.REPAIR_CMD.stride * 0)) =
    some (q, b) → exec (.repairCmd n op) s = .next (s.seal (State.settle (s.setErr q b ((pgMC n.val * 4096 + (Reg.MC.REPAIR_CMD.off + Reg.MC.REPAIR_CMD.stride * 0)) / 4))))) ∧
  -- R48: a margin test of a stack PHY that serves no access
  (∀ (s : State) (n : BayId), s.pageOpen (pgMC n.val) Reg.MC.MARGIN_CMD 0 → s.outUp (24 + n.val) = false → shState (s.rg (pgMC n.val) Reg.MC.PHY_SHELL_STAT) = 3 →
    exec (.stackMarginStart n 1) s = .next (s.seal ((s.set (pgMC n.val) Reg.MC.PHY_SHELL_STAT
      (setFld (setFld (setFld (s.rg (pgMC n.val) Reg.MC.PHY_SHELL_STAT) 3 0 4) 6 6 0) 7 7 0)).setBay n.val
        { s.bay n.val with margin := true }))) ∧
  -- R48: the end of a margin test or of a recalibration of a stack PHY
  (∀ (s : State) (n : BayId) (w : Word), shState (s.rg (pgMC n.val) Reg.MC.PHY_SHELL_STAT) = 4 →
    exec (.shellMarginDone (.stack n) w 0) s = .next (s.seal (State.settle
      ((s.set (pgMC n.val) Reg.MC.PHY_SHELL_STAT (shMargined (s.rg (pgMC n.val) Reg.MC.PHY_SHELL_STAT)
        (if (s.bay n.val).margin then 3 else 2) 0)).set (pgMC n.val) Reg.MC.MARGIN_RES (w.setWidth 64))))) ∧
  (∀ (s : State) (n : BayId), shState (s.rg (pgMC n.val) Reg.MC.PHY_SHELL_STAT) = 5 →
    exec (.shellRecalibrationDone (.stack n) 0) s = .next (s.seal (State.settle (s.set (pgMC n.val) Reg.MC.PHY_SHELL_STAT
      (shCalibrated (s.rg (pgMC n.val) Reg.MC.PHY_SHELL_STAT) 2 0))))) ∧
  -- R108: a fill of an aligned range of one entry: its lines on this Bay are filled in order
  (∀ (s : State) (n : BayId) (lo hi i : Nat) (e : RtEntry), s.pageOpen (pgMC n.val) Reg.MC.FILL_CMD 0 →
    (s.rg (pgMC n.val) Reg.MC.FILL_BASE).toNat = lo →
    (s.rg (pgMC n.val) Reg.MC.FILL_LIMIT).toNat = hi → bit (s.rg (pgMC n.val) Reg.MC.FILL_STAT) 31 = false → lo % 64 = 0 → hi % 64 = 0 →
    lo < hi → s.fillEntry lo hi = some (i, e) → exec (.fillStart n) s = .next (s.seal (State.settle
      ((s.fillLines n.val lo hi e).foldl (fun t a => t.addTxn n.val a (.fill (s.rg (pgMC n.val) Reg.MC.FILL_PATTERN)) .clean ⟨i, e, 0⟩)
        ((s.fillResult n.val (2 ^ 31)).setBay n.val { s.bay n.val with fill := some { idx := i, ent := e, base := lo, limit := hi } }))))) ∧
  (∀ (s : State) (n : BayId) (f : Fill), (s.bay n.val).fill = some f → s.reg.cur.entry f.idx = f.ent →
    s.txns.any (fun t => t.isFill n.val) = false → exec (.fillDone n) s = .next (s.seal (State.settle
      ((s.setBay n.val { s.bay n.val with fill := none }).fillResult n.val 0)))) ∧
  -- R94, R95: a refresh that is due is postponed while requests wait, at most eight times
  (∀ (s : State) (n : BayId) (c : Fin 32), s.refreshes n.val = true → bit (s.rg (pgMC n.val) Reg.MC.MC_CTRL) 6 = true →
    s.hotStack n.val = false → SMap.get (fun _ => 0) (s.bay n.val).debt c.val < 7 → exec (.refreshDue n c true []) s =
      .next (s.seal (State.settle ((s.refresh n.val c.val 0 (SMap.get (fun _ => 0) (s.bay n.val).debt c.val + 1)).addN (pgMC n.val)
        Reg.MC.CATCHUP_CNT 0)))) ∧
  -- R95: it is else made, with one that is owed, as far as four in one interval allow
  (∀ (s : State) (n : BayId) (c : Fin 32) (d : Nat), s.refreshes n.val = true → SMap.get (fun _ => 0) (s.bay n.val).debt c.val = d → d ≤ 7 →
    2 ≤ s.refreshRoom n.val c.val → exec (.refreshDue n c false []) s = .next (s.seal (State.settle
      ((s.refresh n.val c.val (min (d + 1) 2) (d + 1 - min (d + 1) 2)).addN (pgMC n.val) Reg.MC.CATCHUP_CNT (min (min (d + 1) 2) (d - 6)))))) ∧
  -- R97, R98: a scrub of the next line of a quiet Bay reads and corrects it, and the position moves on
  (∀ (s t : State) (n : BayId) (k : Nat) (errs : Syms), s.refreshes n.val = true → bit (s.rg (pgMC n.val) Reg.MC.MC_CTRL) 5 = true →
    s.testing.contains n.val = false → s.txns = [] → s.hed.ops = [] → (s.bay n.val).repairing = [] → (s.bay n.val).scrubLine = k →
    k + 1 < bayLines → t = ((s.readRow n.val (k * 64)).readLine n.val (k * 64) 2 errs).2 → t.txns = [] → exec (.scrubLine n errs) s =
      .next (s.seal (State.settle ((t.setBay n.val { t.bay n.val with scrubLine := k + 1 }).setN (pgMC n.val) Reg.MC.SCRUB_POS ((k + 1) / 64))))) ∧
  -- R92: the page timeout closes its bank's row; the age cap changes what is served first, not what is served
  (∀ (s : State) (n : BayId) (c b : Fin 32), exec (.pageTimeout n c b) s = .next (s.seal (s.setBay n.val { s.bay n.val with
    openRows := SMap.set (fun _ => 0) (s.bay n.val).openRows (c.val * 32 + b.val) 0 }))) ∧
  -- R92: the age cap issues the queued writes that have waited so long, but for the fill's
  (∀ (s : State) (n : BayId) (c : Fin 32), exec (.ageCapReached n c) s = .next (s.seal (s.issueWrites n.val
    (((s.bay n.val).writesOf c.val).filter (fun q => !q.fill &&
      decide (q.time + fld (s.rg (pgMC n.val) Reg.MC.MC_CTRL) 23 16 * 100 ≤ s.now)))))) ∧
  -- R106, R558: a temperature sample of at most 85 degrees gives the hottest DRAM die, the base die and the bin
  (∀ (s : State) (n : BayId) (d : List (BitVec 8)) (b : BitVec 8) (m : Nat), s.samples n.val = true →
    (d.take 16).foldl (fun a b => max a b.toNat) 0 = m → m ≤ 85 → exec (.stackTempSample n d b) s = .next (s.seal (State.settle
      ((s.setBay n.val { s.bay n.val with sampled := true }).setN (pgMC n.val) Reg.MC.STACK_TEMP (m + b.toNat * 256 + tempBin m * 2 ^ 16)))))

/-- R110, R116-R118, R203, R205: the commands of the tray tier and of streams. -/
def Obligations.TrayAndStreamCommandsComplete : Prop :=
  -- R110: TRAY_CFG while no entry is in the tray tier and the slots fit
  (∀ (s : State) (v : Word), s.trayMapped = false → nfld v.toNat 5 0 ≤ 48 → s.slotsFit (nfld v.toNat 5 0) = true →
    exec (.trayCfgWrite v) s = .next (s.seal (s.setN (pgHub 0x13) Reg.TMap.TRAY_CFG (nfld v.toNat 5 0)))) ∧
  -- R203: a tray write is acknowledged: its request is answered with what the tray says
  (∀ (s : State) (p : PortId) (c : TrayCmp) (t : TrayTxn) (r : Req) (n : BayId), s.voqs = [] → s.trayBay p.val = some n.val →
    s.islandState (.bay n) = 0 → SMap.get (fun _ => 0) s.pwr.req n.val = 0 → s.tray.txns = [t] →
    t.ttag = c.ttag.toNat → s.trayPort t.slot = p.val → t.phase = .writing → t.late = false → t.req = some r →
    exec (.tcmp p c) s = .next (s.seal (State.settle ((s.trayEnd t { c with data := [] }.outcome t.answer).runTray)))) ∧
  -- R203: a tray read returns its line: it is opened and its request goes on
  (∀ (s : State) (p : PortId) (c : TrayCmp) (t : TrayTxn) (r : Req) (l : Line) (n : BayId), s.voqs = [] → s.trayBay p.val = some n.val →
    s.islandState (.bay n) = 0 → SMap.get (fun _ => 0) s.pwr.req n.val = 0 → s.tray.txns = [t] →
    t.ttag = c.ttag.toNat → s.trayPort t.slot = p.val → t.phase = .reading → t.late = false → t.req = some r → c.outcome = .ok →
    c.data = [l] → exec (.tcmpD p c) s = .next (s.seal (State.settle ((s.trayGot t r l).runTray)))) ∧
  -- R205: the patrol scrub of a slot sends TSCRUB of the next 64 lines
  (∀ (s : State) (n : BayId) (k : Fin 48) (pos : Nat), bit (s.rg (pgTray n.val) Reg.Tray.TRAY_SCRUB) 31 = true → k.val < s.trayN →
    (s.traySlot k.val).2 = n.val → s.portUp (s.trayPort k.val) 0 = true → SMap.get (fun _ => 0) s.tray.scrub k.val = pos →
    s.trayRoom n.val 1 = true → exec (.trayScrubIssue n k) s = .next (s.seal (State.settle
      (((State.addTray { s with tray := { s.tray with scrub := SMap.set (fun _ => 0) s.tray.scrub k.val ((pos + 64) % 2 ^ 36) } }
        n.val k.val pos 64 none ⟨0, RtEntry.none, 0⟩).obTaken (n.val / 6)).runTray)))) ∧
  -- R116: WIN_CFG of a window that is off, with EN clear: the fields are stored
  (∀ (s : State) (v : Word) (c : Nat), fld (s.hub Reg.Stream.STREAM_SEL) 7 0 = c → s.winOn c = false →
    (Reg.Stream.WIN_CFG.written (s.rgb pgStream Reg.Stream.WIN_CFG c) (v.zeroExtend 64)).2 = false →
    bit (Reg.Stream.WIN_CFG.written (s.rgb pgStream Reg.Stream.WIN_CFG c) (v.zeroExtend 64)).1 31 = false →
    exec (.winEnable v) s = .next (s.seal (s.setReg pgStream Reg.Stream.WIN_CFG 0 c
      (setBit (Reg.Stream.WIN_CFG.written (s.rgb pgStream Reg.Stream.WIN_CFG c) (v.zeroExtend 64)).1 31 false)))) ∧
  -- R116: WIN_CFG with EN set, of a window whose area its composition may use: WIN_STAT is 0 and the window is on
  (∀ (s u : State) (v : Word) (c : Nat) (new : DWord), fld (s.hub Reg.Stream.STREAM_SEL) 7 0 = c → s.winOn c = false →
    Reg.Stream.WIN_CFG.written (s.rgb pgStream Reg.Stream.WIN_CFG c) (v.zeroExtend 64) = (new, false) → bit new 31 = true →
    u = s.setReg pgStream Reg.Stream.WIN_CFG 0 c (setBit new 31 false) →
    u.reg.cur.areaCause u.node c (u.winGranules c).1 (u.winGranules c).2 = 0 → exec (.winEnable v) s =
      .next (s.seal ((u.setReg pgStream Reg.Stream.WIN_STAT 0 c 0).setReg pgStream Reg.Stream.WIN_CFG 0 c (setBit new 31 true)))) ∧
  -- R116: one whose area fails keeps EN clear, with the cause in WIN_STAT
  (∀ (s u : State) (v : Word) (c k : Nat) (new : DWord), fld (s.hub Reg.Stream.STREAM_SEL) 7 0 = c → s.winOn c = false →
    Reg.Stream.WIN_CFG.written (s.rgb pgStream Reg.Stream.WIN_CFG c) (v.zeroExtend 64) = (new, false) → bit new 31 = true →
    u = s.setReg pgStream Reg.Stream.WIN_CFG 0 c (setBit new 31 false) →
    u.reg.cur.areaCause u.node c (u.winGranules c).1 (u.winGranules c).2 = k → k ≠ 0 → exec (.winEnable v) s =
      .next (s.seal (u.setReg pgStream Reg.Stream.WIN_STAT 0 c (BitVec.ofNat 64 k)))) ∧
  -- R118: a block of an uncoded layer has been read: its lines are written to their slot
  (∀ (s : State) (t : TaskRef) (off : Nat) (x : StreamSt) (j : StreamJob) (l : Layer) (cs : List Cmp) (b : Nat) (u : State),
    s.stream t = some x → x.jobs.find? (fun j => j.off = off && !j.writing) = some j → x.layers[x.next - 1]? = some l →
    s.batchAll j.batch = some cs → l.coded = false → j.tab = none → firstBad cs = .ok →
    (s.endBatch j.batch).startBatch (.streamWrote t off) ((s.endBatch j.batch).jobWrites x (x.next - 1) none j cs) = (b, u) →
    exec (.streamBlockReadDone t off) s =
      .next (s.seal (State.settle (u.setStream (x.setJob { j with batch := b, writing := true }))))) ∧
  -- R117: a layer has been sent, with every store OK: its slot is free, its flag is set and the stream goes on
  (∀ (s : State) (t : TaskRef) (x : StreamSt) (i b : Nat) (cs : List Cmp), s.stream t = some x → x.sending = some i →
    x.sends = some (some b) → s.batchAll b = some cs → cs.any (fun c => c.status = .portDown) = false → x.stop = .ok → firstBad cs = .ok →
    exec (.streamSendDone t) s = .next (s.seal (State.settle (State.streamGo
      (((((s.endBatch b).setSlotStat x.comp (x.slotOf i) 0).streamFlag x i .ok)).setStream
        { x with sending := none, sends := none, words := [], sent := i + 1, slots := x.slots.set (x.slotOf i) none
                 st := if x.st = .ok then .ok else x.st }) t))))

/-- R126, R127, R132-R134, R137, R138, R143, R145-R149: the commands of the Deck. -/
def Obligations.DeckCommandsComplete : Prop :=
  -- R126: an empty landing queue admits nothing; what stands at the front and finds room frees its slots and enters its sub-queue
  (∀ (s : State) (p : PortId) (vc : Fin 8) (e : Option PathErr), s.landingOf p.val vc.val = [] → exec (.landingQueueAdmit p vc e) s =
    .next (s.seal (State.settle s))) ∧
  (∀ (s t : State) (p : PortId) (vc : Fin 8) (e : Option PathErr) (c : Cmp) (i : LandItem) (rest : List LandItem) (v : VoqItem),
    s.landingOf p.val vc.val = i :: rest → i.msg = .cmp c → v = s.landVoq p.val i e → s.limitRoom (p.val / 12) p.val v = true →
    s.capRoom (p.val / 12) v = true → t = (s.setLanding p.val vc.val rest).freeSlots p.val vc.val i.size → t.outUp v.out = true →
    exec (.landingQueueAdmit p vc e) s = .next (s.seal (State.settle (t.pushVoq v)))) ∧
  -- R125, R126: the same of a request no policer holds, of a class that is on, whose line no other class of its port waits for
  (∀ (s u t : State) (p : PortId) (vc : Fin 8) (e : Option PathErr) (r : Req) (i : LandItem) (rest : List LandItem) (v : VoqItem),
    s.landingOf p.val vc.val = i :: rest → i.msg = .req r → i.held = false → s.classOff (p.val / 12) r = false →
    u = s.setLanding p.val vc.val (i :: rest) → v = u.landVoq p.val i e → u.lineWaits p.val r = false →
    u.limitRoom (p.val / 12) p.val v = true → u.capRoom (p.val / 12) v = true →
    t = (u.setLanding p.val vc.val rest).freeSlots p.val vc.val i.size → t.outUp v.out = true →
    exec (.landingQueueAdmit p vc e) s = .next (s.seal (State.settle (t.pushVoq v)))) ∧
  -- R127: limits that keep the sums of R127 are stored, with their total in LIM_SUM; others are rejected
  (∀ (s t : State) (g : GroupId) (w : LimitReg) (v : Word) (k : Nat) (ok : Bool), s.pageOpen (pgPort g.val) w.reg w.elem →
    t = (match w with
      | .rsv => s.setN (pgPort g.val) Reg.Port.LIM_RSV v.toNat
      | .classLim c => s.setReg (pgPort g.val) Reg.Port.CLASS_LIM c.val 0 (BitVec.ofNat 64 v.toNat)
      | .voqCap c => s.setReg (pgPort g.val) Reg.Port.VOQ_CAP c.val 0 (BitVec.ofNat 64 (v.toNat % 65536))) →
    limCheck (fld (t.rg (pgPort g.val) Reg.Port.LIM_RSV) 15 0) (fld (t.rg (pgPort g.val) Reg.Port.LIM_RSV) 31 16)
      ((List.range 8).map (fun c => t.classLim g.val c)) ((List.range 8).map (fun c => (t.rgi (pgPort g.val) Reg.Port.VOQ_CAP c).toNat)) =
        (k, ok) →
    exec (.limitWrite g w v) s = .next (s.seal (if ok then t.setN (pgPort g.val) Reg.Port.LIM_SUM k else s.writeRejected (pgPort g.val)))) ∧
  -- R134, R135: a policer whose excess rate is not below its committed rate, and that demotes to no Scheduled class, is stored without
  -- its reserved bits, with full buckets and its counters as they were
  (∀ (s : State) (g : GroupId) (i : BitVec 16) (w0 w1 w2 w3 : Word), s.pageOpen (pgPort g.val) Reg.Port.POL_CMD 0 →
    bit (s.rg (pgPort g.val) Reg.Port.POL_STAT) 31 = false → i.toNat < 1024 → w0 = s.polData g.val 0 &&& 0x000FFFFF →
    w1 = s.polData g.val 1 &&& 0x000FFFFF → w2 = s.polData g.val 2 &&& 0x000FFFFF → w3 = s.polData g.val 3 &&& 0xFF0FFFFF →
    fld w3 28 27 ≠ 3 → (fld w3 28 27 = 1 → bit (s.rg (pgSlice 4) Reg.Slice.TC_MODE) (fld w3 26 24) = false) →
    fld w0 19 0 ≤ fld w1 19 0 → exec (.polWrite g i) s = .next (s.seal ((s.setPolicer g.val i.toNat
      { w0 := w0, w1 := w1, w2 := w2, w3 := w3, c := ((fld w2 19 0 * 64000 : Nat) : Int), p := ((fld w3 19 0 * 64000 : Nat) : Int)
        filled := s.now, green := (s.policer g.val i.toNat).green, yellow := (s.policer g.val i.toNat).yellow
        red := (s.policer g.val i.toNat).red }).polResult g.val 0))) ∧
  -- R134, R147: reads of a policer, of its counters and of the map
  (∀ (s : State) (g : GroupId) (i : BitVec 16), s.pageOpen (pgPort g.val) Reg.Port.POL_CMD 0 →
    bit (s.rg (pgPort g.val) Reg.Port.POL_STAT) 31 = false →
    (i.toNat < 1024 → exec (.polRead g i) s = .next (s.seal ((s.setPolData g.val
      [(s.policer g.val i.toNat).w0.toNat, (s.policer g.val i.toNat).w1.toNat, (s.policer g.val i.toNat).w2.toNat,
       (s.policer g.val i.toNat).w3.toNat]).polResult g.val 0))) ∧
    (i.toNat < 1024 → exec (.polCntRead g i) s = .next (s.seal
      ((((s.setReg (pgPort g.val) Reg.Port.POL_CNT 0 0 (BitVec.ofNat 64 (s.policer g.val i.toNat).green)).setReg (pgPort g.val)
        Reg.Port.POL_CNT 1 0 (BitVec.ofNat 64 (s.policer g.val i.toNat).yellow)).setReg (pgPort g.val) Reg.Port.POL_CNT 2 0
          (BitVec.ofNat 64 (s.policer g.val i.toNat).red)).polResult g.val 0))) ∧
    (i.toNat < 4096 → exec (.polMapWrite g i) s = .next (s.seal (State.polResult
      { s with polMap := SMap.set (fun _ => 0) s.polMap (g.val * 4096 + i.toNat) ((s.polData g.val 0).toNat % 256) } g.val 0))) ∧
    (i.toNat < 4096 → exec (.polMapRead g i) s = .next (s.seal ((s.setPolData g.val [s.polEntry g.val i.toNat]).polResult g.val 0)))) ∧
  -- R134: an index past the table
  (∀ (s : State) (g : GroupId) (i : BitVec 16), s.pageOpen (pgPort g.val) Reg.Port.POL_CMD 0 →
    bit (s.rg (pgPort g.val) Reg.Port.POL_STAT) 31 = false → 4096 ≤ i.toNat → ∀ c ∈ [Instr.polWrite g i, .polRead g i, .polCntRead g i,
    .polMapWrite g i, .polMapRead g i], exec c s = .next (s.seal (s.polResult g.val 1))) ∧
  -- R133: an arbiter mismatch is counted; repeated, it fences the Span
  (∀ (s t u : State) (k : Fin 5) (last win : Nat) (again : Bool), t = s.bump (pgSlice k.val) Reg.Slice.ARB_MISMATCH_CNT →
    last = SMap.get (fun _ => 0) t.arbLast k.val → win = fld (t.rg (pgSlice k.val) Reg.Slice.ARB_CTRL) 15 0 * 1000000 →
    u = { t with
      arbLast := SMap.set (fun _ => 0) t.arbLast k.val (t.now + 1)
      arb := { t.arb with stall := SMap.set (fun _ => 0) t.arb.stall k.val 2 } } →
    exec (.arbMismatch k again) s = .next (s.seal (State.settle (if again = true ∨ (last ≠ 0 ∧ t.now + 1 ≤ last + win) then
      (u.setF (pgSlice k.val) Reg.Slice.SLICE_STAT 31 31 1).raise (.spanFault k.val) else u)))) ∧
  -- R137: the first report of a stuck VOQ head is counted, set in ERR_STAT and recorded
  (∀ (s t : State) (i o : Fin 53) (c : BitVec 3) (k : Fin 4) (q : List VoqItem), s.headStuck i.val o.val c.toNat k.val = true →
    markStuck i.val o.val c.toNat k.val s.voqs = some q → t = (({ s with voqs := q } : State).bump (pgSlice (sliceOfPort i.val))
      Reg.Slice.STUCK_CNT).setErr (pgSlice (sliceOfPort i.val)) 9 0 →
    bit (t.rg (pgSlice (sliceOfPort i.val)) Reg.Slice.STUCK_INFO) 31 = false → exec (.stuckReport i o c k) s =
      .next (s.seal (t.setN (pgSlice (sliceOfPort i.val)) Reg.Slice.STUCK_INFO
        (2 ^ 31 + i.val * 2 ^ 24 + o.val * 2 ^ 16 + c.toNat * 2 ^ 8 + k.val * 2 ^ 4)))) ∧
  -- R138: ADMIN_DOWN takes a Deck port that was up down: each port of a group, a Bay, a Trestle, the Hub with the host port
  (∀ (s t : State) (d : Fin 53), s.pageOpen (pgPort d.val) Reg.Port.PORT_CTRL 0 → s.adminDown d.val = false →
    t = s.setF (pgPort d.val) Reg.Port.PORT_CTRL 0 0 1 →
    (d.val < 24 → exec (.adminDownWrite d true) s = .next (s.seal (State.settle ((t.groupPorts d.val).foldl (fun u x => u.portDown x) t)))) ∧
    (24 ≤ d.val → d.val < 52 → exec (.adminDownWrite d true) s = .next (s.seal (State.settle (t.deckDown d.val true)))) ∧
    (d.val = 52 → exec (.adminDownWrite d true) s = .next (s.seal (State.settle ((t.deckDown 52 false).portGone 288))))) ∧
  (∀ (s : State) (d : Fin 53), s.pageOpen (pgPort d.val) Reg.Port.PORT_CTRL 0 → exec (.adminDownWrite d false) s =
    .next (s.seal (State.settle (s.setF (pgPort d.val) Reg.Port.PORT_CTRL 0 0 0)))) ∧
  -- R138, R139: a flush ends, what its port had listed is completed, and FLUSH_CNT counts it
  (∀ (s : State) (x : PortId), s.flushing = [.port x] → s.flushWaits = false → exec (.flushEnd (.port x)) s = .next (s.seal (State.settle
    (({ s with flushing := [] } : State).bump (pgPort (inputOfPort x.val)) Reg.Port.FLUSH_CNT)))) ∧
  (∀ (s : State) (d : Fin 53) (r : Req), s.flushing = [.deck d] → s.flushWaits = false → s.returns = [(d.val, r)] →
    exec (.flushEnd (.deck d)) s = .next (s.seal (State.settle
      (((({ s with flushing := [], returns := [] } : State).bump (pgPort d.val) Reg.Port.RETURN_CMP_CNT).refuseAt (flushInp d.val) r
        .portDown).bump (pgPort d.val) Reg.Port.FLUSH_CNT)))) ∧
  -- R146: a histogram sample of the one output selected, into the bins of each class; R149: HIST_CLR clears the bins
  (∀ (s t : State) (g : GroupId) (o : Nat), bit (s.rg (pgHist g.val) Reg.Hist.HIST_CTRL) 31 = true →
    fld (s.rg (pgHist g.val) Reg.Hist.HIST_CTRL) 29 24 = o → o ≠ 0x3F → t = s.setN (pgHist g.val) Reg.Hist.HIST_LAST o →
    exec (.histSample g) s = .next (s.seal ((List.range 8).foldl (fun u tc =>
      (u.bumpI (pgHist g.val) Reg.Hist.DEPTH (16 * tc + depthBin (u.voqCells g.val o tc))).bumpI (pgHist g.val) Reg.Hist.DELAY
        (16 * tc + delayBin (fld (s.rg (pgHist g.val) Reg.Hist.HIST_CTRL) 23 20) (u.voqDelay g.val o tc))) t))) ∧
  (∀ (s : State) (g : GroupId), s.pageOpen (pgHist g.val) Reg.Hist.HIST_CLR 0 → exec (.histClr g 1) s = .next (s.seal (s.histClear g.val))) ∧
  -- R145: the sampler starts with an empty count where its ring fits
  (∀ s : State, (s.hub Reg.Smp.RING_BASE).toNat + 160 * (s.hub Reg.Smp.RING_ENTRIES).toNat ≤ 4194304 →
    (s.hub Reg.Smp.RING_BASE).toNat + 160 * (s.hub Reg.Smp.RING_ENTRIES).toNat ≤ fld (s.hub Reg.Diag.TRACE_SPLIT) 4 0 * 262144 →
    bit (s.hub Reg.Smp.SMP_CTRL) 31 = false → exec (.smpEnable false) s = .next (s.seal
      (State.setHub { s with sampler := { s.sampler with seq := 0, lost := 0 } } Reg.Smp.SMP_CTRL (BitVec.ofNat 64 (2 ^ 31))))) ∧
  -- R143: SAMPLE_CFG is stored; where it turns EN on, the first gap is drawn
  (∀ (s t : State) (d : Fin 53) (c : Fin 8) (v : Word), s.pageOpen (pgPort d.val) Reg.Port.SAMPLE_CFG c.val →
    t = s.writeReg (pgPort d.val) Reg.Port.SAMPLE_CFG c.val 0 (BitVec.ofNat 64 v.toNat) →
    (bit (t.rgi (pgPort d.val) Reg.Port.SAMPLE_CFG c.val) 31 = false → exec (.sampleCfgWrite d c v) s = .next (s.seal t)) ∧
    (bit (t.rgi (pgPort d.val) Reg.Port.SAMPLE_CFG c.val) 31 = true → bit (s.rgi (pgPort d.val) Reg.Port.SAMPLE_CFG c.val) 31 = false →
      exec (.sampleCfgWrite d c v) s = .next (s.seal ((t.nextGap d.val (t.rgi (pgPort d.val) Reg.Port.SAMPLE_CFG c.val)).2.setGap d.val c.val
        (t.nextGap d.val (t.rgi (pgPort d.val) Reg.Port.SAMPLE_CFG c.val)).1)))) ∧
  -- R132: TC_MODE is one register of the five slices
  (∀ (s : State) (v : Word), exec (.tcModeWrite v) s = .next (s.seal
    ((List.range 5).foldl (fun t i => t.setF (pgSlice i) Reg.Slice.TC_MODE 7 0 (fld v 7 0)) s)))

/-- R48, R154, R156, R166-R176: the commands of a link and of its Pier. -/
def Obligations.LinkCommandsComplete : Prop :=
  -- R154: PIER_CFG while every port of the Pier is down
  (∀ (s : State) (p : PierId) (v : Word), s.pageOpen (pgPier p.val) Reg.Pier.PIER_CFG 0 →
    (∀ x ∈ s.pierPorts p.val, (s.link x).state = .disabled) → s.trayUses p.val = false →
    exec (.pierCfgWrite p v) s = .next (s.seal (State.settle
      ((s.writeReg (pgPier p.val) Reg.Pier.PIER_CFG 0 0 (BitVec.ofNat 64 v.toNat)).tryPier p.val)))) ∧
  -- R169: LINK_DISABLE takes a port down and forgets its link; clearing it starts detection
  (∀ (s t : State) (p : PortId), s.pageOpen (pgPier (p.val / 4)) Reg.Pier.LINK_CTRL (p.val % 4) → (s.link p.val).state ≠ .disabled →
    t = (s.setReg (pgPier (p.val / 4)) Reg.Pier.LINK_CTRL (p.val % 4) 0 1).linkTo p.val .disabled →
    exec (.linkDisableWrite p true) s = .next (s.seal (State.settle (t.setLink p.val { Link.init with signal := (t.link p.val).signal })))) ∧
  (∀ (s t : State) (p : PortId), s.pageOpen (pgPier (p.val / 4)) Reg.Pier.LINK_CTRL (p.val % 4) →
    t = s.setReg (pgPier (p.val / 4)) Reg.Pier.LINK_CTRL (p.val % 4) 0 0 → (t.link p.val).state = .disabled → t.portExists p.val = true →
    bit (t.rgi (pgPier (p.val / 4)) Reg.Pier.LINK_CTRL (p.val % 4)) 0 = false → t.shellsReady (p.val / 4) = true → t.latched = true →
    t.groupUp (p.val / 12) = true → t.isHeld (.pier (p.val / 4)) = false →
    exec (.linkDisableWrite p false) s = .next (s.seal (State.settle (t.detect p.val)))) ∧
  -- R169: DETECT to EQUALIZE to LOCK to IDENTIFY; RETRAIN goes by EQUALIZE too
  (∀ (s : State) (p : PortId), SMap.wf (fun _ => Link.init) s.links = true → (s.link p.val).state = .detect → exec (.signalPresent p) s =
    .next (s.seal (State.settle ((s.setLink p.val { s.link p.val with signal := true }).linkTo p.val .equalize)))) ∧
  (∀ (s : State) (p : PortId), (s.link p.val).state = .equalize → (s.link p.val).signal = true → exec (.equalizeDone p) s =
    .next (s.seal (State.settle (s.linkTo p.val .lock)))) ∧
  -- R156, R169: the END markers of every lane, deskewed, after 64 clean codewords
  (∀ (s t : State) (p : PortId) (ms : List (BitVec 120)) (k c : Nat), (s.link p.val).state = .lock → areEndMarkers (s.lanesOf p.val) ms = true →
    k ≤ 20 → 64 ≤ c →
    t = (((s.emit (.markers p.val (endMarkers (s.lanesOf p.val) (s.lockCount p.val)))).setLink p.val { s.link p.val with
      own := none, theirs := none, peer := none, rxPos := 0, cwBad := false, txBits := 0, txLen := 0 }).linkTo p.val .identify) →
    exec (.lockEndMarker p ms k c) s = .next (s.seal (State.settle (t.sendCtrl p.val (.identify (t.ownIdentify p.val)))))) ∧
  -- R169, R176: the signal of one lane of an ACTIVE port is lost: the lane has failed
  (∀ (s : State) (p : PortId) (k : Fin 9), k.val ≠ 8 → s.onPort p.val k.val = true → (s.link p.val).state = .active →
    exec (.lossOfSignal p [k]) s = .next (s.seal (State.settle (s.laneFailed p.val k.val 2)))) ∧
  -- R169: a port that trains and loses a lane's signal starts over
  (∀ (s : State) (p : PortId) (k : Fin 9), k.val ≠ 8 → s.onPort p.val k.val = true →
    (s.link p.val).state ∈ [LinkState.equalize, .lock, .identify] → exec (.lossOfSignal p [k]) s =
      .next (s.seal (State.settle ((s.setLink p.val { s.link p.val with signal := false }).trainFail p.val)))) ∧
  -- R157, R176: a lane whose corrected symbols exceed its threshold has failed
  (∀ (s : State) (p : PortId) (k : Fin 9), s.onPort p.val k.val = true → (s.link p.val).state = .active → s.laneHot (p.val / 4) k.val = true →
    shState (s.laneShell (p.val / 4) k.val) ≠ 6 → exec (.laneFailure p k) s = .next (s.seal (State.settle (s.laneFailed p.val k.val 3)))) ∧
  -- R169: a state that is left only by its time
  (∀ (s : State) (p : PortId), (s.link p.val).state ∈ [LinkState.equalize, .lock, .identify, .securing] →
    exec (.linkStateTimeout p) s = .next (s.seal (State.settle (s.trainFail p.val)))) ∧
  -- R171: IDENTIFY is judged, kept and answered; its acknowledgement is kept
  (∀ (s t : State) (p : PortId) (f : Flit) (i : Identify), s.hears p.val f (some (.identify i)) →
    t = (s.countFec p.val f).plainCtrl p.val f → (t.link p.val).state = .identify → exec (.identify p f) s = .next (s.seal (State.settle
      (((t.setLink p.val { t.link p.val with peer := some i, own := some (t.identifyResult p.val i) }).sendCtrl p.val
        (.identifyAck (BitVec.ofNat 8 (t.identifyResult p.val i)) t.node)).identifyNext p.val)))) ∧
  (∀ (s t : State) (p : PortId) (f : Flit) (r : BitVec 8) (d : NodeId), s.hears p.val f (some (.identifyAck r d)) →
    t = (s.countFec p.val f).plainCtrl p.val f → (t.link p.val).state = .identify → exec (.identifyAck p f) s =
      .next (s.seal (State.settle ((t.setLink p.val { t.link p.val with theirs := some r.toNat }).identifyNext p.val)))) ∧
  -- R171: IDENTIFY is sent again, and after it the acknowledgement of the peer's
  (∀ (s : State) (p : PortId), (s.link p.val).state = .identify →
    ((s.link p.val).own = none → exec (.identifyResend p) s = .next (s.seal (State.settle (s.sendCtrl p.val (.identify (s.ownIdentify p.val)))))) ∧
    (∀ a, (s.link p.val).own = some a → exec (.identifyResend p) s = .next (s.seal
      (State.settle ((s.sendCtrl p.val (.identify (s.ownIdentify p.val))).sendCtrl p.val
        (.identifyAck (BitVec.ofNat 8 a) (s.sendCtrl p.val (.identify (s.ownIdentify p.val))).node)))))) ∧
  -- R174: a key share that verifies starts a session with its keys, and the secured SEQ 0 is sent; another fails the training
  (∀ (s t u : State) (p : PortId) (f : Flit) (d : NodeId) (nonce key sig : List Byte) (n : Nat), s.hears p.val f (some (.keyShare d nonce key sig)) →
    t = (s.countFec p.val f).plainCtrl p.val f → (t.link p.val).state = .securing → (t.link p.val).eph = some n → 3 ≤ (t.link p.val).auth →
    (t.link p.val).shared = false → u = t.linkRestart p.val →
    exec (.keyShare p f) s = .next (s.seal (State.settle (if t.shareOk p.val d nonce key sig then
      ((u.setLink p.val { u.link p.val with shared := true, keys := some (sessKeys t.node d (Config.ecdh n key) (Config.nonce n) nonce)
                                            egress := (t.link p.val).egress }).sendNew p.val (padTo 14 []) []).pump p.val
      else t.trainFail p.val)))) ∧
  (∀ (s : State) (p : PortId), (s.link p.val).state = .securing → (s.link p.val).auth = 3 → (s.link p.val).shared = false →
    exec (.keyShareResend p) s = .next (s.seal (State.settle (s.sendShare p.val)))) ∧
  -- R168: a NAK is sent again, replay starts over, and a port without progress gives up: an ACTIVE one retrains
  (∀ (s : State) (p : PortId), (s.link p.val).awaiting = true → (s.link p.val).state.takes = true →
    (s.link p.val).nakTime + s.replayTime p.val 7 0 100 ≤ s.now → exec (.nakTimeoutExpiry p) s = .next (s.seal (State.settle (s.sendNak p.val)))) ∧
  (∀ (s : State) (p : PortId) (f : TxFlit) (r : List TxFlit), (s.link p.val).replay = f :: r → (s.link p.val).state.takes = true →
    f.time + s.replayTime p.val 15 8 500 ≤ s.now → exec (.ackTimeoutExpiry p) s =
      .next (s.seal (State.settle (s.replayFrom p.val f.seq ((f.seq + 4095) % 4096))))) ∧
  (∀ (s : State) (p : PortId), (s.link p.val).replay ≠ [] → (s.link p.val).ackTime + s.replayTime p.val 23 16 1000 ≤ s.now →
    (s.link p.val).state = .active → exec (.progressTimeoutExpiry p) s = .next (s.seal (State.settle (s.retrain p.val 7)))) ∧
  -- R176: the sparing of a lane: request, acknowledgement, end, and the request sent again or given up
  (∀ (s t u : State) (p : PortId) (f : Flit) (k y : BitVec 8), s.hears p.val f (some (.spareReq k y)) →
    t = (s.countFec p.val f).plainCtrl p.val f → u = t.loopYield (p.val / 4) → (u.pier (p.val / 4)).spareTx = none →
    exec (.spareReq p f) s = .next (s.seal (State.settle
      (((u.setPier (p.val / 4) { u.pier (p.val / 4) with spareTx := some k.toNat }).emit (.spare (p.val / 4) (some k.toNat))).sendCtrl p.val
        (.spareAck (BitVec.ofNat 8 k.toNat) (BitVec.ofNat 8 (p.val % 4))))))) ∧
  (∀ (s t u : State) (p : PortId) (f : Flit) (k y : BitVec 8), s.hears p.val f (some (.spareAck k y)) →
    t = (s.countFec p.val f).plainCtrl p.val f → (t.pier (p.val / 4)).sparing = some (p.val, k.toNat) →
    u = t.setPier (p.val / 4) { t.pier (p.val / 4) with sparing := none, spareRx := some k.toNat } →
    exec (.spareAck p f) s = .next (s.seal (State.settle
      ((((u.runLane (p.val / 4) 8 (u.link p.val).state.live).syncSpare (p.val / 4)).bump (pgPier (p.val / 4)) Reg.Pier.SPARE_CNT).sendCtrl p.val
        (.spareDone (BitVec.ofNat 8 k.toNat) (BitVec.ofNat 8 (p.val % 4))))))) ∧
  (∀ (s t : State) (p : PortId) (f : Flit) (k y : BitVec 8), s.hears p.val f (some (.spareDone k y)) →
    t = (s.countFec p.val f).plainCtrl p.val f → (t.pier (p.val / 4)).spareTx = some k.toNat →
    fld (t.rg (pgPier (p.val / 4)) Reg.Pier.SPARE_STAT) 7 4 ≠ k.toNat → exec (.spareDone p f) s =
      .next (s.seal (State.settle ((t.syncSpare (p.val / 4)).bump (pgPier (p.val / 4)) Reg.Pier.SPARE_CNT)))) ∧
  (∀ (s : State) (p : PierId) (x k : Nat), (s.pier p.val).sparing = some (x, k) → exec (.spareReqResend p) s =
    .next (s.seal (State.settle (s.sendCtrl x (.spareReq (BitVec.ofNat 8 k) (BitVec.ofNat 8 (x % 4))))))) ∧
  (∀ (s : State) (p : PierId) (x k : Nat), (s.pier p.val).sparing = some (x, k) → exec (.spareTimeout p) s =
    .next (s.seal (State.settle ((s.setPier p.val { s.pier p.val with sparing := none }).laneRetrain x)))) ∧
  -- R173: a LINK_CTRL body with a reserved operation code is a protocol error, and nothing else
  (∀ (s t : State) (p : PortId) (f : Flit), s.hears p.val f none → t = (s.countFec p.val f).plainCtrl p.val f → ∀ c ∈ [Instr.identify p f,
    .identifyAck p f, .keyShare p f, .spareReq p f, .spareAck p f, .spareDone p f], exec c s =
      .next (s.seal (State.settle (t.bumpI (pgPier (p.val / 4)) Reg.Pier.PROTO_ERR_CNT (p.val % 4))))) ∧
  -- R48: LANE_MARGIN_CTRL starts a margin test of one lane's shell; R170: ADMIT_READY before step 6 only stores its bit
  (∀ (s : State) (p : PierId) (v : Word), s.pageOpen (pgPier p.val) Reg.Pier.MARGIN_CMD 0 → bit v 4 = true →
    fld v 3 0 ≤ 8 → exec (.pierMarginStart p v) s = .next (s.seal
    (s.setLaneShell p.val (fld v 3 0) (shRequest (s.laneShell p.val (fld v 3 0)) 4).1))) ∧
  (∀ (s t : State), t = s.setHubF Reg.Admit.ADMIT_CTRL 0 0 1 → t.latched = false → 6 ≤ fld (t.hub Reg.Rst.RST_STAT) 30 28 →
    exec (.admitReadyWrite true) s = .next (s.seal (State.settle t.beginTraining)))

/-- R166-R168, R175: a flit with its own sequence number is taken; a damaged one is counted and asked for again. -/
def Obligations.FlitCommandsComplete : Prop :=
  -- R166: a data flit in sequence: its slots are taken in order
  (∀ (s t : State) (p : PortId) (f : Flit), s.nextFlit p.val 0 f → (s.countFec p.val f).useCtrl p.val f.ctrl = (false, t) →
    (t.link p.val).state.takes = true → exec (.dataFlit p f) s = .next (s.seal (State.settle (t.acceptFlit p.val f.slots)))) ∧
  -- R175: a secured flit in sequence whose tag verifies: its 14 slots are opened and taken; one whose tag does not verify is refused
  (∀ (s t : State) (p : PortId) (f : Flit), s.nextFlit p.val 1 f → (s.countFec p.val f).useCtrl p.val f.ctrl = (false, t) →
    (t.link p.val).state.takes = true → exec (.securedFlit p f) s = .next (s.seal (State.settle (match (t.link p.val).unseal f with
      | none => t.tagFailed p.val
      | some ss => ((t.setLink p.val { t.link p.val with
          peerZero := (t.link p.val).peerZero || decide ((t.link p.val).rxNext = 0) }).acceptFlit p.val ss).sessionUp p.val)))) ∧
  -- R166: an idle flit carries credits and an acknowledgement only
  (∀ (s t : State) (p : PortId) (f : Flit), (s.link p.val).state.live = true → (s.link p.val).takesFlit f = true → fld f.ctrl 63 60 = 2 →
    fld f.ctrl 59 48 = 0 → f.slots.any (fun w => w ≠ 0) = false → t = s.countFec p.val f → (t.link p.val).state.takes = true →
    exec (.idleFlit p f) s = .next (s.seal (State.settle (((t.useCtrl p.val f.ctrl).2.sessionUp p.val).pump p.val)))) ∧
  -- R167, R168: a damaged flit is counted, and a NAK asks for it unless one has
  (∀ (s : State) (p : PortId) (f : Flit), (s.link p.val).state.takes = true → (s.link p.val).takesFlit f = false →
    exec (.dataFlit p f) s = .next (s.seal (State.settle (((s.countFec p.val f).countCrc p.val).discardFlit p.val))) ∧
    exec (.securedFlit p f) s = .next (s.seal (State.settle (((s.countFec p.val f).countCrc p.val).discardFlit p.val))) ∧
    exec (.idleFlit p f) s = .next (s.seal (State.settle ((s.countFec p.val f).countCrc p.val))))

/-- R208, R213-R219, R250: the commands of the units' requests, of the Trestles, of routes and of multicast entries. -/
def Obligations.TrestleCommandsComplete : Prop :=
  -- R250: a unit takes the completion of its request
  (∀ (s : State) (id : Nat) (c : Cmp) (u : UnitReq), s.unitDone = [(id, c)] → s.unitReqs = [u] → u.id = id →
    exec (.unitCompletion id) s = .next (s.seal (State.settle (({ s with unitDone := [], unitReqs := [] } : State).unitGot u c)))) ∧
  -- R214: a BULK is received and its records are replayed; in footway each is answered BUSY_RETRY
  (∀ (s t u : State) (p : PortId) (b : Bulk), s.voqs = [] → s.spanFenced (p.val / 72) = false → s.inFootway = false →
    b.dnode = s.node → b.records ≠ [] → t = s.bump (pgTr (p.val / 72)) Reg.Tr.BULK_RX_CNT → u = { t with tr := { t.tr with rxNum := t.tr.rxNum + 1, rx := t.tr.rx ++
      [{ span := p.val / 72, id := t.tr.rxNum, port := p.val, bulk := b, next := 0, answers := b.records.map (fun _ => none) }] } } →
    exec (.bulk p b) s = .next (s.seal (State.settle (u.issueRecs b.records.length (p.val / 72) t.tr.rxNum)))) ∧
  -- R214: every record has its answer: BULK_RSP returns them in order
  (∀ (s : State) (sp : SpanId) (t : RxXfer), s.tr.rx = [t] → t.span = sp.val → t.answers.all (fun a => a.isSome) = true →
    exec (.trestleRecordDone sp t.id) s = .next (s.seal (State.settle
      (State.sendFrom { s with tr := { s.tr with rx := [] } } (48 + t.span) t.port
        (.bulkRsp { txid := t.bulk.txid, tc := t.bulk.tc, seq := t.bulk.seq, answers := t.answers.filterMap (fun a => a) }))))) ∧
  -- R215: a BULK_RSP ends its transfer: each record's requests take its answer
  (∀ (s : State) (p : PortId) (b : BulkRsp) (t : Xfer), s.voqs = [] → s.tr.xfers.find? (fun t => t.sent && t.port = p.val &&
      s.node.toNat = fld b.txid 11 0 && t.span = fld b.txid 13 12 && t.num = fld b.txid 31 14) = some t →
    exec (.bulkRsp p b) s = .next (s.seal (State.settle (State.runCaps ((t.recs.zip (List.range t.recs.length)).foldl
      (fun u q => u.recEndAll t q.1 (b.answers.getD q.2 { status := .integrity, grant := 0, dw := false, lchk := none, data := none }))
        (s.dropXfer t)))))) ∧
  -- R208: the coalescing time of a flow's transfers is over: they are closed
  (∀ (s : State) (sp : SpanId) (flow : Nat) (k : PortId) (x : Xfer), s.tr.xfers = [x] → x.sent = false → x.span = sp.val →
    x.flow = flow → x.port = k.val → x.opened + x.coalesce ≤ s.now → exec (.transferCoalesceExpire sp flow x.dest k) s = .next (s.seal (State.settle (s.closeXfer x)))) ∧
  -- R213: a remapping ends once no transfer of the group is outstanding: what was held is taken
  (∀ (s : State) (sp : SpanId) (g : Fin 16), s.groupQuiet sp.val g.val = true → s.tr.held = [] →
    exec (.trestleRemapDone sp g) s = .next (s.seal (State.settle (State.runCaps { s with tr := { s.tr with
      remap := s.tr.remap.filter (fun k => ¬(k = remapKey sp.val g.val ∨
        (remapDest sp.val g.val 0 ≤ k ∧ k < remapDest sp.val g.val 0 + 4096))), held := [] } })))) ∧
  -- R217: a route and a trunk group are stored and read back
  (∀ (s : State) (i : BitVec 16), bit (s.rg (pgOfHub Reg.Route.ROUTE_STAT) Reg.Route.ROUTE_STAT) 31 = false → 
    i.toNat < 4096 → i.toNat ≠ s.node.toNat → (s.route i.toNat).tgrp = fld (s.hub Reg.Route.ROUTE_DATA) 3 0 →
    exec (.routeWrite i) s = .next (s.seal (State.settle (State.routeResult { s with tr := { s.tr with
      routes := SMap.set (fun _ => Route.none) s.tr.routes i.toNat
        { en := bit (s.hub Reg.Route.ROUTE_DATA) 31, tc := BitVec.ofNat 3 (fld (s.hub Reg.Route.ROUTE_DATA) 6 4),
          tgrp := fld (s.hub Reg.Route.ROUTE_DATA) 3 0 } } } 0)))) ∧
  -- R213, R217: one that moves the route to another trunk group begins a remapping at every Trestle in service
  (∀ (s t : State) (i : BitVec 16), bit (s.rg (pgOfHub Reg.Route.ROUTE_STAT) Reg.Route.ROUTE_STAT) 31 = false → 
    i.toNat < 4096 → i.toNat ≠ s.node.toNat → (s.route i.toNat).tgrp ≠ fld (s.hub Reg.Route.ROUTE_DATA) 3 0 →
    t = { s with tr := { s.tr with
      routes := SMap.set (fun _ => Route.none) s.tr.routes i.toNat
        { en := bit (s.hub Reg.Route.ROUTE_DATA) 31, tc := BitVec.ofNat 3 (fld (s.hub Reg.Route.ROUTE_DATA) 6 4),
          tgrp := fld (s.hub Reg.Route.ROUTE_DATA) 3 0 } } } → exec (.routeWrite i) s = .next (s.seal (State.settle
      (State.routeResult ((List.range 4).foldl (fun u sp => if u.spanFenced sp then u else u.beginRemap sp (s.route i.toNat).tgrp
        (some i.toNat)) t) 0)))) ∧
  (∀ (s : State) (i : BitVec 16), bit (s.rg (pgOfHub Reg.Route.ROUTE_STAT) Reg.Route.ROUTE_STAT) 31 = false → 
    i.toNat < 4096 → exec (.routeRead i) s = .next (s.seal ((s.setHub Reg.Route.ROUTE_DATA
    (BitVec.ofNat 64 (b2n (s.route i.toNat).en * 2 ^ 31 + (s.route i.toNat).tc.toNat * 16 + (s.route i.toNat).tgrp))).routeResult 0))) ∧
  (∀ (s : State) (i : BitVec 16), bit (s.rg (pgOfHub Reg.Route.ROUTE_STAT) Reg.Route.ROUTE_STAT) 31 = false → 
    4096 ≤ i.toNat → exec (.routeWrite i) s = .next (s.seal (State.settle (s.routeResult 1))) ∧
    exec (.routeRead i) s = .next (s.seal (s.routeResult 1))) ∧
  (∀ (s t : State) (i : BitVec 16), bit (s.rg (pgOfHub Reg.Route.ROUTE_STAT) Reg.Route.ROUTE_STAT) 31 = false → 
    1 ≤ fld (s.tgData.getD 0 0) 4 0 → fld (s.tgData.getD 0 0) 4 0 ≤ 16 →
    (tgMembers s.tgData).any (fun x => 287 < x) = false →
    t = { s with tr := { s.tr with groups := SMap.set (fun _ => []) s.tr.groups (i.toNat % 16) s.tgData } } →
    t.upList (i.toNat % 16) = s.upList (i.toNat % 16) → exec (.trunkGroupWrite i) s = .next (s.seal (State.settle (t.routeResult 0)))) ∧
  (∀ (s : State) (i : BitVec 16), bit (s.rg (pgOfHub Reg.Route.ROUTE_STAT) Reg.Route.ROUTE_STAT) 31 = false → 
    exec (.trunkGroupRead i) s = .next (s.seal (State.routeResult ((List.range 8).foldl
    (fun t k => t.setReg (pgOfHub Reg.Route.TG_DATA) Reg.Route.TG_DATA k 0 (BitVec.ofNat 64 ((s.trunkGroup (i.toNat % 16)).getD (k + 1) 0).toNat))
      (s.setHub Reg.Route.TG_DATA0 (BitVec.ofNat 64 ((s.trunkGroup (i.toNat % 16)).getD 0 0).toNat))) 0))) ∧
  -- R218: a multicast entry is stored, read back and disabled
  (∀ (s : State) (i : BitVec 16), bit (s.rg (pgOfHub Reg.Mcast.MC_STAT) Reg.Mcast.MC_STAT) 31 = false → 
    i.toNat < 4096 → s.mcData.remotes.contains s.node = false →
    exec (.mcEntryWrite i) s = .next (s.seal (State.mcResult
      { s with tr := { s.tr with mc := SMap.set (fun _ => McEntry.none) s.tr.mc i.toNat s.mcData } } 0))) ∧
  (∀ (s : State) (i : BitVec 16), bit (s.rg (pgOfHub Reg.Mcast.MC_STAT) Reg.Mcast.MC_STAT) 31 = false → 
    i.toNat < 4096 → exec (.mcEntryRead i) s = .next (s.seal (State.mcResult ((List.range 16).foldl
    (fun t k => t.setReg (pgOfHub Reg.Mcast.MC_DATA) Reg.Mcast.MC_DATA k 0 (BitVec.ofNat 64 ((s.mcEntry i.toNat).words.getD k 0))) s) 0))) ∧
  (∀ (s : State) (i : BitVec 16), bit (s.rg (pgOfHub Reg.Mcast.MC_STAT) Reg.Mcast.MC_STAT) 31 = false → 
    i.toNat < 4096 → exec (.mcEntryDisable i) s = .next (s.seal (State.mcResult
    { s with tr := { s.tr with mc := SMap.set (fun _ => McEntry.none) s.tr.mc i.toNat { s.mcEntry i.toNat with en := false } } } 0))) ∧
  (∀ (s : State) (i : BitVec 16), bit (s.rg (pgOfHub Reg.Mcast.MC_STAT) Reg.Mcast.MC_STAT) 31 = false → 
    4096 ≤ i.toNat → ∀ c ∈ [Instr.mcEntryWrite i, .mcEntryRead i, .mcEntryDisable i],
    exec c s = .next (s.seal (s.mcResult 1)))

/-- R364-R374, R541: the commands of Fabric Time, its exchanges, its stamps, the gate lists and PPS. -/
def Obligations.TimeCommandsComplete : Prop :=
  -- R364: a TIME_X_REQ is answered with a TIME_X_RSP that carries its arrival, and with its stamp in a TIME_X_FUP
  (∀ (s t u : State) (p : PortId) (x : TimeX) (t3 : Nat), s.voqs = [] →
    t = s.sendFrom 54 p.val (s.timeMsg .rsp x.seq x.rx.toNat) → t.popStamp p.val x.seq.toNat .rsp = (some t3, u) →
    exec (.timeXReq p x) s = .next (s.seal (State.settle (u.sendFrom 54 p.val (u.timeMsg .fup x.seq t3))))) ∧
  -- R364: a TIME_X_RSP of the exchange in progress brings t2 and t4
  (∀ (s : State) (p : PortId) (x : TimeX) (e : Exch) (t1 : Nat), s.voqs = [] → s.time.exch = some e → e.port = p.val →
    e.seq = x.seq.toNat → e.t1 = some t1 → s.popStamp p.val e.seq .req = (none, s) → exec (.timeXRsp p x) s = .next (s.seal (State.settle
      { s with time := { s.time with exch := some { e with t2 := some (x.t.toNat, x.rx.toNat) } } }))) ∧
  -- R364, R365: a TIME_X_FUP brings t3: an exchange with a delay of 0 to 100 us is accepted
  (∀ (s u : State) (p : PortId) (x : TimeX) (e : Exch) (t1 t2 t4 : Nat) (th d : Int), s.voqs = [] → s.time.exch = some e →
    e.port = p.val → e.seq = x.seq.toNat → e.t1 = some t1 → e.t2 = some (t2, t4) → u = s.noteParent { x with kind := .fup } →
    exchange t1 t2 x.t.toNat t4 (sx 16 (fld (u.hub Reg.FT.ASYM) 15 0)) = (th, d) → 0 ≤ d → d ≤ 6553600000 →
    exec (.timeXFup p x) s = .next (s.seal (State.settle (u.exchAccept th d x.sync)))) ∧
  -- R364: an exchange starts on the timing port with the next sequence number
  (∀ (s t u : State) (x n : Nat) (t1 : Option Nat), s.timingPort = x → s.timeRoot = false → x ≠ 0x1FF → s.portUp x 3 = true →
    s.time.exch = none → (s.time.seq + 1) % 65536 = n → t = s.sendFrom 54 x (s.timeMsg .req (BitVec.ofNat 16 n) 0) →
    t.popStamp x n .req = (t1, u) → exec .timeExchangeStart s = .next (s.seal (State.settle
      { u with time := { u.time with exch := some { port := x, seq := n, t1 := t1, t2 := none }, seq := n } }))) ∧
  -- R366: an exchange that fails is counted, and the fourth in a row loses synchronisation
  (∀ (s t : State) (e : Exch), s.time.exch = some e →
    t = State.bumpHub { s with time := { s.time with exch := none, good := 0, bad := s.time.bad + 1 } } Reg.FT.EXCH_FAIL_CNT →
    exec .timeExchangeFail s = .next (s.seal (State.settle (if 4 ≤ t.time.bad then t.setSync false else t)))) ∧
  -- R373: SET at the root sets Fabric Time; elsewhere it is rejected; ADJUST of at most 1 us is slewed
  (∀ (s t : State), s.timeRoot = true → t = s.setFt ((s.hub Reg.FT.SET_NS).toNat * 65536 + fld (s.hub Reg.FT.SET_FRAC) 15 0) →
    exec .timeSet s = .next (s.seal (State.settle
      ((State.bumpHub { t with time := { t.time with adj := 0, set := true } } Reg.FT.STEP_CNT).setSync true)))) ∧
  (∀ s : State, s.timeRoot = false → exec .timeSet s = .next (s.seal (State.settle (s.writeRejected (pgOfHub Reg.FT.TIME_CMD))))) ∧
  (∀ s : State, (sx 64 (s.hub Reg.FT.ADJ).toNat).natAbs ≤ 65536000 → exec .timeAdjust s = .next (s.seal (State.settle
    { s with time := { s.time with adj := sx 64 (s.hub Reg.FT.ADJ).toNat } }))) ∧
  -- R374: STAMP_INFO of a Pier gives its oldest stamp, which is then removed
  (∀ (s : State) (m : Master) (p : PierId), s.latches = [] → s.staged = [] → s.pageState (pgPier p.val) = 0 →
    exec (.stampInfoRead m p) s = .next (s.seal ((s.stampDrop p.val).emit
      (.regRead m ((BitVec.ofNat 32 (fld (BitVec.ofNat 64 (s.stampInfo p.val)) 31 0)).setWidth 64))))) ∧
  -- R368: GATE_LIST_LOAD of an up Pier reads its list
  (∀ (s u : State) (t : TaskRef) (x : TaskSt) (b : GateBody), s.beginTask t 8 = some (x, u) → GateBody.parse x.body = some b →
    u.groupUp (b.pier / 3) = true → exec (.gateListLoad t) s = .next (s.seal (State.settle (u.startBatch (.gate t)
      ((spanLines b.list (popcount 8 b.classes * b.nent * 4)).map (fun a =>
        (b.pier / 3, u.readReq (Fin.ofNat 256 b.comp) a)))).2))) ∧
  -- R369, R367: a pending list becomes operational at its base time, and its entries follow Fabric Time
  (∀ (s : State) (p : PierId) (c : Fin 8) (l : GateList), (s.gate p.val c.val).pend = some l → l.base ≤ s.ns →
    exec (.gateListActivate p c) s = .next (s.seal (State.settle ((s.setGate p.val c.val
      { pend := none, oper := some l, idx := gateIndex ((s.ns - l.base) % l.cycle) 0 l.entries }).setGateOpen p.val c.val)))) ∧
  (∀ (s : State) (p : PierId) (c : Fin 8) (l : GateList), (s.gate p.val c.val).oper = some l →
    exec (.gateEntryAdvance p c) s = .next (s.seal (State.settle ((s.setGate p.val c.val { s.gate p.val c.val with
      idx := gateIndex (((s.ns : Int) - l.base) % (l.cycle : Int)).toNat 0 l.entries }).setGateOpen p.val c.val)))) ∧
  -- R541: PPS at a whole second, while it is enabled and its pin is its own
  (∀ (s t : State), s.ns % 1000000000 = 0 → t = { s with pins := { s.pins with pps := s.hub Reg.Diag.PPS_CFG } } → t.gpioEff = 1 →
    bit (s.hub Reg.Diag.PPS_CFG) 31 = true → bit (s.hub Reg.Diag.PPS_CFG) 30 = false → exec .ppsPulse s = .next (s.seal (State.emit
      { t with pins := { t.pins with pulse := some (t.now + 1000 * fld (s.hub Reg.Diag.PPS_CFG) 15 0) } } .pps)))

/-- R228, R229, R233, R238, R239, R246: the commands of declarations, reductions and collective tasks. -/
def Obligations.CollectiveCommandsComplete : Prop :=
  -- R229: DECL_DECLARE reads the declaration, and the interface is busy
  (∀ (s t : State) (a : Nat), s.declBusy = false → (s.hub Reg.Decl.DECL_ADDR).toNat = a →
    t = { s.setHub Reg.Decl.DECL_STAT (setFld (s.hub Reg.Decl.DECL_STAT) 31 31 1) with loom := { s.loom with declAddr := a } } →
    exec .declDeclare s = .next (s.seal (State.settle (t.startBatch .decl [(hubIn, t.readReq (t.compAt a) a)]).2))) ∧
  (∀ (s : State) (i : BitVec 16), s.declBusy = true → exec .declDeclare s = .next (s.seal (State.settle (s.overrun (pgOfHub Reg.Decl.DECL_CMD)))) ∧
    exec (.declCancel i) s = .next (s.seal (State.settle (s.overrun (pgOfHub Reg.Decl.DECL_CMD)))) ∧
    exec (.declQuery i) s = .next (s.seal (s.overrun (pgOfHub Reg.Decl.DECL_CMD)))) ∧
  -- R233: a reduction is cancelled at every Bay; an ID that none has gives 0xA
  (∀ (s : State) (i : BitVec 16) (r : Red), s.declBusy = false → s.red i.toNat = some r → r.installed = true → r.isOpen = true →
    exec (.declCancel i) s = .next (s.seal (State.settle (State.declResult
      ((List.range 24).foldl (fun t n => t.failRedBay i.toNat n .revoked) (s.bumpHub Reg.Decl.CANCEL_CNT)) 0)))) ∧
  (∀ (s : State) (i : BitVec 16), s.declBusy = false → (∀ r, s.red i.toNat = some r → r.installed = false) →
    exec (.declCancel i) s = .next (s.seal (State.settle (s.declResult 0xA)))) ∧
  -- R246: DECL_QUERY gives the state of the ID
  (∀ (s : State) (i : BitVec 16), s.declBusy = false → exec (.declQuery i) s = .next (s.seal
    ((s.setHub Reg.Decl.DECL_STAT (setFld (s.hub Reg.Decl.DECL_STAT) 9 8 (s.ridState i.toNat))).declResult 0))) ∧
  -- R229: a declaration is installed: it is counted, its Bays' accumulators hold their initial values and its declarer is told
  (∀ (s : State) (i : BitVec 16) (r : Red), s.red i.toNat = some r → r.installed = false → r.task = none →
    exec (.declInstalled i) s = .next (s.seal (State.settle (State.declResult ((List.range 24).foldl (fun t n =>
      if (r.bay n).st = .opened then
        ((List.range (r.bay n).need).foldl (fun u k => u.initGroup r.body n k) t).checkRedDone i.toNat n else t)
        ((s.setRed { r with installed := true }).bumpHub Reg.Decl.DECL_CNT)) 0)))) ∧
  -- R228: a quota that passes its checks is applied
  (∀ (s t : State) (c : Nat) (q : Quota), bit (s.rg (pgOfHub Reg.Decl.QUOTA_STAT) Reg.Decl.QUOTA_STAT) 31 = false → fld (s.hub Reg.Decl.QUOTA_SEL) 7 0 = c →
    q = { collLo := (s.hub Reg.Decl.COLL_LO).toNat, collHi := (s.hub Reg.Decl.COLL_HI).toNat
          poolLo := (s.hub Reg.Decl.POOL_LO).toNat, poolHi := (s.hub Reg.Decl.POOL_HI).toNat } →
    s.quotaCheck c q = 0 → t = s.setHub Reg.Decl.QUOTA_STAT 0 → exec .quotaApply s = .next (s.seal
      { t with loom := { t.loom with quota := SMap.set (fun _ => ⟨0, 0, 0, 0⟩) t.loom.quota c q } })) ∧
  -- R233: a Bay whose lines are not all done in time fails with TIMEOUT
  (∀ (s : State) (n : BayId) (i : BitVec 16) (r : Red), s.red i.toNat = some r → r.installed = true →
    (r.bay n.val).doneLines < (r.bay n.val).need → exec (.reductionTimeout n i) s = .next (s.seal (State.settle
      (s.failRedBay i.toNat n.val .timeout)))) ∧
  -- R233: an ID whose hold is over is free once no Bay knows it
  (∀ (s : State) (n : BayId) (i : BitVec 16) (r : Red), s.red i.toNat = some r → (r.bay n.val).st ≠ .opened →
    (r.setBay n.val .gone).bays.all (fun e => e.st = .gone) = true → exec (.ridHoldExpiry n (.rid i)) s = .next (s.seal (State.settle
      { s with loom := { s.loom with reds := s.loom.reds.filter (fun x => x.body.rid ≠ i.toNat) } }))) ∧
  -- R238: a REDUCE task whose declaration passes is declared for it
  (∀ (s u : State) (t : TaskRef) (x y : TaskSt) (b : Reduce), s.task t = some x → bytesAt x.body 0 1 ≠ 1 →
    s.beginTask t 2 = some (y, u) → Reduce.parse x.body = some b → u.declCheck x.body = 0 →
    exec (.reduceStep t) s = .next (s.seal (State.settle (u.declAccept b (some t))))) ∧
  -- R239: a BROADCAST task reads its lines
  (∀ (s u : State) (t : TaskRef) (x y : TaskSt) (b : BcastBody), s.task t = some x → bytesAt x.body 0 1 = 1 →
    s.beginTask t 2 = some (y, u) → BcastBody.parse x.body = some b → b.lines ≠ 0 →
    exec (.broadcastStep t) s = .next (s.seal (State.settle (u.startBatch (.bcastRead t)
      ((List.range b.lines).map (fun i => (u.bcastIn b i, u.readReq (Fin.ofNat 256 x.comp) (b.src + 64 * i))))).2)))

/-- R339, R345-R360: the commands of the Treadle: Drafts, dispatch, slots, ends and the tasks that the Treadle runs itself. -/
def Obligations.TreadleCommandsComplete : Prop :=
  -- R345: submitting a Draft reads its header; while the Treadle is off it is refused
  (∀ (s t u : State) (v : DWord) (a b : Nat), t = s.setHub Reg.Trd.NEXT_TIME v → t.trdOff = false → t.trd.pend = none →
    (t.hub Reg.Trd.NEXT_ADDR).toNat = a → t.startBatch .draftHead [(hubIn, t.readReq (t.compAt a) a)] = (b, u) →
    exec (.draftSubmit v) s = .next (s.seal (State.settle { u with trd := { u.trd with
      pend := some { addr := a, time := v.toNat, head := b, rest := none, ready := none } } }))) ∧
  (∀ (s : State) (v : DWord), (s.setHub Reg.Trd.NEXT_TIME v).trdOff = true → exec (.draftSubmit v) s = .next (s.seal (State.settle
    (((s.setHub Reg.Trd.NEXT_TIME v).nextResult 9).bumpHub Reg.Trd.DRAFT_REJECT_CNT)))) ∧
  -- R346: a Draft that has been read and passes its checks is ready under the next number; a late one is dropped
  (∀ (s t : State) (p : PendDraft) (hs cs : List Cmp) (b : Nat), s.trd.pend = some p → p.ready = none → p.time = 0 →
    s.batchAll p.head = some hs → firstBad hs = .ok → p.rest = some b → s.batchAll b = some cs → firstBad cs = .ok →
    t = (s.endBatch p.head).endBatch b → t.draftCheck p.addr (cmpBytes (hs ++ cs)) = 0 → exec .draftLoadDone s = .next (s.seal
      (State.settle { t with trd := { t.trd with
        uid := t.trd.uid + 1, pend := some { p with ready := some (draftOf t.trd.uid (cmpBytes (hs ++ cs))) } } }))) ∧
  (∀ (s : State) (p : PendDraft), s.trd.pend = some p → p.ready = none → p.time ≠ 0 → p.time < s.ns → exec .draftLoadDone s =
    .next (s.seal (State.settle (((({ s with trd := { s.trd with pend := none } } : State).nextResult 6).bumpHub
      Reg.Trd.DRAFT_REJECT_CNT))))) ∧
  -- R347: a ready Draft takes over at its time
  (∀ (s t : State) (p : PendDraft) (d e : DraftSt), s.trd.pend = some p → p.ready = some d → p.time ≤ s.ns → s.trd.active = none →
    e = { d with act := s.ns, lastEnd := s.ns } → t = ((State.nextResult { s with trd := { s.trd with pend := none, active := some e } }
      0).bumpHub Reg.Trd.TAKEOVER_CNT).setHub Reg.Trd.ACT_ID (BitVec.ofNat 64 e.id) →
    exec .draftTakeover s = .next (s.seal (State.settle (t.setHub Reg.Trd.ACT_TIME (BitVec.ofNat 64 e.act))))) ∧
  -- R348: CANCEL drops the pending Draft, STOP ends the active one
  (∀ (s : State) (p : PendDraft), s.trd.pend = some p → exec .trdCancelPending s = .next (s.seal
    ((({ s with trd := { s.trd with pend := none } } : State).nextResult 8).bumpHub Reg.Trd.DRAFT_REJECT_CNT))) ∧
  (∀ (s : State) (d : DraftSt), s.trd.active = some d → d.tasks = [] → exec .trdStopActive s = .next (s.seal (State.settle
    (State.endDraft (State.addN { s with trd := { s.trd with active := none, old := s.trd.old ++ [{ d with stopped := true }] } }
      (pgHub 0x1B) Reg.Trd.TASK_ABANDON_CNT 0) d.uid)))) ∧
  -- R349, R351: the first ready task is dispatched, counted and traced
  (∀ (s t m u : State) (d : DraftSt) (i : Nat) (x y : TaskSt), s.openSlots.skipAll = t → t.trd.active = some d → t.inFlight < 512 →
    d.firstReady t.ns = some i →
    d.tasks[i]? = some x → t.markMiss d x = (y, m) → y.kind = 0 → y.bodyComp = none →
    u = ((m.setTask ⟨d.uid, i⟩ { y with dispatched := true, fate := 1 }).bumpHub Reg.Trd.DISPATCH_CNT).traceTask d i y 0 →
    u.live y.comp = true → exec .taskDispatch s = .next (s.seal (State.settle u))) ∧
  -- R349: a time slot opens for its task
  (∀ (s : State) (t : TaskRef) (d : DraftSt) (x : TaskSt), s.draft t.draft = some d → s.task t = some x → x.tflags.testBit 0 = true →
    d.slotBegun x s.ns = true → exec (.slotStart t) s = .next (s.seal (State.settle
      ((s.setTask t { x with slotOpen := true }).skipAll)))) ∧
  -- R339, R349: the end of a task that has reported: its status is recorded and its Draft goes on
  (∀ (s : State) (t : TaskRef) (x : TaskSt), s.task t = some x → x.kind ≠ 7 → exec (.taskEnd t) s = .next (s.seal (State.settle
    (s.taskEnd t)))) ∧
  -- R351: NOP reports OK; R352: MOVE reads its source; R353: STREAM reads its layer table
  (∀ (s u : State) (t : TaskRef) (x : TaskSt), s.beginTask t 0 = some (x, u) → exec (.nopTask t) s = .next (s.seal (State.settle
    (u.report t .ok)))) ∧
  (∀ (s u : State) (t : TaskRef) (x : TaskSt) (b : MoveBody), s.beginTask t 1 = some (x, u) → MoveBody.parse x.body = some b →
    b.decode = false → exec (.moveTask t) s = .next (s.seal (State.settle (u.startBatch (.moveRead t)
      ((List.range (b.len / 64)).map (fun i => u.homeRead b.comp (b.src + 64 * i)))).2))) ∧
  (∀ (s u : State) (t : TaskRef) (x : TaskSt) (b : StreamBody) (rs : List (Nat × Req)), s.beginTask t 7 = some (x, u) →
    StreamBody.parse x.body = some b → u.winOn b.comp = true → u.streams = [] →
    rs = (spanLines b.table (32 * b.n)).map (fun a => (hubIn, u.readReq (Fin.ofNat 256 b.comp) a)) →
    ∃ v : StreamSt, v.t = t ∧ v.comp = b.comp ∧ v.layers = [] ∧ v.slots = List.replicate (u.winSlots b.comp) none ∧
      exec (.streamTask t) s = .next (s.seal (State.settle (State.startBatch { u with streams := [v] } (.streamTable t) rs).2))) ∧
  -- R357-R359: WAIT_ON_FLAG reads its word; it ends once the word satisfies it, or reads again, or ends with TIMEOUT
  (∀ (s u : State) (t : TaskRef) (x : TaskSt) (w : WaitSt), s.beginTask t 9 = some (x, u) → waitOk x.body = true →
    w = { t := t, addr := bitsAt x.body 8 8 48, read := none, watch := none, tried := false } → exec (.waitOnFlag t) s = .next (s.seal (State.settle
      (State.waitRead { u with trd := { u.trd with waits := u.trd.waits ++ [w] } } w x)))) ∧
  (∀ (s u : State) (t : TaskRef) (x : TaskSt) (w : WaitSt) (b : Nat) (cs : List Cmp), s.trd.waits.find? (fun w => w.t = t) = some w →
    s.task t = some x → w.read = some b → s.batchAll b = some cs → firstBad cs = .ok → u = (s.endBatch b).setWait { w with read := none } →
    waitSatisfied x.body (num (cmpBytes cs) (w.addr % 64) 8) = true → (bytesAt x.body 0 1).testBit 2 = false →
    exec (.waitFlagReadDone t) s = .next (s.seal (State.settle (u.endWait t .ok)))) ∧
  (∀ (s : State) (t : TaskRef) (x : TaskSt) (w : WaitSt), s.trd.waits.find? (fun w => w.t = t) = some w → s.task t = some x →
    w.read = none → exec (.waitFlagPoll t) s = .next (s.seal (State.settle (s.waitRead w x)))) ∧
  (∀ (s : State) (t : TaskRef), s.trd.waits.any (fun w => w.t = t) = true → exec (.waitFlagTimeout t) s = .next (s.seal (State.settle
    (s.endWait t .timeout)))) ∧
  -- R360: SIGNAL sends a Capstone store of its value, an atomic add of it, or a store of it to a multicast group
  (∀ (s u : State) (t : TaskRef) (x : TaskSt) (d : Nat) (k : Word) (v : DWord) (r : Req), s.beginTask t 10 = some (x, u) →
    signalOk x.body = true → d = bitsAt x.body 8 8 60 → k = BitVec.ofNat 32 (bytesAt x.body 4 4) → v = BitVec.ofNat 64 (bytesAt x.body 0x10 8) →
    r = (match bytesAt x.body 0 1 with
      | 0 => u.capReq d k v
      | 1 => { u.unitReq .atom (BitVec.ofNat 12 (d / 2 ^ 48)) (d % 2 ^ 48 / 64 * 64) k none with
          opnd := BitVec.ofNat 32 (7 * 4096 + 1 * 64 + d % 2 ^ 48 % 64), data := BitVec.ofNat 512 v.toNat }
      | _ => u.unitMc (d / 2 ^ 48) (d % 2 ^ 48 / 64 * 64) (flagMask (d % 2 ^ 48)) (flagData (d % 2 ^ 48) v) (some k)) →
    exec (.signalTask t) s = .next (s.seal (State.settle (u.startBatch (.signal t) [(hubIn, r)]).2)))

/-- R251, R252, R258-R278: the commands of the Heddles: batches, rows, scans, tables and migrations. -/
def Obligations.HeddleCommandsComplete : Prop :=
  -- R258, R263, R275: a gather, an update or a filter whose body is legal reads its table's descriptor
  (∀ (s u v : State) (t : TaskRef) (h : HedTask) (x : TaskSt) (r : VerRec), s.hedTask t = some h → h.stage = 0 →
    s.hedFirst h = true → s.hedReady h.lead = true → h.ver.bind (fun i => v.verRec i) = some r →
    (h.kind = 3 → s.beginTask t 3 = some (x, u) → gatherOk x.body = true → v = u.bump (pgHed h.lead) Reg.Hed.GATHER_CNT →
      exec (.gatherBatch t) s = .next (s.seal (State.settle ((v.setHed { h with stage := 1 }).startBatch (.hedLists t)
        [(24 + h.lead, v.regionRead r.addr)]).2))) ∧
    (h.kind = 4 → s.beginTask t 4 = some (x, u) → updateOk x.body = true → v = u.bump (pgHed h.lead) Reg.Hed.UPDATE_CNT →
      exec (.updateBatch t) s = .next (s.seal (State.settle ((v.setHed { h with stage := 1 }).startBatch (.hedLists t)
        [(24 + h.lead, v.regionRead r.addr)]).2)))) ∧
  (∀ (s u v : State) (t : TaskRef) (h : HedTask) (x : TaskSt) (f : FilterBody), s.hedTask t = some h → h.stage = 0 →
    s.hedFirst h = true → s.hedReady h.lead = true → h.ver = none → h.kind = 5 → s.beginTask t 5 = some (x, u) → FilterBody.parse x.body = some f →
    v = u.bump (pgHed h.lead) Reg.Hed.FILTER_CNT → exec (.filterTask t) s = .next (s.seal (State.settle
      ((v.setHed { h with stage := 1 }).startBatch (.hedLists t) [(24 + h.lead, v.regionRead (bitsAt x.body 0x18 8 48))]).2))) ∧
  -- R259, R263, R264: the sorter has ordered an update's indices: the rows are named and each row update is sent, or the batch waits
  -- for its pool slots
  (∀ (s u : State) (t : TaskRef) (h g : HedTask) (x : TaskSt) (b : HedBody) (d : TableDesc), s.hedTask t = some h → s.task t = some x →
    h.stage = 2 → (s.hed.sorter.find? (fun q => q.1 = h.lead)).map Prod.snd = some t → h.kind = 4 →
    b = HedBody.ofLine x.body → d = TableDesc.ofLine (h.desc.getD 0) → (h.indices b).any (fun v => (d.named v).isNone) = false →
    u = (State.addN { s with hed := { s.hed with sorter := s.hed.sorter.filter (fun q => q.2 ≠ t) } } (pgHed h.lead)
      Reg.Hed.IDX_CNT b.nidx).addN (pgHed h.lead) Reg.Hed.SORT_CYC_CNT ((b.nidx + 15) / 16) → h.poolNeed x ≤ u.poolSlots h.comp →
    g = { h with rows := d.rowsOf (h.indices b) } → exec (.heddleSortDone t) s = .next (s.seal (State.settle
      (if u.poolWaits g x = true then
        State.setHed { u with hed := { u.hed with poolQ := u.hed.poolQ ++ [t] } } { g with stage := 6, since := u.now }
      else u.hedRun g x)))) ∧
  -- R260: a row that could not be fetched is fetched again, as often as HED_CFG allows
  (∀ (s : State) (t : TaskRef) (i : Nat) (h : HedTask) (x : TaskSt) (r : HedRow) (o : RowOp) (st : Status), s.hedTask t = some h →
    s.task t = some x → h.rows[i]? = some r → r.op.bind (fun k => s.rowOp k) = some o → o.fin = some st → fetchAgain st = true →
    r.tries < fld ((s.dropRowOp o.id).rg (pgHed h.lead) Reg.Hed.HED_CFG) 3 0 →
    exec (.rowFetchDone t i) s = .next (s.seal (State.settle (((s.dropRowOp o.id).bump (pgHed h.lead) Reg.Hed.FETCH_RETRY_CNT).fetchRow
      h i { r with tries := r.tries + 1 } (TableDesc.ofLine (h.desc.getD 0)).size)))) ∧
  -- R262: a row update whose home Bay is down ends with PORT_DOWN
  (∀ (s : State) (u : RowUpd), s.hed.upds = [u] → s.bayUp ((s.homeBay u.place).getD 0) = false →
    exec (.rowUpdate u.id) s = .next (s.seal (State.settle (State.updateEnds { s with hed := { s.hed with upds := [] } } u .portDown)))) ∧
  -- R262: a row update at its home that overwrites whole lines writes its row
  (∀ (s v : State) (u : RowUpd) (k : Nat) (r : RowOp), s.hed.upds = [u] → s.bayUp ((s.homeBay u.place).getD 0) = true →
    s.hed.migs = [] → s.placeRow u.ver u.phys = u.place → u.uop = 1 → u.size % 64 = 0 → u.place % 64 = 0 →
    State.newRowOp { s with hed := { s.hed with upds := [] } } (.update u) u.comp u.place u.size = (k, v) → v.rowOp k = some r →
    exec (.rowUpdate u.id) s = .next (s.seal (State.settle
      (v.setRowOp { r with writing := true, wr := r.writes u (u.data.map (fun v => BitVec.ofNat 8 v)) })))) ∧
  -- R275: a Bay has scanned its records; others have not
  (∀ (s : State) (t : TaskRef) (n : BayId) (h : HedTask) (x : TaskSt) (f : FilterBody) (mine : List (Nat × RowOp)), s.hedTask t = some h →
    s.task t = some x → FilterBody.parse x.body = some f → (s.scanOps t).filter (fun p => p.2.bay = n.val) = mine →
    h.scans.contains n.val = true → mine.any (fun p => p.2.fin.isNone) = false → h.scans.filter (fun m => m ≠ n.val) ≠ [] →
    exec (.filterScanDone t n) s = .next (s.seal (State.settle ((s.addN (pgHed n.val) Reg.Hed.SCAN_BYTE_CNT (mine.length * f.size)).setHed
      { h with scans := h.scans.filter (fun m => m ≠ n.val) })))) ∧
  -- R251, R278: TBL_INSTALL reads a descriptor; TBL_WITHDRAW makes a version old; TBL_QUERY tells its count
  (∀ (s t u : State) (c : CompId) (i : BitVec 12) (a b : Nat), s.tblBusy = false → (s.hub Reg.HReg.TBL_ADDR).toNat = a →
    t = s.setHub Reg.HReg.TBL_STAT (BitVec.ofNat 64 (2 ^ 31)) →
    t.startBatch .tblDesc [(hubIn, t.readReq (Fin.ofNat 256 c.val) a)] = (b, u) → exec (.tblInstall c i) s = .next (s.seal (State.settle
      { u with hed := { u.hed with cmd := some { comp := c.val, tid := i.toNat, addr := a, batch := b } } }))) ∧
  (∀ (s : State) (c : CompId) (i : BitVec 12) (r : VerRec), s.tblBusy = false → s.curRec c.val i.toNat = some r →
    exec (.tblWithdraw c i) s = .next (s.seal (State.settle (((s.setRec { r with state := 1 }).tblResult 0 0 0).retireRec r.id))) ∧
    exec (.tblQuery c i) s = .next (s.seal (s.tblResult 0 1 r.count))) ∧
  (∀ (s : State) (c : CompId) (i : BitVec 12), s.tblBusy = false → s.curRec c.val i.toNat = none →
    exec (.tblWithdraw c i) s = .next (s.seal (State.settle (s.tblResult 5 0 0))) ∧
    exec (.tblQuery c i) s = .next (s.seal (s.tblResult 5 0 0))) ∧
  -- R251: RET_POP gives the oldest retired version, which is then forgotten
  (∀ (s : State) (m : Master), s.latches = [] → s.staged = [] → exec (.retPopRead m) s = .next (s.seal (s.retDrop.emit
    (.regRead m (BitVec.ofNat 64 s.retPop))))) ∧
  -- R269: MIG_POLICY with MODE off, written by a legal value that leaves it off
  (∀ (s : State) (v : Word) (c : Nat) (w : DWord), fld (s.hub Reg.HReg.MIG_SEL) 7 0 = c →
    Reg.HReg.MIG_POLICY.written (s.rgb (pgHub 0x18) Reg.HReg.MIG_POLICY c) (v.zeroExtend 64) = (w, false) → fld v 31 30 = 0 →
    fld w 31 30 = 0 → exec (.migModeWrite v) s = .next (s.seal (s.setReg (pgHub 0x18) Reg.HReg.MIG_POLICY 0 c (setFld w 31 30 0)))) ∧
  -- R269: MODE 2 written over MODE off, of a composition whose spare area passes: the mode is on and its skew counters start over
  (∀ (s : State) (v : Word) (c : Nat) (w : DWord), fld (s.hub Reg.HReg.MIG_SEL) 7 0 = c →
    Reg.HReg.MIG_POLICY.written (s.rgb (pgHub 0x18) Reg.HReg.MIG_POLICY c) (v.zeroExtend 64) = (w, false) →
    fld (s.rgb (pgHub 0x18) Reg.HReg.MIG_POLICY c) 31 30 = 0 → fld v 31 30 = 2 → fld w 31 30 = 2 →
    s.reg.cur.areaCause s.node c (s.migGranules c).1 (s.migGranules c).2 = 0 → exec (.migModeWrite v) s = .next (s.seal
      (State.clearSkew ((s.setReg (pgHub 0x18) Reg.HReg.MIG_STAT 0 c 0).setReg (pgHub 0x18) Reg.HReg.MIG_POLICY 0 c (setFld w 31 30 2))
        c))) ∧
  -- R270: the end of a skew window: the hottest row of a composition's hot Bay starts to migrate, and the counts start over
  (∀ (s t : State) (c b : Nat) (q : Nat × Nat), s.liveComps.filter (fun c => s.migMode c = 2) = [c] → s.upBays.filter (s.hotBay c) = [b] →
    (s.candidates c b).take (fld (s.rgb (pgHub 0x18) Reg.HReg.MIG_POLICY c) 23 16) = [q] → s.hed.redir = [] → t = s.migrateOne c q →
    exec .skewWindowEnd s = .next (s.seal (State.settle { t with hed := { t.hed with win := [], hot := [] } }))) ∧
  -- R270: the end of a skew window in which no composition migrates: the counts start over
  (∀ s : State, s.liveComps.filter (fun c => s.migMode c = 2) = [] → exec .skewWindowEnd s = .next (s.seal (State.settle
    { s with hed := { s.hed with win := [], hot := [] } }))) ∧
  -- R271, R272: a migration copies its row, waits for the copy, commits it or is abandoned
  (∀ (s : State) (m : Mig), s.mig m.id = some m → m.phase = 0 → s.hed.ops = [] → exec (.migrationCopy m.id) s = .next (s.seal (State.settle
    ((s.setMig { m with phase := 1 }).newRowOp (.copy m.id) m.comp m.src m.size).2))) ∧
  (∀ (s : State) (m : Mig) (b : Nat) (cs : List Cmp), s.mig m.id = some m → m.batch = some b → s.batchAll b = some cs → m.phase = 2 →
    firstBad cs = .ok → s.now ≤ m.start + 3000 → exec (.migrationCopyDone m.id) s = .next (s.seal (State.settle
      ((s.endBatch b).setMig { m with phase := 3, batch := none })))) ∧
  (∀ (s t : State) (m : Mig), s.mig m.id = some m → m.phase = 3 → m.back = true →
    t = (s.bump (pgHed m.o) Reg.Hed.MIG_OUT_CNT).bump (pgHed m.t) Reg.Hed.MIG_IN_CNT → exec (.migrationCommit m.id) s = .next (s.seal
      (State.settle ((State.bumpHub { t with hed := { t.hed with
        redir := t.hed.redir.filter (fun e => ¬(e.ver = m.ver ∧ e.row = m.row)), freed := t.hed.freed ++ [(m.src, m.size, t.now)] } }
          Reg.HReg.MIG_BACK_CNT).endMig m m.dst)))) ∧
  (∀ (s : State) (m : Mig), s.mig m.id = some m → m.phase < 3 → exec (.migrationAbort m.id) s = .next (s.seal (State.settle
    (s.abortMig m .timeout))))

/-- R281-R302: the commands of a Spindle's core: its instructions, the float and stream instructions, and its region accesses. -/
def Obligations.SpindleCoreCommandsComplete : Prop :=
  ∀ (s : State) (n : BayId) (k : Fin 64) (u : SpUnit), s.coreRuns n.val k.val = true → s.spu n.val k.val = u →
    -- R281: integer instructions that write a register; a write of x0 has no effect (SpUnit.setX)
    (∀ (f rd rs : Nat) (alt : Bool) (imm len : Nat), s.coreFetch n.val k.val = some (some (.opImm f rd rs alt imm), len) →
      exec (.coreInstruction n k .none) s = .next (s.seal (State.settle
        (s.coreNext n.val k.val (u.setX rd (rvAlu f (u.x rs) imm alt)) len)))) ∧
    (∀ (f rd a b : Nat) (alt : Bool) (len : Nat), s.coreFetch n.val k.val = some (some (.op f rd a b alt), len) →
      exec (.coreInstruction n k .none) s = .next (s.seal (State.settle
        (s.coreNext n.val k.val (u.setX rd (rvAlu f (u.x a) (u.x b) alt)) len)))) ∧
    (∀ (f rd a b len : Nat), s.coreFetch n.val k.val = some (some (.mul f rd a b), len) →
      exec (.coreInstruction n k .none) s = .next (s.seal (State.settle
        (s.coreNext n.val k.val (u.setX rd (rvMul f (u.x a) (u.x b))) len)))) ∧
    (∀ (rd imm len : Nat), s.coreFetch n.val k.val = some (some (.lui rd imm), len) →
      exec (.coreInstruction n k .none) s = .next (s.seal (State.settle (s.coreNext n.val k.val (u.setX rd imm) len)))) ∧
    -- R281, R303: an error of the SRAM that could not be corrected, a fetch outside the SRAM and an illegal instruction are faults
    (exec (.coreInstruction n k .lost) s = .next (s.seal (State.settle (s.spFault n.val k.val 7 .ok 0)))) ∧
    (s.coreFetch n.val k.val = none → exec (.coreInstruction n k .none) s = .next (s.seal (State.settle (s.spFault n.val k.val 3 .ok u.pc)))) ∧
    (∀ len : Nat, s.coreFetch n.val k.val = some (none, len) → exec (.coreInstruction n k .none) s =
      .next (s.seal (State.settle (s.spFault n.val k.val 1 .ok 0)))) ∧
    -- R281: jumps and branches
    (∀ (rd : Nat) (off : Int) (len : Nat), s.coreFetch n.val k.val = some (some (.jal rd off), len) →
      exec (.coreInstruction n k .none) s = .next (s.seal (State.settle (s.setSpu n.val k.val
        { u.setX rd ((u.pc + len) % 2 ^ 32) with pc := toBits 32 ((u.pc : Int) + off) })))) ∧
    (∀ (f a b : Nat) (off : Int) (len : Nat), s.coreFetch n.val k.val = some (some (.branch f a b off), len) →
      exec (.coreInstruction n k .none) s = .next (s.seal (State.settle
        (if rvTaken f (u.x a) (u.x b) then s.setSpu n.val k.val { u with pc := toBits 32 ((u.pc : Int) + off) }
         else s.coreNext n.val k.val u len)))) ∧
    -- R282, R303: a misaligned access is a fault of cause 2
    (∀ (f rd rs : Nat) (off : Int) (len : Nat), s.coreFetch n.val k.val = some (some (.load f rd rs off), len) →
      spPlace (u.addr rs off) (rvSize f) ≠ .bad → u.addr rs off % rvSize f ≠ 0 → exec (.coreInstruction n k .none) s =
        .next (s.seal (State.settle (s.spFault n.val k.val 2 .ok (u.addr rs off))))) ∧
    -- R288, R289: the float instructions write their result and go on
    (∀ (rd a b : Fin 32), ∀ p ∈ [(Instr.sfAdd n k rd a b, SfOp.add), (.sfSub n k rd a b, .sub), (.sfMul n k rd a b, .mul),
      (.sfMax n k rd a b, .max), (.sfMin n k rd a b, .min), (.sfLt n k rd a b, .lt)], exec p.1 s = .next (s.seal (State.settle
        (s.coreNext n.val k.val (u.setX rd.val (p.2.run (u.x a.val) (u.x b.val))) 4)))) ∧
    (∀ (rd a : Fin 32) (f : Fin 4), ∀ p ∈ [(Instr.sfExp2 n k rd a, SfOp.exp2), (.sfRcp n k rd a, .rcp),
      (.sfCvt n k rd a f, .cvt (f.val + 1)), (.sfFromi n k rd a, .fromi), (.sfToi n k rd a, .toi)],
      exec p.1 s = .next (s.seal (State.settle (s.coreNext n.val k.val (u.setX rd.val (p.2.run (u.x a.val) (u.x 0))) 4)))) ∧
    -- R290, R292: DS_START queues a legal stream and gives its ticket
    (∀ (rd a : Fin 32) (l : Launch) (d : SpStream), s.running n.val k.val = some l → u.streams.length < 4 →
      d = { ticket := u.tickets, desc := s.sramBytes n.val k.val (u.x a.val) 32, sent := false } → inSram (u.x a.val) 32 32 = true →
      d.ok (s.partSize l) = true → exec (.dsStart n k rd a) s = .next (s.seal (State.settle (s.coreNext n.val k.val
        ({ u with streams := u.streams ++ [d], tickets := (u.tickets + 1) % 65536
                  done := SMap.set (fun _ => 15) u.done u.tickets 15 }.setX rd.val u.tickets) 4)))) ∧
    -- R292: DS_WAIT and DS_POLL give a ticket's status; DS_WAIT of a stream that has not ended waits
    (∀ (rd a : Fin 32), u.ticketStatus (u.x a.val) ≠ 15 → exec (.dsWait n k rd a) s = .next (s.seal (State.settle
      (s.coreNext n.val k.val (u.setX rd.val (u.ticketStatus (u.x a.val))) 4)))) ∧
    (∀ (rd a : Fin 32), u.ticketStatus (u.x a.val) = 15 → exec (.dsWait n k rd a) s = .next (s.seal (State.settle s))) ∧
    (∀ (rd a : Fin 32), exec (.dsPoll n k rd a) s = .next (s.seal (State.settle
      (s.coreNext n.val k.val (u.setX rd.val (u.ticketStatus (u.x a.val))) 4)))) ∧
    -- R302, R288: SP_EXIT ends the part with a status; SP_RDCNT reads a counter's upper half as its lower half was read, and others as 0
    (∀ (a : Fin 32) (st : Status), Status.ofCode (u.x a.val % 16) = some st → u.streams = [] → exec (.spExit n k a) s =
      .next (s.seal (State.settle (s.endPart n.val k.val st)))) ∧
    (∀ (rd : Fin 32) (i : BitVec 12), 8 ≤ i.toNat → exec (.spRdcnt n k rd i) s = .next (s.seal (State.settle
      (s.coreNext n.val k.val (u.setX rd.val 0) 4)))) ∧
    (∀ rd : Fin 32, exec (.spRdcnt n k rd 1) s = .next (s.seal (State.settle
      (s.coreNext n.val k.val (u.setX rd.val u.upper) 4)))) ∧
    -- R283, R287: an aligned load of the region window whose block passes its check reads its line
    (∀ (l : Launch) (f rd rs len r : Nat) (off : Int) (w : Line) (x : SpRead), s.running n.val k.val = some l → u.streams = [] →
      s.coreFetch n.val k.val = some (some (.load f rd rs off), len) → u.addr rs off = 0x40000000 + r →
      spPlace (u.addr rs off) (rvSize f) = .region → u.addr rs off % rvSize f = 0 → s.spCheck n.val k.val l.comp r = none →
      (s.spRead n.val k.val l.comp [(0, [])]).readAt (r / 64 * 64) = (.ok w, x) → exec (.spindleLoadStore n k []) s =
        .next (s.seal (State.settle (x.s.coreNext n.val k.val ((x.s.spu n.val k.val).setX rd
          (rvExtend f (bytesAt w (r % 64) (rvSize f)))) len))))

/-- R290-R298, R303, R309, R314: the commands of a Spindle's streams. -/
def Obligations.SpindleStreamCommandsComplete : Prop :=
  ∀ (s t : State) (n : BayId) (k : Fin 64) (l : Launch) (d : SpStream) (e : SramErr), t = s.sramSeen n.val k.val e → e ≠ .lost →
    -- R291: QLOAD fills the query registers and ends OK; an SRAM error that was corrected is counted first
    (s.headStream n.val k.val 0 = some (l, d) → exec (.qload n k e) s = .next (s.seal (State.settle ((t.setSpu n.val k.val
      ((List.range d.nq).foldl (fun (u : SpUnit) g =>
        u.setQr (512 * g) (t.sramBytes n.val k.val (d.src + g * (d.elems * fmtSize d.qfmt)) (d.elems * fmtSize d.qfmt)))
          (t.spu n.val k.val))).streamEnd n.val k.val .ok)))) ∧
    -- R291, R293, R303: SCORE and AXPY go over their rows; a residue error of the dot engine is a fault of cause 8
    (∀ (es : List (Nat × Syms)) (st : Status) (x : SpRead), s.headStream n.val k.val 1 = some (l, d) →
      SpRead.rows n.val k.val d (State.scoreRow n.val k.val d) d.count 0 { t.spRead n.val k.val l.comp es with pace := d.dotCycles 2048 } =
        (st, x) → exec (.score n k ⟨es, false, e⟩) s = .next (s.seal (State.settle (x.s.streamEnd n.val k.val st)))) ∧
    (∀ (es : List (Nat × Syms)) (st : Status) (x : SpRead), s.headStream n.val k.val 2 = some (l, d) →
      SpRead.rows n.val k.val d (State.axpyRow n.val k.val d) d.count 0 { t.spRead n.val k.val l.comp es with pace := d.dotCycles 2048 } =
        (st, x) → exec (.axpy n k ⟨es, false, e⟩) s = .next (s.seal (State.settle (x.s.streamEnd n.val k.val st)))) ∧
    (∀ (es : List (Nat × Syms)),
      (s.headStream n.val k.val 1 = some (l, d) → exec (.score n k ⟨es, true, e⟩) s = .next (s.seal (State.settle (s.spFault n.val k.val 8 .ok 0)))) ∧
      (s.headStream n.val k.val 2 = some (l, d) → exec (.axpy n k ⟨es, true, e⟩) s = .next (s.seal (State.settle (s.spFault n.val k.val 8 .ok 0))))) ∧
    -- R291, R293: VMAX stores the maximum of each query's scores; VEXPS exponentiates in place and stores each sum
    (s.headStream n.val k.val 3 = some (l, d) → exec (.vmax n k e) s = .next (s.seal (State.settle (State.streamEnd ((List.range d.nq).foldl
      (fun t g => t.setSramWord n.val k.val (d.dst + 4 * g)
        (((List.range d.count).map (fun j => t.sramWord n.val k.val (d.src + 4 * (g * d.count + j)))).foldl fp32Max 0xFF800000)) t)
          n.val k.val .ok)))) ∧
    (∀ (q : Nat × State), s.headStream n.val k.val 4 = some (l, d) → d.nq = 1 →
      q = (List.range d.count).foldl (fun (q : Nat × State) j =>
        (fp32Add q.1 (fp32Exp2 (fp32Sub (q.2.sramWord n.val k.val (d.src + 4 * j)) (t.sramWord n.val k.val d.aux))),
         q.2.setSramWord n.val k.val (d.src + 4 * j)
           (fp32Exp2 (fp32Sub (q.2.sramWord n.val k.val (d.src + 4 * j)) (t.sramWord n.val k.val d.aux))))) (0, t) →
      exec (.vexps n k e) s = .next (s.seal (State.settle ((q.2.setSramWord n.val k.val d.aux2 q.1).streamEnd n.val k.val .ok)))) ∧
    -- R291, R293: OCLR clears the output accumulators, OSCALE scales them, OSTORE stores them
    (s.headStream n.val k.val 5 = some (l, d) → exec (.oclr n k) s = .next (s.seal (State.settle
      ((s.setSpu n.val k.val ((s.spu n.val k.val).mapOa d (fun _ _ => 0))).streamEnd n.val k.val .ok)))) ∧
    (s.headStream n.val k.val 6 = some (l, d) → exec (.oscale n k e) s = .next (s.seal (State.settle ((t.setSpu n.val k.val
      ((t.spu n.val k.val).mapOa d (fun g x =>
        (FF.fp32.ofVal ((FF.fp32.decode x).mul (FF.fp32.decode (t.sramWord n.val k.val (d.aux + 4 * g))))).1))).streamEnd
          n.val k.val .ok)))) ∧
    (s.headStream n.val k.val 7 = some (l, d) → exec (.ostore n k) s = .next (s.seal (State.settle (State.streamEnd
      ((List.range d.nq).foldl (fun u g => u.setSram n.val k.val (d.dst + 4 * d.elems * g)
        ((List.range d.elems).flatMap (fun e => leBytes 4 ((s.spu n.val k.val).oaw g e)))) s) n.val k.val .ok)))) ∧
    -- R291, R309: COPY_IN and COPY_OUT move lines between the region and the SRAM
    (∀ (es : List (Nat × Syms)) (st : Status) (x : SpRead), s.headStream n.val k.val 8 = some (l, d) →
      SpRead.copyIn n.val k.val d (d.count / 64) 0 (s.spRead n.val k.val l.comp es) = (st, x) →
      exec (.copyIn n k es) s = .next (s.seal (State.settle (x.s.streamEnd n.val k.val st)))) ∧
    (∀ (st : Status) (u : State), s.headStream n.val k.val 9 = some (l, d) →
      State.copyLines n.val k.val l.comp d (d.count / 64) 0 t = (st, u) →
      exec (.copyOut n k e) s = .next (s.seal (State.settle (u.streamEnd n.val k.val st)))) ∧
    -- R291, R314: PUT stores its lines through the fabric; PARTIAL sends a partial to its combine
    (s.headStream n.val k.val 0xA = some (l, d) → d.count ≠ 0 →
      exec (.putStream n k e) s = .next (s.seal (State.settle ((t.setSpu n.val k.val (t.spu n.val k.val).markSent).startBatch
        (.spPut n.val k.val (t.spu n.val k.val).run) ((List.range (d.count / 64)).map (fun i => (24 + n.val,
          t.writeReq (d.putAt + 64 * i) (BitVec.ofNat 32 d.stride) none (BitVec.allOnes 64)
            (lineOfBytes (t.sramBytes n.val k.val (d.src + 64 * i) 64)))))).2))) ∧
    (∀ (u : State), s.headStream n.val k.val 0xB = some (l, d) → u = t.setSpu n.val k.val (t.spu n.val k.val).markSent →
      exec (.partialRec n k e) s = .next (s.seal (State.settle
        { u with sp := { u.sp with parts := u.sp.parts ++ [{ bay := n.val, sp := k.val, run := (t.spu n.val k.val).run, ticket := d.ticket,
                                                             comb := l.comb, idx := d.aux,
                                                             data := t.sramBytes n.val k.val d.src (t.partSize l) }] } }))) ∧
    -- R303: a stream that the SRAM returns an uncorrectable error to is a fault of cause 7
    (∀ p ∈ [(Instr.qload n k .lost, 0), (.score n k ⟨[], false, .lost⟩, 1), (.axpy n k ⟨[], false, .lost⟩, 2), (.vmax n k .lost, 3),
      (.vexps n k .lost, 4), (.oscale n k .lost, 6), (.copyOut n k .lost, 9), (.putStream n k .lost, 0xA), (.partialRec n k .lost, 0xB)],
      s.headStream n.val k.val p.2 = some (l, d) → exec p.1 s = .next (s.seal (State.settle (s.spFault n.val k.val 7 .ok 0))))

/-- R299-R317, R326, R337, R486: the other commands of the Spindles, and those of the code tables. -/
def Obligations.SpindleServiceCommandsComplete : Prop :=
  -- R301: a launch on an up Bay with a legal body and its grants reads its program's header
  (∀ (s u v : State) (t : TaskRef) (x : TaskSt) (l : Launch), s.beginTask t 6 = some (x, u) →
    l = { id := u.sp.next, t := t, bay := bitsAt x.body 0 1 5, comp := bytesAt x.body 1 1
          fence := bit (u.rgb (pgHub 0x1A) Reg.SpCtl.COH_MODE (bytesAt x.body 1 1)) 0, stage := 1, body := x.body, head := [], image := []
          ranges := [], comb := none, combSt := none, waits := [], parts := [] } →
    v = State.bumpHub { u with sp := { u.sp with next := u.sp.next + 1, launches := u.sp.launches ++ [l] } } Reg.SpCtl.LAUNCH_DEV_CNT →
    v.bayUp l.bay = true → l.bodyOk = true → v.bayShare l.comp l.bay ≠ 0 → l.mask.any (fun k => !v.spGranted l.comp l.bay k) = false →
    exec (.spindleLaunch t) s = .next (s.seal (State.settle
      (v.startBatch (.spHead t) (l.headLines.map (fun a => (24 + l.bay, v.keyRead l.key a)))).2))) ∧
  -- R307: a FENCE launch whose requests have completed recalls its ranges; once they are recalled its parts start
  (∀ (s : State) (t : TaskRef) (l : Launch), s.launchOf t = some l → l.stage = 4 → l.waits = [] → exec (.fenceStageDone t) s =
    .next (s.seal (State.settle ((s.setLaunch { l with stage := 5, waits := [] }).recallRanges l true)))) ∧
  (∀ (s : State) (t : TaskRef) (l : Launch), s.launchOf t = some l → l.stage = 5 → s.recalling l = false → exec (.fenceStageDone t) s =
    .next (s.seal (State.settle (s.startParts l)))) ∧
  -- R314: a partial arrives at its combine; without one it is UNMAPPED
  (∀ (s t : State) (n : BayId) (k : Fin 64) (m : PartMsg) (c : Comb) (st : Status), s.sp.parts = [m] → m.bay = n.val → m.sp = k.val →
    m.comb.bind (fun i => s.comb i) = some c → s.bayUp c.bay = true → s.bayRuns c.bay = true →
    State.partialStored { s with sp := { s.sp with parts := [] } } c m = (st, t) →
    exec (.partialArrival n k) s = .next (s.seal (State.settle (t.partialDone m st)))) ∧
  (∀ (s : State) (n : BayId) (k : Fin 64) (m : PartMsg), s.sp.parts = [m] → m.bay = n.val → m.sp = k.val → m.comb = none →
    exec (.partialArrival n k) s = .next (s.seal (State.settle (State.partialDone { s with sp := { s.sp with parts := [] } } m .unmapped)))) ∧
  -- R315, R317: an open combine ends with TIMEOUT at its time and with REVOKED when it is cancelled; a query gives its state
  (∀ (s : State) (i : BitVec 16) (c : Comb), s.comb i.toNat = some c → c.state = 1 → c.writing = false →
    exec (.combineTimeout i) s = .next (s.seal (State.settle (s.combEnd c 3 (24 + c.bay) .timeout))) ∧
    (bit (s.rg (pgHub 0x1A) Reg.SpCtl.COMB_STAT) 31 = false →
      exec (.combCancel i) s = .next (s.seal (State.settle (((s.combEnd c 3 (24 + c.bay) .revoked).bumpHub
        Reg.SpCtl.COMB_CANCEL_CNT).combStat (fld (s.hub Reg.SpCtl.COMB_STAT) 9 8) 0))) ∧
      exec (.combQuery i) s = .next (s.seal (s.combStat 1 0)))) ∧
  (∀ (s : State) (i : BitVec 16), bit (s.rg (pgHub 0x1A) Reg.SpCtl.COMB_STAT) 31 = false → s.comb i.toNat = none → exec (.combCancel i) s = .next (s.seal (State.settle
      (s.combStat (fld (s.hub Reg.SpCtl.COMB_STAT) 9 8) 1))) ∧ exec (.combQuery i) s = .next (s.seal (s.combStat 0 0))) ∧
  -- R315: a combine's ID that is held no longer is free
  (∀ (s : State) (n : BayId) (i : BitVec 16) (c : Comb), s.comb i.toNat = some c → c.state ≠ 1 → exec (.ridHoldExpiry n (.comb i)) s =
    .next (s.seal (State.settle { s with sp := { s.sp with combs := s.sp.combs.filter (fun d => d.id ≠ i.toNat) } }))) ∧
  -- R302, R303: a part that runs past its time is a fault of cause 9
  (∀ (s : State) (n : BayId) (k : Fin 64), (s.running n.val k.val).isSome = true → exec (.partTimeout n k) s = .next (s.seal
    (State.settle (s.spFault n.val k.val 9 .ok 0)))) ∧
  -- R304: SP_FENCE is stored, and stops the Spindles it newly fences
  (∀ (s : State) (n : BayId) (v : DWord), s.pageOpen (pgSp n.val) Reg.Sp.SP_FENCE 0 → exec (.spFenceWrite n v) s = .next (s.seal (State.settle ((List.range 64).foldl (fun t k =>
    if bit v k ∧ !bit (s.rg (pgSp n.val) Reg.Sp.SP_FENCE) k then t.spStop n.val k else t) (s.set (pgSp n.val) Reg.Sp.SP_FENCE v))))) ∧
  -- R486: a known-answer test of a busy Spindle is late and waits for its part's end; a test that passes frees the Spindle
  (∀ (s : State) (n : BayId) (k : Fin 64), s.spFenced n.val k.val = false → (s.spu n.val k.val).kat = 0 → s.bayUp n.val = true →
    (s.spu n.val k.val).launch.isSome = true → exec (.knownAnswerTest n k) s = .next (s.seal (State.settle
      ((s.setSpu n.val k.val { s.spu n.val k.val with kat := 1 }).bumpHub Reg.Flt.KAT_LATE_CNT)))) ∧
  (∀ (s : State) (n : BayId) (k : Fin 64), s.spFenced n.val k.val = false → (s.spu n.val k.val).kat = 0 → s.bayUp n.val = true →
    (s.spu n.val k.val).launch = none → s.bayRuns n.val = true → s.islandState (.spindles n (Fin.ofNat 8 (k.val / 8))) = 0 →
    exec (.knownAnswerTest n k) s = .next (s.seal (State.settle (s.setSpu n.val k.val { s.spu n.val k.val with kat := 2 })))) ∧
  (∀ (s t : State) (n : BayId) (k : Fin 64), 2 ≤ (s.spu n.val k.val).kat → t = s.bumpHub Reg.Flt.KAT_CNT → exec (.knownAnswerTestDone n k
    true) s = .next (s.seal (State.settle (t.setSpu n.val k.val { s.spu n.val k.val with kat := 0 })))) ∧
  (∀ (s t : State) (n : BayId) (k : Fin 64), (s.spu n.val k.val).kat = 2 → t = (s.bumpHub Reg.Flt.KAT_CNT).bumpHub Reg.Flt.KAT_FAIL_CNT →
    exec (.knownAnswerTestDone n k false) s = .next (s.seal (State.settle
      ((t.setSpu n.val k.val { s.spu n.val k.val with kat := 3 }).spindleFault n.val k.val 9 false)))) ∧
  -- R326, R337: CT_INSTALL reads a code table; CT_REMOVE drops one; CT_QUERY tells whether one is installed
  (∀ (s t u : State) (c : CompId) (i : BitVec 12) (a b : Nat), s.ctBusy = false → (s.hub Reg.CTab.CT_ADDR).toNat = a →
    t = s.setHub Reg.CTab.CT_STAT (setFld (s.hub Reg.CTab.CT_STAT) 31 31 1) →
    t.startBatch .ctImage ((List.range 3).map (fun i => (hubIn, t.readReq (Fin.ofNat 256 c.val) (a + 64 * i)))) = (b, u) →
    exec (.ctInstall c i) s = .next (s.seal (State.settle
      { u with codec := { u.codec with cmd := some { comp := c.val, tid := i.toNat, addr := a, batch := b } } }))) ∧
  (∀ (s : State) (c : CompId) (i : BitVec 12) (x : CodeTab), s.ctBusy = false → s.codeTab c.val i.toNat = some x →
    exec (.ctRemove c i) s = .next (s.seal (((s.dropTable c.val i.toNat).bumpHub Reg.CTab.CT_REMOVE_CNT).ctResult 0)) ∧
    exec (.ctQuery c i) s = .next (s.seal ((s.setHub Reg.CTab.CT_STAT (setFld (s.hub Reg.CTab.CT_STAT) 30 30 1)).ctResult 0))) ∧
  (∀ (s : State) (c : CompId) (i : BitVec 12), s.ctBusy = false → s.codeTab c.val i.toNat = none →
    exec (.ctRemove c i) s = .next (s.seal (s.ctResult 5)) ∧
    exec (.ctQuery c i) s = .next (s.seal ((s.setHub Reg.CTab.CT_STAT (setFld (s.hub Reg.CTab.CT_STAT) 30 30 0)).ctResult 5))) ∧
  -- R337: a command while the table interface is busy only sets CMD_OVERRUN
  (∀ (s : State) (c : CompId) (i : BitVec 12), s.ctBusy = true → exec (.ctInstall c i) s = .next (s.seal (State.settle
    (s.overrun (pgHub 0x19)))) ∧ exec (.ctRemove c i) s = .next (s.seal (s.overrun (pgHub 0x19))) ∧
    exec (.ctQuery c i) s = .next (s.seal (s.overrun (pgHub 0x19))))

/-- R140: an undeliverable recall of a line in S is taken as a BI_ACK; of a line in M at that port, the line is poisoned, its entry is I, and
the waiting request is served as one to a poisoned line. -/
def Obligations.UndeliverableRecalls : Prop :=
  ∀ (s : State) (p : PortId) (tc : BitVec 3) (la : BitVec 42) (n : BayId) (t : Txn), la.toNat * 64 < stackEnd →
    s.homeBay (la.toNat * 64) = some n.val → s.voqs = [] → s.islandState (.bay n) = 0 → SMap.get (fun _ => 0) s.pwr.req n.val = 0 →
    s.activeTxn (bayOf s.sel (la.toNat * 64)) (lineOf (la.toNat * 64)) = some t → t.await.contains p.val = true →
    (dirState (s.dirOf t) = 1 → exec (.undeliverableRecall p la) s = exec (.biAck p tc la) s) ∧
    (∀ (u : State) (r : Req), dirState (s.dirOf t) = 2 → dirOwner (s.dirOf t) = p.val → t.work = .req r → t.answered = false →
      u = ((s.poisonLine t.bay t.line).setDir t.bay t.dir dirI).dropTxn t →
      exec (.undeliverableRecall p la) s = .next (s.seal (State.settle (State.runLine
        (if r.op.overPoison then u.perform { t with await := [] } dirI dirI else u.homeAnswer t.bay r .poison 0 false none) t.bay t.line))))

/-- R154: PIER_CFG is written only while every logical port of the Pier is in DISABLED or FAULT; at any other time the write is rejected,
the register keeps its value, and the Pier page's ERR_STAT records it. R110: the mode of a Pier that the tray map uses does not change. -/
def Obligations.PierCfgOnlyWhileDown : Prop :=
  ∀ (s : State) (p : PierId) (v : Word) (moves : Prop),
    s.pageOpen (pgPier p.val) Reg.Pier.PIER_CFG 0 → (moves ↔ fld (Reg.Pier.PIER_CFG.written (s.pierCfg p.val) (BitVec.ofNat 64 v.toNat)).1 3 0 ≠ fld (s.pierCfg p.val) 3 0) →
    ((∀ x ∈ s.pierPorts p.val, (s.link x).state = .disabled ∨ (s.link x).state = .fault) → (s.trayUses p.val = false ∨ ¬moves) →
      exec (.pierCfgWrite p v) s = .next (s.seal (State.settle
        ((s.writeReg (pgPier p.val) Reg.Pier.PIER_CFG 0 0 (BitVec.ofNat 64 v.toNat)).tryPier p.val)))) ∧
    (∀ x ∈ s.pierPorts p.val, (s.link x).state ≠ .disabled → (s.link x).state ≠ .fault → exec (.pierCfgWrite p v) s = .next (s.seal
      (State.settle (s.setErr (pgPier p.val) 1 0)))) ∧
    (s.trayUses p.val = true → moves → exec (.pierCfgWrite p v) s = .next (s.seal (State.settle (s.setErr (pgPier p.val) 1 0))))

/-- R200: a multicast write is checked against its group's entry and against nothing else: an entry that is off gives UNMAPPED, another key
KEY_FAULT, and otherwise it is taken, whatever the maps, the epoch and the range checks say. -/
def Obligations.MulticastChecks : Prop :=
  ∀ (s : State) (r : Req) (p : PortId) (e : McEntry), r.origin = .port p → s.voqs = [] → s.mcEntry r.dnode.toNat = e →
    (e.en = false → exec (.mcWr r) s = .next (s.seal (State.settle (s.refuse { r with op := .mcWr } .unmapped)))) ∧
    (e.en = true → r.key ≠ e.key → exec (.mcWr r) s = .next (s.seal (State.settle
      ((s.bumpHub Reg.Mcast.MC_KEY_FAULT_CNT).refuse { r with op := .mcWr } .keyFault)))) ∧
    (∀ (t u : State) (m : McOut), e.en = true → r.key = e.key → t = s.bumpHub Reg.Mcast.MC_RX_CNT →
      m = { id := t.tr.mcNum, req := { r with op := .mcWr }, ports := [], remotes := 0, bad := false, dests := e.remotes } →
      u = e.ports.foldl (fun a x => a.mcMember (s.inputOf m.req) e m.req m.id x)
        { t with tr := { t.tr with mcNum := m.id + 1, mcOut := t.tr.mcOut ++ [m] } } →
      exec (.mcWr r) s = .next (s.seal (State.settle
        (u.mcTrestle (s.inputOf m.req) (flowPort r.origin (s.inputOf m.req)) m.req m.id e.remotes.length))))

/-- R296: exp2 of a NaN is 0x7FC0_0000, of +Inf it is +Inf, and of -Inf it is +0. -/
def Obligations.Exp2OfSpecialValues : Prop :=
  (∀ x < 2 ^ 32, nfld x 30 23 = 255 → nfld x 22 0 ≠ 0 → fp32Exp2 x = 0x7FC00000) ∧ fp32Exp2 0x7F800000 = 0x7F800000 ∧
    fp32Exp2 0xFF800000 = 0

/-- R520: the fields of BLK_ID of every page that exists: with bits 31 to 25 and 11 to 8 zero, it holds the die, the class and the instance of
the page where the page address holds them, and DEV_INDEX below. -/
def Obligations.BlkIdFields : Prop :=
  ∀ (s : State) (pg : Nat), pg < 8192 → assigned pg = true →
    fld (s.view pg Reg.Hdr.BLK_ID 0) 63 25 = 0 ∧ fld (s.view pg Reg.Hdr.BLK_ID 0) 24 22 = pg / 1024 ∧
    fld (s.view pg Reg.Hdr.BLK_ID 0) 21 16 = pg / 16 % 64 ∧ fld (s.view pg Reg.Hdr.BLK_ID 0) 15 12 = pg % 16 ∧
    fld (s.view pg Reg.Hdr.BLK_ID 0) 11 8 = 0 ∧ fld (s.view pg Reg.Hdr.BLK_ID 0) 7 0 = devIndex pg ∧
    (s.view pg Reg.Hdr.BLK_ID 0).toNat &&& 0x01FFF000 = pg * 4096

/-- R127: a write to LIM_RSV, CLASS_LIM or VOQ_CAP is checked as it would leave the limits: it takes effect, with the total in LIM_SUM, where
they fit, and is rejected otherwise. -/
def Obligations.LimitsAreEnforced : Prop :=
  ∀ (s t : State) (g : GroupId) (w : LimitReg) (v : Word) (total wb mgmt : Nat) (req rsp cap : Nat → Nat),
    s.pageOpen (pgPort g.val) w.reg w.elem →
    t = (match w with
      | .rsv => s.setN (pgPort g.val) Reg.Port.LIM_RSV v.toNat
      | .classLim c => s.setReg (pgPort g.val) Reg.Port.CLASS_LIM c.val 0 (BitVec.ofNat 64 v.toNat)
      | .voqCap c => s.setReg (pgPort g.val) Reg.Port.VOQ_CAP c.val 0 (BitVec.ofNat 64 (v.toNat % 65536))) →
    wb = fld (t.rg (pgPort g.val) Reg.Port.LIM_RSV) 15 0 → mgmt = fld (t.rg (pgPort g.val) Reg.Port.LIM_RSV) 31 16 →
    req = (fun c => fld (t.rgi (pgPort g.val) Reg.Port.CLASS_LIM c) 15 0) → rsp = (fun c => fld (t.rgi (pgPort g.val) Reg.Port.CLASS_LIM c) 31 16) →
    cap = (fun c => (t.rgi (pgPort g.val) Reg.Port.VOQ_CAP c).toNat) →
    total = 768 + wb + mgmt + ((List.range 8).map (fun c => req c + rsp c)).sum →
    (total ≤ 24576 ∧ 48 ≤ wb ∧ 24 ≤ mgmt ∧ (∀ c < 8, (req c = 0 ∨ 12 ≤ req c) ∧ (rsp c = 0 ∨ 12 ≤ rsp c) ∧ 12 ≤ cap c ∧
        cap c ≤ (if req c + rsp c = 0 then 12 else req c + rsp c)) →
      exec (.limitWrite g w v) s = .next (s.seal (t.setN (pgPort g.val) Reg.Port.LIM_SUM total))) ∧
    (¬(total ≤ 24576 ∧ 48 ≤ wb ∧ 24 ≤ mgmt ∧ (∀ c < 8, (req c = 0 ∨ 12 ≤ req c) ∧ (rsp c = 0 ∨ 12 ≤ rsp c) ∧ 12 ≤ cap c ∧
        cap c ≤ (if req c + rsp c = 0 then 12 else req c + rsp c))) →
      exec (.limitWrite g w v) s = .next (s.seal (s.writeRejected (pgPort g.val))))

/-- R223, R224, R234: what a slot holds after its contributions does not depend on the order in which they arrived, for every operation and
every source format. -/
def Obligations.ReductionsDoNotDependOnOrder : Prop :=
  ∀ (op : RedOp) (sf : Nat) (xs ys : List Nat), sf ≤ 6 → xs.Perm ys → xs.length ≤ 4096 → (∀ x ∈ xs, x < 2 ^ (8 * fmtSize sf)) →
    xs.foldl (slotAdd op sf) (slotInit op) = ys.foldl (slotAdd op sf) (slotInit op)

/-- R224, R234, R240: a child's partial, combined into the slot of its parent, leaves what the child's own contributions would have left
there: how the contributions are grouped does not show. -/
def Obligations.ReductionsDoNotDependOnGrouping : Prop :=
  ∀ (op : RedOp) (sf : Nat) (xs ys : List Nat), sf ≤ 6 → xs.length + ys.length ≤ 4096 → (∀ x ∈ xs ++ ys, x < 2 ^ (8 * fmtSize sf)) →
    slotFold op sf (xs.foldl (slotAdd op sf) (slotInit op)) (ys.foldl (slotAdd op sf) (slotInit op)) =
      (xs ++ ys).foldl (slotAdd op sf) (slotInit op)

/-- R184, R186, R187, R192: a request that the block lays out in slots reads back as itself, with every field at every value its opcode
admits, and the line check it carries reads back beside it. -/
def Obligations.RequestsReadBack : Prop :=
  ∀ (vc : Nat) (c : RxCtx) (r : Req) (h : Slot) (rest : List Slot), vc < 2 → c.mode = 0 → r.origin = .port c.port → r.src = c.peer →
    r.deadline = c.deadline → r.keyless = none → r.bad = false → opndOk r.op r.opnd = true → (r.op.masks = false → r.mask = 0) →
    (r.op = .capWr → r.mask ≠ 0) → r.data.toNat < 2 ^ (128 * r.nData) → r.wire vc c.own c.check = h :: rest →
    readReq c h rest = some (r, if c.check = true ∧ r.nData ≠ 0 then some (lineCheck (leBytes (16 * r.nData) r.data.toNat)) else none)

/-- R190, R191, R203, R363: BI_ACK, WB, the handoff messages, the tray completions and the time exchange read back as what was laid out; the
receive stamp of a time exchange is the ingress port's. -/
def Obligations.MessagesReadBack : Prop :=
  -- R190
  (∀ (c : RxCtx) (vc : Nat) (tc : BitVec 3) (la : BitVec 42) (h : Slot) (rest : List Slot), vc = 4 ∨ vc = 5 → c.mode = 0 →
    Coh.wire vc (.biAck tc la) = h :: rest → readCoh c h rest = some (.biAck tc la)) ∧
  (∀ (c : RxCtx) (vc : Nat) (tc : BitVec 3) (la : BitVec 42) (keep bad : Bool) (d : Line) (h : Slot) (rest : List Slot), vc = 4 ∨ vc = 5 →
    c.mode = 0 → Coh.wire vc (.wb tc la keep bad d) = h :: rest → readCoh c h rest = some (.wb tc la keep false d)) ∧
  -- R191
  (∀ (c : RxCtx) (vc : Nat) (m : Hand) (h : Slot) (rest : List Slot), vc = 6 ∨ vc = 7 → c.mode = 0 → m.op = .cancel ∨ m.status = .ok →
    m.wire vc = h :: rest → readHand c h = some m) ∧
  -- R203
  (∀ (c : RxCtx) (vc : Nat) (m : TrayCmp) (len : Option Nat) (h : Slot) (rest : List Slot), vc = 2 ∨ vc = 3 → c.mode = 1 → m.data.length ≤ 16 →
    m.data = [] ∨ len.getD m.data.length = m.data.length →
    (m.status = .ok ∨ m.data = [] ∧ (m.status = .poison ∨ m.status = .integrity ∨ m.status = .unmapped)) →
    m.wire vc = h :: rest → readTray c len h rest = some m) ∧
  -- R363
  (∀ (vc : Nat) (m : TimeX) (stamp : BitVec 80) (h : Slot) (rest : List Slot), vc = 6 ∨ vc = 7 → m.wire vc = h :: rest →
    readTime h rest stamp = some { m with rx := stamp })

/-- R54, R55, R392, R16: the words of a region-table entry and of a range-check entry spell that entry; what other words have in reserved
fields is ignored, and words with a reserved encoding spell no region-table entry. -/
def Obligations.TableEntriesReadBack : Prop :=
  (∀ (e : RtEntry), RtEntry.ofWords (fun k => e.words.getD k 0) = some e) ∧
  (∀ (w : Nat → Nat) (e : RtEntry), RtEntry.ofWords w = some e → ∀ k < 8, e.words.getD k 0 =
    w k &&& [0x07FFFFFF, 0x07FFFFFF, 0xFFFFFFFF, 0x7FFFFF0F, 0x00FF0FFF, 0, 0, 0].getD k 0) ∧
  (∀ (w : Nat → Nat), RtEntry.ofWords w = none ↔ nfld (w 3) 1 0 = 3 ∨ nfld (w 3) 3 2 = 3 ∨ 3 ≤ nfld (w 3) 30 28) ∧
  (∀ (e : RctEntry), RctEntry.ofWords (fun k => e.words.getD k 0) = e) ∧
  (∀ (w : Nat → Nat), ∀ k < 4, (RctEntry.ofWords w).words.getD k 0 = w k &&& [0x07FFFFFF, 0x07FFFFFF, 0x0000FF03, 0].getD k 0)

/-- R50, R52: the stack tier's map is one-to-one, whatever the hash: every offset below the end of the stack tier has its Bay and its place
in that Bay's stack, and every place of every Bay's stack has its offset. -/
def Obligations.StackMapIsOneToOne : Prop :=
  ∀ sel : Nat,
    (∀ a < stackEnd, bayOf sel a < 24 ∧ bayOff a < baySize ∧ stackAddr sel (bayOf sel a) (bayOff a) = a) ∧
    (∀ n < 24, ∀ o < baySize, stackAddr sel n o < stackEnd ∧ bayOf sel (stackAddr sel n o) = n ∧ bayOff (stackAddr sel n o) = o)

/-- R84, R89, R91: a line that is stored reads back, and a line that is poisoned reads as poisoned with up to one further symbol in error and
never as data; either leaves every byte outside the line, the poison marks of the other lines and the canonical form of memory as they were. -/
def Obligations.LinesReadBack : Prop :=
  ∀ (s : State) (n o kind : Nat) (l : Line), n < 24 → o < baySize → Memory.wf s.mem → SMap.wf (fun _ => []) s.upsets = true →
    (s.storeLine n o l).readLine n o kind [] = (.data l, s.storeLine n o l) ∧
    (∀ errs : Syms, errs.eraseDups.length ≤ 1 → ((s.poisonLine n o).readLine n o kind errs).1 = .poison) ∧
    (∀ (errs : Syms) (d : Line), ((s.poisonLine n o).readLine n o kind errs).1 ≠ .data d) ∧
    Memory.wf (s.storeLine n o l).mem ∧ Memory.wf (s.poisonLine n o).mem ∧
    (∀ m < 24, ∀ p < baySize, (m ≠ n ∨ p / 64 ≠ o / 64) →
      (s.storeLine n o l).byte m p = s.byte m p ∧ (s.poisonLine n o).byte m p = s.byte m p ∧
      (s.storeLine n o l).poisoned m p = s.poisoned m p ∧ (s.poisonLine n o).poisoned m p = s.poisoned m p)

/-- R63, R71, R84: the frame of a request that a logical port brings to a home that is ready. RD, RD_S, RD_M and OWN leave every byte of every
stack as it was; WR, WR_P, an applied Capstone store and an ATOM write the request's line only. None of them changes a poison mark, the
Region Table, a reduction, the Heddles or the compositions, and none changes a register outside the pages of the home, its Loom, the Deck's
ports, slices and sampler, and the Piers: the completion crosses the Deck. -/
def Obligations.HomeRequestsFrame : Prop :=
  ∀ (s : State) (n : BayId) (r : Req) (p : Pass) (q : PortId) (o : ReqOp) (c : Instr), s.homeReady n { r with op := o } p →
    Memory.wf s.mem → r.origin = .port q → q.val ≠ 288 → r.bad = false → s.marred = [] → (o = .atom → (atomFields r.opnd).1 ≠ 1) →
    ((o = .rd ∧ c = .rd r .clean) ∨ (o = .rdS ∧ c = .rdS r .clean) ∨ (o = .rdM ∧ c = .rdM r .clean) ∨
      (o = .own ∧ c = .own r .clean) ∨ (o = .wr ∧ c = .wr r .clean) ∨ (o = .wrP ∧ c = .wrP r .clean) ∨
      (o = .capWr ∧ c = .capWrApply r .clean) ∨ (o = .atom ∧ c = .atom r .clean)) →
    ∃ t, exec c s = .next t ∧ Memory.wf t.mem ∧
      (∀ m < 24, ∀ x < baySize, (m ≠ n.val ∨ x / 64 * 64 ≠ lineOf r.addr ∨ o = .rd ∨ o = .rdS ∨ o = .rdM ∨ o = .own) →
        t.byte m x = s.byte m x) ∧
      t.poison = [] ∧ t.upsets = [] ∧ t.txns = [] ∧ t.reg = s.reg ∧ t.loom = s.loom ∧ t.hed = s.hed ∧ t.comps = s.comps ∧ t.tray = s.tray ∧
      t.ks = s.ks ∧ t.islands = s.islands ∧ t.held = s.held ∧
      (∀ (pg off bank : Nat) (d : Nat → DWord), pg < 65536 → off < 4096 → pg ≠ pgHome n.val → pg ≠ pgLoom n.val →
        pageClass pg ∉ [0x01, 0x08, 0x09, 0x0C, 0x106] → pg ≠ pgOfHub Reg.KS.SAMPLE_DENY_CNT → SMap.get d t.regs (regKey pg off bank) = SMap.get d s.regs (regKey pg off bank))

/-- R68, R69, R71: what the directory entry of a line says after a request of port x, and after a recall. RD_M and OWN leave the port as owner;
RD_S leaves it, and every group that shared the line before, as sharers; a full write, a merge, an atomic and a reduce-store leave the entry
I; a line that was recalled shared is shared with its former owner's group; and an entry that is stored reads back. -/
def Obligations.DirectoryFollowsRequests : Prop :=
  ∀ (x e : Nat), x < 289 → e < 2 ^ 16 →
    (∀ op, op = .rdM ∨ op = .own → dirState (dirAfter op (some x) e) = 2 ∧ dirOwner (dirAfter op (some x) e) = x) ∧
    dirState (dirAfter .rdS (some x) e) = 1 ∧ sharesBy (dirAfter .rdS (some x) e) (some x) = true ∧
    (∀ y < 289, dirState e = 1 → sharesBy e (some y) = true → sharesBy (dirAfter .rdS (some x) e) (some y) = true) ∧
    (∀ y < 289, sharesBy (dirAfter .rdS (some x) e) (some y) = true → y / 21 = x / 21 ∨ (dirState e = 1 ∧ sharesBy e (some y) = true)) ∧
    (∀ op, op = .wr ∨ op = .wrP ∨ op = .capWr ∨ op = .atom ∨ op = .rsU ∨ op = .rsD → dirState (dirAfter op (some x) e) = 0) ∧
    dirState (recalled .inv e) = 0 ∧
    (dirState e = 2 → dirOwner e < 289 → dirState (recalled .down e) = 1 ∧ sharesBy (recalled .down e) (some (dirOwner e)) = true) ∧
    (∀ (s : State) (n d : Nat), Memory.wf s.mem → (s.putDir n d e).rawDir n d = e)

/-- R15, R361, R429, R457, R463: the machine at reset. Nothing is pending, Fabric Time and TIME_FLOOR are 0, no line is poisoned, no request,
reduction or task is in progress, no composition exists and neither map holds an entry; the device, every Bay and every Pier group are held in
reset; every register of every page reads the reset value that its table gives (where a table gives none, the value of log entry 4). -/
def Obligations.ResetState : Prop :=
  State.reset.pending = [] ∧ State.reset.ft = 0 ∧ State.reset.timeFloor = 0 ∧ State.reset.mem = [] ∧ State.reset.poison = [] ∧
    State.reset.txns = [] ∧ State.reset.voqs = [] ∧ State.reset.links = [] ∧ State.reset.loom.reds = [] ∧ State.reset.trd = TreadleSt.init ∧
    State.reset.comps = [] ∧ State.reset.reg = RegionSt.init ∧
    State.reset.isHeld .device = true ∧ (∀ n : BayId, State.reset.isHeld (.bay n) = true) ∧
    (∀ g : GroupId, State.reset.isHeld (.group g) = true) ∧
    (∀ (pg : Nat) (r : RegSpec) (i bank : Nat), State.reset.reg? pg r i bank = BitVec.ofNat 64 r.reset)

/-- R446, R447, R456, R559: what the two resets of the whole device leave. Both restart Fabric Time at 0, clear the composition table and both
maps, end every request, reduction and task, and hold the device at step 1 of the release sequence. L0 loses the stacks' contents; L1 keeps
them, with their poison marks; while the device is held in reset, L1 is only logged. -/
def Obligations.DeviceResets : Prop :=
  ∀ s : State,
    (∃ t, exec (.rstCmdL0 0xA5) s = .next t ∧ t.mem = [] ∧ t.poison = [] ∧ t.upsets = [] ∧ t.ft = 0 ∧ t.timeFloor = 0 ∧ t.comps = [] ∧
      t.reg = RegionSt.init ∧ t.txns = [] ∧ t.loom.reds = [] ∧ t.trd = TreadleSt.init ∧
      t.isHeld .device = true ∧ t.pending = s.pending) ∧
    (s.held.contains .device = true → exec (.rstCmdL1 0xA5) s = .next (s.seal (State.settle (s.logReset 0x12 5 .device s.ft)))) ∧
    (s.held.contains .device = false → ∃ t, exec (.rstCmdL1 0xA5) s = .next t ∧ t.mem = s.mem ∧ t.poison = s.poison ∧ t.upsets = s.upsets ∧ t.ft = 0 ∧ t.timeFloor = 0 ∧
      t.comps = [] ∧ t.reg = RegionSt.init ∧ t.txns = [] ∧ t.loom.reds = [] ∧ t.trd = TreadleSt.init ∧
      t.isHeld .device = true ∧ t.fuses = s.fuses ∧ t.flt.hist = s.flt.hist ∧ t.pending = s.pending)
end

