-- ==== Sys2Proof/Laws/State.lean ====
section
/-!
SUPPORT. Laws/State.lean: what each update of State leaves as it was, one lemma per field and update, so that no later proof unfolds a
record update.
-/
namespace Sys2Proof.Laws.State

open Sys2Proof Sys2Proof.Machine

variable (s : State)

/-! ### The short names of register operations: every one is an operation on an element in a bank -/

@[simp] theorem set_eq (pg : Nat) (r : RegSpec) (v : DWord) : s.set pg r v = s.setReg pg r 0 0 v := rfl
@[simp] theorem setN_eq (pg : Nat) (r : RegSpec) (v : Nat) : s.setN pg r v = s.setReg pg r 0 0 (BitVec.ofNat 64 v) := rfl
@[simp] theorem setF_eq (pg : Nat) (r : RegSpec) (hi lo v : Nat) : s.setF pg r hi lo v = s.setReg pg r 0 0 (setFld (s.reg? pg r 0 0) hi lo v) := rfl
@[simp] theorem setHub_eq (r : RegSpec) (v : DWord) : s.setHub r v = s.setReg (pgOfHub r) r 0 0 v := rfl
@[simp] theorem setHubF_eq (r : RegSpec) (hi lo v : Nat) : s.setHubF r hi lo v = s.setReg (pgOfHub r) r 0 0 (setFld (s.reg? (pgOfHub r) r 0 0) hi lo v) := rfl
@[simp] theorem bump_eq (pg : Nat) (r : RegSpec) : s.bump pg r = s.count pg r 0 0 1 := rfl
@[simp] theorem bumpI_eq (pg : Nat) (r : RegSpec) (i : Nat) : s.bumpI pg r i = s.count pg r i 0 1 := rfl
@[simp] theorem addN_eq (pg : Nat) (r : RegSpec) (n : Nat) : s.addN pg r n = s.count pg r 0 0 n := rfl
@[simp] theorem bumpHub_eq (r : RegSpec) : s.bumpHub r = s.count (pgOfHub r) r 0 0 1 := rfl
theorem rg_eq (pg : Nat) (r : RegSpec) : s.rg pg r = s.reg? pg r 0 0 := rfl
theorem rgi_eq (pg : Nat) (r : RegSpec) (i : Nat) : s.rgi pg r i = s.reg? pg r i 0 := rfl
theorem rgb_eq (pg : Nat) (r : RegSpec) (b : Nat) : s.rgb pg r b = s.reg? pg r 0 b := rfl
theorem hub_eq (r : RegSpec) : s.hub r = s.reg? (pgOfHub r) r 0 0 := rfl
@[simp] theorem writeRejected_eq (pg : Nat) : s.writeRejected pg = s.setErr pg 1 0 := rfl
@[simp] theorem overrun_eq (pg : Nat) : s.overrun pg = s.setErr pg 0 0 := rfl

/-! ### emit -/

@[simp] theorem emit_pending (o : Output) : (s.emit o).pending = s.pending := rfl
@[simp] theorem emit_regs (o : Output) : (s.emit o).regs = s.regs := rfl
@[simp] theorem emit_mem (o : Output) : (s.emit o).mem = s.mem := rfl
@[simp] theorem emit_poison (o : Output) : (s.emit o).poison = s.poison := rfl
@[simp] theorem emit_upsets (o : Output) : (s.emit o).upsets = s.upsets := rfl
@[simp] theorem emit_free (o : Output) : (s.emit o).free = s.free := rfl
@[simp] theorem emit_now (o : Output) : (s.emit o).now = s.now := rfl
@[simp] theorem emit_node (o : Output) : (s.emit o).node = s.node := rfl
@[simp] theorem emit_latches (o : Output) : (s.emit o).latches = s.latches := rfl
@[simp] theorem emit_staged (o : Output) : (s.emit o).staged = s.staged := rfl
@[simp] theorem emit_links (o : Output) : (s.emit o).links = s.links := rfl
@[simp] theorem emit_piers (o : Output) : (s.emit o).piers = s.piers := rfl
@[simp] theorem emit_landing (o : Output) : (s.emit o).landing = s.landing := rfl
@[simp] theorem emit_voqs (o : Output) : (s.emit o).voqs = s.voqs := rfl
@[simp] theorem emit_capHolds (o : Output) : (s.emit o).capHolds = s.capHolds := rfl
@[simp] theorem emit_capWins (o : Output) : (s.emit o).capWins = s.capWins := rfl
@[simp] theorem emit_policers (o : Output) : (s.emit o).policers = s.policers := rfl
@[simp] theorem emit_polMap (o : Output) : (s.emit o).polMap = s.polMap := rfl
@[simp] theorem emit_sampler (o : Output) : (s.emit o).sampler = s.sampler := rfl
@[simp] theorem emit_trace (o : Output) : (s.emit o).trace = s.trace := rfl
@[simp] theorem emit_arbLast (o : Output) : (s.emit o).arbLast = s.arbLast := rfl
@[simp] theorem emit_arb (o : Output) : (s.emit o).arb = s.arb := rfl
@[simp] theorem emit_marred (o : Output) : (s.emit o).marred = s.marred := rfl
@[simp] theorem emit_flushing (o : Output) : (s.emit o).flushing = s.flushing := rfl
@[simp] theorem emit_txns (o : Output) : (s.emit o).txns = s.txns := rfl
@[simp] theorem emit_bays (o : Output) : (s.emit o).bays = s.bays := rfl
@[simp] theorem emit_reg (o : Output) : (s.emit o).reg = s.reg := rfl
@[simp] theorem emit_tr (o : Output) : (s.emit o).tr = s.tr := rfl
@[simp] theorem emit_tray (o : Output) : (s.emit o).tray = s.tray := rfl
@[simp] theorem emit_islands (o : Output) : (s.emit o).islands = s.islands := rfl
@[simp] theorem emit_held (o : Output) : (s.emit o).held = s.held := rfl
@[simp] theorem emit_crossing (o : Output) : (s.emit o).crossing = s.crossing := rfl
@[simp] theorem emit_ft (o : Output) : (s.emit o).ft = s.ft := rfl
@[simp] theorem emit_alert (o : Output) : (s.emit o).alert = s.alert := rfl
@[simp] theorem emit_alertHold (o : Output) : (s.emit o).alertHold = s.alertHold := rfl
@[simp] theorem emit_devMs (o : Output) : (s.emit o).devMs = s.devMs := rfl
@[simp] theorem emit_comps (o : Output) : (s.emit o).comps = s.comps := rfl
@[simp] theorem emit_events (o : Output) : (s.emit o).events = s.events := rfl
@[simp] theorem emit_unitDone (o : Output) : (s.emit o).unitDone = s.unitDone := rfl
@[simp] theorem emit_unitReqs (o : Output) : (s.emit o).unitReqs = s.unitReqs := rfl
@[simp] theorem emit_loom (o : Output) : (s.emit o).loom = s.loom := rfl
@[simp] theorem emit_sram (o : Output) : (s.emit o).sram = s.sram := rfl
@[simp] theorem emit_keyGen (o : Output) : (s.emit o).keyGen = s.keyGen := rfl
@[simp] theorem emit_xts (o : Output) : (s.emit o).xts = s.xts := rfl
@[simp] theorem emit_resume (o : Output) : (s.emit o).resume = s.resume := rfl
@[simp] theorem emit_fuses (o : Output) : (s.emit o).fuses = s.fuses := rfl
@[simp] theorem emit_tokens (o : Output) : (s.emit o).tokens = s.tokens := rfl
@[simp] theorem emit_timeFloor (o : Output) : (s.emit o).timeFloor = s.timeFloor := rfl
@[simp] theorem emit_unitNext (o : Output) : (s.emit o).unitNext = s.unitNext := rfl
@[simp] theorem emit_gates (o : Output) : (s.emit o).gates = s.gates := rfl
@[simp] theorem emit_returns (o : Output) : (s.emit o).returns = s.returns := rfl
@[simp] theorem emit_logs (o : Output) : (s.emit o).logs = s.logs := rfl
@[simp] theorem emit_meterRem (o : Output) : (s.emit o).meterRem = s.meterRem := rfl
@[simp] theorem emit_snapSeq (o : Output) : (s.emit o).snapSeq = s.snapSeq := rfl
@[simp] theorem emit_testing (o : Output) : (s.emit o).testing = s.testing := rfl
@[simp] theorem emit_batches (o : Output) : (s.emit o).batches = s.batches := rfl
@[simp] theorem emit_batchNext (o : Output) : (s.emit o).batchNext = s.batchNext := rfl
@[simp] theorem emit_trd (o : Output) : (s.emit o).trd = s.trd := rfl
@[simp] theorem emit_bcasts (o : Output) : (s.emit o).bcasts = s.bcasts := rfl
@[simp] theorem emit_streams (o : Output) : (s.emit o).streams = s.streams := rfl
@[simp] theorem emit_glists (o : Output) : (s.emit o).glists = s.glists := rfl
@[simp] theorem emit_stamps (o : Output) : (s.emit o).stamps = s.stamps := rfl
@[simp] theorem emit_time (o : Output) : (s.emit o).time = s.time := rfl
@[simp] theorem emit_codec (o : Output) : (s.emit o).codec = s.codec := rfl
@[simp] theorem emit_govQ (o : Output) : (s.emit o).govQ = s.govQ := rfl
@[simp] theorem emit_granted (o : Output) : (s.emit o).granted = s.granted := rfl
@[simp] theorem emit_moves (o : Output) : (s.emit o).moves = s.moves := rfl
@[simp] theorem emit_hed (o : Output) : (s.emit o).hed = s.hed := rfl
@[simp] theorem emit_sp (o : Output) : (s.emit o).sp = s.sp := rfl
@[simp] theorem emit_ks (o : Output) : (s.emit o).ks = s.ks := rfl
@[simp] theorem emit_clk (o : Output) : (s.emit o).clk = s.clk := rfl
@[simp] theorem emit_pwr (o : Output) : (s.emit o).pwr = s.pwr := rfl
@[simp] theorem emit_rst (o : Output) : (s.emit o).rst = s.rst := rfl
@[simp] theorem emit_flt (o : Output) : (s.emit o).flt = s.flt := rfl
@[simp] theorem emit_host (o : Output) : (s.emit o).host = s.host := rfl
@[simp] theorem emit_pins (o : Output) : (s.emit o).pins = s.pins := rfl

/-! ### setReg -/

@[simp] theorem setReg_pending (pg : Nat) (r : RegSpec) (i b : Nat) (v : DWord) : (s.setReg pg r i b v).pending = s.pending := rfl
@[simp] theorem setReg_mem (pg : Nat) (r : RegSpec) (i b : Nat) (v : DWord) : (s.setReg pg r i b v).mem = s.mem := rfl
@[simp] theorem setReg_poison (pg : Nat) (r : RegSpec) (i b : Nat) (v : DWord) : (s.setReg pg r i b v).poison = s.poison := rfl
@[simp] theorem setReg_upsets (pg : Nat) (r : RegSpec) (i b : Nat) (v : DWord) : (s.setReg pg r i b v).upsets = s.upsets := rfl
@[simp] theorem setReg_out (pg : Nat) (r : RegSpec) (i b : Nat) (v : DWord) : (s.setReg pg r i b v).out = s.out := rfl
@[simp] theorem setReg_free (pg : Nat) (r : RegSpec) (i b : Nat) (v : DWord) : (s.setReg pg r i b v).free = s.free := rfl
@[simp] theorem setReg_now (pg : Nat) (r : RegSpec) (i b : Nat) (v : DWord) : (s.setReg pg r i b v).now = s.now := rfl
@[simp] theorem setReg_node (pg : Nat) (r : RegSpec) (i b : Nat) (v : DWord) : (s.setReg pg r i b v).node = s.node := rfl
@[simp] theorem setReg_latches (pg : Nat) (r : RegSpec) (i b : Nat) (v : DWord) : (s.setReg pg r i b v).latches = s.latches := rfl
@[simp] theorem setReg_staged (pg : Nat) (r : RegSpec) (i b : Nat) (v : DWord) : (s.setReg pg r i b v).staged = s.staged := rfl
@[simp] theorem setReg_links (pg : Nat) (r : RegSpec) (i b : Nat) (v : DWord) : (s.setReg pg r i b v).links = s.links := rfl
@[simp] theorem setReg_piers (pg : Nat) (r : RegSpec) (i b : Nat) (v : DWord) : (s.setReg pg r i b v).piers = s.piers := rfl
@[simp] theorem setReg_landing (pg : Nat) (r : RegSpec) (i b : Nat) (v : DWord) : (s.setReg pg r i b v).landing = s.landing := rfl
@[simp] theorem setReg_voqs (pg : Nat) (r : RegSpec) (i b : Nat) (v : DWord) : (s.setReg pg r i b v).voqs = s.voqs := rfl
@[simp] theorem setReg_capHolds (pg : Nat) (r : RegSpec) (i b : Nat) (v : DWord) : (s.setReg pg r i b v).capHolds = s.capHolds := rfl
@[simp] theorem setReg_capWins (pg : Nat) (r : RegSpec) (i b : Nat) (v : DWord) : (s.setReg pg r i b v).capWins = s.capWins := rfl
@[simp] theorem setReg_policers (pg : Nat) (r : RegSpec) (i b : Nat) (v : DWord) : (s.setReg pg r i b v).policers = s.policers := rfl
@[simp] theorem setReg_polMap (pg : Nat) (r : RegSpec) (i b : Nat) (v : DWord) : (s.setReg pg r i b v).polMap = s.polMap := rfl
@[simp] theorem setReg_sampler (pg : Nat) (r : RegSpec) (i b : Nat) (v : DWord) : (s.setReg pg r i b v).sampler = s.sampler := rfl
@[simp] theorem setReg_trace (pg : Nat) (r : RegSpec) (i b : Nat) (v : DWord) : (s.setReg pg r i b v).trace = s.trace := rfl
@[simp] theorem setReg_arbLast (pg : Nat) (r : RegSpec) (i b : Nat) (v : DWord) : (s.setReg pg r i b v).arbLast = s.arbLast := rfl
@[simp] theorem setReg_arb (pg : Nat) (r : RegSpec) (i b : Nat) (v : DWord) : (s.setReg pg r i b v).arb = s.arb := rfl
@[simp] theorem setReg_marred (pg : Nat) (r : RegSpec) (i b : Nat) (v : DWord) : (s.setReg pg r i b v).marred = s.marred := rfl
@[simp] theorem setReg_flushing (pg : Nat) (r : RegSpec) (i b : Nat) (v : DWord) : (s.setReg pg r i b v).flushing = s.flushing := rfl
@[simp] theorem setReg_txns (pg : Nat) (r : RegSpec) (i b : Nat) (v : DWord) : (s.setReg pg r i b v).txns = s.txns := rfl
@[simp] theorem setReg_bays (pg : Nat) (r : RegSpec) (i b : Nat) (v : DWord) : (s.setReg pg r i b v).bays = s.bays := rfl
@[simp] theorem setReg_reg (pg : Nat) (r : RegSpec) (i b : Nat) (v : DWord) : (s.setReg pg r i b v).reg = s.reg := rfl
@[simp] theorem setReg_tr (pg : Nat) (r : RegSpec) (i b : Nat) (v : DWord) : (s.setReg pg r i b v).tr = s.tr := rfl
@[simp] theorem setReg_tray (pg : Nat) (r : RegSpec) (i b : Nat) (v : DWord) : (s.setReg pg r i b v).tray = s.tray := rfl
@[simp] theorem setReg_islands (pg : Nat) (r : RegSpec) (i b : Nat) (v : DWord) : (s.setReg pg r i b v).islands = s.islands := rfl
@[simp] theorem setReg_held (pg : Nat) (r : RegSpec) (i b : Nat) (v : DWord) : (s.setReg pg r i b v).held = s.held := rfl
@[simp] theorem setReg_crossing (pg : Nat) (r : RegSpec) (i b : Nat) (v : DWord) : (s.setReg pg r i b v).crossing = s.crossing := rfl
@[simp] theorem setReg_ft (pg : Nat) (r : RegSpec) (i b : Nat) (v : DWord) : (s.setReg pg r i b v).ft = s.ft := rfl
@[simp] theorem setReg_alert (pg : Nat) (r : RegSpec) (i b : Nat) (v : DWord) : (s.setReg pg r i b v).alert = s.alert := rfl
@[simp] theorem setReg_alertHold (pg : Nat) (r : RegSpec) (i b : Nat) (v : DWord) : (s.setReg pg r i b v).alertHold = s.alertHold := rfl
@[simp] theorem setReg_devMs (pg : Nat) (r : RegSpec) (i b : Nat) (v : DWord) : (s.setReg pg r i b v).devMs = s.devMs := rfl
@[simp] theorem setReg_comps (pg : Nat) (r : RegSpec) (i b : Nat) (v : DWord) : (s.setReg pg r i b v).comps = s.comps := rfl
@[simp] theorem setReg_events (pg : Nat) (r : RegSpec) (i b : Nat) (v : DWord) : (s.setReg pg r i b v).events = s.events := rfl
@[simp] theorem setReg_unitDone (pg : Nat) (r : RegSpec) (i b : Nat) (v : DWord) : (s.setReg pg r i b v).unitDone = s.unitDone := rfl
@[simp] theorem setReg_unitReqs (pg : Nat) (r : RegSpec) (i b : Nat) (v : DWord) : (s.setReg pg r i b v).unitReqs = s.unitReqs := rfl
@[simp] theorem setReg_loom (pg : Nat) (r : RegSpec) (i b : Nat) (v : DWord) : (s.setReg pg r i b v).loom = s.loom := rfl
@[simp] theorem setReg_sram (pg : Nat) (r : RegSpec) (i b : Nat) (v : DWord) : (s.setReg pg r i b v).sram = s.sram := rfl
@[simp] theorem setReg_keyGen (pg : Nat) (r : RegSpec) (i b : Nat) (v : DWord) : (s.setReg pg r i b v).keyGen = s.keyGen := rfl
@[simp] theorem setReg_xts (pg : Nat) (r : RegSpec) (i b : Nat) (v : DWord) : (s.setReg pg r i b v).xts = s.xts := rfl
@[simp] theorem setReg_resume (pg : Nat) (r : RegSpec) (i b : Nat) (v : DWord) : (s.setReg pg r i b v).resume = s.resume := rfl
@[simp] theorem setReg_fuses (pg : Nat) (r : RegSpec) (i b : Nat) (v : DWord) : (s.setReg pg r i b v).fuses = s.fuses := rfl
@[simp] theorem setReg_tokens (pg : Nat) (r : RegSpec) (i b : Nat) (v : DWord) : (s.setReg pg r i b v).tokens = s.tokens := rfl
@[simp] theorem setReg_timeFloor (pg : Nat) (r : RegSpec) (i b : Nat) (v : DWord) : (s.setReg pg r i b v).timeFloor = s.timeFloor := rfl
@[simp] theorem setReg_unitNext (pg : Nat) (r : RegSpec) (i b : Nat) (v : DWord) : (s.setReg pg r i b v).unitNext = s.unitNext := rfl
@[simp] theorem setReg_gates (pg : Nat) (r : RegSpec) (i b : Nat) (v : DWord) : (s.setReg pg r i b v).gates = s.gates := rfl
@[simp] theorem setReg_returns (pg : Nat) (r : RegSpec) (i b : Nat) (v : DWord) : (s.setReg pg r i b v).returns = s.returns := rfl
@[simp] theorem setReg_logs (pg : Nat) (r : RegSpec) (i b : Nat) (v : DWord) : (s.setReg pg r i b v).logs = s.logs := rfl
@[simp] theorem setReg_meterRem (pg : Nat) (r : RegSpec) (i b : Nat) (v : DWord) : (s.setReg pg r i b v).meterRem = s.meterRem := rfl
@[simp] theorem setReg_snapSeq (pg : Nat) (r : RegSpec) (i b : Nat) (v : DWord) : (s.setReg pg r i b v).snapSeq = s.snapSeq := rfl
@[simp] theorem setReg_testing (pg : Nat) (r : RegSpec) (i b : Nat) (v : DWord) : (s.setReg pg r i b v).testing = s.testing := rfl
@[simp] theorem setReg_batches (pg : Nat) (r : RegSpec) (i b : Nat) (v : DWord) : (s.setReg pg r i b v).batches = s.batches := rfl
@[simp] theorem setReg_batchNext (pg : Nat) (r : RegSpec) (i b : Nat) (v : DWord) : (s.setReg pg r i b v).batchNext = s.batchNext := rfl
@[simp] theorem setReg_trd (pg : Nat) (r : RegSpec) (i b : Nat) (v : DWord) : (s.setReg pg r i b v).trd = s.trd := rfl
@[simp] theorem setReg_bcasts (pg : Nat) (r : RegSpec) (i b : Nat) (v : DWord) : (s.setReg pg r i b v).bcasts = s.bcasts := rfl
@[simp] theorem setReg_streams (pg : Nat) (r : RegSpec) (i b : Nat) (v : DWord) : (s.setReg pg r i b v).streams = s.streams := rfl
@[simp] theorem setReg_glists (pg : Nat) (r : RegSpec) (i b : Nat) (v : DWord) : (s.setReg pg r i b v).glists = s.glists := rfl
@[simp] theorem setReg_stamps (pg : Nat) (r : RegSpec) (i b : Nat) (v : DWord) : (s.setReg pg r i b v).stamps = s.stamps := rfl
@[simp] theorem setReg_time (pg : Nat) (r : RegSpec) (i b : Nat) (v : DWord) : (s.setReg pg r i b v).time = s.time := rfl
@[simp] theorem setReg_codec (pg : Nat) (r : RegSpec) (i b : Nat) (v : DWord) : (s.setReg pg r i b v).codec = s.codec := rfl
@[simp] theorem setReg_govQ (pg : Nat) (r : RegSpec) (i b : Nat) (v : DWord) : (s.setReg pg r i b v).govQ = s.govQ := rfl
@[simp] theorem setReg_granted (pg : Nat) (r : RegSpec) (i b : Nat) (v : DWord) : (s.setReg pg r i b v).granted = s.granted := rfl
@[simp] theorem setReg_moves (pg : Nat) (r : RegSpec) (i b : Nat) (v : DWord) : (s.setReg pg r i b v).moves = s.moves := rfl
@[simp] theorem setReg_hed (pg : Nat) (r : RegSpec) (i b : Nat) (v : DWord) : (s.setReg pg r i b v).hed = s.hed := rfl
@[simp] theorem setReg_sp (pg : Nat) (r : RegSpec) (i b : Nat) (v : DWord) : (s.setReg pg r i b v).sp = s.sp := rfl
@[simp] theorem setReg_ks (pg : Nat) (r : RegSpec) (i b : Nat) (v : DWord) : (s.setReg pg r i b v).ks = s.ks := rfl
@[simp] theorem setReg_clk (pg : Nat) (r : RegSpec) (i b : Nat) (v : DWord) : (s.setReg pg r i b v).clk = s.clk := rfl
@[simp] theorem setReg_pwr (pg : Nat) (r : RegSpec) (i b : Nat) (v : DWord) : (s.setReg pg r i b v).pwr = s.pwr := rfl
@[simp] theorem setReg_rst (pg : Nat) (r : RegSpec) (i b : Nat) (v : DWord) : (s.setReg pg r i b v).rst = s.rst := rfl
@[simp] theorem setReg_flt (pg : Nat) (r : RegSpec) (i b : Nat) (v : DWord) : (s.setReg pg r i b v).flt = s.flt := rfl
@[simp] theorem setReg_host (pg : Nat) (r : RegSpec) (i b : Nat) (v : DWord) : (s.setReg pg r i b v).host = s.host := rfl
@[simp] theorem setReg_pins (pg : Nat) (r : RegSpec) (i b : Nat) (v : DWord) : (s.setReg pg r i b v).pins = s.pins := rfl

/-! ### putLine -/

@[simp] theorem putLine_pending (n o : Nat) (l : Line) : (s.putLine n o l).pending = s.pending := by unfold State.putLine; rfl
@[simp] theorem putLine_regs (n o : Nat) (l : Line) : (s.putLine n o l).regs = s.regs := by unfold State.putLine; rfl
@[simp] theorem putLine_poison (n o : Nat) (l : Line) : (s.putLine n o l).poison = s.poison := by unfold State.putLine; rfl
@[simp] theorem putLine_upsets (n o : Nat) (l : Line) : (s.putLine n o l).upsets = s.upsets := by unfold State.putLine; rfl
@[simp] theorem putLine_out (n o : Nat) (l : Line) : (s.putLine n o l).out = s.out := by unfold State.putLine; rfl
@[simp] theorem putLine_free (n o : Nat) (l : Line) : (s.putLine n o l).free = s.free := by unfold State.putLine; rfl
@[simp] theorem putLine_now (n o : Nat) (l : Line) : (s.putLine n o l).now = s.now := by unfold State.putLine; rfl
@[simp] theorem putLine_node (n o : Nat) (l : Line) : (s.putLine n o l).node = s.node := by unfold State.putLine; rfl
@[simp] theorem putLine_latches (n o : Nat) (l : Line) : (s.putLine n o l).latches = s.latches := by unfold State.putLine; rfl
@[simp] theorem putLine_staged (n o : Nat) (l : Line) : (s.putLine n o l).staged = s.staged := by unfold State.putLine; rfl
@[simp] theorem putLine_links (n o : Nat) (l : Line) : (s.putLine n o l).links = s.links := by unfold State.putLine; rfl
@[simp] theorem putLine_piers (n o : Nat) (l : Line) : (s.putLine n o l).piers = s.piers := by unfold State.putLine; rfl
@[simp] theorem putLine_landing (n o : Nat) (l : Line) : (s.putLine n o l).landing = s.landing := by unfold State.putLine; rfl
@[simp] theorem putLine_voqs (n o : Nat) (l : Line) : (s.putLine n o l).voqs = s.voqs := by unfold State.putLine; rfl
@[simp] theorem putLine_capHolds (n o : Nat) (l : Line) : (s.putLine n o l).capHolds = s.capHolds := by unfold State.putLine; rfl
@[simp] theorem putLine_capWins (n o : Nat) (l : Line) : (s.putLine n o l).capWins = s.capWins := by unfold State.putLine; rfl
@[simp] theorem putLine_policers (n o : Nat) (l : Line) : (s.putLine n o l).policers = s.policers := by unfold State.putLine; rfl
@[simp] theorem putLine_polMap (n o : Nat) (l : Line) : (s.putLine n o l).polMap = s.polMap := by unfold State.putLine; rfl
@[simp] theorem putLine_sampler (n o : Nat) (l : Line) : (s.putLine n o l).sampler = s.sampler := by unfold State.putLine; rfl
@[simp] theorem putLine_trace (n o : Nat) (l : Line) : (s.putLine n o l).trace = s.trace := by unfold State.putLine; rfl
@[simp] theorem putLine_arbLast (n o : Nat) (l : Line) : (s.putLine n o l).arbLast = s.arbLast := by unfold State.putLine; rfl
@[simp] theorem putLine_arb (n o : Nat) (l : Line) : (s.putLine n o l).arb = s.arb := by unfold State.putLine; rfl
@[simp] theorem putLine_marred (n o : Nat) (l : Line) : (s.putLine n o l).marred = s.marred := by unfold State.putLine; rfl
@[simp] theorem putLine_flushing (n o : Nat) (l : Line) : (s.putLine n o l).flushing = s.flushing := by unfold State.putLine; rfl
@[simp] theorem putLine_txns (n o : Nat) (l : Line) : (s.putLine n o l).txns = s.txns := by unfold State.putLine; rfl
@[simp] theorem putLine_bays (n o : Nat) (l : Line) : (s.putLine n o l).bays = s.bays := by unfold State.putLine; rfl
@[simp] theorem putLine_reg (n o : Nat) (l : Line) : (s.putLine n o l).reg = s.reg := by unfold State.putLine; rfl
@[simp] theorem putLine_tr (n o : Nat) (l : Line) : (s.putLine n o l).tr = s.tr := by unfold State.putLine; rfl
@[simp] theorem putLine_tray (n o : Nat) (l : Line) : (s.putLine n o l).tray = s.tray := by unfold State.putLine; rfl
@[simp] theorem putLine_islands (n o : Nat) (l : Line) : (s.putLine n o l).islands = s.islands := by unfold State.putLine; rfl
@[simp] theorem putLine_held (n o : Nat) (l : Line) : (s.putLine n o l).held = s.held := by unfold State.putLine; rfl
@[simp] theorem putLine_crossing (n o : Nat) (l : Line) : (s.putLine n o l).crossing = s.crossing := by unfold State.putLine; rfl
@[simp] theorem putLine_ft (n o : Nat) (l : Line) : (s.putLine n o l).ft = s.ft := by unfold State.putLine; rfl
@[simp] theorem putLine_alert (n o : Nat) (l : Line) : (s.putLine n o l).alert = s.alert := by unfold State.putLine; rfl
@[simp] theorem putLine_alertHold (n o : Nat) (l : Line) : (s.putLine n o l).alertHold = s.alertHold := by unfold State.putLine; rfl
@[simp] theorem putLine_devMs (n o : Nat) (l : Line) : (s.putLine n o l).devMs = s.devMs := by unfold State.putLine; rfl
@[simp] theorem putLine_comps (n o : Nat) (l : Line) : (s.putLine n o l).comps = s.comps := by unfold State.putLine; rfl
@[simp] theorem putLine_events (n o : Nat) (l : Line) : (s.putLine n o l).events = s.events := by unfold State.putLine; rfl
@[simp] theorem putLine_unitDone (n o : Nat) (l : Line) : (s.putLine n o l).unitDone = s.unitDone := by unfold State.putLine; rfl
@[simp] theorem putLine_unitReqs (n o : Nat) (l : Line) : (s.putLine n o l).unitReqs = s.unitReqs := by unfold State.putLine; rfl
@[simp] theorem putLine_loom (n o : Nat) (l : Line) : (s.putLine n o l).loom = s.loom := by unfold State.putLine; rfl
@[simp] theorem putLine_sram (n o : Nat) (l : Line) : (s.putLine n o l).sram = s.sram := by unfold State.putLine; rfl
@[simp] theorem putLine_keyGen (n o : Nat) (l : Line) : (s.putLine n o l).keyGen = s.keyGen := by unfold State.putLine; rfl
@[simp] theorem putLine_xts (n o : Nat) (l : Line) : (s.putLine n o l).xts = s.xts := by unfold State.putLine; rfl
@[simp] theorem putLine_resume (n o : Nat) (l : Line) : (s.putLine n o l).resume = s.resume := by unfold State.putLine; rfl
@[simp] theorem putLine_fuses (n o : Nat) (l : Line) : (s.putLine n o l).fuses = s.fuses := by unfold State.putLine; rfl
@[simp] theorem putLine_tokens (n o : Nat) (l : Line) : (s.putLine n o l).tokens = s.tokens := by unfold State.putLine; rfl
@[simp] theorem putLine_timeFloor (n o : Nat) (l : Line) : (s.putLine n o l).timeFloor = s.timeFloor := by unfold State.putLine; rfl
@[simp] theorem putLine_unitNext (n o : Nat) (l : Line) : (s.putLine n o l).unitNext = s.unitNext := by unfold State.putLine; rfl
@[simp] theorem putLine_gates (n o : Nat) (l : Line) : (s.putLine n o l).gates = s.gates := by unfold State.putLine; rfl
@[simp] theorem putLine_returns (n o : Nat) (l : Line) : (s.putLine n o l).returns = s.returns := by unfold State.putLine; rfl
@[simp] theorem putLine_logs (n o : Nat) (l : Line) : (s.putLine n o l).logs = s.logs := by unfold State.putLine; rfl
@[simp] theorem putLine_meterRem (n o : Nat) (l : Line) : (s.putLine n o l).meterRem = s.meterRem := by unfold State.putLine; rfl
@[simp] theorem putLine_snapSeq (n o : Nat) (l : Line) : (s.putLine n o l).snapSeq = s.snapSeq := by unfold State.putLine; rfl
@[simp] theorem putLine_testing (n o : Nat) (l : Line) : (s.putLine n o l).testing = s.testing := by unfold State.putLine; rfl
@[simp] theorem putLine_batches (n o : Nat) (l : Line) : (s.putLine n o l).batches = s.batches := by unfold State.putLine; rfl
@[simp] theorem putLine_batchNext (n o : Nat) (l : Line) : (s.putLine n o l).batchNext = s.batchNext := by unfold State.putLine; rfl
@[simp] theorem putLine_trd (n o : Nat) (l : Line) : (s.putLine n o l).trd = s.trd := by unfold State.putLine; rfl
@[simp] theorem putLine_bcasts (n o : Nat) (l : Line) : (s.putLine n o l).bcasts = s.bcasts := by unfold State.putLine; rfl
@[simp] theorem putLine_streams (n o : Nat) (l : Line) : (s.putLine n o l).streams = s.streams := by unfold State.putLine; rfl
@[simp] theorem putLine_glists (n o : Nat) (l : Line) : (s.putLine n o l).glists = s.glists := by unfold State.putLine; rfl
@[simp] theorem putLine_stamps (n o : Nat) (l : Line) : (s.putLine n o l).stamps = s.stamps := by unfold State.putLine; rfl
@[simp] theorem putLine_time (n o : Nat) (l : Line) : (s.putLine n o l).time = s.time := by unfold State.putLine; rfl
@[simp] theorem putLine_codec (n o : Nat) (l : Line) : (s.putLine n o l).codec = s.codec := by unfold State.putLine; rfl
@[simp] theorem putLine_govQ (n o : Nat) (l : Line) : (s.putLine n o l).govQ = s.govQ := by unfold State.putLine; rfl
@[simp] theorem putLine_granted (n o : Nat) (l : Line) : (s.putLine n o l).granted = s.granted := by unfold State.putLine; rfl
@[simp] theorem putLine_moves (n o : Nat) (l : Line) : (s.putLine n o l).moves = s.moves := by unfold State.putLine; rfl
@[simp] theorem putLine_hed (n o : Nat) (l : Line) : (s.putLine n o l).hed = s.hed := by unfold State.putLine; rfl
@[simp] theorem putLine_sp (n o : Nat) (l : Line) : (s.putLine n o l).sp = s.sp := by unfold State.putLine; rfl
@[simp] theorem putLine_ks (n o : Nat) (l : Line) : (s.putLine n o l).ks = s.ks := by unfold State.putLine; rfl
@[simp] theorem putLine_clk (n o : Nat) (l : Line) : (s.putLine n o l).clk = s.clk := by unfold State.putLine; rfl
@[simp] theorem putLine_pwr (n o : Nat) (l : Line) : (s.putLine n o l).pwr = s.pwr := by unfold State.putLine; rfl
@[simp] theorem putLine_rst (n o : Nat) (l : Line) : (s.putLine n o l).rst = s.rst := by unfold State.putLine; rfl
@[simp] theorem putLine_flt (n o : Nat) (l : Line) : (s.putLine n o l).flt = s.flt := by unfold State.putLine; rfl
@[simp] theorem putLine_host (n o : Nat) (l : Line) : (s.putLine n o l).host = s.host := by unfold State.putLine; rfl
@[simp] theorem putLine_pins (n o : Nat) (l : Line) : (s.putLine n o l).pins = s.pins := by unfold State.putLine; rfl

/-! ### setBay -/

@[simp] theorem setBay_pending (n : Nat) (b : BaySt) : (s.setBay n b).pending = s.pending := rfl
@[simp] theorem setBay_regs (n : Nat) (b : BaySt) : (s.setBay n b).regs = s.regs := rfl
@[simp] theorem setBay_mem (n : Nat) (b : BaySt) : (s.setBay n b).mem = s.mem := rfl
@[simp] theorem setBay_poison (n : Nat) (b : BaySt) : (s.setBay n b).poison = s.poison := rfl
@[simp] theorem setBay_upsets (n : Nat) (b : BaySt) : (s.setBay n b).upsets = s.upsets := rfl
@[simp] theorem setBay_out (n : Nat) (b : BaySt) : (s.setBay n b).out = s.out := rfl
@[simp] theorem setBay_free (n : Nat) (b : BaySt) : (s.setBay n b).free = s.free := rfl
@[simp] theorem setBay_now (n : Nat) (b : BaySt) : (s.setBay n b).now = s.now := rfl
@[simp] theorem setBay_node (n : Nat) (b : BaySt) : (s.setBay n b).node = s.node := rfl
@[simp] theorem setBay_latches (n : Nat) (b : BaySt) : (s.setBay n b).latches = s.latches := rfl
@[simp] theorem setBay_staged (n : Nat) (b : BaySt) : (s.setBay n b).staged = s.staged := rfl
@[simp] theorem setBay_links (n : Nat) (b : BaySt) : (s.setBay n b).links = s.links := rfl
@[simp] theorem setBay_piers (n : Nat) (b : BaySt) : (s.setBay n b).piers = s.piers := rfl
@[simp] theorem setBay_landing (n : Nat) (b : BaySt) : (s.setBay n b).landing = s.landing := rfl
@[simp] theorem setBay_voqs (n : Nat) (b : BaySt) : (s.setBay n b).voqs = s.voqs := rfl
@[simp] theorem setBay_capHolds (n : Nat) (b : BaySt) : (s.setBay n b).capHolds = s.capHolds := rfl
@[simp] theorem setBay_capWins (n : Nat) (b : BaySt) : (s.setBay n b).capWins = s.capWins := rfl
@[simp] theorem setBay_policers (n : Nat) (b : BaySt) : (s.setBay n b).policers = s.policers := rfl
@[simp] theorem setBay_polMap (n : Nat) (b : BaySt) : (s.setBay n b).polMap = s.polMap := rfl
@[simp] theorem setBay_sampler (n : Nat) (b : BaySt) : (s.setBay n b).sampler = s.sampler := rfl
@[simp] theorem setBay_trace (n : Nat) (b : BaySt) : (s.setBay n b).trace = s.trace := rfl
@[simp] theorem setBay_arbLast (n : Nat) (b : BaySt) : (s.setBay n b).arbLast = s.arbLast := rfl
@[simp] theorem setBay_arb (n : Nat) (b : BaySt) : (s.setBay n b).arb = s.arb := rfl
@[simp] theorem setBay_marred (n : Nat) (b : BaySt) : (s.setBay n b).marred = s.marred := rfl
@[simp] theorem setBay_flushing (n : Nat) (b : BaySt) : (s.setBay n b).flushing = s.flushing := rfl
@[simp] theorem setBay_txns (n : Nat) (b : BaySt) : (s.setBay n b).txns = s.txns := rfl
@[simp] theorem setBay_reg (n : Nat) (b : BaySt) : (s.setBay n b).reg = s.reg := rfl
@[simp] theorem setBay_tr (n : Nat) (b : BaySt) : (s.setBay n b).tr = s.tr := rfl
@[simp] theorem setBay_tray (n : Nat) (b : BaySt) : (s.setBay n b).tray = s.tray := rfl
@[simp] theorem setBay_islands (n : Nat) (b : BaySt) : (s.setBay n b).islands = s.islands := rfl
@[simp] theorem setBay_held (n : Nat) (b : BaySt) : (s.setBay n b).held = s.held := rfl
@[simp] theorem setBay_crossing (n : Nat) (b : BaySt) : (s.setBay n b).crossing = s.crossing := rfl
@[simp] theorem setBay_ft (n : Nat) (b : BaySt) : (s.setBay n b).ft = s.ft := rfl
@[simp] theorem setBay_alert (n : Nat) (b : BaySt) : (s.setBay n b).alert = s.alert := rfl
@[simp] theorem setBay_alertHold (n : Nat) (b : BaySt) : (s.setBay n b).alertHold = s.alertHold := rfl
@[simp] theorem setBay_devMs (n : Nat) (b : BaySt) : (s.setBay n b).devMs = s.devMs := rfl
@[simp] theorem setBay_comps (n : Nat) (b : BaySt) : (s.setBay n b).comps = s.comps := rfl
@[simp] theorem setBay_events (n : Nat) (b : BaySt) : (s.setBay n b).events = s.events := rfl
@[simp] theorem setBay_unitDone (n : Nat) (b : BaySt) : (s.setBay n b).unitDone = s.unitDone := rfl
@[simp] theorem setBay_unitReqs (n : Nat) (b : BaySt) : (s.setBay n b).unitReqs = s.unitReqs := rfl
@[simp] theorem setBay_loom (n : Nat) (b : BaySt) : (s.setBay n b).loom = s.loom := rfl
@[simp] theorem setBay_sram (n : Nat) (b : BaySt) : (s.setBay n b).sram = s.sram := rfl
@[simp] theorem setBay_keyGen (n : Nat) (b : BaySt) : (s.setBay n b).keyGen = s.keyGen := rfl
@[simp] theorem setBay_xts (n : Nat) (b : BaySt) : (s.setBay n b).xts = s.xts := rfl
@[simp] theorem setBay_resume (n : Nat) (b : BaySt) : (s.setBay n b).resume = s.resume := rfl
@[simp] theorem setBay_fuses (n : Nat) (b : BaySt) : (s.setBay n b).fuses = s.fuses := rfl
@[simp] theorem setBay_tokens (n : Nat) (b : BaySt) : (s.setBay n b).tokens = s.tokens := rfl
@[simp] theorem setBay_timeFloor (n : Nat) (b : BaySt) : (s.setBay n b).timeFloor = s.timeFloor := rfl
@[simp] theorem setBay_unitNext (n : Nat) (b : BaySt) : (s.setBay n b).unitNext = s.unitNext := rfl
@[simp] theorem setBay_gates (n : Nat) (b : BaySt) : (s.setBay n b).gates = s.gates := rfl
@[simp] theorem setBay_returns (n : Nat) (b : BaySt) : (s.setBay n b).returns = s.returns := rfl
@[simp] theorem setBay_logs (n : Nat) (b : BaySt) : (s.setBay n b).logs = s.logs := rfl
@[simp] theorem setBay_meterRem (n : Nat) (b : BaySt) : (s.setBay n b).meterRem = s.meterRem := rfl
@[simp] theorem setBay_snapSeq (n : Nat) (b : BaySt) : (s.setBay n b).snapSeq = s.snapSeq := rfl
@[simp] theorem setBay_testing (n : Nat) (b : BaySt) : (s.setBay n b).testing = s.testing := rfl
@[simp] theorem setBay_batches (n : Nat) (b : BaySt) : (s.setBay n b).batches = s.batches := rfl
@[simp] theorem setBay_batchNext (n : Nat) (b : BaySt) : (s.setBay n b).batchNext = s.batchNext := rfl
@[simp] theorem setBay_trd (n : Nat) (b : BaySt) : (s.setBay n b).trd = s.trd := rfl
@[simp] theorem setBay_bcasts (n : Nat) (b : BaySt) : (s.setBay n b).bcasts = s.bcasts := rfl
@[simp] theorem setBay_streams (n : Nat) (b : BaySt) : (s.setBay n b).streams = s.streams := rfl
@[simp] theorem setBay_glists (n : Nat) (b : BaySt) : (s.setBay n b).glists = s.glists := rfl
@[simp] theorem setBay_stamps (n : Nat) (b : BaySt) : (s.setBay n b).stamps = s.stamps := rfl
@[simp] theorem setBay_time (n : Nat) (b : BaySt) : (s.setBay n b).time = s.time := rfl
@[simp] theorem setBay_codec (n : Nat) (b : BaySt) : (s.setBay n b).codec = s.codec := rfl
@[simp] theorem setBay_govQ (n : Nat) (b : BaySt) : (s.setBay n b).govQ = s.govQ := rfl
@[simp] theorem setBay_granted (n : Nat) (b : BaySt) : (s.setBay n b).granted = s.granted := rfl
@[simp] theorem setBay_moves (n : Nat) (b : BaySt) : (s.setBay n b).moves = s.moves := rfl
@[simp] theorem setBay_hed (n : Nat) (b : BaySt) : (s.setBay n b).hed = s.hed := rfl
@[simp] theorem setBay_sp (n : Nat) (b : BaySt) : (s.setBay n b).sp = s.sp := rfl
@[simp] theorem setBay_ks (n : Nat) (b : BaySt) : (s.setBay n b).ks = s.ks := rfl
@[simp] theorem setBay_clk (n : Nat) (b : BaySt) : (s.setBay n b).clk = s.clk := rfl
@[simp] theorem setBay_pwr (n : Nat) (b : BaySt) : (s.setBay n b).pwr = s.pwr := rfl
@[simp] theorem setBay_rst (n : Nat) (b : BaySt) : (s.setBay n b).rst = s.rst := rfl
@[simp] theorem setBay_flt (n : Nat) (b : BaySt) : (s.setBay n b).flt = s.flt := rfl
@[simp] theorem setBay_host (n : Nat) (b : BaySt) : (s.setBay n b).host = s.host := rfl
@[simp] theorem setBay_pins (n : Nat) (b : BaySt) : (s.setBay n b).pins = s.pins := rfl

/-! ### setLink -/

@[simp] theorem setLink_pending (x : Nat) (l : Link) : (s.setLink x l).pending = s.pending := rfl
@[simp] theorem setLink_regs (x : Nat) (l : Link) : (s.setLink x l).regs = s.regs := rfl
@[simp] theorem setLink_mem (x : Nat) (l : Link) : (s.setLink x l).mem = s.mem := rfl
@[simp] theorem setLink_poison (x : Nat) (l : Link) : (s.setLink x l).poison = s.poison := rfl
@[simp] theorem setLink_upsets (x : Nat) (l : Link) : (s.setLink x l).upsets = s.upsets := rfl
@[simp] theorem setLink_out (x : Nat) (l : Link) : (s.setLink x l).out = s.out := rfl
@[simp] theorem setLink_free (x : Nat) (l : Link) : (s.setLink x l).free = s.free := rfl
@[simp] theorem setLink_now (x : Nat) (l : Link) : (s.setLink x l).now = s.now := rfl
@[simp] theorem setLink_node (x : Nat) (l : Link) : (s.setLink x l).node = s.node := rfl
@[simp] theorem setLink_latches (x : Nat) (l : Link) : (s.setLink x l).latches = s.latches := rfl
@[simp] theorem setLink_staged (x : Nat) (l : Link) : (s.setLink x l).staged = s.staged := rfl
@[simp] theorem setLink_piers (x : Nat) (l : Link) : (s.setLink x l).piers = s.piers := rfl
@[simp] theorem setLink_landing (x : Nat) (l : Link) : (s.setLink x l).landing = s.landing := rfl
@[simp] theorem setLink_voqs (x : Nat) (l : Link) : (s.setLink x l).voqs = s.voqs := rfl
@[simp] theorem setLink_capHolds (x : Nat) (l : Link) : (s.setLink x l).capHolds = s.capHolds := rfl
@[simp] theorem setLink_capWins (x : Nat) (l : Link) : (s.setLink x l).capWins = s.capWins := rfl
@[simp] theorem setLink_policers (x : Nat) (l : Link) : (s.setLink x l).policers = s.policers := rfl
@[simp] theorem setLink_polMap (x : Nat) (l : Link) : (s.setLink x l).polMap = s.polMap := rfl
@[simp] theorem setLink_sampler (x : Nat) (l : Link) : (s.setLink x l).sampler = s.sampler := rfl
@[simp] theorem setLink_trace (x : Nat) (l : Link) : (s.setLink x l).trace = s.trace := rfl
@[simp] theorem setLink_arbLast (x : Nat) (l : Link) : (s.setLink x l).arbLast = s.arbLast := rfl
@[simp] theorem setLink_arb (x : Nat) (l : Link) : (s.setLink x l).arb = s.arb := rfl
@[simp] theorem setLink_marred (x : Nat) (l : Link) : (s.setLink x l).marred = s.marred := rfl
@[simp] theorem setLink_flushing (x : Nat) (l : Link) : (s.setLink x l).flushing = s.flushing := rfl
@[simp] theorem setLink_txns (x : Nat) (l : Link) : (s.setLink x l).txns = s.txns := rfl
@[simp] theorem setLink_bays (x : Nat) (l : Link) : (s.setLink x l).bays = s.bays := rfl
@[simp] theorem setLink_reg (x : Nat) (l : Link) : (s.setLink x l).reg = s.reg := rfl
@[simp] theorem setLink_tr (x : Nat) (l : Link) : (s.setLink x l).tr = s.tr := rfl
@[simp] theorem setLink_tray (x : Nat) (l : Link) : (s.setLink x l).tray = s.tray := rfl
@[simp] theorem setLink_islands (x : Nat) (l : Link) : (s.setLink x l).islands = s.islands := rfl
@[simp] theorem setLink_held (x : Nat) (l : Link) : (s.setLink x l).held = s.held := rfl
@[simp] theorem setLink_crossing (x : Nat) (l : Link) : (s.setLink x l).crossing = s.crossing := rfl
@[simp] theorem setLink_ft (x : Nat) (l : Link) : (s.setLink x l).ft = s.ft := rfl
@[simp] theorem setLink_alert (x : Nat) (l : Link) : (s.setLink x l).alert = s.alert := rfl
@[simp] theorem setLink_alertHold (x : Nat) (l : Link) : (s.setLink x l).alertHold = s.alertHold := rfl
@[simp] theorem setLink_devMs (x : Nat) (l : Link) : (s.setLink x l).devMs = s.devMs := rfl
@[simp] theorem setLink_comps (x : Nat) (l : Link) : (s.setLink x l).comps = s.comps := rfl
@[simp] theorem setLink_events (x : Nat) (l : Link) : (s.setLink x l).events = s.events := rfl
@[simp] theorem setLink_unitDone (x : Nat) (l : Link) : (s.setLink x l).unitDone = s.unitDone := rfl
@[simp] theorem setLink_unitReqs (x : Nat) (l : Link) : (s.setLink x l).unitReqs = s.unitReqs := rfl
@[simp] theorem setLink_loom (x : Nat) (l : Link) : (s.setLink x l).loom = s.loom := rfl
@[simp] theorem setLink_sram (x : Nat) (l : Link) : (s.setLink x l).sram = s.sram := rfl
@[simp] theorem setLink_keyGen (x : Nat) (l : Link) : (s.setLink x l).keyGen = s.keyGen := rfl
@[simp] theorem setLink_xts (x : Nat) (l : Link) : (s.setLink x l).xts = s.xts := rfl
@[simp] theorem setLink_resume (x : Nat) (l : Link) : (s.setLink x l).resume = s.resume := rfl
@[simp] theorem setLink_fuses (x : Nat) (l : Link) : (s.setLink x l).fuses = s.fuses := rfl
@[simp] theorem setLink_tokens (x : Nat) (l : Link) : (s.setLink x l).tokens = s.tokens := rfl
@[simp] theorem setLink_timeFloor (x : Nat) (l : Link) : (s.setLink x l).timeFloor = s.timeFloor := rfl
@[simp] theorem setLink_unitNext (x : Nat) (l : Link) : (s.setLink x l).unitNext = s.unitNext := rfl
@[simp] theorem setLink_gates (x : Nat) (l : Link) : (s.setLink x l).gates = s.gates := rfl
@[simp] theorem setLink_returns (x : Nat) (l : Link) : (s.setLink x l).returns = s.returns := rfl
@[simp] theorem setLink_logs (x : Nat) (l : Link) : (s.setLink x l).logs = s.logs := rfl
@[simp] theorem setLink_meterRem (x : Nat) (l : Link) : (s.setLink x l).meterRem = s.meterRem := rfl
@[simp] theorem setLink_snapSeq (x : Nat) (l : Link) : (s.setLink x l).snapSeq = s.snapSeq := rfl
@[simp] theorem setLink_testing (x : Nat) (l : Link) : (s.setLink x l).testing = s.testing := rfl
@[simp] theorem setLink_batches (x : Nat) (l : Link) : (s.setLink x l).batches = s.batches := rfl
@[simp] theorem setLink_batchNext (x : Nat) (l : Link) : (s.setLink x l).batchNext = s.batchNext := rfl
@[simp] theorem setLink_trd (x : Nat) (l : Link) : (s.setLink x l).trd = s.trd := rfl
@[simp] theorem setLink_bcasts (x : Nat) (l : Link) : (s.setLink x l).bcasts = s.bcasts := rfl
@[simp] theorem setLink_streams (x : Nat) (l : Link) : (s.setLink x l).streams = s.streams := rfl
@[simp] theorem setLink_glists (x : Nat) (l : Link) : (s.setLink x l).glists = s.glists := rfl
@[simp] theorem setLink_stamps (x : Nat) (l : Link) : (s.setLink x l).stamps = s.stamps := rfl
@[simp] theorem setLink_time (x : Nat) (l : Link) : (s.setLink x l).time = s.time := rfl
@[simp] theorem setLink_codec (x : Nat) (l : Link) : (s.setLink x l).codec = s.codec := rfl
@[simp] theorem setLink_govQ (x : Nat) (l : Link) : (s.setLink x l).govQ = s.govQ := rfl
@[simp] theorem setLink_granted (x : Nat) (l : Link) : (s.setLink x l).granted = s.granted := rfl
@[simp] theorem setLink_moves (x : Nat) (l : Link) : (s.setLink x l).moves = s.moves := rfl
@[simp] theorem setLink_hed (x : Nat) (l : Link) : (s.setLink x l).hed = s.hed := rfl
@[simp] theorem setLink_sp (x : Nat) (l : Link) : (s.setLink x l).sp = s.sp := rfl
@[simp] theorem setLink_ks (x : Nat) (l : Link) : (s.setLink x l).ks = s.ks := rfl
@[simp] theorem setLink_clk (x : Nat) (l : Link) : (s.setLink x l).clk = s.clk := rfl
@[simp] theorem setLink_pwr (x : Nat) (l : Link) : (s.setLink x l).pwr = s.pwr := rfl
@[simp] theorem setLink_rst (x : Nat) (l : Link) : (s.setLink x l).rst = s.rst := rfl
@[simp] theorem setLink_flt (x : Nat) (l : Link) : (s.setLink x l).flt = s.flt := rfl
@[simp] theorem setLink_host (x : Nat) (l : Link) : (s.setLink x l).host = s.host := rfl
@[simp] theorem setLink_pins (x : Nat) (l : Link) : (s.setLink x l).pins = s.pins := rfl

/-! ### setPier -/

@[simp] theorem setPier_pending (p : Nat) (v : PierSt) : (s.setPier p v).pending = s.pending := rfl
@[simp] theorem setPier_regs (p : Nat) (v : PierSt) : (s.setPier p v).regs = s.regs := rfl
@[simp] theorem setPier_mem (p : Nat) (v : PierSt) : (s.setPier p v).mem = s.mem := rfl
@[simp] theorem setPier_poison (p : Nat) (v : PierSt) : (s.setPier p v).poison = s.poison := rfl
@[simp] theorem setPier_upsets (p : Nat) (v : PierSt) : (s.setPier p v).upsets = s.upsets := rfl
@[simp] theorem setPier_out (p : Nat) (v : PierSt) : (s.setPier p v).out = s.out := rfl
@[simp] theorem setPier_free (p : Nat) (v : PierSt) : (s.setPier p v).free = s.free := rfl
@[simp] theorem setPier_now (p : Nat) (v : PierSt) : (s.setPier p v).now = s.now := rfl
@[simp] theorem setPier_node (p : Nat) (v : PierSt) : (s.setPier p v).node = s.node := rfl
@[simp] theorem setPier_latches (p : Nat) (v : PierSt) : (s.setPier p v).latches = s.latches := rfl
@[simp] theorem setPier_staged (p : Nat) (v : PierSt) : (s.setPier p v).staged = s.staged := rfl
@[simp] theorem setPier_links (p : Nat) (v : PierSt) : (s.setPier p v).links = s.links := rfl
@[simp] theorem setPier_landing (p : Nat) (v : PierSt) : (s.setPier p v).landing = s.landing := rfl
@[simp] theorem setPier_voqs (p : Nat) (v : PierSt) : (s.setPier p v).voqs = s.voqs := rfl
@[simp] theorem setPier_capHolds (p : Nat) (v : PierSt) : (s.setPier p v).capHolds = s.capHolds := rfl
@[simp] theorem setPier_capWins (p : Nat) (v : PierSt) : (s.setPier p v).capWins = s.capWins := rfl
@[simp] theorem setPier_policers (p : Nat) (v : PierSt) : (s.setPier p v).policers = s.policers := rfl
@[simp] theorem setPier_polMap (p : Nat) (v : PierSt) : (s.setPier p v).polMap = s.polMap := rfl
@[simp] theorem setPier_sampler (p : Nat) (v : PierSt) : (s.setPier p v).sampler = s.sampler := rfl
@[simp] theorem setPier_trace (p : Nat) (v : PierSt) : (s.setPier p v).trace = s.trace := rfl
@[simp] theorem setPier_arbLast (p : Nat) (v : PierSt) : (s.setPier p v).arbLast = s.arbLast := rfl
@[simp] theorem setPier_arb (p : Nat) (v : PierSt) : (s.setPier p v).arb = s.arb := rfl
@[simp] theorem setPier_marred (p : Nat) (v : PierSt) : (s.setPier p v).marred = s.marred := rfl
@[simp] theorem setPier_flushing (p : Nat) (v : PierSt) : (s.setPier p v).flushing = s.flushing := rfl
@[simp] theorem setPier_txns (p : Nat) (v : PierSt) : (s.setPier p v).txns = s.txns := rfl
@[simp] theorem setPier_bays (p : Nat) (v : PierSt) : (s.setPier p v).bays = s.bays := rfl
@[simp] theorem setPier_reg (p : Nat) (v : PierSt) : (s.setPier p v).reg = s.reg := rfl
@[simp] theorem setPier_tr (p : Nat) (v : PierSt) : (s.setPier p v).tr = s.tr := rfl
@[simp] theorem setPier_tray (p : Nat) (v : PierSt) : (s.setPier p v).tray = s.tray := rfl
@[simp] theorem setPier_islands (p : Nat) (v : PierSt) : (s.setPier p v).islands = s.islands := rfl
@[simp] theorem setPier_held (p : Nat) (v : PierSt) : (s.setPier p v).held = s.held := rfl
@[simp] theorem setPier_crossing (p : Nat) (v : PierSt) : (s.setPier p v).crossing = s.crossing := rfl
@[simp] theorem setPier_ft (p : Nat) (v : PierSt) : (s.setPier p v).ft = s.ft := rfl
@[simp] theorem setPier_alert (p : Nat) (v : PierSt) : (s.setPier p v).alert = s.alert := rfl
@[simp] theorem setPier_alertHold (p : Nat) (v : PierSt) : (s.setPier p v).alertHold = s.alertHold := rfl
@[simp] theorem setPier_devMs (p : Nat) (v : PierSt) : (s.setPier p v).devMs = s.devMs := rfl
@[simp] theorem setPier_comps (p : Nat) (v : PierSt) : (s.setPier p v).comps = s.comps := rfl
@[simp] theorem setPier_events (p : Nat) (v : PierSt) : (s.setPier p v).events = s.events := rfl
@[simp] theorem setPier_unitDone (p : Nat) (v : PierSt) : (s.setPier p v).unitDone = s.unitDone := rfl
@[simp] theorem setPier_unitReqs (p : Nat) (v : PierSt) : (s.setPier p v).unitReqs = s.unitReqs := rfl
@[simp] theorem setPier_loom (p : Nat) (v : PierSt) : (s.setPier p v).loom = s.loom := rfl
@[simp] theorem setPier_sram (p : Nat) (v : PierSt) : (s.setPier p v).sram = s.sram := rfl
@[simp] theorem setPier_keyGen (p : Nat) (v : PierSt) : (s.setPier p v).keyGen = s.keyGen := rfl
@[simp] theorem setPier_xts (p : Nat) (v : PierSt) : (s.setPier p v).xts = s.xts := rfl
@[simp] theorem setPier_resume (p : Nat) (v : PierSt) : (s.setPier p v).resume = s.resume := rfl
@[simp] theorem setPier_fuses (p : Nat) (v : PierSt) : (s.setPier p v).fuses = s.fuses := rfl
@[simp] theorem setPier_tokens (p : Nat) (v : PierSt) : (s.setPier p v).tokens = s.tokens := rfl
@[simp] theorem setPier_timeFloor (p : Nat) (v : PierSt) : (s.setPier p v).timeFloor = s.timeFloor := rfl
@[simp] theorem setPier_unitNext (p : Nat) (v : PierSt) : (s.setPier p v).unitNext = s.unitNext := rfl
@[simp] theorem setPier_gates (p : Nat) (v : PierSt) : (s.setPier p v).gates = s.gates := rfl
@[simp] theorem setPier_returns (p : Nat) (v : PierSt) : (s.setPier p v).returns = s.returns := rfl
@[simp] theorem setPier_logs (p : Nat) (v : PierSt) : (s.setPier p v).logs = s.logs := rfl
@[simp] theorem setPier_meterRem (p : Nat) (v : PierSt) : (s.setPier p v).meterRem = s.meterRem := rfl
@[simp] theorem setPier_snapSeq (p : Nat) (v : PierSt) : (s.setPier p v).snapSeq = s.snapSeq := rfl
@[simp] theorem setPier_testing (p : Nat) (v : PierSt) : (s.setPier p v).testing = s.testing := rfl
@[simp] theorem setPier_batches (p : Nat) (v : PierSt) : (s.setPier p v).batches = s.batches := rfl
@[simp] theorem setPier_batchNext (p : Nat) (v : PierSt) : (s.setPier p v).batchNext = s.batchNext := rfl
@[simp] theorem setPier_trd (p : Nat) (v : PierSt) : (s.setPier p v).trd = s.trd := rfl
@[simp] theorem setPier_bcasts (p : Nat) (v : PierSt) : (s.setPier p v).bcasts = s.bcasts := rfl
@[simp] theorem setPier_streams (p : Nat) (v : PierSt) : (s.setPier p v).streams = s.streams := rfl
@[simp] theorem setPier_glists (p : Nat) (v : PierSt) : (s.setPier p v).glists = s.glists := rfl
@[simp] theorem setPier_stamps (p : Nat) (v : PierSt) : (s.setPier p v).stamps = s.stamps := rfl
@[simp] theorem setPier_time (p : Nat) (v : PierSt) : (s.setPier p v).time = s.time := rfl
@[simp] theorem setPier_codec (p : Nat) (v : PierSt) : (s.setPier p v).codec = s.codec := rfl
@[simp] theorem setPier_govQ (p : Nat) (v : PierSt) : (s.setPier p v).govQ = s.govQ := rfl
@[simp] theorem setPier_granted (p : Nat) (v : PierSt) : (s.setPier p v).granted = s.granted := rfl
@[simp] theorem setPier_moves (p : Nat) (v : PierSt) : (s.setPier p v).moves = s.moves := rfl
@[simp] theorem setPier_hed (p : Nat) (v : PierSt) : (s.setPier p v).hed = s.hed := rfl
@[simp] theorem setPier_sp (p : Nat) (v : PierSt) : (s.setPier p v).sp = s.sp := rfl
@[simp] theorem setPier_ks (p : Nat) (v : PierSt) : (s.setPier p v).ks = s.ks := rfl
@[simp] theorem setPier_clk (p : Nat) (v : PierSt) : (s.setPier p v).clk = s.clk := rfl
@[simp] theorem setPier_pwr (p : Nat) (v : PierSt) : (s.setPier p v).pwr = s.pwr := rfl
@[simp] theorem setPier_rst (p : Nat) (v : PierSt) : (s.setPier p v).rst = s.rst := rfl
@[simp] theorem setPier_flt (p : Nat) (v : PierSt) : (s.setPier p v).flt = s.flt := rfl
@[simp] theorem setPier_host (p : Nat) (v : PierSt) : (s.setPier p v).host = s.host := rfl
@[simp] theorem setPier_pins (p : Nat) (v : PierSt) : (s.setPier p v).pins = s.pins := rfl

/-! ### setSpu -/

@[simp] theorem setSpu_pending (n k : Nat) (u : SpUnit) : (s.setSpu n k u).pending = s.pending := rfl
@[simp] theorem setSpu_regs (n k : Nat) (u : SpUnit) : (s.setSpu n k u).regs = s.regs := rfl
@[simp] theorem setSpu_mem (n k : Nat) (u : SpUnit) : (s.setSpu n k u).mem = s.mem := rfl
@[simp] theorem setSpu_poison (n k : Nat) (u : SpUnit) : (s.setSpu n k u).poison = s.poison := rfl
@[simp] theorem setSpu_upsets (n k : Nat) (u : SpUnit) : (s.setSpu n k u).upsets = s.upsets := rfl
@[simp] theorem setSpu_out (n k : Nat) (u : SpUnit) : (s.setSpu n k u).out = s.out := rfl
@[simp] theorem setSpu_free (n k : Nat) (u : SpUnit) : (s.setSpu n k u).free = s.free := rfl
@[simp] theorem setSpu_now (n k : Nat) (u : SpUnit) : (s.setSpu n k u).now = s.now := rfl
@[simp] theorem setSpu_node (n k : Nat) (u : SpUnit) : (s.setSpu n k u).node = s.node := rfl
@[simp] theorem setSpu_latches (n k : Nat) (u : SpUnit) : (s.setSpu n k u).latches = s.latches := rfl
@[simp] theorem setSpu_staged (n k : Nat) (u : SpUnit) : (s.setSpu n k u).staged = s.staged := rfl
@[simp] theorem setSpu_links (n k : Nat) (u : SpUnit) : (s.setSpu n k u).links = s.links := rfl
@[simp] theorem setSpu_piers (n k : Nat) (u : SpUnit) : (s.setSpu n k u).piers = s.piers := rfl
@[simp] theorem setSpu_landing (n k : Nat) (u : SpUnit) : (s.setSpu n k u).landing = s.landing := rfl
@[simp] theorem setSpu_voqs (n k : Nat) (u : SpUnit) : (s.setSpu n k u).voqs = s.voqs := rfl
@[simp] theorem setSpu_capHolds (n k : Nat) (u : SpUnit) : (s.setSpu n k u).capHolds = s.capHolds := rfl
@[simp] theorem setSpu_capWins (n k : Nat) (u : SpUnit) : (s.setSpu n k u).capWins = s.capWins := rfl
@[simp] theorem setSpu_policers (n k : Nat) (u : SpUnit) : (s.setSpu n k u).policers = s.policers := rfl
@[simp] theorem setSpu_polMap (n k : Nat) (u : SpUnit) : (s.setSpu n k u).polMap = s.polMap := rfl
@[simp] theorem setSpu_sampler (n k : Nat) (u : SpUnit) : (s.setSpu n k u).sampler = s.sampler := rfl
@[simp] theorem setSpu_trace (n k : Nat) (u : SpUnit) : (s.setSpu n k u).trace = s.trace := rfl
@[simp] theorem setSpu_arbLast (n k : Nat) (u : SpUnit) : (s.setSpu n k u).arbLast = s.arbLast := rfl
@[simp] theorem setSpu_arb (n k : Nat) (u : SpUnit) : (s.setSpu n k u).arb = s.arb := rfl
@[simp] theorem setSpu_marred (n k : Nat) (u : SpUnit) : (s.setSpu n k u).marred = s.marred := rfl
@[simp] theorem setSpu_flushing (n k : Nat) (u : SpUnit) : (s.setSpu n k u).flushing = s.flushing := rfl
@[simp] theorem setSpu_txns (n k : Nat) (u : SpUnit) : (s.setSpu n k u).txns = s.txns := rfl
@[simp] theorem setSpu_bays (n k : Nat) (u : SpUnit) : (s.setSpu n k u).bays = s.bays := rfl
@[simp] theorem setSpu_reg (n k : Nat) (u : SpUnit) : (s.setSpu n k u).reg = s.reg := rfl
@[simp] theorem setSpu_tr (n k : Nat) (u : SpUnit) : (s.setSpu n k u).tr = s.tr := rfl
@[simp] theorem setSpu_tray (n k : Nat) (u : SpUnit) : (s.setSpu n k u).tray = s.tray := rfl
@[simp] theorem setSpu_islands (n k : Nat) (u : SpUnit) : (s.setSpu n k u).islands = s.islands := rfl
@[simp] theorem setSpu_held (n k : Nat) (u : SpUnit) : (s.setSpu n k u).held = s.held := rfl
@[simp] theorem setSpu_crossing (n k : Nat) (u : SpUnit) : (s.setSpu n k u).crossing = s.crossing := rfl
@[simp] theorem setSpu_ft (n k : Nat) (u : SpUnit) : (s.setSpu n k u).ft = s.ft := rfl
@[simp] theorem setSpu_alert (n k : Nat) (u : SpUnit) : (s.setSpu n k u).alert = s.alert := rfl
@[simp] theorem setSpu_alertHold (n k : Nat) (u : SpUnit) : (s.setSpu n k u).alertHold = s.alertHold := rfl
@[simp] theorem setSpu_devMs (n k : Nat) (u : SpUnit) : (s.setSpu n k u).devMs = s.devMs := rfl
@[simp] theorem setSpu_comps (n k : Nat) (u : SpUnit) : (s.setSpu n k u).comps = s.comps := rfl
@[simp] theorem setSpu_events (n k : Nat) (u : SpUnit) : (s.setSpu n k u).events = s.events := rfl
@[simp] theorem setSpu_unitDone (n k : Nat) (u : SpUnit) : (s.setSpu n k u).unitDone = s.unitDone := rfl
@[simp] theorem setSpu_unitReqs (n k : Nat) (u : SpUnit) : (s.setSpu n k u).unitReqs = s.unitReqs := rfl
@[simp] theorem setSpu_loom (n k : Nat) (u : SpUnit) : (s.setSpu n k u).loom = s.loom := rfl
@[simp] theorem setSpu_sram (n k : Nat) (u : SpUnit) : (s.setSpu n k u).sram = s.sram := rfl
@[simp] theorem setSpu_keyGen (n k : Nat) (u : SpUnit) : (s.setSpu n k u).keyGen = s.keyGen := rfl
@[simp] theorem setSpu_xts (n k : Nat) (u : SpUnit) : (s.setSpu n k u).xts = s.xts := rfl
@[simp] theorem setSpu_resume (n k : Nat) (u : SpUnit) : (s.setSpu n k u).resume = s.resume := rfl
@[simp] theorem setSpu_fuses (n k : Nat) (u : SpUnit) : (s.setSpu n k u).fuses = s.fuses := rfl
@[simp] theorem setSpu_tokens (n k : Nat) (u : SpUnit) : (s.setSpu n k u).tokens = s.tokens := rfl
@[simp] theorem setSpu_timeFloor (n k : Nat) (u : SpUnit) : (s.setSpu n k u).timeFloor = s.timeFloor := rfl
@[simp] theorem setSpu_unitNext (n k : Nat) (u : SpUnit) : (s.setSpu n k u).unitNext = s.unitNext := rfl
@[simp] theorem setSpu_gates (n k : Nat) (u : SpUnit) : (s.setSpu n k u).gates = s.gates := rfl
@[simp] theorem setSpu_returns (n k : Nat) (u : SpUnit) : (s.setSpu n k u).returns = s.returns := rfl
@[simp] theorem setSpu_logs (n k : Nat) (u : SpUnit) : (s.setSpu n k u).logs = s.logs := rfl
@[simp] theorem setSpu_meterRem (n k : Nat) (u : SpUnit) : (s.setSpu n k u).meterRem = s.meterRem := rfl
@[simp] theorem setSpu_snapSeq (n k : Nat) (u : SpUnit) : (s.setSpu n k u).snapSeq = s.snapSeq := rfl
@[simp] theorem setSpu_testing (n k : Nat) (u : SpUnit) : (s.setSpu n k u).testing = s.testing := rfl
@[simp] theorem setSpu_batches (n k : Nat) (u : SpUnit) : (s.setSpu n k u).batches = s.batches := rfl
@[simp] theorem setSpu_batchNext (n k : Nat) (u : SpUnit) : (s.setSpu n k u).batchNext = s.batchNext := rfl
@[simp] theorem setSpu_trd (n k : Nat) (u : SpUnit) : (s.setSpu n k u).trd = s.trd := rfl
@[simp] theorem setSpu_bcasts (n k : Nat) (u : SpUnit) : (s.setSpu n k u).bcasts = s.bcasts := rfl
@[simp] theorem setSpu_streams (n k : Nat) (u : SpUnit) : (s.setSpu n k u).streams = s.streams := rfl
@[simp] theorem setSpu_glists (n k : Nat) (u : SpUnit) : (s.setSpu n k u).glists = s.glists := rfl
@[simp] theorem setSpu_stamps (n k : Nat) (u : SpUnit) : (s.setSpu n k u).stamps = s.stamps := rfl
@[simp] theorem setSpu_time (n k : Nat) (u : SpUnit) : (s.setSpu n k u).time = s.time := rfl
@[simp] theorem setSpu_codec (n k : Nat) (u : SpUnit) : (s.setSpu n k u).codec = s.codec := rfl
@[simp] theorem setSpu_govQ (n k : Nat) (u : SpUnit) : (s.setSpu n k u).govQ = s.govQ := rfl
@[simp] theorem setSpu_granted (n k : Nat) (u : SpUnit) : (s.setSpu n k u).granted = s.granted := rfl
@[simp] theorem setSpu_moves (n k : Nat) (u : SpUnit) : (s.setSpu n k u).moves = s.moves := rfl
@[simp] theorem setSpu_hed (n k : Nat) (u : SpUnit) : (s.setSpu n k u).hed = s.hed := rfl
@[simp] theorem setSpu_ks (n k : Nat) (u : SpUnit) : (s.setSpu n k u).ks = s.ks := rfl
@[simp] theorem setSpu_clk (n k : Nat) (u : SpUnit) : (s.setSpu n k u).clk = s.clk := rfl
@[simp] theorem setSpu_pwr (n k : Nat) (u : SpUnit) : (s.setSpu n k u).pwr = s.pwr := rfl
@[simp] theorem setSpu_rst (n k : Nat) (u : SpUnit) : (s.setSpu n k u).rst = s.rst := rfl
@[simp] theorem setSpu_flt (n k : Nat) (u : SpUnit) : (s.setSpu n k u).flt = s.flt := rfl
@[simp] theorem setSpu_host (n k : Nat) (u : SpUnit) : (s.setSpu n k u).host = s.host := rfl
@[simp] theorem setSpu_pins (n k : Nat) (u : SpUnit) : (s.setSpu n k u).pins = s.pins := rfl

/-! ### setSram -/

@[simp] theorem setSram_pending (n k a : Nat) (bs : List Byte) : (s.setSram n k a bs).pending = s.pending := by unfold State.setSram; rfl
@[simp] theorem setSram_regs (n k a : Nat) (bs : List Byte) : (s.setSram n k a bs).regs = s.regs := by unfold State.setSram; rfl
@[simp] theorem setSram_mem (n k a : Nat) (bs : List Byte) : (s.setSram n k a bs).mem = s.mem := by unfold State.setSram; rfl
@[simp] theorem setSram_poison (n k a : Nat) (bs : List Byte) : (s.setSram n k a bs).poison = s.poison := by unfold State.setSram; rfl
@[simp] theorem setSram_upsets (n k a : Nat) (bs : List Byte) : (s.setSram n k a bs).upsets = s.upsets := by unfold State.setSram; rfl
@[simp] theorem setSram_out (n k a : Nat) (bs : List Byte) : (s.setSram n k a bs).out = s.out := by unfold State.setSram; rfl
@[simp] theorem setSram_free (n k a : Nat) (bs : List Byte) : (s.setSram n k a bs).free = s.free := by unfold State.setSram; rfl
@[simp] theorem setSram_now (n k a : Nat) (bs : List Byte) : (s.setSram n k a bs).now = s.now := by unfold State.setSram; rfl
@[simp] theorem setSram_node (n k a : Nat) (bs : List Byte) : (s.setSram n k a bs).node = s.node := by unfold State.setSram; rfl
@[simp] theorem setSram_latches (n k a : Nat) (bs : List Byte) : (s.setSram n k a bs).latches = s.latches := by unfold State.setSram; rfl
@[simp] theorem setSram_staged (n k a : Nat) (bs : List Byte) : (s.setSram n k a bs).staged = s.staged := by unfold State.setSram; rfl
@[simp] theorem setSram_links (n k a : Nat) (bs : List Byte) : (s.setSram n k a bs).links = s.links := by unfold State.setSram; rfl
@[simp] theorem setSram_piers (n k a : Nat) (bs : List Byte) : (s.setSram n k a bs).piers = s.piers := by unfold State.setSram; rfl
@[simp] theorem setSram_landing (n k a : Nat) (bs : List Byte) : (s.setSram n k a bs).landing = s.landing := by unfold State.setSram; rfl
@[simp] theorem setSram_voqs (n k a : Nat) (bs : List Byte) : (s.setSram n k a bs).voqs = s.voqs := by unfold State.setSram; rfl
@[simp] theorem setSram_capHolds (n k a : Nat) (bs : List Byte) : (s.setSram n k a bs).capHolds = s.capHolds := by unfold State.setSram; rfl
@[simp] theorem setSram_capWins (n k a : Nat) (bs : List Byte) : (s.setSram n k a bs).capWins = s.capWins := by unfold State.setSram; rfl
@[simp] theorem setSram_policers (n k a : Nat) (bs : List Byte) : (s.setSram n k a bs).policers = s.policers := by unfold State.setSram; rfl
@[simp] theorem setSram_polMap (n k a : Nat) (bs : List Byte) : (s.setSram n k a bs).polMap = s.polMap := by unfold State.setSram; rfl
@[simp] theorem setSram_sampler (n k a : Nat) (bs : List Byte) : (s.setSram n k a bs).sampler = s.sampler := by unfold State.setSram; rfl
@[simp] theorem setSram_trace (n k a : Nat) (bs : List Byte) : (s.setSram n k a bs).trace = s.trace := by unfold State.setSram; rfl
@[simp] theorem setSram_arbLast (n k a : Nat) (bs : List Byte) : (s.setSram n k a bs).arbLast = s.arbLast := by unfold State.setSram; rfl
@[simp] theorem setSram_arb (n k a : Nat) (bs : List Byte) : (s.setSram n k a bs).arb = s.arb := by unfold State.setSram; rfl
@[simp] theorem setSram_marred (n k a : Nat) (bs : List Byte) : (s.setSram n k a bs).marred = s.marred := by unfold State.setSram; rfl
@[simp] theorem setSram_flushing (n k a : Nat) (bs : List Byte) : (s.setSram n k a bs).flushing = s.flushing := by unfold State.setSram; rfl
@[simp] theorem setSram_txns (n k a : Nat) (bs : List Byte) : (s.setSram n k a bs).txns = s.txns := by unfold State.setSram; rfl
@[simp] theorem setSram_bays (n k a : Nat) (bs : List Byte) : (s.setSram n k a bs).bays = s.bays := by unfold State.setSram; rfl
@[simp] theorem setSram_reg (n k a : Nat) (bs : List Byte) : (s.setSram n k a bs).reg = s.reg := by unfold State.setSram; rfl
@[simp] theorem setSram_tr (n k a : Nat) (bs : List Byte) : (s.setSram n k a bs).tr = s.tr := by unfold State.setSram; rfl
@[simp] theorem setSram_tray (n k a : Nat) (bs : List Byte) : (s.setSram n k a bs).tray = s.tray := by unfold State.setSram; rfl
@[simp] theorem setSram_islands (n k a : Nat) (bs : List Byte) : (s.setSram n k a bs).islands = s.islands := by unfold State.setSram; rfl
@[simp] theorem setSram_held (n k a : Nat) (bs : List Byte) : (s.setSram n k a bs).held = s.held := by unfold State.setSram; rfl
@[simp] theorem setSram_crossing (n k a : Nat) (bs : List Byte) : (s.setSram n k a bs).crossing = s.crossing := by unfold State.setSram; rfl
@[simp] theorem setSram_ft (n k a : Nat) (bs : List Byte) : (s.setSram n k a bs).ft = s.ft := by unfold State.setSram; rfl
@[simp] theorem setSram_alert (n k a : Nat) (bs : List Byte) : (s.setSram n k a bs).alert = s.alert := by unfold State.setSram; rfl
@[simp] theorem setSram_alertHold (n k a : Nat) (bs : List Byte) : (s.setSram n k a bs).alertHold = s.alertHold := by unfold State.setSram; rfl
@[simp] theorem setSram_devMs (n k a : Nat) (bs : List Byte) : (s.setSram n k a bs).devMs = s.devMs := by unfold State.setSram; rfl
@[simp] theorem setSram_comps (n k a : Nat) (bs : List Byte) : (s.setSram n k a bs).comps = s.comps := by unfold State.setSram; rfl
@[simp] theorem setSram_events (n k a : Nat) (bs : List Byte) : (s.setSram n k a bs).events = s.events := by unfold State.setSram; rfl
@[simp] theorem setSram_unitDone (n k a : Nat) (bs : List Byte) : (s.setSram n k a bs).unitDone = s.unitDone := by unfold State.setSram; rfl
@[simp] theorem setSram_unitReqs (n k a : Nat) (bs : List Byte) : (s.setSram n k a bs).unitReqs = s.unitReqs := by unfold State.setSram; rfl
@[simp] theorem setSram_loom (n k a : Nat) (bs : List Byte) : (s.setSram n k a bs).loom = s.loom := by unfold State.setSram; rfl
@[simp] theorem setSram_keyGen (n k a : Nat) (bs : List Byte) : (s.setSram n k a bs).keyGen = s.keyGen := by unfold State.setSram; rfl
@[simp] theorem setSram_xts (n k a : Nat) (bs : List Byte) : (s.setSram n k a bs).xts = s.xts := by unfold State.setSram; rfl
@[simp] theorem setSram_resume (n k a : Nat) (bs : List Byte) : (s.setSram n k a bs).resume = s.resume := by unfold State.setSram; rfl
@[simp] theorem setSram_fuses (n k a : Nat) (bs : List Byte) : (s.setSram n k a bs).fuses = s.fuses := by unfold State.setSram; rfl
@[simp] theorem setSram_tokens (n k a : Nat) (bs : List Byte) : (s.setSram n k a bs).tokens = s.tokens := by unfold State.setSram; rfl
@[simp] theorem setSram_timeFloor (n k a : Nat) (bs : List Byte) : (s.setSram n k a bs).timeFloor = s.timeFloor := by unfold State.setSram; rfl
@[simp] theorem setSram_unitNext (n k a : Nat) (bs : List Byte) : (s.setSram n k a bs).unitNext = s.unitNext := by unfold State.setSram; rfl
@[simp] theorem setSram_gates (n k a : Nat) (bs : List Byte) : (s.setSram n k a bs).gates = s.gates := by unfold State.setSram; rfl
@[simp] theorem setSram_returns (n k a : Nat) (bs : List Byte) : (s.setSram n k a bs).returns = s.returns := by unfold State.setSram; rfl
@[simp] theorem setSram_logs (n k a : Nat) (bs : List Byte) : (s.setSram n k a bs).logs = s.logs := by unfold State.setSram; rfl
@[simp] theorem setSram_meterRem (n k a : Nat) (bs : List Byte) : (s.setSram n k a bs).meterRem = s.meterRem := by unfold State.setSram; rfl
@[simp] theorem setSram_snapSeq (n k a : Nat) (bs : List Byte) : (s.setSram n k a bs).snapSeq = s.snapSeq := by unfold State.setSram; rfl
@[simp] theorem setSram_testing (n k a : Nat) (bs : List Byte) : (s.setSram n k a bs).testing = s.testing := by unfold State.setSram; rfl
@[simp] theorem setSram_batches (n k a : Nat) (bs : List Byte) : (s.setSram n k a bs).batches = s.batches := by unfold State.setSram; rfl
@[simp] theorem setSram_batchNext (n k a : Nat) (bs : List Byte) : (s.setSram n k a bs).batchNext = s.batchNext := by unfold State.setSram; rfl
@[simp] theorem setSram_trd (n k a : Nat) (bs : List Byte) : (s.setSram n k a bs).trd = s.trd := by unfold State.setSram; rfl
@[simp] theorem setSram_bcasts (n k a : Nat) (bs : List Byte) : (s.setSram n k a bs).bcasts = s.bcasts := by unfold State.setSram; rfl
@[simp] theorem setSram_streams (n k a : Nat) (bs : List Byte) : (s.setSram n k a bs).streams = s.streams := by unfold State.setSram; rfl
@[simp] theorem setSram_glists (n k a : Nat) (bs : List Byte) : (s.setSram n k a bs).glists = s.glists := by unfold State.setSram; rfl
@[simp] theorem setSram_stamps (n k a : Nat) (bs : List Byte) : (s.setSram n k a bs).stamps = s.stamps := by unfold State.setSram; rfl
@[simp] theorem setSram_time (n k a : Nat) (bs : List Byte) : (s.setSram n k a bs).time = s.time := by unfold State.setSram; rfl
@[simp] theorem setSram_codec (n k a : Nat) (bs : List Byte) : (s.setSram n k a bs).codec = s.codec := by unfold State.setSram; rfl
@[simp] theorem setSram_govQ (n k a : Nat) (bs : List Byte) : (s.setSram n k a bs).govQ = s.govQ := by unfold State.setSram; rfl
@[simp] theorem setSram_granted (n k a : Nat) (bs : List Byte) : (s.setSram n k a bs).granted = s.granted := by unfold State.setSram; rfl
@[simp] theorem setSram_moves (n k a : Nat) (bs : List Byte) : (s.setSram n k a bs).moves = s.moves := by unfold State.setSram; rfl
@[simp] theorem setSram_hed (n k a : Nat) (bs : List Byte) : (s.setSram n k a bs).hed = s.hed := by unfold State.setSram; rfl
@[simp] theorem setSram_sp (n k a : Nat) (bs : List Byte) : (s.setSram n k a bs).sp = s.sp := by unfold State.setSram; rfl
@[simp] theorem setSram_ks (n k a : Nat) (bs : List Byte) : (s.setSram n k a bs).ks = s.ks := by unfold State.setSram; rfl
@[simp] theorem setSram_clk (n k a : Nat) (bs : List Byte) : (s.setSram n k a bs).clk = s.clk := by unfold State.setSram; rfl
@[simp] theorem setSram_pwr (n k a : Nat) (bs : List Byte) : (s.setSram n k a bs).pwr = s.pwr := by unfold State.setSram; rfl
@[simp] theorem setSram_rst (n k a : Nat) (bs : List Byte) : (s.setSram n k a bs).rst = s.rst := by unfold State.setSram; rfl
@[simp] theorem setSram_flt (n k a : Nat) (bs : List Byte) : (s.setSram n k a bs).flt = s.flt := by unfold State.setSram; rfl
@[simp] theorem setSram_host (n k a : Nat) (bs : List Byte) : (s.setSram n k a bs).host = s.host := by unfold State.setSram; rfl
@[simp] theorem setSram_pins (n k a : Nat) (bs : List Byte) : (s.setSram n k a bs).pins = s.pins := by unfold State.setSram; rfl

/-! ### dropRegs -/

@[simp] theorem dropRegs_pending (p : Nat → Bool) : (s.dropRegs p).pending = s.pending := rfl
@[simp] theorem dropRegs_mem (p : Nat → Bool) : (s.dropRegs p).mem = s.mem := rfl
@[simp] theorem dropRegs_poison (p : Nat → Bool) : (s.dropRegs p).poison = s.poison := rfl
@[simp] theorem dropRegs_upsets (p : Nat → Bool) : (s.dropRegs p).upsets = s.upsets := rfl
@[simp] theorem dropRegs_out (p : Nat → Bool) : (s.dropRegs p).out = s.out := rfl
@[simp] theorem dropRegs_free (p : Nat → Bool) : (s.dropRegs p).free = s.free := rfl
@[simp] theorem dropRegs_now (p : Nat → Bool) : (s.dropRegs p).now = s.now := rfl
@[simp] theorem dropRegs_node (p : Nat → Bool) : (s.dropRegs p).node = s.node := rfl
@[simp] theorem dropRegs_latches (p : Nat → Bool) : (s.dropRegs p).latches = s.latches := rfl
@[simp] theorem dropRegs_staged (p : Nat → Bool) : (s.dropRegs p).staged = s.staged := rfl
@[simp] theorem dropRegs_links (p : Nat → Bool) : (s.dropRegs p).links = s.links := rfl
@[simp] theorem dropRegs_piers (p : Nat → Bool) : (s.dropRegs p).piers = s.piers := rfl
@[simp] theorem dropRegs_landing (p : Nat → Bool) : (s.dropRegs p).landing = s.landing := rfl
@[simp] theorem dropRegs_voqs (p : Nat → Bool) : (s.dropRegs p).voqs = s.voqs := rfl
@[simp] theorem dropRegs_capHolds (p : Nat → Bool) : (s.dropRegs p).capHolds = s.capHolds := rfl
@[simp] theorem dropRegs_capWins (p : Nat → Bool) : (s.dropRegs p).capWins = s.capWins := rfl
@[simp] theorem dropRegs_policers (p : Nat → Bool) : (s.dropRegs p).policers = s.policers := rfl
@[simp] theorem dropRegs_polMap (p : Nat → Bool) : (s.dropRegs p).polMap = s.polMap := rfl
@[simp] theorem dropRegs_sampler (p : Nat → Bool) : (s.dropRegs p).sampler = s.sampler := rfl
@[simp] theorem dropRegs_trace (p : Nat → Bool) : (s.dropRegs p).trace = s.trace := rfl
@[simp] theorem dropRegs_arbLast (p : Nat → Bool) : (s.dropRegs p).arbLast = s.arbLast := rfl
@[simp] theorem dropRegs_arb (p : Nat → Bool) : (s.dropRegs p).arb = s.arb := rfl
@[simp] theorem dropRegs_marred (p : Nat → Bool) : (s.dropRegs p).marred = s.marred := rfl
@[simp] theorem dropRegs_flushing (p : Nat → Bool) : (s.dropRegs p).flushing = s.flushing := rfl
@[simp] theorem dropRegs_txns (p : Nat → Bool) : (s.dropRegs p).txns = s.txns := rfl
@[simp] theorem dropRegs_bays (p : Nat → Bool) : (s.dropRegs p).bays = s.bays := rfl
@[simp] theorem dropRegs_reg (p : Nat → Bool) : (s.dropRegs p).reg = s.reg := rfl
@[simp] theorem dropRegs_tr (p : Nat → Bool) : (s.dropRegs p).tr = s.tr := rfl
@[simp] theorem dropRegs_tray (p : Nat → Bool) : (s.dropRegs p).tray = s.tray := rfl
@[simp] theorem dropRegs_islands (p : Nat → Bool) : (s.dropRegs p).islands = s.islands := rfl
@[simp] theorem dropRegs_held (p : Nat → Bool) : (s.dropRegs p).held = s.held := rfl
@[simp] theorem dropRegs_crossing (p : Nat → Bool) : (s.dropRegs p).crossing = s.crossing := rfl
@[simp] theorem dropRegs_ft (p : Nat → Bool) : (s.dropRegs p).ft = s.ft := rfl
@[simp] theorem dropRegs_alert (p : Nat → Bool) : (s.dropRegs p).alert = s.alert := rfl
@[simp] theorem dropRegs_alertHold (p : Nat → Bool) : (s.dropRegs p).alertHold = s.alertHold := rfl
@[simp] theorem dropRegs_devMs (p : Nat → Bool) : (s.dropRegs p).devMs = s.devMs := rfl
@[simp] theorem dropRegs_comps (p : Nat → Bool) : (s.dropRegs p).comps = s.comps := rfl
@[simp] theorem dropRegs_events (p : Nat → Bool) : (s.dropRegs p).events = s.events := rfl
@[simp] theorem dropRegs_unitDone (p : Nat → Bool) : (s.dropRegs p).unitDone = s.unitDone := rfl
@[simp] theorem dropRegs_unitReqs (p : Nat → Bool) : (s.dropRegs p).unitReqs = s.unitReqs := rfl
@[simp] theorem dropRegs_loom (p : Nat → Bool) : (s.dropRegs p).loom = s.loom := rfl
@[simp] theorem dropRegs_sram (p : Nat → Bool) : (s.dropRegs p).sram = s.sram := rfl
@[simp] theorem dropRegs_keyGen (p : Nat → Bool) : (s.dropRegs p).keyGen = s.keyGen := rfl
@[simp] theorem dropRegs_xts (p : Nat → Bool) : (s.dropRegs p).xts = s.xts := rfl
@[simp] theorem dropRegs_resume (p : Nat → Bool) : (s.dropRegs p).resume = s.resume := rfl
@[simp] theorem dropRegs_fuses (p : Nat → Bool) : (s.dropRegs p).fuses = s.fuses := rfl
@[simp] theorem dropRegs_tokens (p : Nat → Bool) : (s.dropRegs p).tokens = s.tokens := rfl
@[simp] theorem dropRegs_timeFloor (p : Nat → Bool) : (s.dropRegs p).timeFloor = s.timeFloor := rfl
@[simp] theorem dropRegs_unitNext (p : Nat → Bool) : (s.dropRegs p).unitNext = s.unitNext := rfl
@[simp] theorem dropRegs_gates (p : Nat → Bool) : (s.dropRegs p).gates = s.gates := rfl
@[simp] theorem dropRegs_returns (p : Nat → Bool) : (s.dropRegs p).returns = s.returns := rfl
@[simp] theorem dropRegs_logs (p : Nat → Bool) : (s.dropRegs p).logs = s.logs := rfl
@[simp] theorem dropRegs_meterRem (p : Nat → Bool) : (s.dropRegs p).meterRem = s.meterRem := rfl
@[simp] theorem dropRegs_snapSeq (p : Nat → Bool) : (s.dropRegs p).snapSeq = s.snapSeq := rfl
@[simp] theorem dropRegs_testing (p : Nat → Bool) : (s.dropRegs p).testing = s.testing := rfl
@[simp] theorem dropRegs_batches (p : Nat → Bool) : (s.dropRegs p).batches = s.batches := rfl
@[simp] theorem dropRegs_batchNext (p : Nat → Bool) : (s.dropRegs p).batchNext = s.batchNext := rfl
@[simp] theorem dropRegs_trd (p : Nat → Bool) : (s.dropRegs p).trd = s.trd := rfl
@[simp] theorem dropRegs_bcasts (p : Nat → Bool) : (s.dropRegs p).bcasts = s.bcasts := rfl
@[simp] theorem dropRegs_streams (p : Nat → Bool) : (s.dropRegs p).streams = s.streams := rfl
@[simp] theorem dropRegs_glists (p : Nat → Bool) : (s.dropRegs p).glists = s.glists := rfl
@[simp] theorem dropRegs_stamps (p : Nat → Bool) : (s.dropRegs p).stamps = s.stamps := rfl
@[simp] theorem dropRegs_time (p : Nat → Bool) : (s.dropRegs p).time = s.time := rfl
@[simp] theorem dropRegs_codec (p : Nat → Bool) : (s.dropRegs p).codec = s.codec := rfl
@[simp] theorem dropRegs_govQ (p : Nat → Bool) : (s.dropRegs p).govQ = s.govQ := rfl
@[simp] theorem dropRegs_granted (p : Nat → Bool) : (s.dropRegs p).granted = s.granted := rfl
@[simp] theorem dropRegs_moves (p : Nat → Bool) : (s.dropRegs p).moves = s.moves := rfl
@[simp] theorem dropRegs_hed (p : Nat → Bool) : (s.dropRegs p).hed = s.hed := rfl
@[simp] theorem dropRegs_sp (p : Nat → Bool) : (s.dropRegs p).sp = s.sp := rfl
@[simp] theorem dropRegs_ks (p : Nat → Bool) : (s.dropRegs p).ks = s.ks := rfl
@[simp] theorem dropRegs_clk (p : Nat → Bool) : (s.dropRegs p).clk = s.clk := rfl
@[simp] theorem dropRegs_pwr (p : Nat → Bool) : (s.dropRegs p).pwr = s.pwr := rfl
@[simp] theorem dropRegs_rst (p : Nat → Bool) : (s.dropRegs p).rst = s.rst := rfl
@[simp] theorem dropRegs_flt (p : Nat → Bool) : (s.dropRegs p).flt = s.flt := rfl
@[simp] theorem dropRegs_host (p : Nat → Bool) : (s.dropRegs p).host = s.host := rfl
@[simp] theorem dropRegs_pins (p : Nat → Bool) : (s.dropRegs p).pins = s.pins := rfl

/-! ### seal -/

@[simp] theorem seal_pending (t : State) : (s.seal t).pending = s.pending := rfl
@[simp] theorem seal_regs (t : State) : (s.seal t).regs = t.regs := rfl
@[simp] theorem seal_mem (t : State) : (s.seal t).mem = t.mem := rfl
@[simp] theorem seal_poison (t : State) : (s.seal t).poison = t.poison := rfl
@[simp] theorem seal_upsets (t : State) : (s.seal t).upsets = t.upsets := rfl
@[simp] theorem seal_out (t : State) : (s.seal t).out = t.out := rfl
@[simp] theorem seal_free (t : State) : (s.seal t).free = t.free := rfl
@[simp] theorem seal_now (t : State) : (s.seal t).now = s.now := rfl
@[simp] theorem seal_node (t : State) : (s.seal t).node = s.node := rfl
@[simp] theorem seal_latches (t : State) : (s.seal t).latches = t.latches := rfl
@[simp] theorem seal_staged (t : State) : (s.seal t).staged = t.staged := rfl
@[simp] theorem seal_links (t : State) : (s.seal t).links = t.links := rfl
@[simp] theorem seal_piers (t : State) : (s.seal t).piers = t.piers := rfl
@[simp] theorem seal_landing (t : State) : (s.seal t).landing = t.landing := rfl
@[simp] theorem seal_voqs (t : State) : (s.seal t).voqs = t.voqs := rfl
@[simp] theorem seal_capHolds (t : State) : (s.seal t).capHolds = t.capHolds := rfl
@[simp] theorem seal_capWins (t : State) : (s.seal t).capWins = t.capWins := rfl
@[simp] theorem seal_policers (t : State) : (s.seal t).policers = t.policers := rfl
@[simp] theorem seal_polMap (t : State) : (s.seal t).polMap = t.polMap := rfl
@[simp] theorem seal_sampler (t : State) : (s.seal t).sampler = t.sampler := rfl
@[simp] theorem seal_trace (t : State) : (s.seal t).trace = t.trace := rfl
@[simp] theorem seal_arbLast (t : State) : (s.seal t).arbLast = t.arbLast := rfl
@[simp] theorem seal_arb (t : State) : (s.seal t).arb = t.arb := rfl
@[simp] theorem seal_marred (t : State) : (s.seal t).marred = t.marred := rfl
@[simp] theorem seal_flushing (t : State) : (s.seal t).flushing = t.flushing := rfl
@[simp] theorem seal_txns (t : State) : (s.seal t).txns = t.txns := rfl
@[simp] theorem seal_bays (t : State) : (s.seal t).bays = t.bays := rfl
@[simp] theorem seal_reg (t : State) : (s.seal t).reg = t.reg := rfl
@[simp] theorem seal_tr (t : State) : (s.seal t).tr = t.tr := rfl
@[simp] theorem seal_tray (t : State) : (s.seal t).tray = t.tray := rfl
@[simp] theorem seal_islands (t : State) : (s.seal t).islands = t.islands := rfl
@[simp] theorem seal_held (t : State) : (s.seal t).held = t.held := rfl
@[simp] theorem seal_crossing (t : State) : (s.seal t).crossing = t.crossing := rfl
@[simp] theorem seal_ft (t : State) : (s.seal t).ft = t.ft := rfl
@[simp] theorem seal_alert (t : State) : (s.seal t).alert = t.alert := rfl
@[simp] theorem seal_alertHold (t : State) : (s.seal t).alertHold = t.alertHold := rfl
@[simp] theorem seal_devMs (t : State) : (s.seal t).devMs = t.devMs := rfl
@[simp] theorem seal_comps (t : State) : (s.seal t).comps = t.comps := rfl
@[simp] theorem seal_events (t : State) : (s.seal t).events = t.events := rfl
@[simp] theorem seal_unitDone (t : State) : (s.seal t).unitDone = t.unitDone := rfl
@[simp] theorem seal_unitReqs (t : State) : (s.seal t).unitReqs = t.unitReqs := rfl
@[simp] theorem seal_loom (t : State) : (s.seal t).loom = t.loom := rfl
@[simp] theorem seal_sram (t : State) : (s.seal t).sram = t.sram := rfl
@[simp] theorem seal_keyGen (t : State) : (s.seal t).keyGen = t.keyGen := rfl
@[simp] theorem seal_xts (t : State) : (s.seal t).xts = t.xts := rfl
@[simp] theorem seal_resume (t : State) : (s.seal t).resume = t.resume := rfl
@[simp] theorem seal_fuses (t : State) : (s.seal t).fuses = t.fuses := rfl
@[simp] theorem seal_tokens (t : State) : (s.seal t).tokens = t.tokens := rfl
@[simp] theorem seal_timeFloor (t : State) : (s.seal t).timeFloor = max t.timeFloor t.ns := rfl
@[simp] theorem seal_unitNext (t : State) : (s.seal t).unitNext = t.unitNext := rfl
@[simp] theorem seal_gates (t : State) : (s.seal t).gates = t.gates := rfl
@[simp] theorem seal_returns (t : State) : (s.seal t).returns = t.returns := rfl
@[simp] theorem seal_logs (t : State) : (s.seal t).logs = t.logs := rfl
@[simp] theorem seal_meterRem (t : State) : (s.seal t).meterRem = t.meterRem := rfl
@[simp] theorem seal_snapSeq (t : State) : (s.seal t).snapSeq = t.snapSeq := rfl
@[simp] theorem seal_testing (t : State) : (s.seal t).testing = t.testing := rfl
@[simp] theorem seal_batches (t : State) : (s.seal t).batches = t.batches := rfl
@[simp] theorem seal_batchNext (t : State) : (s.seal t).batchNext = t.batchNext := rfl
@[simp] theorem seal_trd (t : State) : (s.seal t).trd = t.trd := rfl
@[simp] theorem seal_bcasts (t : State) : (s.seal t).bcasts = t.bcasts := rfl
@[simp] theorem seal_streams (t : State) : (s.seal t).streams = t.streams := rfl
@[simp] theorem seal_glists (t : State) : (s.seal t).glists = t.glists := rfl
@[simp] theorem seal_stamps (t : State) : (s.seal t).stamps = t.stamps := rfl
@[simp] theorem seal_time (t : State) : (s.seal t).time = t.time := rfl
@[simp] theorem seal_codec (t : State) : (s.seal t).codec = t.codec := rfl
@[simp] theorem seal_govQ (t : State) : (s.seal t).govQ = t.govQ := rfl
@[simp] theorem seal_granted (t : State) : (s.seal t).granted = t.granted := rfl
@[simp] theorem seal_moves (t : State) : (s.seal t).moves = t.moves := rfl
@[simp] theorem seal_hed (t : State) : (s.seal t).hed = t.hed := rfl
@[simp] theorem seal_sp (t : State) : (s.seal t).sp = t.sp := rfl
@[simp] theorem seal_ks (t : State) : (s.seal t).ks = t.ks := rfl
@[simp] theorem seal_clk (t : State) : (s.seal t).clk = t.clk := rfl
@[simp] theorem seal_pwr (t : State) : (s.seal t).pwr = t.pwr := rfl
@[simp] theorem seal_rst (t : State) : (s.seal t).rst = t.rst := rfl
@[simp] theorem seal_flt (t : State) : (s.seal t).flt = t.flt := rfl
@[simp] theorem seal_host (t : State) : (s.seal t).host = t.host := rfl
@[simp] theorem seal_pins (t : State) : (s.seal t).pins = t.pins := rfl

/-! ### count -/

theorem count_frame (pg : Nat) (r : RegSpec) (i b n : Nat) : s.count pg r i b n = { s with regs := (s.count pg r i b n).regs } := by
  unfold State.count; split <;> rfl
@[simp] theorem count_pending (pg : Nat) (r : RegSpec) (i b n : Nat) : (s.count pg r i b n).pending = s.pending := by rw [count_frame]
@[simp] theorem count_mem (pg : Nat) (r : RegSpec) (i b n : Nat) : (s.count pg r i b n).mem = s.mem := by rw [count_frame]
@[simp] theorem count_poison (pg : Nat) (r : RegSpec) (i b n : Nat) : (s.count pg r i b n).poison = s.poison := by rw [count_frame]
@[simp] theorem count_upsets (pg : Nat) (r : RegSpec) (i b n : Nat) : (s.count pg r i b n).upsets = s.upsets := by rw [count_frame]
@[simp] theorem count_out (pg : Nat) (r : RegSpec) (i b n : Nat) : (s.count pg r i b n).out = s.out := by rw [count_frame]
@[simp] theorem count_free (pg : Nat) (r : RegSpec) (i b n : Nat) : (s.count pg r i b n).free = s.free := by rw [count_frame]
@[simp] theorem count_now (pg : Nat) (r : RegSpec) (i b n : Nat) : (s.count pg r i b n).now = s.now := by rw [count_frame]
@[simp] theorem count_node (pg : Nat) (r : RegSpec) (i b n : Nat) : (s.count pg r i b n).node = s.node := by rw [count_frame]
@[simp] theorem count_latches (pg : Nat) (r : RegSpec) (i b n : Nat) : (s.count pg r i b n).latches = s.latches := by rw [count_frame]
@[simp] theorem count_staged (pg : Nat) (r : RegSpec) (i b n : Nat) : (s.count pg r i b n).staged = s.staged := by rw [count_frame]
@[simp] theorem count_links (pg : Nat) (r : RegSpec) (i b n : Nat) : (s.count pg r i b n).links = s.links := by rw [count_frame]
@[simp] theorem count_piers (pg : Nat) (r : RegSpec) (i b n : Nat) : (s.count pg r i b n).piers = s.piers := by rw [count_frame]
@[simp] theorem count_landing (pg : Nat) (r : RegSpec) (i b n : Nat) : (s.count pg r i b n).landing = s.landing := by rw [count_frame]
@[simp] theorem count_voqs (pg : Nat) (r : RegSpec) (i b n : Nat) : (s.count pg r i b n).voqs = s.voqs := by rw [count_frame]
@[simp] theorem count_capHolds (pg : Nat) (r : RegSpec) (i b n : Nat) : (s.count pg r i b n).capHolds = s.capHolds := by rw [count_frame]
@[simp] theorem count_capWins (pg : Nat) (r : RegSpec) (i b n : Nat) : (s.count pg r i b n).capWins = s.capWins := by rw [count_frame]
@[simp] theorem count_policers (pg : Nat) (r : RegSpec) (i b n : Nat) : (s.count pg r i b n).policers = s.policers := by rw [count_frame]
@[simp] theorem count_polMap (pg : Nat) (r : RegSpec) (i b n : Nat) : (s.count pg r i b n).polMap = s.polMap := by rw [count_frame]
@[simp] theorem count_sampler (pg : Nat) (r : RegSpec) (i b n : Nat) : (s.count pg r i b n).sampler = s.sampler := by rw [count_frame]
@[simp] theorem count_trace (pg : Nat) (r : RegSpec) (i b n : Nat) : (s.count pg r i b n).trace = s.trace := by rw [count_frame]
@[simp] theorem count_arbLast (pg : Nat) (r : RegSpec) (i b n : Nat) : (s.count pg r i b n).arbLast = s.arbLast := by rw [count_frame]
@[simp] theorem count_arb (pg : Nat) (r : RegSpec) (i b n : Nat) : (s.count pg r i b n).arb = s.arb := by rw [count_frame]
@[simp] theorem count_marred (pg : Nat) (r : RegSpec) (i b n : Nat) : (s.count pg r i b n).marred = s.marred := by rw [count_frame]
@[simp] theorem count_flushing (pg : Nat) (r : RegSpec) (i b n : Nat) : (s.count pg r i b n).flushing = s.flushing := by rw [count_frame]
@[simp] theorem count_txns (pg : Nat) (r : RegSpec) (i b n : Nat) : (s.count pg r i b n).txns = s.txns := by rw [count_frame]
@[simp] theorem count_bays (pg : Nat) (r : RegSpec) (i b n : Nat) : (s.count pg r i b n).bays = s.bays := by rw [count_frame]
@[simp] theorem count_reg (pg : Nat) (r : RegSpec) (i b n : Nat) : (s.count pg r i b n).reg = s.reg := by rw [count_frame]
@[simp] theorem count_tr (pg : Nat) (r : RegSpec) (i b n : Nat) : (s.count pg r i b n).tr = s.tr := by rw [count_frame]
@[simp] theorem count_tray (pg : Nat) (r : RegSpec) (i b n : Nat) : (s.count pg r i b n).tray = s.tray := by rw [count_frame]
@[simp] theorem count_islands (pg : Nat) (r : RegSpec) (i b n : Nat) : (s.count pg r i b n).islands = s.islands := by rw [count_frame]
@[simp] theorem count_held (pg : Nat) (r : RegSpec) (i b n : Nat) : (s.count pg r i b n).held = s.held := by rw [count_frame]
@[simp] theorem count_crossing (pg : Nat) (r : RegSpec) (i b n : Nat) : (s.count pg r i b n).crossing = s.crossing := by rw [count_frame]
@[simp] theorem count_ft (pg : Nat) (r : RegSpec) (i b n : Nat) : (s.count pg r i b n).ft = s.ft := by rw [count_frame]
@[simp] theorem count_alert (pg : Nat) (r : RegSpec) (i b n : Nat) : (s.count pg r i b n).alert = s.alert := by rw [count_frame]
@[simp] theorem count_alertHold (pg : Nat) (r : RegSpec) (i b n : Nat) : (s.count pg r i b n).alertHold = s.alertHold := by rw [count_frame]
@[simp] theorem count_devMs (pg : Nat) (r : RegSpec) (i b n : Nat) : (s.count pg r i b n).devMs = s.devMs := by rw [count_frame]
@[simp] theorem count_comps (pg : Nat) (r : RegSpec) (i b n : Nat) : (s.count pg r i b n).comps = s.comps := by rw [count_frame]
@[simp] theorem count_events (pg : Nat) (r : RegSpec) (i b n : Nat) : (s.count pg r i b n).events = s.events := by rw [count_frame]
@[simp] theorem count_unitDone (pg : Nat) (r : RegSpec) (i b n : Nat) : (s.count pg r i b n).unitDone = s.unitDone := by rw [count_frame]
@[simp] theorem count_unitReqs (pg : Nat) (r : RegSpec) (i b n : Nat) : (s.count pg r i b n).unitReqs = s.unitReqs := by rw [count_frame]
@[simp] theorem count_loom (pg : Nat) (r : RegSpec) (i b n : Nat) : (s.count pg r i b n).loom = s.loom := by rw [count_frame]
@[simp] theorem count_sram (pg : Nat) (r : RegSpec) (i b n : Nat) : (s.count pg r i b n).sram = s.sram := by rw [count_frame]
@[simp] theorem count_keyGen (pg : Nat) (r : RegSpec) (i b n : Nat) : (s.count pg r i b n).keyGen = s.keyGen := by rw [count_frame]
@[simp] theorem count_xts (pg : Nat) (r : RegSpec) (i b n : Nat) : (s.count pg r i b n).xts = s.xts := by rw [count_frame]
@[simp] theorem count_resume (pg : Nat) (r : RegSpec) (i b n : Nat) : (s.count pg r i b n).resume = s.resume := by rw [count_frame]
@[simp] theorem count_fuses (pg : Nat) (r : RegSpec) (i b n : Nat) : (s.count pg r i b n).fuses = s.fuses := by rw [count_frame]
@[simp] theorem count_tokens (pg : Nat) (r : RegSpec) (i b n : Nat) : (s.count pg r i b n).tokens = s.tokens := by rw [count_frame]
@[simp] theorem count_timeFloor (pg : Nat) (r : RegSpec) (i b n : Nat) : (s.count pg r i b n).timeFloor = s.timeFloor := by rw [count_frame]
@[simp] theorem count_unitNext (pg : Nat) (r : RegSpec) (i b n : Nat) : (s.count pg r i b n).unitNext = s.unitNext := by rw [count_frame]
@[simp] theorem count_gates (pg : Nat) (r : RegSpec) (i b n : Nat) : (s.count pg r i b n).gates = s.gates := by rw [count_frame]
@[simp] theorem count_returns (pg : Nat) (r : RegSpec) (i b n : Nat) : (s.count pg r i b n).returns = s.returns := by rw [count_frame]
@[simp] theorem count_logs (pg : Nat) (r : RegSpec) (i b n : Nat) : (s.count pg r i b n).logs = s.logs := by rw [count_frame]
@[simp] theorem count_meterRem (pg : Nat) (r : RegSpec) (i b n : Nat) : (s.count pg r i b n).meterRem = s.meterRem := by rw [count_frame]
@[simp] theorem count_snapSeq (pg : Nat) (r : RegSpec) (i b n : Nat) : (s.count pg r i b n).snapSeq = s.snapSeq := by rw [count_frame]
@[simp] theorem count_testing (pg : Nat) (r : RegSpec) (i b n : Nat) : (s.count pg r i b n).testing = s.testing := by rw [count_frame]
@[simp] theorem count_batches (pg : Nat) (r : RegSpec) (i b n : Nat) : (s.count pg r i b n).batches = s.batches := by rw [count_frame]
@[simp] theorem count_batchNext (pg : Nat) (r : RegSpec) (i b n : Nat) : (s.count pg r i b n).batchNext = s.batchNext := by rw [count_frame]
@[simp] theorem count_trd (pg : Nat) (r : RegSpec) (i b n : Nat) : (s.count pg r i b n).trd = s.trd := by rw [count_frame]
@[simp] theorem count_bcasts (pg : Nat) (r : RegSpec) (i b n : Nat) : (s.count pg r i b n).bcasts = s.bcasts := by rw [count_frame]
@[simp] theorem count_streams (pg : Nat) (r : RegSpec) (i b n : Nat) : (s.count pg r i b n).streams = s.streams := by rw [count_frame]
@[simp] theorem count_glists (pg : Nat) (r : RegSpec) (i b n : Nat) : (s.count pg r i b n).glists = s.glists := by rw [count_frame]
@[simp] theorem count_stamps (pg : Nat) (r : RegSpec) (i b n : Nat) : (s.count pg r i b n).stamps = s.stamps := by rw [count_frame]
@[simp] theorem count_time (pg : Nat) (r : RegSpec) (i b n : Nat) : (s.count pg r i b n).time = s.time := by rw [count_frame]
@[simp] theorem count_codec (pg : Nat) (r : RegSpec) (i b n : Nat) : (s.count pg r i b n).codec = s.codec := by rw [count_frame]
@[simp] theorem count_govQ (pg : Nat) (r : RegSpec) (i b n : Nat) : (s.count pg r i b n).govQ = s.govQ := by rw [count_frame]
@[simp] theorem count_granted (pg : Nat) (r : RegSpec) (i b n : Nat) : (s.count pg r i b n).granted = s.granted := by rw [count_frame]
@[simp] theorem count_moves (pg : Nat) (r : RegSpec) (i b n : Nat) : (s.count pg r i b n).moves = s.moves := by rw [count_frame]
@[simp] theorem count_hed (pg : Nat) (r : RegSpec) (i b n : Nat) : (s.count pg r i b n).hed = s.hed := by rw [count_frame]
@[simp] theorem count_sp (pg : Nat) (r : RegSpec) (i b n : Nat) : (s.count pg r i b n).sp = s.sp := by rw [count_frame]
@[simp] theorem count_ks (pg : Nat) (r : RegSpec) (i b n : Nat) : (s.count pg r i b n).ks = s.ks := by rw [count_frame]
@[simp] theorem count_clk (pg : Nat) (r : RegSpec) (i b n : Nat) : (s.count pg r i b n).clk = s.clk := by rw [count_frame]
@[simp] theorem count_pwr (pg : Nat) (r : RegSpec) (i b n : Nat) : (s.count pg r i b n).pwr = s.pwr := by rw [count_frame]
@[simp] theorem count_rst (pg : Nat) (r : RegSpec) (i b n : Nat) : (s.count pg r i b n).rst = s.rst := by rw [count_frame]
@[simp] theorem count_flt (pg : Nat) (r : RegSpec) (i b n : Nat) : (s.count pg r i b n).flt = s.flt := by rw [count_frame]
@[simp] theorem count_host (pg : Nat) (r : RegSpec) (i b n : Nat) : (s.count pg r i b n).host = s.host := by rw [count_frame]
@[simp] theorem count_pins (pg : Nat) (r : RegSpec) (i b n : Nat) : (s.count pg r i b n).pins = s.pins := by rw [count_frame]

/-- Counting once per element of a list changes registers alone. -/
theorem count_frame_fold {α : Type} (xs : List α) (pg : α → Nat) (r : α → RegSpec) (i b n : α → Nat) (s : State) :
    xs.foldl (fun s e => s.count (pg e) (r e) (i e) (b e) (n e)) s =
      { s with regs := (xs.foldl (fun s e => s.count (pg e) (r e) (i e) (b e) (n e)) s).regs } := by
  induction xs generalizing s with
  | nil => rfl
  | cons e t ih => rw [List.foldl_cons, ih, count_frame]

/-! ### raiseAlert -/

theorem raiseAlert_frame : s.raiseAlert = { s with alert := (s.raiseAlert).alert, alertHold := (s.raiseAlert).alertHold } := by
  unfold State.raiseAlert; split <;> rfl
@[simp] theorem raiseAlert_pending : (s.raiseAlert).pending = s.pending := by rw [raiseAlert_frame]
@[simp] theorem raiseAlert_regs : (s.raiseAlert).regs = s.regs := by rw [raiseAlert_frame]
@[simp] theorem raiseAlert_mem : (s.raiseAlert).mem = s.mem := by rw [raiseAlert_frame]
@[simp] theorem raiseAlert_poison : (s.raiseAlert).poison = s.poison := by rw [raiseAlert_frame]
@[simp] theorem raiseAlert_upsets : (s.raiseAlert).upsets = s.upsets := by rw [raiseAlert_frame]
@[simp] theorem raiseAlert_out : (s.raiseAlert).out = s.out := by rw [raiseAlert_frame]
@[simp] theorem raiseAlert_free : (s.raiseAlert).free = s.free := by rw [raiseAlert_frame]
@[simp] theorem raiseAlert_now : (s.raiseAlert).now = s.now := by rw [raiseAlert_frame]
@[simp] theorem raiseAlert_node : (s.raiseAlert).node = s.node := by rw [raiseAlert_frame]
@[simp] theorem raiseAlert_latches : (s.raiseAlert).latches = s.latches := by rw [raiseAlert_frame]
@[simp] theorem raiseAlert_staged : (s.raiseAlert).staged = s.staged := by rw [raiseAlert_frame]
@[simp] theorem raiseAlert_links : (s.raiseAlert).links = s.links := by rw [raiseAlert_frame]
@[simp] theorem raiseAlert_piers : (s.raiseAlert).piers = s.piers := by rw [raiseAlert_frame]
@[simp] theorem raiseAlert_landing : (s.raiseAlert).landing = s.landing := by rw [raiseAlert_frame]
@[simp] theorem raiseAlert_voqs : (s.raiseAlert).voqs = s.voqs := by rw [raiseAlert_frame]
@[simp] theorem raiseAlert_capHolds : (s.raiseAlert).capHolds = s.capHolds := by rw [raiseAlert_frame]
@[simp] theorem raiseAlert_capWins : (s.raiseAlert).capWins = s.capWins := by rw [raiseAlert_frame]
@[simp] theorem raiseAlert_policers : (s.raiseAlert).policers = s.policers := by rw [raiseAlert_frame]
@[simp] theorem raiseAlert_polMap : (s.raiseAlert).polMap = s.polMap := by rw [raiseAlert_frame]
@[simp] theorem raiseAlert_sampler : (s.raiseAlert).sampler = s.sampler := by rw [raiseAlert_frame]
@[simp] theorem raiseAlert_trace : (s.raiseAlert).trace = s.trace := by rw [raiseAlert_frame]
@[simp] theorem raiseAlert_arbLast : (s.raiseAlert).arbLast = s.arbLast := by rw [raiseAlert_frame]
@[simp] theorem raiseAlert_arb : (s.raiseAlert).arb = s.arb := by rw [raiseAlert_frame]
@[simp] theorem raiseAlert_marred : (s.raiseAlert).marred = s.marred := by rw [raiseAlert_frame]
@[simp] theorem raiseAlert_flushing : (s.raiseAlert).flushing = s.flushing := by rw [raiseAlert_frame]
@[simp] theorem raiseAlert_txns : (s.raiseAlert).txns = s.txns := by rw [raiseAlert_frame]
@[simp] theorem raiseAlert_bays : (s.raiseAlert).bays = s.bays := by rw [raiseAlert_frame]
@[simp] theorem raiseAlert_reg : (s.raiseAlert).reg = s.reg := by rw [raiseAlert_frame]
@[simp] theorem raiseAlert_tr : (s.raiseAlert).tr = s.tr := by rw [raiseAlert_frame]
@[simp] theorem raiseAlert_tray : (s.raiseAlert).tray = s.tray := by rw [raiseAlert_frame]
@[simp] theorem raiseAlert_islands : (s.raiseAlert).islands = s.islands := by rw [raiseAlert_frame]
@[simp] theorem raiseAlert_held : (s.raiseAlert).held = s.held := by rw [raiseAlert_frame]
@[simp] theorem raiseAlert_crossing : (s.raiseAlert).crossing = s.crossing := by rw [raiseAlert_frame]
@[simp] theorem raiseAlert_ft : (s.raiseAlert).ft = s.ft := by rw [raiseAlert_frame]
@[simp] theorem raiseAlert_devMs : (s.raiseAlert).devMs = s.devMs := by rw [raiseAlert_frame]
@[simp] theorem raiseAlert_comps : (s.raiseAlert).comps = s.comps := by rw [raiseAlert_frame]
@[simp] theorem raiseAlert_events : (s.raiseAlert).events = s.events := by rw [raiseAlert_frame]
@[simp] theorem raiseAlert_unitDone : (s.raiseAlert).unitDone = s.unitDone := by rw [raiseAlert_frame]
@[simp] theorem raiseAlert_unitReqs : (s.raiseAlert).unitReqs = s.unitReqs := by rw [raiseAlert_frame]
@[simp] theorem raiseAlert_loom : (s.raiseAlert).loom = s.loom := by rw [raiseAlert_frame]
@[simp] theorem raiseAlert_sram : (s.raiseAlert).sram = s.sram := by rw [raiseAlert_frame]
@[simp] theorem raiseAlert_keyGen : (s.raiseAlert).keyGen = s.keyGen := by rw [raiseAlert_frame]
@[simp] theorem raiseAlert_xts : (s.raiseAlert).xts = s.xts := by rw [raiseAlert_frame]
@[simp] theorem raiseAlert_resume : (s.raiseAlert).resume = s.resume := by rw [raiseAlert_frame]
@[simp] theorem raiseAlert_fuses : (s.raiseAlert).fuses = s.fuses := by rw [raiseAlert_frame]
@[simp] theorem raiseAlert_tokens : (s.raiseAlert).tokens = s.tokens := by rw [raiseAlert_frame]
@[simp] theorem raiseAlert_timeFloor : (s.raiseAlert).timeFloor = s.timeFloor := by rw [raiseAlert_frame]
@[simp] theorem raiseAlert_unitNext : (s.raiseAlert).unitNext = s.unitNext := by rw [raiseAlert_frame]
@[simp] theorem raiseAlert_gates : (s.raiseAlert).gates = s.gates := by rw [raiseAlert_frame]
@[simp] theorem raiseAlert_returns : (s.raiseAlert).returns = s.returns := by rw [raiseAlert_frame]
@[simp] theorem raiseAlert_logs : (s.raiseAlert).logs = s.logs := by rw [raiseAlert_frame]
@[simp] theorem raiseAlert_meterRem : (s.raiseAlert).meterRem = s.meterRem := by rw [raiseAlert_frame]
@[simp] theorem raiseAlert_snapSeq : (s.raiseAlert).snapSeq = s.snapSeq := by rw [raiseAlert_frame]
@[simp] theorem raiseAlert_testing : (s.raiseAlert).testing = s.testing := by rw [raiseAlert_frame]
@[simp] theorem raiseAlert_batches : (s.raiseAlert).batches = s.batches := by rw [raiseAlert_frame]
@[simp] theorem raiseAlert_batchNext : (s.raiseAlert).batchNext = s.batchNext := by rw [raiseAlert_frame]
@[simp] theorem raiseAlert_trd : (s.raiseAlert).trd = s.trd := by rw [raiseAlert_frame]
@[simp] theorem raiseAlert_bcasts : (s.raiseAlert).bcasts = s.bcasts := by rw [raiseAlert_frame]
@[simp] theorem raiseAlert_streams : (s.raiseAlert).streams = s.streams := by rw [raiseAlert_frame]
@[simp] theorem raiseAlert_glists : (s.raiseAlert).glists = s.glists := by rw [raiseAlert_frame]
@[simp] theorem raiseAlert_stamps : (s.raiseAlert).stamps = s.stamps := by rw [raiseAlert_frame]
@[simp] theorem raiseAlert_time : (s.raiseAlert).time = s.time := by rw [raiseAlert_frame]
@[simp] theorem raiseAlert_codec : (s.raiseAlert).codec = s.codec := by rw [raiseAlert_frame]
@[simp] theorem raiseAlert_govQ : (s.raiseAlert).govQ = s.govQ := by rw [raiseAlert_frame]
@[simp] theorem raiseAlert_granted : (s.raiseAlert).granted = s.granted := by rw [raiseAlert_frame]
@[simp] theorem raiseAlert_moves : (s.raiseAlert).moves = s.moves := by rw [raiseAlert_frame]
@[simp] theorem raiseAlert_hed : (s.raiseAlert).hed = s.hed := by rw [raiseAlert_frame]
@[simp] theorem raiseAlert_sp : (s.raiseAlert).sp = s.sp := by rw [raiseAlert_frame]
@[simp] theorem raiseAlert_ks : (s.raiseAlert).ks = s.ks := by rw [raiseAlert_frame]
@[simp] theorem raiseAlert_clk : (s.raiseAlert).clk = s.clk := by rw [raiseAlert_frame]
@[simp] theorem raiseAlert_pwr : (s.raiseAlert).pwr = s.pwr := by rw [raiseAlert_frame]
@[simp] theorem raiseAlert_rst : (s.raiseAlert).rst = s.rst := by rw [raiseAlert_frame]
@[simp] theorem raiseAlert_flt : (s.raiseAlert).flt = s.flt := by rw [raiseAlert_frame]
@[simp] theorem raiseAlert_host : (s.raiseAlert).host = s.host := by rw [raiseAlert_frame]
@[simp] theorem raiseAlert_pins : (s.raiseAlert).pins = s.pins := by rw [raiseAlert_frame]

/-! ### captureErr -/

theorem captureErr_frame (pg b : Nat) (inj : Bool) (info : Nat) : s.captureErr pg b inj info = { s with regs := (s.captureErr pg b inj info).regs } := by
  rfl
@[simp] theorem captureErr_pending (pg b : Nat) (inj : Bool) (info : Nat) : (s.captureErr pg b inj info).pending = s.pending := by rw [captureErr_frame]
@[simp] theorem captureErr_mem (pg b : Nat) (inj : Bool) (info : Nat) : (s.captureErr pg b inj info).mem = s.mem := by rw [captureErr_frame]
@[simp] theorem captureErr_poison (pg b : Nat) (inj : Bool) (info : Nat) : (s.captureErr pg b inj info).poison = s.poison := by rw [captureErr_frame]
@[simp] theorem captureErr_upsets (pg b : Nat) (inj : Bool) (info : Nat) : (s.captureErr pg b inj info).upsets = s.upsets := by rw [captureErr_frame]
@[simp] theorem captureErr_out (pg b : Nat) (inj : Bool) (info : Nat) : (s.captureErr pg b inj info).out = s.out := by rw [captureErr_frame]
@[simp] theorem captureErr_free (pg b : Nat) (inj : Bool) (info : Nat) : (s.captureErr pg b inj info).free = s.free := by rw [captureErr_frame]
@[simp] theorem captureErr_now (pg b : Nat) (inj : Bool) (info : Nat) : (s.captureErr pg b inj info).now = s.now := by rw [captureErr_frame]
@[simp] theorem captureErr_node (pg b : Nat) (inj : Bool) (info : Nat) : (s.captureErr pg b inj info).node = s.node := by rw [captureErr_frame]
@[simp] theorem captureErr_latches (pg b : Nat) (inj : Bool) (info : Nat) : (s.captureErr pg b inj info).latches = s.latches := by rw [captureErr_frame]
@[simp] theorem captureErr_staged (pg b : Nat) (inj : Bool) (info : Nat) : (s.captureErr pg b inj info).staged = s.staged := by rw [captureErr_frame]
@[simp] theorem captureErr_links (pg b : Nat) (inj : Bool) (info : Nat) : (s.captureErr pg b inj info).links = s.links := by rw [captureErr_frame]
@[simp] theorem captureErr_piers (pg b : Nat) (inj : Bool) (info : Nat) : (s.captureErr pg b inj info).piers = s.piers := by rw [captureErr_frame]
@[simp] theorem captureErr_landing (pg b : Nat) (inj : Bool) (info : Nat) : (s.captureErr pg b inj info).landing = s.landing := by rw [captureErr_frame]
@[simp] theorem captureErr_voqs (pg b : Nat) (inj : Bool) (info : Nat) : (s.captureErr pg b inj info).voqs = s.voqs := by rw [captureErr_frame]
@[simp] theorem captureErr_capHolds (pg b : Nat) (inj : Bool) (info : Nat) : (s.captureErr pg b inj info).capHolds = s.capHolds := by rw [captureErr_frame]
@[simp] theorem captureErr_capWins (pg b : Nat) (inj : Bool) (info : Nat) : (s.captureErr pg b inj info).capWins = s.capWins := by rw [captureErr_frame]
@[simp] theorem captureErr_policers (pg b : Nat) (inj : Bool) (info : Nat) : (s.captureErr pg b inj info).policers = s.policers := by rw [captureErr_frame]
@[simp] theorem captureErr_polMap (pg b : Nat) (inj : Bool) (info : Nat) : (s.captureErr pg b inj info).polMap = s.polMap := by rw [captureErr_frame]
@[simp] theorem captureErr_sampler (pg b : Nat) (inj : Bool) (info : Nat) : (s.captureErr pg b inj info).sampler = s.sampler := by rw [captureErr_frame]
@[simp] theorem captureErr_trace (pg b : Nat) (inj : Bool) (info : Nat) : (s.captureErr pg b inj info).trace = s.trace := by rw [captureErr_frame]
@[simp] theorem captureErr_arbLast (pg b : Nat) (inj : Bool) (info : Nat) : (s.captureErr pg b inj info).arbLast = s.arbLast := by rw [captureErr_frame]
@[simp] theorem captureErr_arb (pg b : Nat) (inj : Bool) (info : Nat) : (s.captureErr pg b inj info).arb = s.arb := by rw [captureErr_frame]
@[simp] theorem captureErr_marred (pg b : Nat) (inj : Bool) (info : Nat) : (s.captureErr pg b inj info).marred = s.marred := by rw [captureErr_frame]
@[simp] theorem captureErr_flushing (pg b : Nat) (inj : Bool) (info : Nat) : (s.captureErr pg b inj info).flushing = s.flushing := by rw [captureErr_frame]
@[simp] theorem captureErr_txns (pg b : Nat) (inj : Bool) (info : Nat) : (s.captureErr pg b inj info).txns = s.txns := by rw [captureErr_frame]
@[simp] theorem captureErr_bays (pg b : Nat) (inj : Bool) (info : Nat) : (s.captureErr pg b inj info).bays = s.bays := by rw [captureErr_frame]
@[simp] theorem captureErr_reg (pg b : Nat) (inj : Bool) (info : Nat) : (s.captureErr pg b inj info).reg = s.reg := by rw [captureErr_frame]
@[simp] theorem captureErr_tr (pg b : Nat) (inj : Bool) (info : Nat) : (s.captureErr pg b inj info).tr = s.tr := by rw [captureErr_frame]
@[simp] theorem captureErr_tray (pg b : Nat) (inj : Bool) (info : Nat) : (s.captureErr pg b inj info).tray = s.tray := by rw [captureErr_frame]
@[simp] theorem captureErr_islands (pg b : Nat) (inj : Bool) (info : Nat) : (s.captureErr pg b inj info).islands = s.islands := by rw [captureErr_frame]
@[simp] theorem captureErr_held (pg b : Nat) (inj : Bool) (info : Nat) : (s.captureErr pg b inj info).held = s.held := by rw [captureErr_frame]
@[simp] theorem captureErr_crossing (pg b : Nat) (inj : Bool) (info : Nat) : (s.captureErr pg b inj info).crossing = s.crossing := by rw [captureErr_frame]
@[simp] theorem captureErr_ft (pg b : Nat) (inj : Bool) (info : Nat) : (s.captureErr pg b inj info).ft = s.ft := by rw [captureErr_frame]
@[simp] theorem captureErr_alert (pg b : Nat) (inj : Bool) (info : Nat) : (s.captureErr pg b inj info).alert = s.alert := by rw [captureErr_frame]
@[simp] theorem captureErr_alertHold (pg b : Nat) (inj : Bool) (info : Nat) : (s.captureErr pg b inj info).alertHold = s.alertHold := by rw [captureErr_frame]
@[simp] theorem captureErr_devMs (pg b : Nat) (inj : Bool) (info : Nat) : (s.captureErr pg b inj info).devMs = s.devMs := by rw [captureErr_frame]
@[simp] theorem captureErr_comps (pg b : Nat) (inj : Bool) (info : Nat) : (s.captureErr pg b inj info).comps = s.comps := by rw [captureErr_frame]
@[simp] theorem captureErr_events (pg b : Nat) (inj : Bool) (info : Nat) : (s.captureErr pg b inj info).events = s.events := by rw [captureErr_frame]
@[simp] theorem captureErr_unitDone (pg b : Nat) (inj : Bool) (info : Nat) : (s.captureErr pg b inj info).unitDone = s.unitDone := by rw [captureErr_frame]
@[simp] theorem captureErr_unitReqs (pg b : Nat) (inj : Bool) (info : Nat) : (s.captureErr pg b inj info).unitReqs = s.unitReqs := by rw [captureErr_frame]
@[simp] theorem captureErr_loom (pg b : Nat) (inj : Bool) (info : Nat) : (s.captureErr pg b inj info).loom = s.loom := by rw [captureErr_frame]
@[simp] theorem captureErr_sram (pg b : Nat) (inj : Bool) (info : Nat) : (s.captureErr pg b inj info).sram = s.sram := by rw [captureErr_frame]
@[simp] theorem captureErr_keyGen (pg b : Nat) (inj : Bool) (info : Nat) : (s.captureErr pg b inj info).keyGen = s.keyGen := by rw [captureErr_frame]
@[simp] theorem captureErr_xts (pg b : Nat) (inj : Bool) (info : Nat) : (s.captureErr pg b inj info).xts = s.xts := by rw [captureErr_frame]
@[simp] theorem captureErr_resume (pg b : Nat) (inj : Bool) (info : Nat) : (s.captureErr pg b inj info).resume = s.resume := by rw [captureErr_frame]
@[simp] theorem captureErr_fuses (pg b : Nat) (inj : Bool) (info : Nat) : (s.captureErr pg b inj info).fuses = s.fuses := by rw [captureErr_frame]
@[simp] theorem captureErr_tokens (pg b : Nat) (inj : Bool) (info : Nat) : (s.captureErr pg b inj info).tokens = s.tokens := by rw [captureErr_frame]
@[simp] theorem captureErr_timeFloor (pg b : Nat) (inj : Bool) (info : Nat) : (s.captureErr pg b inj info).timeFloor = s.timeFloor := by rw [captureErr_frame]
@[simp] theorem captureErr_unitNext (pg b : Nat) (inj : Bool) (info : Nat) : (s.captureErr pg b inj info).unitNext = s.unitNext := by rw [captureErr_frame]
@[simp] theorem captureErr_gates (pg b : Nat) (inj : Bool) (info : Nat) : (s.captureErr pg b inj info).gates = s.gates := by rw [captureErr_frame]
@[simp] theorem captureErr_returns (pg b : Nat) (inj : Bool) (info : Nat) : (s.captureErr pg b inj info).returns = s.returns := by rw [captureErr_frame]
@[simp] theorem captureErr_logs (pg b : Nat) (inj : Bool) (info : Nat) : (s.captureErr pg b inj info).logs = s.logs := by rw [captureErr_frame]
@[simp] theorem captureErr_meterRem (pg b : Nat) (inj : Bool) (info : Nat) : (s.captureErr pg b inj info).meterRem = s.meterRem := by rw [captureErr_frame]
@[simp] theorem captureErr_snapSeq (pg b : Nat) (inj : Bool) (info : Nat) : (s.captureErr pg b inj info).snapSeq = s.snapSeq := by rw [captureErr_frame]
@[simp] theorem captureErr_testing (pg b : Nat) (inj : Bool) (info : Nat) : (s.captureErr pg b inj info).testing = s.testing := by rw [captureErr_frame]
@[simp] theorem captureErr_batches (pg b : Nat) (inj : Bool) (info : Nat) : (s.captureErr pg b inj info).batches = s.batches := by rw [captureErr_frame]
@[simp] theorem captureErr_batchNext (pg b : Nat) (inj : Bool) (info : Nat) : (s.captureErr pg b inj info).batchNext = s.batchNext := by rw [captureErr_frame]
@[simp] theorem captureErr_trd (pg b : Nat) (inj : Bool) (info : Nat) : (s.captureErr pg b inj info).trd = s.trd := by rw [captureErr_frame]
@[simp] theorem captureErr_bcasts (pg b : Nat) (inj : Bool) (info : Nat) : (s.captureErr pg b inj info).bcasts = s.bcasts := by rw [captureErr_frame]
@[simp] theorem captureErr_streams (pg b : Nat) (inj : Bool) (info : Nat) : (s.captureErr pg b inj info).streams = s.streams := by rw [captureErr_frame]
@[simp] theorem captureErr_glists (pg b : Nat) (inj : Bool) (info : Nat) : (s.captureErr pg b inj info).glists = s.glists := by rw [captureErr_frame]
@[simp] theorem captureErr_stamps (pg b : Nat) (inj : Bool) (info : Nat) : (s.captureErr pg b inj info).stamps = s.stamps := by rw [captureErr_frame]
@[simp] theorem captureErr_time (pg b : Nat) (inj : Bool) (info : Nat) : (s.captureErr pg b inj info).time = s.time := by rw [captureErr_frame]
@[simp] theorem captureErr_codec (pg b : Nat) (inj : Bool) (info : Nat) : (s.captureErr pg b inj info).codec = s.codec := by rw [captureErr_frame]
@[simp] theorem captureErr_govQ (pg b : Nat) (inj : Bool) (info : Nat) : (s.captureErr pg b inj info).govQ = s.govQ := by rw [captureErr_frame]
@[simp] theorem captureErr_granted (pg b : Nat) (inj : Bool) (info : Nat) : (s.captureErr pg b inj info).granted = s.granted := by rw [captureErr_frame]
@[simp] theorem captureErr_moves (pg b : Nat) (inj : Bool) (info : Nat) : (s.captureErr pg b inj info).moves = s.moves := by rw [captureErr_frame]
@[simp] theorem captureErr_hed (pg b : Nat) (inj : Bool) (info : Nat) : (s.captureErr pg b inj info).hed = s.hed := by rw [captureErr_frame]
@[simp] theorem captureErr_sp (pg b : Nat) (inj : Bool) (info : Nat) : (s.captureErr pg b inj info).sp = s.sp := by rw [captureErr_frame]
@[simp] theorem captureErr_ks (pg b : Nat) (inj : Bool) (info : Nat) : (s.captureErr pg b inj info).ks = s.ks := by rw [captureErr_frame]
@[simp] theorem captureErr_clk (pg b : Nat) (inj : Bool) (info : Nat) : (s.captureErr pg b inj info).clk = s.clk := by rw [captureErr_frame]
@[simp] theorem captureErr_pwr (pg b : Nat) (inj : Bool) (info : Nat) : (s.captureErr pg b inj info).pwr = s.pwr := by rw [captureErr_frame]
@[simp] theorem captureErr_rst (pg b : Nat) (inj : Bool) (info : Nat) : (s.captureErr pg b inj info).rst = s.rst := by rw [captureErr_frame]
@[simp] theorem captureErr_flt (pg b : Nat) (inj : Bool) (info : Nat) : (s.captureErr pg b inj info).flt = s.flt := by rw [captureErr_frame]
@[simp] theorem captureErr_host (pg b : Nat) (inj : Bool) (info : Nat) : (s.captureErr pg b inj info).host = s.host := by rw [captureErr_frame]
@[simp] theorem captureErr_pins (pg b : Nat) (inj : Bool) (info : Nat) : (s.captureErr pg b inj info).pins = s.pins := by rw [captureErr_frame]

/-! ### recordErr -/

/-- Between s and t only registers, outputs and ALERT_N differ. -/
def reportOnly (s t : State) : Prop := t = { s with regs := t.regs, out := t.out, alert := t.alert, alertHold := t.alertHold }

theorem recordErr_frame (pg b : Nat) (inj : Bool) (info : Nat) : s.recordErr pg b inj info = { s with regs := (s.recordErr pg b inj info).regs, out := (s.recordErr pg b inj info).out, alert := (s.recordErr pg b inj info).alert, alertHold := (s.recordErr pg b inj info).alertHold } := by
  have hr : ∀ t : State, reportOnly s t → reportOnly s t.raiseAlert := fun t h => by
    unfold State.raiseAlert; split
    · exact h
    · rw [h]; exact rfl
  have hs : ∀ (t : State) (pg : Nat) (r : RegSpec) (i b : Nat) (v : DWord), reportOnly s t → reportOnly s (t.setReg pg r i b v) :=
    fun t _ _ _ _ _ h => by rw [h]; exact rfl
  have he : ∀ (t : State) (o : Output), reportOnly s t → reportOnly s (t.emit o) := fun t o h => by rw [h]; exact rfl
  have hi : ∀ (c : Bool) (t u : State), reportOnly s t → reportOnly s u → reportOnly s (if c then t else u) :=
    fun c t u h k => by cases c <;> assumption
  have h0 : reportOnly s s := rfl
  have h1 := hs s pg Reg.Hdr.ERR_STAT 0 0 (setBit (s.rg pg Reg.Hdr.ERR_STAT) b true) h0
  refine hi _ s _ h0 ?_
  refine hi _ _ _ (hr _ ?_) ?_ <;>
  · refine hi _ _ _ (he _ _ (he _ _ ?_)) ?_ <;>
    · refine hi _ _ _ h1 ?_
      exact hs _ _ _ _ _ _ (hs _ _ _ _ _ _ h1)
@[simp] theorem recordErr_pending (pg b : Nat) (inj : Bool) (info : Nat) : (s.recordErr pg b inj info).pending = s.pending := by rw [recordErr_frame]
@[simp] theorem recordErr_mem (pg b : Nat) (inj : Bool) (info : Nat) : (s.recordErr pg b inj info).mem = s.mem := by rw [recordErr_frame]
@[simp] theorem recordErr_poison (pg b : Nat) (inj : Bool) (info : Nat) : (s.recordErr pg b inj info).poison = s.poison := by rw [recordErr_frame]
@[simp] theorem recordErr_upsets (pg b : Nat) (inj : Bool) (info : Nat) : (s.recordErr pg b inj info).upsets = s.upsets := by rw [recordErr_frame]
@[simp] theorem recordErr_free (pg b : Nat) (inj : Bool) (info : Nat) : (s.recordErr pg b inj info).free = s.free := by rw [recordErr_frame]
@[simp] theorem recordErr_now (pg b : Nat) (inj : Bool) (info : Nat) : (s.recordErr pg b inj info).now = s.now := by rw [recordErr_frame]
@[simp] theorem recordErr_node (pg b : Nat) (inj : Bool) (info : Nat) : (s.recordErr pg b inj info).node = s.node := by rw [recordErr_frame]
@[simp] theorem recordErr_latches (pg b : Nat) (inj : Bool) (info : Nat) : (s.recordErr pg b inj info).latches = s.latches := by rw [recordErr_frame]
@[simp] theorem recordErr_staged (pg b : Nat) (inj : Bool) (info : Nat) : (s.recordErr pg b inj info).staged = s.staged := by rw [recordErr_frame]
@[simp] theorem recordErr_links (pg b : Nat) (inj : Bool) (info : Nat) : (s.recordErr pg b inj info).links = s.links := by rw [recordErr_frame]
@[simp] theorem recordErr_piers (pg b : Nat) (inj : Bool) (info : Nat) : (s.recordErr pg b inj info).piers = s.piers := by rw [recordErr_frame]
@[simp] theorem recordErr_landing (pg b : Nat) (inj : Bool) (info : Nat) : (s.recordErr pg b inj info).landing = s.landing := by rw [recordErr_frame]
@[simp] theorem recordErr_voqs (pg b : Nat) (inj : Bool) (info : Nat) : (s.recordErr pg b inj info).voqs = s.voqs := by rw [recordErr_frame]
@[simp] theorem recordErr_capHolds (pg b : Nat) (inj : Bool) (info : Nat) : (s.recordErr pg b inj info).capHolds = s.capHolds := by rw [recordErr_frame]
@[simp] theorem recordErr_capWins (pg b : Nat) (inj : Bool) (info : Nat) : (s.recordErr pg b inj info).capWins = s.capWins := by rw [recordErr_frame]
@[simp] theorem recordErr_policers (pg b : Nat) (inj : Bool) (info : Nat) : (s.recordErr pg b inj info).policers = s.policers := by rw [recordErr_frame]
@[simp] theorem recordErr_polMap (pg b : Nat) (inj : Bool) (info : Nat) : (s.recordErr pg b inj info).polMap = s.polMap := by rw [recordErr_frame]
@[simp] theorem recordErr_sampler (pg b : Nat) (inj : Bool) (info : Nat) : (s.recordErr pg b inj info).sampler = s.sampler := by rw [recordErr_frame]
@[simp] theorem recordErr_trace (pg b : Nat) (inj : Bool) (info : Nat) : (s.recordErr pg b inj info).trace = s.trace := by rw [recordErr_frame]
@[simp] theorem recordErr_arbLast (pg b : Nat) (inj : Bool) (info : Nat) : (s.recordErr pg b inj info).arbLast = s.arbLast := by rw [recordErr_frame]
@[simp] theorem recordErr_arb (pg b : Nat) (inj : Bool) (info : Nat) : (s.recordErr pg b inj info).arb = s.arb := by rw [recordErr_frame]
@[simp] theorem recordErr_marred (pg b : Nat) (inj : Bool) (info : Nat) : (s.recordErr pg b inj info).marred = s.marred := by rw [recordErr_frame]
@[simp] theorem recordErr_flushing (pg b : Nat) (inj : Bool) (info : Nat) : (s.recordErr pg b inj info).flushing = s.flushing := by rw [recordErr_frame]
@[simp] theorem recordErr_txns (pg b : Nat) (inj : Bool) (info : Nat) : (s.recordErr pg b inj info).txns = s.txns := by rw [recordErr_frame]
@[simp] theorem recordErr_bays (pg b : Nat) (inj : Bool) (info : Nat) : (s.recordErr pg b inj info).bays = s.bays := by rw [recordErr_frame]
@[simp] theorem recordErr_reg (pg b : Nat) (inj : Bool) (info : Nat) : (s.recordErr pg b inj info).reg = s.reg := by rw [recordErr_frame]
@[simp] theorem recordErr_tr (pg b : Nat) (inj : Bool) (info : Nat) : (s.recordErr pg b inj info).tr = s.tr := by rw [recordErr_frame]
@[simp] theorem recordErr_tray (pg b : Nat) (inj : Bool) (info : Nat) : (s.recordErr pg b inj info).tray = s.tray := by rw [recordErr_frame]
@[simp] theorem recordErr_islands (pg b : Nat) (inj : Bool) (info : Nat) : (s.recordErr pg b inj info).islands = s.islands := by rw [recordErr_frame]
@[simp] theorem recordErr_held (pg b : Nat) (inj : Bool) (info : Nat) : (s.recordErr pg b inj info).held = s.held := by rw [recordErr_frame]
@[simp] theorem recordErr_crossing (pg b : Nat) (inj : Bool) (info : Nat) : (s.recordErr pg b inj info).crossing = s.crossing := by rw [recordErr_frame]
@[simp] theorem recordErr_ft (pg b : Nat) (inj : Bool) (info : Nat) : (s.recordErr pg b inj info).ft = s.ft := by rw [recordErr_frame]
@[simp] theorem recordErr_devMs (pg b : Nat) (inj : Bool) (info : Nat) : (s.recordErr pg b inj info).devMs = s.devMs := by rw [recordErr_frame]
@[simp] theorem recordErr_comps (pg b : Nat) (inj : Bool) (info : Nat) : (s.recordErr pg b inj info).comps = s.comps := by rw [recordErr_frame]
@[simp] theorem recordErr_events (pg b : Nat) (inj : Bool) (info : Nat) : (s.recordErr pg b inj info).events = s.events := by rw [recordErr_frame]
@[simp] theorem recordErr_unitDone (pg b : Nat) (inj : Bool) (info : Nat) : (s.recordErr pg b inj info).unitDone = s.unitDone := by rw [recordErr_frame]
@[simp] theorem recordErr_unitReqs (pg b : Nat) (inj : Bool) (info : Nat) : (s.recordErr pg b inj info).unitReqs = s.unitReqs := by rw [recordErr_frame]
@[simp] theorem recordErr_loom (pg b : Nat) (inj : Bool) (info : Nat) : (s.recordErr pg b inj info).loom = s.loom := by rw [recordErr_frame]
@[simp] theorem recordErr_sram (pg b : Nat) (inj : Bool) (info : Nat) : (s.recordErr pg b inj info).sram = s.sram := by rw [recordErr_frame]
@[simp] theorem recordErr_keyGen (pg b : Nat) (inj : Bool) (info : Nat) : (s.recordErr pg b inj info).keyGen = s.keyGen := by rw [recordErr_frame]
@[simp] theorem recordErr_xts (pg b : Nat) (inj : Bool) (info : Nat) : (s.recordErr pg b inj info).xts = s.xts := by rw [recordErr_frame]
@[simp] theorem recordErr_resume (pg b : Nat) (inj : Bool) (info : Nat) : (s.recordErr pg b inj info).resume = s.resume := by rw [recordErr_frame]
@[simp] theorem recordErr_fuses (pg b : Nat) (inj : Bool) (info : Nat) : (s.recordErr pg b inj info).fuses = s.fuses := by rw [recordErr_frame]
@[simp] theorem recordErr_tokens (pg b : Nat) (inj : Bool) (info : Nat) : (s.recordErr pg b inj info).tokens = s.tokens := by rw [recordErr_frame]
@[simp] theorem recordErr_timeFloor (pg b : Nat) (inj : Bool) (info : Nat) : (s.recordErr pg b inj info).timeFloor = s.timeFloor := by rw [recordErr_frame]
@[simp] theorem recordErr_unitNext (pg b : Nat) (inj : Bool) (info : Nat) : (s.recordErr pg b inj info).unitNext = s.unitNext := by rw [recordErr_frame]
@[simp] theorem recordErr_gates (pg b : Nat) (inj : Bool) (info : Nat) : (s.recordErr pg b inj info).gates = s.gates := by rw [recordErr_frame]
@[simp] theorem recordErr_returns (pg b : Nat) (inj : Bool) (info : Nat) : (s.recordErr pg b inj info).returns = s.returns := by rw [recordErr_frame]
@[simp] theorem recordErr_logs (pg b : Nat) (inj : Bool) (info : Nat) : (s.recordErr pg b inj info).logs = s.logs := by rw [recordErr_frame]
@[simp] theorem recordErr_meterRem (pg b : Nat) (inj : Bool) (info : Nat) : (s.recordErr pg b inj info).meterRem = s.meterRem := by rw [recordErr_frame]
@[simp] theorem recordErr_snapSeq (pg b : Nat) (inj : Bool) (info : Nat) : (s.recordErr pg b inj info).snapSeq = s.snapSeq := by rw [recordErr_frame]
@[simp] theorem recordErr_testing (pg b : Nat) (inj : Bool) (info : Nat) : (s.recordErr pg b inj info).testing = s.testing := by rw [recordErr_frame]
@[simp] theorem recordErr_batches (pg b : Nat) (inj : Bool) (info : Nat) : (s.recordErr pg b inj info).batches = s.batches := by rw [recordErr_frame]
@[simp] theorem recordErr_batchNext (pg b : Nat) (inj : Bool) (info : Nat) : (s.recordErr pg b inj info).batchNext = s.batchNext := by rw [recordErr_frame]
@[simp] theorem recordErr_trd (pg b : Nat) (inj : Bool) (info : Nat) : (s.recordErr pg b inj info).trd = s.trd := by rw [recordErr_frame]
@[simp] theorem recordErr_bcasts (pg b : Nat) (inj : Bool) (info : Nat) : (s.recordErr pg b inj info).bcasts = s.bcasts := by rw [recordErr_frame]
@[simp] theorem recordErr_streams (pg b : Nat) (inj : Bool) (info : Nat) : (s.recordErr pg b inj info).streams = s.streams := by rw [recordErr_frame]
@[simp] theorem recordErr_glists (pg b : Nat) (inj : Bool) (info : Nat) : (s.recordErr pg b inj info).glists = s.glists := by rw [recordErr_frame]
@[simp] theorem recordErr_stamps (pg b : Nat) (inj : Bool) (info : Nat) : (s.recordErr pg b inj info).stamps = s.stamps := by rw [recordErr_frame]
@[simp] theorem recordErr_time (pg b : Nat) (inj : Bool) (info : Nat) : (s.recordErr pg b inj info).time = s.time := by rw [recordErr_frame]
@[simp] theorem recordErr_codec (pg b : Nat) (inj : Bool) (info : Nat) : (s.recordErr pg b inj info).codec = s.codec := by rw [recordErr_frame]
@[simp] theorem recordErr_govQ (pg b : Nat) (inj : Bool) (info : Nat) : (s.recordErr pg b inj info).govQ = s.govQ := by rw [recordErr_frame]
@[simp] theorem recordErr_granted (pg b : Nat) (inj : Bool) (info : Nat) : (s.recordErr pg b inj info).granted = s.granted := by rw [recordErr_frame]
@[simp] theorem recordErr_moves (pg b : Nat) (inj : Bool) (info : Nat) : (s.recordErr pg b inj info).moves = s.moves := by rw [recordErr_frame]
@[simp] theorem recordErr_hed (pg b : Nat) (inj : Bool) (info : Nat) : (s.recordErr pg b inj info).hed = s.hed := by rw [recordErr_frame]
@[simp] theorem recordErr_sp (pg b : Nat) (inj : Bool) (info : Nat) : (s.recordErr pg b inj info).sp = s.sp := by rw [recordErr_frame]
@[simp] theorem recordErr_ks (pg b : Nat) (inj : Bool) (info : Nat) : (s.recordErr pg b inj info).ks = s.ks := by rw [recordErr_frame]
@[simp] theorem recordErr_clk (pg b : Nat) (inj : Bool) (info : Nat) : (s.recordErr pg b inj info).clk = s.clk := by rw [recordErr_frame]
@[simp] theorem recordErr_pwr (pg b : Nat) (inj : Bool) (info : Nat) : (s.recordErr pg b inj info).pwr = s.pwr := by rw [recordErr_frame]
@[simp] theorem recordErr_rst (pg b : Nat) (inj : Bool) (info : Nat) : (s.recordErr pg b inj info).rst = s.rst := by rw [recordErr_frame]
@[simp] theorem recordErr_flt (pg b : Nat) (inj : Bool) (info : Nat) : (s.recordErr pg b inj info).flt = s.flt := by rw [recordErr_frame]
@[simp] theorem recordErr_host (pg b : Nat) (inj : Bool) (info : Nat) : (s.recordErr pg b inj info).host = s.host := by rw [recordErr_frame]
@[simp] theorem recordErr_pins (pg b : Nat) (inj : Bool) (info : Nat) : (s.recordErr pg b inj info).pins = s.pins := by rw [recordErr_frame]

/-! ### markDevEvent -/

theorem markDevEvent_frame : s.markDevEvent = { s with regs := (s.markDevEvent).regs, devMs := (s.markDevEvent).devMs } := by
  unfold State.markDevEvent
  split
  · rfl
  · dsimp only
    rw [count_frame_fold]
    simp only [bumpHub_eq]
    rw [count_frame]
@[simp] theorem markDevEvent_pending : (s.markDevEvent).pending = s.pending := by rw [markDevEvent_frame]
@[simp] theorem markDevEvent_mem : (s.markDevEvent).mem = s.mem := by rw [markDevEvent_frame]
@[simp] theorem markDevEvent_poison : (s.markDevEvent).poison = s.poison := by rw [markDevEvent_frame]
@[simp] theorem markDevEvent_upsets : (s.markDevEvent).upsets = s.upsets := by rw [markDevEvent_frame]
@[simp] theorem markDevEvent_out : (s.markDevEvent).out = s.out := by rw [markDevEvent_frame]
@[simp] theorem markDevEvent_free : (s.markDevEvent).free = s.free := by rw [markDevEvent_frame]
@[simp] theorem markDevEvent_now : (s.markDevEvent).now = s.now := by rw [markDevEvent_frame]
@[simp] theorem markDevEvent_node : (s.markDevEvent).node = s.node := by rw [markDevEvent_frame]
@[simp] theorem markDevEvent_latches : (s.markDevEvent).latches = s.latches := by rw [markDevEvent_frame]
@[simp] theorem markDevEvent_staged : (s.markDevEvent).staged = s.staged := by rw [markDevEvent_frame]
@[simp] theorem markDevEvent_links : (s.markDevEvent).links = s.links := by rw [markDevEvent_frame]
@[simp] theorem markDevEvent_piers : (s.markDevEvent).piers = s.piers := by rw [markDevEvent_frame]
@[simp] theorem markDevEvent_landing : (s.markDevEvent).landing = s.landing := by rw [markDevEvent_frame]
@[simp] theorem markDevEvent_voqs : (s.markDevEvent).voqs = s.voqs := by rw [markDevEvent_frame]
@[simp] theorem markDevEvent_capHolds : (s.markDevEvent).capHolds = s.capHolds := by rw [markDevEvent_frame]
@[simp] theorem markDevEvent_capWins : (s.markDevEvent).capWins = s.capWins := by rw [markDevEvent_frame]
@[simp] theorem markDevEvent_policers : (s.markDevEvent).policers = s.policers := by rw [markDevEvent_frame]
@[simp] theorem markDevEvent_polMap : (s.markDevEvent).polMap = s.polMap := by rw [markDevEvent_frame]
@[simp] theorem markDevEvent_sampler : (s.markDevEvent).sampler = s.sampler := by rw [markDevEvent_frame]
@[simp] theorem markDevEvent_trace : (s.markDevEvent).trace = s.trace := by rw [markDevEvent_frame]
@[simp] theorem markDevEvent_arbLast : (s.markDevEvent).arbLast = s.arbLast := by rw [markDevEvent_frame]
@[simp] theorem markDevEvent_arb : (s.markDevEvent).arb = s.arb := by rw [markDevEvent_frame]
@[simp] theorem markDevEvent_marred : (s.markDevEvent).marred = s.marred := by rw [markDevEvent_frame]
@[simp] theorem markDevEvent_flushing : (s.markDevEvent).flushing = s.flushing := by rw [markDevEvent_frame]
@[simp] theorem markDevEvent_txns : (s.markDevEvent).txns = s.txns := by rw [markDevEvent_frame]
@[simp] theorem markDevEvent_bays : (s.markDevEvent).bays = s.bays := by rw [markDevEvent_frame]
@[simp] theorem markDevEvent_reg : (s.markDevEvent).reg = s.reg := by rw [markDevEvent_frame]
@[simp] theorem markDevEvent_tr : (s.markDevEvent).tr = s.tr := by rw [markDevEvent_frame]
@[simp] theorem markDevEvent_tray : (s.markDevEvent).tray = s.tray := by rw [markDevEvent_frame]
@[simp] theorem markDevEvent_islands : (s.markDevEvent).islands = s.islands := by rw [markDevEvent_frame]
@[simp] theorem markDevEvent_held : (s.markDevEvent).held = s.held := by rw [markDevEvent_frame]
@[simp] theorem markDevEvent_crossing : (s.markDevEvent).crossing = s.crossing := by rw [markDevEvent_frame]
@[simp] theorem markDevEvent_ft : (s.markDevEvent).ft = s.ft := by rw [markDevEvent_frame]
@[simp] theorem markDevEvent_alert : (s.markDevEvent).alert = s.alert := by rw [markDevEvent_frame]
@[simp] theorem markDevEvent_alertHold : (s.markDevEvent).alertHold = s.alertHold := by rw [markDevEvent_frame]
@[simp] theorem markDevEvent_comps : (s.markDevEvent).comps = s.comps := by rw [markDevEvent_frame]
@[simp] theorem markDevEvent_events : (s.markDevEvent).events = s.events := by rw [markDevEvent_frame]
@[simp] theorem markDevEvent_unitDone : (s.markDevEvent).unitDone = s.unitDone := by rw [markDevEvent_frame]
@[simp] theorem markDevEvent_unitReqs : (s.markDevEvent).unitReqs = s.unitReqs := by rw [markDevEvent_frame]
@[simp] theorem markDevEvent_loom : (s.markDevEvent).loom = s.loom := by rw [markDevEvent_frame]
@[simp] theorem markDevEvent_sram : (s.markDevEvent).sram = s.sram := by rw [markDevEvent_frame]
@[simp] theorem markDevEvent_keyGen : (s.markDevEvent).keyGen = s.keyGen := by rw [markDevEvent_frame]
@[simp] theorem markDevEvent_xts : (s.markDevEvent).xts = s.xts := by rw [markDevEvent_frame]
@[simp] theorem markDevEvent_resume : (s.markDevEvent).resume = s.resume := by rw [markDevEvent_frame]
@[simp] theorem markDevEvent_fuses : (s.markDevEvent).fuses = s.fuses := by rw [markDevEvent_frame]
@[simp] theorem markDevEvent_tokens : (s.markDevEvent).tokens = s.tokens := by rw [markDevEvent_frame]
@[simp] theorem markDevEvent_timeFloor : (s.markDevEvent).timeFloor = s.timeFloor := by rw [markDevEvent_frame]
@[simp] theorem markDevEvent_unitNext : (s.markDevEvent).unitNext = s.unitNext := by rw [markDevEvent_frame]
@[simp] theorem markDevEvent_gates : (s.markDevEvent).gates = s.gates := by rw [markDevEvent_frame]
@[simp] theorem markDevEvent_returns : (s.markDevEvent).returns = s.returns := by rw [markDevEvent_frame]
@[simp] theorem markDevEvent_logs : (s.markDevEvent).logs = s.logs := by rw [markDevEvent_frame]
@[simp] theorem markDevEvent_meterRem : (s.markDevEvent).meterRem = s.meterRem := by rw [markDevEvent_frame]
@[simp] theorem markDevEvent_snapSeq : (s.markDevEvent).snapSeq = s.snapSeq := by rw [markDevEvent_frame]
@[simp] theorem markDevEvent_testing : (s.markDevEvent).testing = s.testing := by rw [markDevEvent_frame]
@[simp] theorem markDevEvent_batches : (s.markDevEvent).batches = s.batches := by rw [markDevEvent_frame]
@[simp] theorem markDevEvent_batchNext : (s.markDevEvent).batchNext = s.batchNext := by rw [markDevEvent_frame]
@[simp] theorem markDevEvent_trd : (s.markDevEvent).trd = s.trd := by rw [markDevEvent_frame]
@[simp] theorem markDevEvent_bcasts : (s.markDevEvent).bcasts = s.bcasts := by rw [markDevEvent_frame]
@[simp] theorem markDevEvent_streams : (s.markDevEvent).streams = s.streams := by rw [markDevEvent_frame]
@[simp] theorem markDevEvent_glists : (s.markDevEvent).glists = s.glists := by rw [markDevEvent_frame]
@[simp] theorem markDevEvent_stamps : (s.markDevEvent).stamps = s.stamps := by rw [markDevEvent_frame]
@[simp] theorem markDevEvent_time : (s.markDevEvent).time = s.time := by rw [markDevEvent_frame]
@[simp] theorem markDevEvent_codec : (s.markDevEvent).codec = s.codec := by rw [markDevEvent_frame]
@[simp] theorem markDevEvent_govQ : (s.markDevEvent).govQ = s.govQ := by rw [markDevEvent_frame]
@[simp] theorem markDevEvent_granted : (s.markDevEvent).granted = s.granted := by rw [markDevEvent_frame]
@[simp] theorem markDevEvent_moves : (s.markDevEvent).moves = s.moves := by rw [markDevEvent_frame]
@[simp] theorem markDevEvent_hed : (s.markDevEvent).hed = s.hed := by rw [markDevEvent_frame]
@[simp] theorem markDevEvent_sp : (s.markDevEvent).sp = s.sp := by rw [markDevEvent_frame]
@[simp] theorem markDevEvent_ks : (s.markDevEvent).ks = s.ks := by rw [markDevEvent_frame]
@[simp] theorem markDevEvent_clk : (s.markDevEvent).clk = s.clk := by rw [markDevEvent_frame]
@[simp] theorem markDevEvent_pwr : (s.markDevEvent).pwr = s.pwr := by rw [markDevEvent_frame]
@[simp] theorem markDevEvent_rst : (s.markDevEvent).rst = s.rst := by rw [markDevEvent_frame]
@[simp] theorem markDevEvent_flt : (s.markDevEvent).flt = s.flt := by rw [markDevEvent_frame]
@[simp] theorem markDevEvent_host : (s.markDevEvent).host = s.host := by rw [markDevEvent_frame]
@[simp] theorem markDevEvent_pins : (s.markDevEvent).pins = s.pins := by rw [markDevEvent_frame]

/-! ### setErr -/

theorem setErr_frame (pg b info : Nat) : s.setErr pg b info = { s with regs := (s.setErr pg b info).regs, out := (s.setErr pg b info).out, alert := (s.setErr pg b info).alert, alertHold := (s.setErr pg b info).alertHold, devMs := (s.setErr pg b info).devMs } := by
  unfold State.setErr
  dsimp only
  split
  · rw [recordErr_frame]
  · rw [markDevEvent_frame, recordErr_frame]
@[simp] theorem setErr_pending (pg b info : Nat) : (s.setErr pg b info).pending = s.pending := by rw [setErr_frame]
@[simp] theorem setErr_mem (pg b info : Nat) : (s.setErr pg b info).mem = s.mem := by rw [setErr_frame]
@[simp] theorem setErr_poison (pg b info : Nat) : (s.setErr pg b info).poison = s.poison := by rw [setErr_frame]
@[simp] theorem setErr_upsets (pg b info : Nat) : (s.setErr pg b info).upsets = s.upsets := by rw [setErr_frame]
@[simp] theorem setErr_free (pg b info : Nat) : (s.setErr pg b info).free = s.free := by rw [setErr_frame]
@[simp] theorem setErr_now (pg b info : Nat) : (s.setErr pg b info).now = s.now := by rw [setErr_frame]
@[simp] theorem setErr_node (pg b info : Nat) : (s.setErr pg b info).node = s.node := by rw [setErr_frame]
@[simp] theorem setErr_latches (pg b info : Nat) : (s.setErr pg b info).latches = s.latches := by rw [setErr_frame]
@[simp] theorem setErr_staged (pg b info : Nat) : (s.setErr pg b info).staged = s.staged := by rw [setErr_frame]
@[simp] theorem setErr_links (pg b info : Nat) : (s.setErr pg b info).links = s.links := by rw [setErr_frame]
@[simp] theorem setErr_piers (pg b info : Nat) : (s.setErr pg b info).piers = s.piers := by rw [setErr_frame]
@[simp] theorem setErr_landing (pg b info : Nat) : (s.setErr pg b info).landing = s.landing := by rw [setErr_frame]
@[simp] theorem setErr_voqs (pg b info : Nat) : (s.setErr pg b info).voqs = s.voqs := by rw [setErr_frame]
@[simp] theorem setErr_capHolds (pg b info : Nat) : (s.setErr pg b info).capHolds = s.capHolds := by rw [setErr_frame]
@[simp] theorem setErr_capWins (pg b info : Nat) : (s.setErr pg b info).capWins = s.capWins := by rw [setErr_frame]
@[simp] theorem setErr_policers (pg b info : Nat) : (s.setErr pg b info).policers = s.policers := by rw [setErr_frame]
@[simp] theorem setErr_polMap (pg b info : Nat) : (s.setErr pg b info).polMap = s.polMap := by rw [setErr_frame]
@[simp] theorem setErr_sampler (pg b info : Nat) : (s.setErr pg b info).sampler = s.sampler := by rw [setErr_frame]
@[simp] theorem setErr_trace (pg b info : Nat) : (s.setErr pg b info).trace = s.trace := by rw [setErr_frame]
@[simp] theorem setErr_arbLast (pg b info : Nat) : (s.setErr pg b info).arbLast = s.arbLast := by rw [setErr_frame]
@[simp] theorem setErr_arb (pg b info : Nat) : (s.setErr pg b info).arb = s.arb := by rw [setErr_frame]
@[simp] theorem setErr_marred (pg b info : Nat) : (s.setErr pg b info).marred = s.marred := by rw [setErr_frame]
@[simp] theorem setErr_flushing (pg b info : Nat) : (s.setErr pg b info).flushing = s.flushing := by rw [setErr_frame]
@[simp] theorem setErr_txns (pg b info : Nat) : (s.setErr pg b info).txns = s.txns := by rw [setErr_frame]
@[simp] theorem setErr_bays (pg b info : Nat) : (s.setErr pg b info).bays = s.bays := by rw [setErr_frame]
@[simp] theorem setErr_reg (pg b info : Nat) : (s.setErr pg b info).reg = s.reg := by rw [setErr_frame]
@[simp] theorem setErr_tr (pg b info : Nat) : (s.setErr pg b info).tr = s.tr := by rw [setErr_frame]
@[simp] theorem setErr_tray (pg b info : Nat) : (s.setErr pg b info).tray = s.tray := by rw [setErr_frame]
@[simp] theorem setErr_islands (pg b info : Nat) : (s.setErr pg b info).islands = s.islands := by rw [setErr_frame]
@[simp] theorem setErr_held (pg b info : Nat) : (s.setErr pg b info).held = s.held := by rw [setErr_frame]
@[simp] theorem setErr_crossing (pg b info : Nat) : (s.setErr pg b info).crossing = s.crossing := by rw [setErr_frame]
@[simp] theorem setErr_ft (pg b info : Nat) : (s.setErr pg b info).ft = s.ft := by rw [setErr_frame]
@[simp] theorem setErr_comps (pg b info : Nat) : (s.setErr pg b info).comps = s.comps := by rw [setErr_frame]
@[simp] theorem setErr_events (pg b info : Nat) : (s.setErr pg b info).events = s.events := by rw [setErr_frame]
@[simp] theorem setErr_unitDone (pg b info : Nat) : (s.setErr pg b info).unitDone = s.unitDone := by rw [setErr_frame]
@[simp] theorem setErr_unitReqs (pg b info : Nat) : (s.setErr pg b info).unitReqs = s.unitReqs := by rw [setErr_frame]
@[simp] theorem setErr_loom (pg b info : Nat) : (s.setErr pg b info).loom = s.loom := by rw [setErr_frame]
@[simp] theorem setErr_sram (pg b info : Nat) : (s.setErr pg b info).sram = s.sram := by rw [setErr_frame]
@[simp] theorem setErr_keyGen (pg b info : Nat) : (s.setErr pg b info).keyGen = s.keyGen := by rw [setErr_frame]
@[simp] theorem setErr_xts (pg b info : Nat) : (s.setErr pg b info).xts = s.xts := by rw [setErr_frame]
@[simp] theorem setErr_resume (pg b info : Nat) : (s.setErr pg b info).resume = s.resume := by rw [setErr_frame]
@[simp] theorem setErr_fuses (pg b info : Nat) : (s.setErr pg b info).fuses = s.fuses := by rw [setErr_frame]
@[simp] theorem setErr_tokens (pg b info : Nat) : (s.setErr pg b info).tokens = s.tokens := by rw [setErr_frame]
@[simp] theorem setErr_timeFloor (pg b info : Nat) : (s.setErr pg b info).timeFloor = s.timeFloor := by rw [setErr_frame]
@[simp] theorem setErr_unitNext (pg b info : Nat) : (s.setErr pg b info).unitNext = s.unitNext := by rw [setErr_frame]
@[simp] theorem setErr_gates (pg b info : Nat) : (s.setErr pg b info).gates = s.gates := by rw [setErr_frame]
@[simp] theorem setErr_returns (pg b info : Nat) : (s.setErr pg b info).returns = s.returns := by rw [setErr_frame]
@[simp] theorem setErr_logs (pg b info : Nat) : (s.setErr pg b info).logs = s.logs := by rw [setErr_frame]
@[simp] theorem setErr_meterRem (pg b info : Nat) : (s.setErr pg b info).meterRem = s.meterRem := by rw [setErr_frame]
@[simp] theorem setErr_snapSeq (pg b info : Nat) : (s.setErr pg b info).snapSeq = s.snapSeq := by rw [setErr_frame]
@[simp] theorem setErr_testing (pg b info : Nat) : (s.setErr pg b info).testing = s.testing := by rw [setErr_frame]
@[simp] theorem setErr_batches (pg b info : Nat) : (s.setErr pg b info).batches = s.batches := by rw [setErr_frame]
@[simp] theorem setErr_batchNext (pg b info : Nat) : (s.setErr pg b info).batchNext = s.batchNext := by rw [setErr_frame]
@[simp] theorem setErr_trd (pg b info : Nat) : (s.setErr pg b info).trd = s.trd := by rw [setErr_frame]
@[simp] theorem setErr_bcasts (pg b info : Nat) : (s.setErr pg b info).bcasts = s.bcasts := by rw [setErr_frame]
@[simp] theorem setErr_streams (pg b info : Nat) : (s.setErr pg b info).streams = s.streams := by rw [setErr_frame]
@[simp] theorem setErr_glists (pg b info : Nat) : (s.setErr pg b info).glists = s.glists := by rw [setErr_frame]
@[simp] theorem setErr_stamps (pg b info : Nat) : (s.setErr pg b info).stamps = s.stamps := by rw [setErr_frame]
@[simp] theorem setErr_time (pg b info : Nat) : (s.setErr pg b info).time = s.time := by rw [setErr_frame]
@[simp] theorem setErr_codec (pg b info : Nat) : (s.setErr pg b info).codec = s.codec := by rw [setErr_frame]
@[simp] theorem setErr_govQ (pg b info : Nat) : (s.setErr pg b info).govQ = s.govQ := by rw [setErr_frame]
@[simp] theorem setErr_granted (pg b info : Nat) : (s.setErr pg b info).granted = s.granted := by rw [setErr_frame]
@[simp] theorem setErr_moves (pg b info : Nat) : (s.setErr pg b info).moves = s.moves := by rw [setErr_frame]
@[simp] theorem setErr_hed (pg b info : Nat) : (s.setErr pg b info).hed = s.hed := by rw [setErr_frame]
@[simp] theorem setErr_sp (pg b info : Nat) : (s.setErr pg b info).sp = s.sp := by rw [setErr_frame]
@[simp] theorem setErr_ks (pg b info : Nat) : (s.setErr pg b info).ks = s.ks := by rw [setErr_frame]
@[simp] theorem setErr_clk (pg b info : Nat) : (s.setErr pg b info).clk = s.clk := by rw [setErr_frame]
@[simp] theorem setErr_pwr (pg b info : Nat) : (s.setErr pg b info).pwr = s.pwr := by rw [setErr_frame]
@[simp] theorem setErr_rst (pg b info : Nat) : (s.setErr pg b info).rst = s.rst := by rw [setErr_frame]
@[simp] theorem setErr_flt (pg b info : Nat) : (s.setErr pg b info).flt = s.flt := by rw [setErr_frame]
@[simp] theorem setErr_host (pg b info : Nat) : (s.setErr pg b info).host = s.host := by rw [setErr_frame]
@[simp] theorem setErr_pins (pg b info : Nat) : (s.setErr pg b info).pins = s.pins := by rw [setErr_frame]

end Sys2Proof.Laws.State
end

