-- ==== Sys2Proof/Laws/Calm.lean ====
section
/-!
SUPPORT. Laws/Calm.lean: in a calm state the end of a command does nothing more.
-/
namespace Sys2Proof.Laws.Calm

open Sys2Proof Sys2Proof.Machine

/-- The events of a state that has none. -/
theorem settleEvents_of_none (k : Nat) (s : State) (h : s.events = []) : State.settleEvents k s = s := by
  cases k with
  | zero => rfl
  | succ k => rw [State.settleEvents, h]

theorem endReduces_of_idle (s : State) (h : ∀ r ∈ s.loom.reds, r.task = none) : s.endReduces = s := by
  have : s.loom.reds.filter (fun r => r.installed && r.task.isSome && !r.isOpen) = [] := by
    rw [List.filter_eq_nil_iff]
    intro r hr
    simp [h r hr]
  rw [State.endReduces, this]
  rfl

theorem rowSteps_of_none (k : Nat) (s : State) (h : s.hed.ops = []) : State.rowSteps k s = s := by
  induction k with
  | zero => rfl
  | succ k ih => rw [State.rowSteps, h]; exact ih

theorem handSettle_of_none (s : State) (h : s.reg.handWrites = []) : s.handSettle = s := by
  have e : ({ s.reg with handWrites := [] } : RegionSt) = s.reg := by rw [← h]
  simp only [State.handSettle, h, List.filter_nil, List.foldl_nil, e]

/-- A message that nothing in the Deck waits for is acted on as its command gives it. -/
theorem waiting_of_empty (s : State) (x : Nat) (m : Msg) (h : s.voqs = []) : s.waiting x m = none := by
  simp [State.waiting, h]

theorem takeFrom_of_empty (s : State) (x : Nat) (m : Msg) (h : s.voqs = []) : s.takeFrom x m = s := by
  simp [State.takeFrom, waiting_of_empty s x m h]

theorem outOfDeck_of_empty (s : State) (x : Nat) (m : Msg) (f : Msg → State → State) (h : s.voqs = []) : s.outOfDeck x m f = f m s := by
  simp [State.outOfDeck, State.inTurn, State.behind, waiting_of_empty s x m h]

/-- What comes for a Bay whose island runs, with no wake request standing, is handed to it. -/
theorem atBay_of_run (s : State) (n : BayId) (x : Nat) (m : Msg) (f : State → State) (h : s.islandState (.bay n) = 0)
    (k : SMap.get (fun _ => 0) s.pwr.req n.val = 0) : s.atBay n.val x m f = f s := by
  have e : Fin.ofNat 24 n.val = n := by apply Fin.ext; simp [Fin.ofNat]
  have a : s.abandon (.bay n) = s := if_pos k
  simp only [State.atBay, e, h, ne_eq, not_true_eq_false, if_false, a]

/-- A request that no error met on its way is as it was. -/
theorem mar_clean (s : State) (r : Req) : s.mar r Errs.clean.path = s := by
  simp [State.mar, Errs.clean]

theorem poolSettle_of_none (s : State) (h : s.hed.poolQ = []) : s.poolSettle = s := by
  rw [State.poolSettle, h]
  rfl

theorem hedSettle_of_idle (s : State) (h : s.hed.ops = []) (k : s.hed.tasks = []) (q : s.hed.poolQ = []) : s.hedSettle = s := by
  rw [State.hedSettle, h]
  simp only [List.foldl_nil, poolSettle_of_none s q, k]

theorem migSettle_of_none (s : State) (h : s.hed.ops = []) : s.migSettle = s := by
  rw [State.migSettle, h]; rfl

/-- A store reads as one of its entries or as unlisted. -/
theorem get_cases {α : Type} (d : Nat → α) (m : SMap α) (k : Nat) : SMap.get d m k = d k ∨ ∃ p ∈ m, p.2 = SMap.get d m k := by
  induction m with
  | nil => exact .inl rfl
  | cons e r ih =>
    obtain ⟨k', v⟩ := e
    by_cases h : k = k'
    · exact .inr ⟨(k', v), by simp, by simp [SMap.get, h]⟩
    · simp only [SMap.get, h, if_false]
      rcases ih with ih | ⟨p, hp, he⟩
      · exact .inl ih
      · exact .inr ⟨p, by simp [hp], he⟩

/-- Every entry of a store after a write is an old one or the one written. -/
theorem mem_set {α : Type} [DecidableEq α] (d : Nat → α) (m : SMap α) (k : Nat) (v : α) (p : Nat × α) (h : p ∈ SMap.set d m k v) :
    p = (k, v) ∨ p ∈ m := by
  induction m with
  | nil => simp only [SMap.set] at h; split at h <;> simp_all
  | cons e r ih =>
    obtain ⟨k', v'⟩ := e
    simp only [SMap.set] at h
    split at h
    · split at h
      · exact .inr h
      · simpa using h
    · split at h
      · split at h
        · exact .inr (List.mem_cons_of_mem _ h)
        · rcases List.mem_cons.mp h with h | h
          · exact .inl h
          · exact .inr (List.mem_cons_of_mem _ h)
      · rcases List.mem_cons.mp h with h | h
        · exact .inr (by simp [h])
        · rcases ih h with h | h
          · exact .inl h
          · exact .inr (List.mem_cons_of_mem _ h)

theorem spu_kat (s : State) (h : ∀ p ∈ s.sp.units, p.2.kat ≠ 1) (n k : Nat) : (s.spu n k).kat ≠ 1 := by
  unfold State.spu
  rcases get_cases (fun _ => SpUnit.init) s.sp.units (n * 64 + k) with e | ⟨p, hp, he⟩
  · rw [e]; decide
  · rw [← he]; exact h p hp

theorem katStart_of_none (s : State) (h : ∀ p ∈ s.sp.units, p.2.kat ≠ 1) : s.katStart = s := by
  unfold State.katStart
  have : ∀ (xs : List (Nat × SpUnit)) (f : State → Nat × SpUnit → State), (∀ p ∈ xs, f s p = s) → xs.foldl f s = s := by
    intro xs f hf
    induction xs with
    | nil => rfl
    | cons x t ih => rw [List.foldl_cons, hf x (by simp)]; exact ih fun p hp => hf p (by simp [hp])
  refine this _ _ fun p _ => ?_
  simp only [spu_kat s h, false_and, if_false]

theorem launchStep_of_waits (s : State) (id : Nat) (h : ∀ l ∈ s.sp.launches, l.atRest) : s.launchStep id = s := by
  unfold State.launchStep
  split
  · rfl
  · next l hl =>
    obtain ⟨h3, h6, h8⟩ := h l (List.mem_of_find?_eq_some hl)
    simp only [h3, if_false, h6]
    split
    · next h => exact absurd ⟨h.1, by simpa using h.2⟩ h8
    · rfl

theorem spSettle_of_idle (s : State) (h : ∀ l ∈ s.sp.launches, l.atRest) (k : ∀ p ∈ s.sp.units, p.2.kat ≠ 1) : s.spSettle = s := by
  rw [State.spSettle, katStart_of_none s k]
  have : ∀ xs : List Nat, xs.foldl (fun s id => ((s.launchStep id).launchStep id).launchStep id) s = s := by
    intro xs
    induction xs with
    | nil => rfl
    | cons x t ih => simp only [List.foldl_cons, launchStep_of_waits s x h, ih]
  exact this _

theorem hostSettle_of_none (s : State) (h : s.host.inbox = []) : s.hostSettle = s := by
  have hk : ({ s.host with inbox := [] } : HostSt) = s.host := by rw [← h]
  rw [State.hostSettle, h, hk]
  rfl

theorem chores_of_calm (s : State) (h : s.calm) : s.chores = s := by
  obtain ⟨_, h2, h3, h4, h5, h6, h7, h8, h9⟩ := h
  rw [State.chores, handSettle_of_none s h8, endReduces_of_idle s h2, rowSteps_of_none 6 s h3, hedSettle_of_idle s h3 h4 h9, migSettle_of_none s h3,
    spSettle_of_idle s h5 h6, hostSettle_of_none s h7]

/-- In a calm state nothing more is done. -/
theorem settle_of_calm (s : State) (h : s.calm) : s.settle = s := by
  rw [State.settle, settleEvents_of_none 64 s h.1, chores_of_calm s h, settleEvents_of_none 64 s h.1, chores_of_calm s h]

/-- A state is calm if it agrees with a calm state on what calm speaks of. -/
theorem calm_congr {s t : State} (h : s.calm) (he : t.events = s.events) (hl : t.loom = s.loom) (hh : t.hed = s.hed) (hs : t.sp = s.sp)
    (hi : t.host = s.host) (hw : t.reg.handWrites = s.reg.handWrites := by rfl) : t.calm := by
  unfold State.calm at h ⊢
  rw [he, hl, hh, hs, hi, hw]
  exact h

/-- What a command ends with, where its effect has left a calm state. -/
theorem seal_settle_of_calm (s t : State) (h : t.calm) : s.seal (State.settle t) = s.seal t := by rw [settle_of_calm t h]

/-- A command at a page that may be reached acts. -/
theorem atPage_of_open (s : State) (pg : Nat) (r : RegSpec) (i : Nat) (f : State → State) (h : s.pageOpen pg r i) : s.atPage pg r i f = f s := by
  unfold State.pageOpen at h
  simp only [State.atPage, h]

/-- A command at a page that may not be reached only records the error. -/
theorem unlessBusy_of_idle (s : State) (pg : Nat) (r : RegSpec) (f : State → State) (h : bit (s.rg pg r) 31 = false) :
    s.unlessBusy pg r f = f s := by
  simp [State.unlessBusy, h]

theorem atPage_of_blocked (s : State) (pg : Nat) (r : RegSpec) (i : Nat) (f : State → State) (q b : Nat)
    (h : s.pageBlocked (pg * 4096 + (r.off + r.stride * i)) = some (q, b)) :
    s.atPage pg r i f = s.setErr q b ((pg * 4096 + (r.off + r.stride * i)) / 4) := by
  simp only [State.atPage, h]

end Sys2Proof.Laws.Calm
end

