-- ==== Sys2Proof/Laws/Kept.lean ====
section
/-!
SUPPORT. Laws/Kept.lean: what counting, error bits and a message's way to its output leave as they were: memory, the transactions of the
homes, the Region Table, the Loom, the rows and the queue of events. One lemma per shared operation.
-/
namespace Sys2Proof.Laws

open Sys2Proof Sys2Proof.Machine Sys2Proof.Laws.State

/-- The memory side of the block is the same in both states. -/
structure Kept (s t : State) : Prop where
  mem : t.mem = s.mem
  poison : t.poison = s.poison
  upsets : t.upsets = s.upsets
  txns : t.txns = s.txns
  events : t.events = s.events
  loom : t.loom = s.loom
  hed : t.hed = s.hed
  reg : t.reg = s.reg
  trd : t.trd = s.trd

namespace Kept

theorem rfl' (s : State) : Kept s s := ⟨rfl, rfl, rfl, rfl, rfl, rfl, rfl, rfl, rfl⟩

theorem trans {a b c : State} (h : Kept a b) (k : Kept b c) : Kept a c :=
  ⟨k.mem.trans h.mem, k.poison.trans h.poison, k.upsets.trans h.upsets, k.txns.trans h.txns, k.events.trans h.events,
   k.loom.trans h.loom, k.hed.trans h.hed, k.reg.trans h.reg, k.trd.trans h.trd⟩

/-- Either branch of a choice keeps it. -/
theorem ite {c : Prop} [Decidable c] {s a b : State} (ha : Kept s a) (hb : Kept s b) : Kept s (if c then a else b) := by
  split
  · exact ha
  · exact hb

/-- A fold of updates that each keep the memory side keeps it. -/
theorem foldl {α : Type} (f : State → α → State) (h : ∀ s a, Kept s (f s a)) : ∀ (xs : List α) (s : State), Kept s (xs.foldl f s)
  | [], s => rfl' s
  | x :: xs, s => (h s x).trans (foldl f h xs (f s x))

theorem setReg (s : State) (pg : Nat) (r : RegSpec) (i b : Nat) (v : DWord) : Kept s (s.setReg pg r i b v) :=
  ⟨rfl, rfl, rfl, rfl, rfl, rfl, rfl, rfl, rfl⟩

theorem setLink (s : State) (x : Nat) (l : Link) : Kept s (s.setLink x l) := ⟨rfl, rfl, rfl, rfl, rfl, rfl, rfl, rfl, rfl⟩

theorem setBay (s : State) (n : Nat) (b : BaySt) : Kept s (s.setBay n b) := ⟨rfl, rfl, rfl, rfl, rfl, rfl, rfl, rfl, rfl⟩

theorem emit (s : State) (o : Output) : Kept s (s.emit o) := ⟨rfl, rfl, rfl, rfl, rfl, rfl, rfl, rfl, rfl⟩

theorem count (s : State) (pg : Nat) (r : RegSpec) (i b n : Nat) : Kept s (s.count pg r i b n) := by
  unfold State.count
  split
  · exact rfl' s
  · exact setReg _ _ _ _ _ _

theorem devEvent (s : State) : Kept s s.markDevEvent := by
  unfold State.markDevEvent
  split
  · exact rfl' s
  · refine trans (b := ({ s with devMs := s.ms + 1 } : State).bumpHub Reg.Comp.DEV_EVENT_CNT) ?_ (foldl _ (fun _ _ => count _ _ _ _ _ _) _ _)
    exact trans (b := { s with devMs := s.ms + 1 }) ⟨rfl, rfl, rfl, rfl, rfl, rfl, rfl, rfl, rfl⟩ (count _ _ _ _ _ _)

theorem alert (s : State) : Kept s s.raiseAlert := by
  unfold State.raiseAlert
  split <;> exact ⟨rfl, rfl, rfl, rfl, rfl, rfl, rfl, rfl, rfl⟩

theorem recordErr (s : State) (pg b : Nat) (inj : Bool) (info : Nat) : Kept s (s.recordErr pg b inj info) := by
  unfold State.recordErr
  simp only []
  split
  · exact rfl' s
  · have capture : ∀ u : State, Kept u (if bit (u.rg pg Reg.Hdr.ERR_FIRST) 31 then u else u.captureErr pg b inj info) := by
      intro u; split
      · exact rfl' u
      · exact (setReg _ _ _ _ _ _).trans (setReg _ _ _ _ _ _)
    have irq : ∀ (u : State) (c : Bool), Kept u (if c then (u.emit (.irq true 0)).emit (.irq false 2) else u) := by
      intro u c; split
      · exact (emit _ _).trans (emit _ _)
      · exact rfl' u
    have last : ∀ u : State, Kept u (if u.pageAlerts pg then u.raiseAlert else u) := by
      intro u; split
      · exact alert u
      · exact rfl' u
    exact (((setReg _ _ _ _ _ _).trans (capture _)).trans (irq _ _)).trans (last _)

theorem setErr (s : State) (pg b info : Nat) : Kept s (s.setErr pg b info) := by
  unfold State.setErr
  simp only []
  split
  · exact recordErr _ _ _ _ _
  · exact (recordErr _ _ _ _ _).trans (devEvent _)

/-! ### A message's way through the Deck to its link -/

theorem sendBits (s : State) (x : Nat) (bs : List Byte) : Kept s (s.sendBits x bs) := by
  unfold State.sendBits
  simp only []
  split
  · exact (setLink _ _ _).trans (emit _ _)
  · exact setLink _ _ _

theorem sendFlit (s : State) (x ftype seq : Nat) (ss : List Slot) : Kept s (s.sendFlit x ftype seq ss) := by
  unfold State.sendFlit
  simp only []
  exact (((setLink s x _).trans (ite (count _ _ _ _ _ _) (rfl' _))).trans (emit _ _)).trans (sendBits _ _ _)

theorem stampTx (s : State) (x : Nat) (m : Msg) : Kept s (s.stampTx x m) := by
  unfold State.stampTx
  split
  · simp only []
    split
    · exact count _ _ _ _ _ _
    · exact ⟨rfl, rfl, rfl, rfl, rfl, rfl, rfl, rfl, rfl⟩
  · exact rfl' s

theorem leaves (s : State) (x : Nat) (m : Msg) : Kept s (s.leaves x m) := by
  unfold State.leaves
  split
  · exact rfl' s
  · exact (stampTx _ _ _).trans (emit _ _)

theorem sendHeld (s : State) (x : Nat) (f : TxFlit) : Kept s (s.sendHeld x f) := by
  unfold State.sendHeld
  exact sendFlit _ _ _ _ _

theorem sendNew (s : State) (x : Nat) (ss : List Slot) (mc : List Nat) : Kept s (s.sendNew x ss mc) := by
  unfold State.sendNew
  exact (setLink _ _ _).trans (sendHeld _ _ _)

theorem sendSlots (s : State) (x : Nat) (ss : List Slot) (ends : List (Nat × Nat)) : Kept s (s.sendSlots x ss ends) := by
  unfold State.sendSlots
  exact foldl _ (fun _ _ => sendNew _ _ _ _) _ _

theorem pumpItems (x : Nat) : ∀ (es : List Egress) (bl : List (Nat × Nat)) (ss : List Slot) (ends : List (Nat × Nat)) (s : State),
    Kept s (State.pumpItems x es bl ss ends s)
  | [], bl, ss, ends, s => by
    unfold State.pumpItems
    split
    · exact rfl' s
    · exact sendSlots _ _ _ _
  | e :: es, bl, ss, ends, s => by
    unfold State.pumpItems
    simp only []
    split
    · exact Kept.trans (b := s.transmit x e) ((setLink _ _ _).trans (leaves _ _ _)) (pumpItems x es _ _ _ _)
    · exact (setLink _ _ _).trans (pumpItems x es _ _ _ _)

theorem pump (s : State) (x : Nat) : Kept s (s.pump x) := (setLink _ _ _).trans (pumpItems _ _ _ _ _ _)

theorem toEgress (s : State) (x cells : Nat) (m : Msg) (mc : Option Nat) : Kept s (s.toEgress x cells m mc) := by
  unfold State.toEgress
  split
  · exact ⟨rfl, rfl, rfl, rfl, rfl, rfl, rfl, rfl, rfl⟩
  · exact (setLink _ _ _).trans (pump _ _)

theorem crossed (s : State) (v : VoqItem) (n k : Nat) : Kept s (s.crossed v n k) := by
  unfold State.crossed
  simp only []
  have a : Kept s (((s.cellPath v.inp v.out).getD []).foldl (fun s sl => s.addN (pgSlice sl) Reg.Slice.CELL_CNT n) s) :=
    foldl _ (fun _ _ => count _ _ _ _ _ _) _ _
  have shape : ∀ u : State, Kept u (if v.dst < 288 ∧ ¬u.scheduled v.tc ∧ u.shaperRate (v.dst / 4) v.tc ≠ 0 then
      u.setShaper (v.dst / 4) v.tc (u.shaperLevel (v.dst / 4) v.tc - ((16000 * k : Nat) : Int)) else u) := by
    intro u; split
    · exact ⟨rfl, rfl, rfl, rfl, rfl, rfl, rfl, rfl, rfl⟩
    · exact rfl' u
  refine (a.trans ?_).trans (shape _)
  split
  · exact count _ _ _ _ _ _
  · exact rfl' _

theorem sampleLost (s : State) : Kept s s.sampleLost := by
  unfold State.sampleLost
  exact Kept.trans (b := { s with sampler := { s.sampler with lost := s.sampler.lost + 1 } }) ⟨rfl, rfl, rfl, rfl, rfl, rfl, rfl, rfl, rfl⟩
    (count _ _ _ _ _ _)

theorem record (s : State) (off : Nat) (bs : List Byte) (d : Sampler) :
    Kept s { s.traceWrite off bs with sampler := d } := ⟨rfl, rfl, rfl, rfl, rfl, rfl, rfl, rfl, rfl⟩

theorem samplePut (s : State) (v : VoqItem) (colour : Nat) : Kept s (s.samplePut v colour) := by
  unfold State.samplePut
  simp only []
  split
  · exact sampleLost s
  · exact (((ite (setReg s _ _ _ _ _) (rfl' s)).trans (record _ _ _ _)).trans (setReg _ _ _ _ _ _)).trans (count _ _ _ _ _ _)

theorem nextGap (s : State) (i : Nat) (v : DWord) : Kept s (s.nextGap i v).2 := by
  unfold State.nextGap
  simp only []
  split <;> exact ⟨rfl, rfl, rfl, rfl, rfl, rfl, rfl, rfl, rfl⟩

theorem laneTake (s : State) (sl : Nat) : Kept s (s.laneTake sl).2 := by
  unfold State.laneTake
  simp only []
  split <;> exact ⟨rfl, rfl, rfl, rfl, rfl, rfl, rfl, rfl, rfl⟩

theorem setGap (s : State) (i tc g : Nat) : Kept s (s.setGap i tc g) := ⟨rfl, rfl, rfl, rfl, rfl, rfl, rfl, rfl, rfl⟩

theorem sampleTake (s : State) (v : VoqItem) : Kept s (s.sampleTake v) := by
  unfold State.sampleTake
  simp only []
  split
  · exact rfl' s
  · split
    · exact setGap _ _ _ _
    · have h1 := (nextGap s v.inp (s.rgi (pgPort v.inp) Reg.Port.SAMPLE_CFG v.tc)).trans
        (setGap _ v.inp v.tc (s.nextGap v.inp (s.rgi (pgPort v.inp) Reg.Port.SAMPLE_CFG v.tc)).1)
      generalize State.setGap _ _ _ _ = u at h1 ⊢
      refine h1.trans ?_
      split
      · have h := (count u (pgPort v.inp) Reg.Port.SAMPLE_TAKEN_CNT 0 0 1).trans
          (laneTake (u.bump (pgPort v.inp) Reg.Port.SAMPLE_TAKEN_CNT) (sliceOfPort v.inp))
        split
        · rename_i w e; rw [e] at h; exact h.trans (samplePut _ _ _)
        · rename_i w e; rw [e] at h; exact h.trans (sampleLost _)
      · exact count _ _ _ _ _ _

theorem admitAt (s : State) (i tc n : Nat) : Kept s (s.admitAt i tc n) := by
  unfold State.admitAt
  split
  · exact rfl' s
  · exact (count _ _ _ _ _ _).trans (count _ _ _ _ _ _)

theorem entered (s : State) (v : VoqItem) : Kept s (s.entered v) := (admitAt _ _ _ _).trans (sampleTake _ _)

theorem pushVoq (s : State) (v : VoqItem) : Kept s (s.pushVoq v) := by
  unfold State.pushVoq
  simp only []
  split
  · exact Kept.trans (b := { s with voqs := s.voqs ++ [{ v with joins := s.mayJoin v }] }) ⟨rfl, rfl, rfl, rfl, rfl, rfl, rfl, rfl, rfl⟩ (entered _ _)
  · exact ⟨rfl, rfl, rfl, rfl, rfl, rfl, rfl, rfl, rfl⟩

theorem sendPart (s : State) (i x : Nat) (m : Msg) (mc : Option Nat) : Kept s (s.sendPart i x m mc) := by
  unfold State.sendPart
  simp only []
  split
  · exact pushVoq _ _
  · exact ((entered _ _).trans (crossed _ _ _ _)).trans (toEgress _ _ _ _ _)

/-- Sending a message from an input of the Deck to an output. -/
theorem sendVia (s : State) (i x : Nat) (m : Msg) (mc : Option Nat) : Kept s (s.sendVia i x m mc) := by
  unfold State.sendVia
  split
  · exact emit _ _
  · split
    · exact sendPart _ _ _ _ _
    · exact foldl _ (fun _ _ => sendPart _ _ _ _ _) _ _

theorem sendFrom (s : State) (i x : Nat) (m : Msg) : Kept s (s.sendFrom i x m) := sendVia _ _ _ _ _

theorem tagError (s : State) (i : Nat) : Kept s (s.tagError i) := (count _ _ _ _ _ _).trans (setErr _ _ _ _)

theorem dpError (s : State) (o : Nat) : Kept s (s.dpError o) := (count _ _ _ _ _ _).trans (setErr _ _ _ _)

/-- The completion of a port's request. -/
theorem complete (s : State) (i p : Nat) (tag : BitVec 12) (c bad : Cmp) : Kept s (s.complete i p tag c bad) := by
  unfold State.complete
  split
  · rename_i m _
    simp only []
    have h : Kept s { s with marred := s.marred.erase m } := ⟨rfl, rfl, rfl, rfl, rfl, rfl, rfl, rfl, rfl⟩
    split
    · exact h.trans (tagError _ _)
    · exact (h.trans (dpError _ _)).trans (sendFrom _ _ _ _)
  · exact sendFrom _ _ _ _

theorem markCap (s : State) (p : Nat) (r : Req) (st : Status) : Kept s (s.markCap p r st) := by
  unfold State.markCap
  split
  · exact ⟨rfl, rfl, rfl, rfl, rfl, rfl, rfl, rfl, rfl⟩
  · exact rfl' s

/-- A port's request is answered. -/
theorem answerPort (s : State) (i : Nat) (r : Req) (st : Status) (grant : Nat) (dw : Bool) (data : Option Line) (p : PortId)
    (h : r.origin = .port p) : Kept s (s.answerAt i r st grant dw data) := by
  unfold State.answerAt
  rw [h]
  exact (markCap _ _ _ _).trans (complete _ _ _ _ _ _)

end Kept

@[simp] theorem storeLine_txns (s : State) (n o : Nat) (l : Line) : (s.storeLine n o l).txns = s.txns := by
  unfold State.storeLine State.putLine
  rfl

@[simp] theorem poisonLine_txns (s : State) (n o : Nat) : (s.poisonLine n o).txns = s.txns := by
  unfold State.poisonLine State.putLine
  simp

/-- Whoever asked, an answer ends no transaction of a home. -/
theorem answerAt_txns (s : State) (i : Nat) (r : Req) (st : Status) (grant : Nat) (dw : Bool) (data : Option Line) :
    (s.answerAt i r st grant dw data).txns = s.txns := by
  unfold State.answerAt
  split
  · exact ((Kept.markCap _ _ _ _).trans (Kept.complete _ _ _ _ _ _)).txns
  · exact (Kept.admitAt s i r.tc.toNat _).txns
  · rfl
  · exact (Kept.admitAt s i r.tc.toNat _).txns

theorem homeAnswer_txns (s : State) (n : Nat) (r : Req) (st : Status) (grant : Nat) (dw : Bool) (data : Option Line) :
    (s.homeAnswer n r st grant dw data).txns = s.txns := by
  unfold State.homeAnswer
  split
  · exact answerAt_txns _ _ _ _ _ _ _
  · exact (answerAt_txns _ _ _ _ _ _ _).trans (Kept.count _ _ _ _ _ _).txns

end Sys2Proof.Laws
end

