-- ==== Sys2Proof/Laws/Store.lean ====
section
/-!
SUPPORT. Laws/Store.lean: the sparse stores: reading after writing, and that every operation keeps the canonical form.
-/
namespace Sys2Proof.Laws.Store

open Sys2Proof Sys2Proof.Machine

variable {α : Type} [DecidableEq α] {d : Nat → α}

/-- Writing one key leaves every other key as it reads, in any store. -/
theorem get_set_ne (m : SMap α) (k j : Nat) (v : α) (h : j ≠ k) : SMap.get d (SMap.set d m k v) j = SMap.get d m j := by
  induction m with
  | nil => simp only [SMap.set]; split <;> simp [SMap.get, h]
  | cons e r ih =>
    obtain ⟨k', v'⟩ := e
    simp only [SMap.set]
    split
    · split <;> simp [SMap.get, h]
    · split
      · next hk => subst hk; split <;> simp [SMap.get, h]
      · simp only [SMap.get, ih]

/-- A key below every key of a store reads as unlisted. -/
theorem get_below (m : SMap α) (j k : Nat) (hj : j ≤ k) (h : SMap.wfAbove d (some k) m = true) : SMap.get d m j = d j := by
  induction m generalizing k with
  | nil => rfl
  | cons e r ih =>
    obtain ⟨k', v'⟩ := e
    simp only [SMap.wfAbove, Bool.and_eq_true, decide_eq_true_eq] at h
    have : j ≠ k' := by omega
    simp only [SMap.get, this, if_false]
    exact ih k' (by omega) h.2

/-- The lower bound of a canonical store may be lowered, or dropped. -/
theorem wfAbove_weaken (m : SMap α) (j : Option Nat) (k : Nat) (hj : ∀ i, j = some i → i ≤ k)
    (h : SMap.wfAbove d (some k) m = true) : SMap.wfAbove d j m = true := by
  cases m with
  | nil => rfl
  | cons e r =>
    obtain ⟨k', v'⟩ := e
    cases j with
    | none => simp only [SMap.wfAbove, Bool.and_eq_true, decide_eq_true_eq] at h ⊢; exact ⟨⟨trivial, h.1.2⟩, h.2⟩
    | some i =>
      have := hj i rfl
      simp only [SMap.wfAbove, Bool.and_eq_true, decide_eq_true_eq] at h ⊢
      exact ⟨⟨by omega, h.1.2⟩, h.2⟩

/-- Reading back what was written, in a canonical store. -/
theorem get_set_above (m : SMap α) (b : Option Nat) (k : Nat) (v : α) (h : SMap.wfAbove d b m = true) :
    SMap.get d (SMap.set d m k v) k = v := by
  induction m generalizing b with
  | nil => simp only [SMap.set]; split <;> simp_all [SMap.get]
  | cons e r ih =>
    obtain ⟨k', v'⟩ := e
    have h' : SMap.wfAbove d (some k') r = true := by
      simp only [SMap.wfAbove, Bool.and_eq_true] at h; exact h.2
    simp only [SMap.set]
    split
    · next hlt =>
      split
      · next hv =>
        have : k ≠ k' := by omega
        simp only [SMap.get, this, if_false]
        rw [get_below r k k' (by omega) h', hv]
      · simp [SMap.get]
    · split
      · next heq =>
        split
        · next hv => rw [heq] at hv ⊢; rw [get_below r k' k' (Nat.le_refl _) h', hv]
        · simp [SMap.get]
      · next hne => simp only [SMap.get, hne, if_false]; exact ih _ h'

/-- Reading back what was written, in a canonical store. -/
theorem get_set_same (m : SMap α) (k : Nat) (v : α) (h : SMap.wf d m = true) : SMap.get d (SMap.set d m k v) k = v :=
  get_set_above m none k v h

/-- A write above a bound keeps the canonical form above it. -/
theorem wfAbove_set (m : SMap α) (b : Option Nat) (k : Nat) (v : α) (hb : ∀ i, b = some i → i < k)
    (h : SMap.wfAbove d b m = true) : SMap.wfAbove d b (SMap.set d m k v) = true := by
  induction m generalizing b with
  | nil =>
    simp only [SMap.set]
    split
    · rfl
    · next hv =>
      cases b with
      | none => simp [SMap.wfAbove, hv]
      | some i => simp [SMap.wfAbove, hv, hb i rfl]
  | cons e r ih =>
    obtain ⟨k', v'⟩ := e
    have hp : v' ≠ d k' ∧ SMap.wfAbove d (some k') r = true := by
      simp only [SMap.wfAbove, Bool.and_eq_true, decide_eq_true_eq] at h; exact ⟨h.1.2, h.2⟩
    have hbk : ∀ i, b = some i → i < k' := by
      intro i hi; subst hi
      simp only [SMap.wfAbove, Bool.and_eq_true, decide_eq_true_eq] at h; exact h.1.1
    have build : ∀ (c : Option Nat) (j : Nat) (x : α) (t : SMap α), (∀ i, c = some i → i < j) → x ≠ d j →
        SMap.wfAbove d (some j) t = true → SMap.wfAbove d c ((j, x) :: t) = true := by
      intro c j x t hc hx ht
      cases c with
      | none => simp [SMap.wfAbove, hx, ht]
      | some i => simp [SMap.wfAbove, hx, ht, hc i rfl]
    simp only [SMap.set]
    split
    · next hlt =>
      split
      · exact h
      · next hv => exact build b k v _ hb hv (build (some k) k' v' r (fun i hi => by cases hi; exact hlt) hp.1 hp.2)
    · split
      · next heq =>
        subst heq
        split
        · exact wfAbove_weaken r b k (fun i hi => Nat.le_of_lt (hb i hi)) hp.2
        · next hv => exact build b k v r hb hv hp.2
      · next hlt hne =>
        refine build b k' v' _ hbk hp.1 (ih (some k') (fun i hi => ?_) hp.2)
        cases hi; omega

/-- Writing keeps a store canonical. -/
theorem wf_set (m : SMap α) (k : Nat) (v : α) (h : SMap.wf d m = true) : SMap.wf d (SMap.set d m k v) = true :=
  wfAbove_set m none k v (fun _ hi => by cases hi) h

/-- Forgetting entries above a bound keeps the canonical form above it. -/
theorem wfAbove_drop (p : Nat → Bool) (m : SMap α) (b : Option Nat) (h : SMap.wfAbove d b m = true) :
    SMap.wfAbove d b (SMap.drop p m) = true := by
  induction m generalizing b with
  | nil => rfl
  | cons e r ih =>
    obtain ⟨k', v'⟩ := e
    have hp : v' ≠ d k' ∧ SMap.wfAbove d (some k') r = true := by
      simp only [SMap.wfAbove, Bool.and_eq_true, decide_eq_true_eq] at h; exact ⟨h.1.2, h.2⟩
    have hbk : ∀ i, b = some i → i < k' := by
      intro i hi; subst hi
      simp only [SMap.wfAbove, Bool.and_eq_true, decide_eq_true_eq] at h; exact h.1.1
    have ih' := ih (some k') hp.2
    simp only [SMap.drop, List.filter_cons] at ih' ⊢
    split
    · cases b with
      | none => simp only [SMap.wfAbove, Bool.and_eq_true, decide_eq_true_eq]; exact ⟨⟨trivial, hp.1⟩, ih'⟩
      | some i => simp only [SMap.wfAbove, Bool.and_eq_true, decide_eq_true_eq]; exact ⟨⟨hbk i rfl, hp.1⟩, ih'⟩
    · exact wfAbove_weaken _ b k' (fun i hi => Nat.le_of_lt (hbk i hi)) ih'

/-- Forgetting entries keeps a store canonical. -/
theorem wf_drop (p : Nat → Bool) (m : SMap α) (h : SMap.wf d m = true) : SMap.wf d (SMap.drop p m) = true :=
  wfAbove_drop p m none h

/-- Writing bytes keeps memory canonical. -/
theorem wf_writeBytes (bs : List Byte) (m : List Host.Cell) (k : Nat) (h : Memory.wf m) : Memory.wf (writeBytes m k bs) := by
  induction bs generalizing m k with
  | nil => exact h
  | cons b r ih => exact ih _ _ (wf_set m k b h)

/-- The memory after a line is stored. -/
@[simp] theorem putLine_mem (s : State) (n o : Nat) (l : Line) :
    (s.putLine n o l).mem = writeBytes s.mem (memKey n o) (lineBytes l) := by
  simp only [State.putLine]

/-- Storing a line keeps memory canonical. -/
theorem wf_putLine (s : State) (n o : Nat) (l : Line) (h : Memory.wf s.mem) : Memory.wf (s.putLine n o l).mem := by
  rw [putLine_mem]; exact wf_writeBytes _ _ _ h

/-- Memory after reset is canonical. -/
theorem wf_reset : Memory.wf State.reset.mem := rfl

/-- Writing bytes leaves every byte below them and beyond them as it was. -/
theorem get_writeBytes_outside (bs : List Byte) (m : List Host.Cell) (k j : Nat) (h : j < k ∨ k + bs.length ≤ j) :
    SMap.get memDefault (writeBytes m k bs) j = SMap.get memDefault m j := by
  induction bs generalizing m k with
  | nil => rfl
  | cons b r ih =>
    simp only [List.length_cons] at h
    rw [writeBytes, ih _ _ (by omega), get_set_ne _ _ _ _ (by omega)]

/-- Reading back bytes that were written. -/
theorem get_writeBytes_at (bs : List Byte) (m : List Host.Cell) (k i : Nat) (hw : Memory.wf m) (hi : i < bs.length) :
    SMap.get memDefault (writeBytes m k bs) (k + i) = bs[i] := by
  induction bs generalizing m k i with
  | nil => cases hi
  | cons b r ih =>
    cases i with
    | zero =>
      rw [writeBytes, get_writeBytes_outside r _ _ _ (by omega)]
      exact get_set_same m k b hw
    | succ i =>
      rw [writeBytes, show k + (i + 1) = (k + 1) + i by omega]
      exact ih _ _ i (wf_set m k b hw) (by simpa using hi)

/-- Inserting into a set of numbers and asking for the number. -/
theorem has_insert (k j : Nat) (s : NSet) : NSet.has j (NSet.insert k s) = (decide (j = k) || NSet.has j s) := by
  induction s with
  | nil => simp [NSet.insert, NSet.has]
  | cons a r ih =>
    simp only [NSet.has, NSet.insert] at ih ⊢
    split
    · simp
    · split
      · next h1 h2 => subst h2; by_cases hj : j = k <;> simp [hj]
      · rw [List.contains_cons, ih, List.contains_cons]
        cases h1 : (j == a) <;> cases h2 : decide (j = k) <;> rfl

/-- Taking a number out of a set. -/
theorem has_erase (k j : Nat) (s : NSet) : NSet.has j (NSet.erase k s) = (decide (j ≠ k) && NSet.has j s) := by
  induction s with
  | nil => simp [NSet.erase, NSet.has]
  | cons a r ih =>
    simp only [NSet.has, NSet.erase, List.filter_cons] at ih ⊢
    split
    · next h =>
      rw [List.contains_cons, ih, List.contains_cons]
      by_cases hj : j = a
      · subst hj; simp_all
      · cases h2 : decide (j ≠ k) <;> simp_all
    · next h =>
      have ha : a = k := by simpa using h
      subst ha
      rw [ih, List.contains_cons]
      by_cases hj : j = a
      · simp [hj]
      · simp [hj]

end Sys2Proof.Laws.Store
end

