-- ==== Sys2Proof/Tests/Slice0.lean ====
section
/-!
SUPPORT. Tests/Slice0.lean: the model's own tests. First the ill-formed terms that `Instr.wf` refuses; then worked examples of
the spec, each named in its docstring; then, for every statement that has premises, a state and operands that meet them
together, one for each clause of the statement, in the order of its clauses
(clauses with the same premises share one).
-/
namespace Sys2Proof.Machine

open Sys2Proof

/-! ### Terms that are no commands -/

/-- A request, a flit, a tray completion and an offer to spoil. -/
def Bad.req (op : ReqOp) : Req :=
  { op := op, origin := .port 0, src := 5, tag := 0, dnode := 0, laddr := 0, tc := 0, colour := 0, epoch := 0, key := 0, mask := 0, opnd := 0, data := 0
    deadline := 0, keyless := none }
def Bad.errs : Errs := { Errs.clean with syms := [0, 0] }
def Bad.flit (op : Nat) (n : Nat) : Flit := { ctrl := 0, slots := BitVec.ofNat 128 op :: List.replicate n 0, crc := 0, word := [] }
def Bad.cmp (n : Nat) : TrayCmp := { tc := 0, status := .ok, ttag := 0, pmask := 0, umask := 0, corr := 0, unc := 0, data := List.replicate n 0 }

/-- R38, R518: an access of three bytes, by each command that carries a size. -/
theorem test_wf_size : (Instr.regWrite .host 0 3 0).wf = false ∧ (Instr.registerRead .host 0 3).wf = false ∧ (Instr.rcCounterRead .host 0 3).wf = false := by
  decide

/-- R185: a request under the row of another opcode. -/
theorem test_wf_request_row :
    (Instr.rd (Bad.req .wr) .clean).wf = false ∧ (Instr.rdS (Bad.req .rd) .clean).wf = false ∧ (Instr.rdM (Bad.req .rd) .clean).wf = false ∧
    (Instr.own (Bad.req .rd) .clean).wf = false ∧ (Instr.wr (Bad.req .rd) .clean).wf = false ∧ (Instr.wrP (Bad.req .rd) .clean).wf = false ∧
    (Instr.atom (Bad.req .rd) .clean).wf = false ∧ (Instr.capWr (Bad.req .rd)).wf = false ∧ (Instr.capWrApply (Bad.req .rd) .clean).wf = false ∧
    (Instr.mcWr (Bad.req .rd)).wf = false ∧ (Instr.rsD (Bad.req .rd) .clean).wf = false ∧ (Instr.rsU (Bad.req .rd) .clean).wf = false := by decide

/-- R89: a symbol in error named twice. -/
theorem test_wf_errs : (Instr.rd (Bad.req .rd) Bad.errs).wf = false ∧ (Instr.wr (Bad.req .wr) Bad.errs).wf = false := by decide

/-- R158: a flit of 14 slots, of each type. -/
theorem test_wf_flit : (Instr.dataFlit 0 (Bad.flit 0 13)).wf = false ∧ (Instr.securedFlit 0 (Bad.flit 0 13)).wf = false ∧
    (Instr.idleFlit 0 (Bad.flit 0 13)).wf = false := by decide

/-- R173: a LINK_CTRL flit under the row of another CTRL_OP. -/
theorem test_wf_link_ctrl : (Instr.identify 0 (Bad.flit 2 14)).wf = false ∧ (Instr.identifyAck 0 (Bad.flit 1 14)).wf = false ∧
    (Instr.keyShare 0 (Bad.flit 1 14)).wf = false ∧ (Instr.spareReq 0 (Bad.flit 1 14)).wf = false ∧ (Instr.spareAck 0 (Bad.flit 1 14)).wf = false ∧
    (Instr.spareDone 0 (Bad.flit 1 14)).wf = false := by decide

/-- R203, R210: a TCMP with a line, a TCMP_D with none or 17, a transfer without records and a reply without answers. -/
theorem test_wf_lengths : (Instr.tcmp 0 (Bad.cmp 1)).wf = false ∧ (Instr.tcmpD 0 (Bad.cmp 0)).wf = false ∧ (Instr.tcmpD 0 (Bad.cmp 17)).wf = false ∧
    (Instr.bulk 0 ⟨0, 0, 0, 5, 0, false, 0, []⟩).wf = false ∧ (Instr.bulkRsp 0 ⟨0, 0, 0, []⟩).wf = false := by decide

/-- R66, R179: a Management message under the row of another kind. -/
theorem test_wf_management :
    (Instr.offer 0 5 ⟨.accept, 0, .ok, 0, 0, 0, 0⟩).wf = false ∧ (Instr.accept 0 5 ⟨.offer, 0, .ok, 0, 0, 0, 0⟩).wf = false ∧
    (Instr.handoffCommit 0 5 ⟨.offer, 0, .ok, 0, 0, 0, 0⟩).wf = false ∧ (Instr.handoffCancel 0 5 ⟨.offer, 0, .ok, 0, 0, 0, 0⟩).wf = false ∧
    (Instr.timeXReq 0 ⟨.rsp, 0, 0, 0, 0, false, false, 0⟩).wf = false ∧ (Instr.timeXRsp 0 ⟨.req, 0, 0, 0, 0, false, false, 0⟩).wf = false ∧
    (Instr.timeXFup 0 ⟨.req, 0, 0, 0, 0, false, false, 0⟩).wf = false := by decide

/-- A sample of 15 temperatures, a loss of signal on no lane, a packet of four bytes and a recovery chunk short of its length. -/
theorem test_wf_bodies : (Instr.stackTempSample 0 (List.replicate 15 0) 0).wf = false ∧ (Instr.lossOfSignal 0 []).wf = false ∧
    (Instr.lossOfSignal 0 [1, 1]).wf = false ∧ (Instr.mctp 0 0 (List.replicate 4 0)).wf = false ∧ (Instr.recovChunk 1 0 []).wf = false := by decide

/-! ### Worked examples of the spec -/

set_option maxRecDepth 100000 in
/-- R557 (spec/00_scope.md:108): the CRC-32 of the nine ASCII bytes 123456789. -/
theorem test_crc32_check_value : crc32 [0x31, 0x32, 0x33, 0x34, 0x35, 0x36, 0x37, 0x38, 0x39] = 0xCBF43926 := by decide

/-- The example under R67 (spec/02_memory_model.md:238): the home and the Bay-local offset of the line at 0x0000_0061_8040, and back (R286). -/
theorem test_stack_map : bayOf 0 0x618040 = 5 ∧ bayOff 0x618040 = 0x41040 ∧ stackAddr 0 5 0x41040 = 0x618040 := by decide

/-- The same example: the directory entry of the line, in a region of 6 MiB at 0x0000_0060_0000. -/
theorem test_directory_entry : RtEntry.dirOffset { RtEntry.none with base := 3, limit := 5 } 0x618040 = 0x7E082 := by decide

/-- The example under R286 (spec/09_spindles.md:67): the region, the pseudo-channel, the bank and the row of that line. -/
theorem test_spindle_map : regionOf 0x41040 = 1 ∧ pchOf 0x41040 = 0 ∧ bankOf 0x41040 = 20 ∧ rowOf 0x41040 = 0 ∧ regionOff 0x41040 = 0x1040 := by decide

/-- The example under R128 (spec/04_deck.md:59): CLASS_LIM_6 = 0 is refused while VOQ_CAP_6 is 1,024, accepted once it is 12 (LIM_SUM
21,760), and CLASS_LIM_2 with 4,096 and 2,560 first would make 28,416, which is refused. -/
theorem test_cell_limits :
    (limCheck 1024 256 ([(1280, 1536), (0, 0)] ++ List.replicate 6 (1280, 1536)) (List.replicate 8 1024)).2 = false ∧
    limCheck 1024 256 ([(1280, 1536), (0, 0)] ++ List.replicate 6 (1280, 1536)) ([1024, 12] ++ List.replicate 6 1024) = (21760, true) ∧
    limCheck 1024 256 ((4096, 2560) :: List.replicate 7 (1280, 1536)) (List.replicate 8 1024) = (28416, false) := by decide

/-- The example under R226 (spec/07_loom.md:120): BF16 256 + 1 + 1 is 258, whatever the order, and 256 where each addition is rounded
to BF16. -/
theorem test_reduction_example :
    (roundSlot .sum 1 1 1 ([0x4380, 0x3F80, 0x3F80].foldl (fun a b => slotAdd .sum 1 a b) (slotInit .sum))).1 = 0x4381 ∧
    (redElem .sum 1 (redElem .sum 1 0x4380 0x3F80).1 0x3F80).1 = 0x4380 ∧
    (redElem .sum 1 (redElem .sum 1 0x3F80 0x3F80).1 0x4380).1 = 0x4381 := by decide

/-- The hashed table of the example at spec/08_heddle.md:46, at 0 with a stride of 1 for the row numbers to show. -/
def Example.table : TableDesc :=
  { tid := 0, mode := 1, mulComb := false, acc := false, fmt := 0, size := 32, log2stride := 0, log2rows := 20, base := 0, rows := 2 ^ 20
    mult := 0x9E3779B97F4A7C15, base2 := 0, m := 0, version := 0 }

/-- The same example (R248): the rows of indices 1 and 2. -/
theorem test_hashed_rows : Example.table.named 1 = some [648055] ∧ Example.table.named 2 = some [247535] := by decide

/-- R296 (spec/09_spindles.md:226): exp2(0.5). -/
theorem test_exp2_half : fp32Exp2 0x3F000000 = 0x3FB504F3 := by decide

/-- The code of the example at spec/10_compression.md:188. -/
def Example.code : CodeImage :=
  { tid := 0, layout := 1, hmode := 0, thresh := 14, nblk := 1, dataBase := 0, hdrBase := 0
    lens := List.replicate 0x77 0 ++ [5, 4, 4, 3, 2, 2, 3, 4, 5] ++ List.replicate 128 0 }

set_option maxRecDepth 100000 in
/-- The same example: the first codes of the four lengths, that the code is valid, and the symbol of code 1110. -/
theorem test_code_example : Example.code.first 2 = 0 ∧ Example.code.first 3 = 4 ∧ Example.code.first 4 = 12 ∧ Example.code.first 5 = 30 ∧
    Example.code.kraftOk = true ∧ Example.code.symbol 4 2 = 0x7E := by decide

/-! ### States that meet the premises of the statements -/

/-- The block after the release sequence: every unit is released and every island runs. -/
def Wit.up : State := State.toStep { State.reset with islands := [], held := [], rst := RstSt.init } 7

/-- A request of port 0. -/
def Wit.req : Req := { op := .rd, origin := .port 0, src := 5, tag := 0, dnode := 0, laddr := 0, tc := 0, colour := 0, epoch := 0, key := 0, mask := 0, opnd := 0, data := 0, deadline := 0, keyless := none }

def Wit.taskRef : TaskRef := { draft := 1, idx := 0 }
def Wit.task : TaskSt := { kind := 0, tflags := 0, comp := 0, slot := 0, preds := [], body := 0, slotOpen := true, dispatched := true, begun := true, miss := false, fate := 0, st := none }
def Wit.draft : DraftSt := { uid := 1, id := 0, slotLen := 1, statusBase := 0, doneFlag := 0, doneKey := 0, tasks := [Wit.task], act := 0, stopped := false, lastEnd := 0 }
def Wit.launch : Launch := { id := 1, t := Wit.taskRef, bay := 0, comp := 0, fence := false, stage := 0, body := 0, head := [], image := [], ranges := [], comb := none, combSt := none, waits := [], parts := [] }
def Wit.txn : Txn := { bay := 0, line := 0, addr := 0, work := .req Wit.req, errs := .clean, ent := RtEntry.none, idx := 0, await := [], kind := .inv, active := false, answered := false }
def Wit.pass : Pass := ⟨0, RtEntry.none, 0⟩

/-- A calm state by its parts. -/
theorem calm_of (s : State) (h1 : s.events = []) (h2 : s.loom.reds = []) (h3 : s.hed.ops = []) (h4 : s.hed.tasks = []) (h5 : s.sp.launches = [])
    (h6 : s.sp.units = []) (h7 : s.host.inbox = []) (h8 : s.reg.handWrites = []) (h9 : s.hed.poolQ = []) : s.calm := by
  simp [State.calm, h1, h2, h3, h4, h5, h6, h7, h8, h9]

/-- Composition 0 is live and holds the Spindles of Bay 0. -/
def Wit.live : State := State.setReg { Wit.up with comps := [(0, 1)] } (pgOfHub Reg.Comp.SP_GRANT) Reg.Comp.SP_GRANT 0 0 0xFFFFFFFFFFFFFFFF

/-- Composition 0's debug token is installed with every class. -/
def Wit.debug : State := { Wit.live with tokens := [(0, { installed := true, classes := 31, notBefore := 0, notAfter := 100, hash := 0 })], fuses := { Fuses.ofPart with debugDisable := false } }

/-- A region-table entry over all of granule 0 of composition 0, Owned by Node 5, with key 0. -/
def Wit.entry : RtEntry := { RtEntry.none with limit := 0, mode := .owned, tier := .stack, owner := 5, own := .held }

/-- Firmware runs, the host link and CXL.mem are up, composition 0 is live, and its region covers granule 0. -/
def Wit.run : State := ({ Wit.live with ks := { KsSt.init with boot := 1, idCert := true, sessions := [(1, false), (2, true)] }, reg := { RegionSt.init with cur := { rt := [(0, Wit.entry)], rct := [] } } } : State).setHub Reg.HP.HP_STAT 0xC0000000

def Wit.hand : Hand := { op := .offer, tc := 0, status := .ok, node := 6, hseq := 3, granule := 0, key := 0 }

/-- Wit.run with a Node ID of 0 and the first interleave hash. -/
def Wit.home : State := { Wit.run with node := 0, fuses := { Fuses.ofPart with hashSel := 0 } }

/-- Wit.home with a Shared-Coherent region, whose line 0 port 0 owns. -/
def Wit.coherent : State := State.putDir { Wit.home with reg := { RegionSt.init with cur := { rt := [(0, { Wit.entry with mode := .shared })], rct := [] } } } 0 86016 0x8000

/-- Wit.home serves a request of any opcode at once. -/
theorem Wit.home_ready (o : ReqOp) : Wit.home.homeReady 0 { Wit.req with op := o } ⟨0, Wit.entry, 0⟩ := by
  cases o <;> exact ⟨calm_of _ rfl rfl rfl rfl rfl rfl rfl rfl rfl, rfl, by decide, by decide, by decide, by decide, by decide, by decide, rfl, rfl, by decide, rfl, by decide, rfl, rfl⟩

/-- A line 0 of port 0 that waits for the answer to its recall. -/
def Wit.recalled : State := { Wit.coherent with txns := [{ Wit.txn with ent := { Wit.entry with mode := .shared }, await := [0], active := true }] }

def Wit.stream : StreamSt := ⟨Wit.taskRef, 0, false, 1, 0, 0, [⟨0, 64, false, 0, 0⟩], 1, [none], [⟨0, 0, 7, 0, false, none⟩], false, 0, [], none, [], [], none, .ok, 0, none, none, none, .ok⟩

def Wit.cmp : Cmp := { tc := 0, tag := 0, status := .ok, grant := 0, dw := false, data := some 0 }

/-- A link in a state. -/
def Wit.link (l : Link) : State := { Wit.home with links := [(0, l)] }

/-- A flit of zero slots with its CRC. -/
def Wit.flit (ctrl : DWord) : Flit := { ctrl := ctrl, slots := List.replicate 15 0, crc := BitVec.ofNat 64 (crc64 (leBytes 8 ctrl.toNat ++ bytesOfSlots (List.replicate 15 0))), word := [] }

def Wit.identify : Identify := ⟨1, 5, 0, 0, false, false, false, false, 0, 0, List.replicate 8 0, 0⟩

def Wit.record : Rec := ⟨.rd, 0, 0, 0, 0, 0, 0, 0, false, 0, false⟩
def Wit.bulk : Bulk := ⟨0, 0, 0, 5, 0, false, 0, [Wit.record]⟩
def Wit.xfer : Xfer := ⟨0, 0, 0, 0, 5, 0, 0, 0, true, false, 0, 0, false, 0, 1024, []⟩

/-- A line of zero bytes but for a few fields, each given by its byte offset and its value. -/
def Wit.body (l : List (Nat × Nat)) : Line := BitVec.ofNat 512 ((l.map (fun x => x.2 * 256 ^ x.1)).sum)

/-- Wit.home with one task of a kind and body in its active Draft, dispatched and not yet begun. -/
def Wit.tasked (kind : Nat) (body : Line) : State := { Wit.home with trd := { TreadleSt.init with active := some { Wit.draft with tasks := [{ Wit.task with kind := kind, body := body, begun := false }] }, uid := 2 } }

def Wit.exch : Exch := ⟨0, 0, some 0, none⟩
def Wit.timeX (k : TimeKind) : TimeX := ⟨k, 0, 0, 0, 0, false, false, 0⟩

/-- Wit.coherent with a recall of line 0 that waits for port 0's answer, its line Shared. -/
def Wit.recalledShared : State := State.putDir Wit.recalled 0 86016 0x4000

/-- The body of a reduction of one line of FP32 values with one contribution into slots 0 to 1023. -/
def Wit.reduceBody : Line := Wit.body [(6, 1), (0x10, 1), (0x1C, 1024), (0x2C, 1)]
def Wit.reduce : Reduce := ⟨0, 0, 0, false, false, false, 0, 0, 1, 0, 1, 0, 0, 0, 1024, 0, 0, 0, 0, 1, 0, 0⟩
def Wit.redBay : RedBay := ⟨.opened, 1, 0, [], 0, 0, none⟩
/-- A reduction declared by command whose only line is at Bay 0. -/
def Wit.red (installed : Bool) : Red := ⟨Wit.reduce, none, installed, Wit.redBay :: List.replicate 23 .gone, none, []⟩
def Wit.reds (installed : Bool) (s : State) : State := { s with loom := { LoomSt.init with reds := [Wit.red installed], quota := [(0, ⟨0, 614400, 0, 0⟩)] } }

/-- Spindle 0 of Bay 0 runs part 0 of a launch, with an instruction at 0 of its SRAM and 32 bytes of a stream descriptor at 64. -/
def Wit.core (instr : Nat) (desc : List Byte) (u : SpUnit) : State := State.setSram (State.setSram { Wit.home with sp := { SpSt.init with units := [(0, { u with launch := some 1 })], launches := [{ Wit.launch with stage := 6, parts := [(0, none)] }] } } 0 0 0 (leBytes 4 instr)) 0 0 64 desc

/-- The descriptor of a stream with no rows: KIND and the byte of both formats, one query, one element, COUNT, and DST and AUX at 4096. -/
def Wit.desc (kind : Nat) (fmts : Nat) (count : Nat) : List Byte := leBytes 1 kind ++ leBytes 1 fmts ++ leBytes 1 1 ++ leBytes 1 0 ++ leBytes 2 1 ++ leBytes 2 0 ++ leBytes 8 0 ++ leBytes 4 count ++ leBytes 12 0

/-- Wit.core with a stream at the head of its queue. -/
def Wit.streaming (kind fmts count : Nat) : State := Wit.core 0 [] { SpUnit.init with streams := [⟨0, Wit.desc kind fmts count, false⟩], tickets := 1 }

/-- Combine 3 at Bay 0 with one part, of one head of one element, of composition 0. -/
def Wit.comb : Comb := ⟨3, 1, leBytes 2 3 ++ leBytes 1 0 ++ leBytes 1 1 ++ leBytes 2 1 ++ leBytes 1 1 ++ leBytes 57 0, 0, [], .ok, false⟩
def Wit.part (comb : Option Nat) : PartMsg := ⟨0, 0, 0, 0, comb, 0, []⟩

/-- The 192 bytes of a legal Draft of one task at 0, but for its CRC; its status area is at 64 · 64. -/
def Wit.draftBody : List Byte := leBytes 4 0x44524B4E ++ leBytes 2 1 ++ leBytes 2 1 ++ leBytes 16 0 ++ leBytes 8 4096 ++ leBytes 160 0
def Wit.draftImage : List Byte := Wit.draftBody.take 0x2C ++ leBytes 4 (crc32 Wit.draftBody) ++ Wit.draftBody.drop 0x30
def Wit.answers (k n : Nat) : List Cmp := (List.range n).map (fun i => { Wit.cmp with data := some (lineOfBytes ((Wit.draftImage.drop (64 * (k + i))).take 64)) })
def Wit.pend (rest : Option Nat) (ready : Option DraftSt) (time : Nat) : PendDraft := ⟨0, time, 7, rest, ready⟩
def Wit.trd (pend : Option PendDraft) (active : Option DraftSt) : State := { Wit.home with trd := { TreadleSt.init with pend := pend, active := active, uid := 2 } }
def Wit.wait (read : Option Nat) : WaitSt := ⟨Wit.taskRef, 0, read, none, false⟩
def Wit.waiting (read : Option Nat) (body : Line) : State := { Wit.tasked 9 body with trd := { (Wit.tasked 9 body).trd with waits := [Wit.wait read] }, batches := [⟨7, .ksKey, 1, [(0, some Wit.cmp)]⟩] }

def Wit.drafting : State := { Wit.trd (some (Wit.pend (some 8) none 0)) none with batches := [⟨7, .ksKey, 1, (Wit.answers 0 1).map (fun c => (0, some c))⟩, ⟨8, .ksKey, 2, (Wit.answers 1 2).map (fun c => (0, some c))⟩] }

/-- A task at the Heddle of Bay 0, with a Table Descriptor of one row of 32 bytes. -/
def Wit.hedTask (kind : Nat) (ver : Option Nat) (stage : Nat) : HedTask := ⟨Wit.taskRef, kind, 0, 0, ver, stage, some (Wit.body [(4, 1), (0x10, 1)]), [], [], [], [], 0, 0, .ok⟩
def Wit.verRec : VerRec := ⟨1, 0, 0, 0, 1, 0, 0, 64⟩
def Wit.heddle (h : HedTask) (body : Line) : State := { Wit.tasked h.kind body with hed := { HedSt.init with recs := [Wit.verRec], tasks := [h], valid := [0], sorter := [(0, h.t)] }, loom := { LoomSt.init with quota := [(0, ⟨0, 0, 0, 614400⟩)] } }
def Wit.rowUpd : RowUpd := ⟨1, Wit.taskRef, 0, 0, 1, 0, 0, 1, 0, 64, 64, false, 0, 0, []⟩
def Wit.rowOp (use : RowFor) (fin : Option Status) : RowOp := ⟨5, use, 0, 0, false, 0, 64, true, false, [], 0, [], fin⟩
def Wit.mig (phase : Nat) (batch : Option Nat) : Mig := ⟨1, 1, 0, 0, 0, 64, 0, 0, 64, true, phase, 0, batch, []⟩
def Wit.hed (h : HedSt) : State := { Wit.home with hed := h, batches := [⟨7, .ksKey, 1, [(0, some Wit.cmp)]⟩] }

/-- A VOQ item of Wit.req, for Bay 0. -/
def Wit.voq : VoqItem := { inp := 0, out := 24, tc := 0, cls := 0, arr := 0, dst := 0, time := 0, stuck := false, msg := .req Wit.req, waited := 1000000000 }
def Wit.capHold (ws : List (BitVec 12 × Option Status)) : CapHold := ⟨Wit.req, ws, 0, 2, false⟩
def Wit.mcOut : McOut := ⟨0, Wit.req, [], 0, false, []⟩

/-- A LINK_CTRL flit with a body of these bytes, zeros after them, and its CRC. -/
def Wit.ctrlFlit (bs : List Byte) : Flit :=
  let body := bs ++ List.replicate (240 - bs.length) 0
  { ctrl := 0x3000000000000000, slots := (List.range 15).map (fun i => BitVec.ofNat 128 (leNat ((body.drop (16 * i)).take 16)))
    crc := BitVec.ofNat 64 (crc64 (leBytes 8 0x3000000000000000 ++ body)), word := [] }

/-- Wit.link with its Pier in a state, at 1 s. -/
def Wit.linkPier (l : Link) (p : PierSt) : State := { Wit.link l with piers := [(0, p)], now := 1000000000 }
def Wit.txFlit : TxFlit := ⟨0, 0, 0, [], false, []⟩

/-- Wit.up with the admission latch set and every shell of Pier 0 Ready. -/
def Wit.shelled : State := (List.range 9).foldl (fun s k => State.setReg s (pgPier 0) Reg.Pier.LANE_SHELL k 0 2) (State.setHub Wit.up Reg.Admit.ADMIT_CTRL 0x80000000)

set_option maxRecDepth 100000 in
/-- The premises of EmptyQueueGoesOn are met, clause by clause. -/
theorem test_emptyQueueGoesOn_premises :
    (∃ c : Instr, ∃ q : List Instr, ∃ s : State, (s.pending = []) ∧ (s.resume = c :: q)) ∧
    (∃ s : State, (s.pending = []) ∧ (s.resume = [])) ∧
    (∃ s : State, (s.pending = []) ∧ (s.resume = []) ∧ (s.quiet) ∧ (s.time.adj = 0)) :=
  ⟨⟨(.powerOn), ([]), ({ Wit.up with resume := [.powerOn] }), rfl, rfl⟩,
   ⟨Wit.up, rfl, rfl⟩,
   ⟨Wit.up, rfl, rfl, ⟨calm_of _ rfl rfl rfl rfl rfl rfl rfl rfl rfl, rfl, rfl, rfl, rfl, rfl, rfl, rfl⟩, rfl⟩⟩

set_option maxRecDepth 100000 in
/-- The premises of StepKeepsInvariant are met, clause by clause. -/
theorem test_stepKeepsInvariant_premises :
    (∃ s : State, ∃ t : State, (s.Inv) ∧ (step s = .next t)) :=
  ⟨(State.reset), (State.reset.tick), ⟨by decide, rfl⟩, rfl⟩

set_option maxRecDepth 100000 in
/-- The premises of ClockCommandsComplete are met, clause by clause. -/
theorem test_clockCommandsComplete_premises :
    (∃ s : State, ∃ c : MonCounts, (s.clk.good = []) ∧ (s.clk.safe = false) ∧ (s.clk.sel = 0) ∧ (SMap.get (fun _ => 0) s.clk.runs 0 = 15) ∧
      (c.ref ≠ 0) ∧ (SMap.get (fun _ => 0) s.clk.refs 0 = c.ref) ∧ (c.cxl = 0) ∧ (c.prim = 0) ∧ (c.back = 0)) ∧
    (∃ s : State, ∃ k : Fin 4, (s.clkGood k.val = true) ∧ (s.clkSource ≠ some k.val) ∧ (k.val ≠ 1)) ∧
    (∃ s : State, (s.clk.safe = true) ∧ (fld (s.hub Reg.Clk.CLK_MON_CFG) 31 16 ≠ 0)) ∧
    (∃ s : State, (s.relStep = 3) ∧ (s.clkGood 0 = false) ∧ (s.rst.stuck = false)) ∧
    (∃ s : State, ∃ v : Word, (clkPortOk (fld v 8 0) = true) ∧ (clkPortOk (fld v 24 16) = true) ∧ (fld v 8 0 = fld (s.hub Reg.Clk.CLK_CFG) 8 0) ∧
      (fld v 24 16 = fld (s.hub Reg.Clk.CLK_CFG) 24 16)) :=
  ⟨⟨({ Wit.up with clk := { ClkSt.init with runs := [(0, 15)], refs := [(0, 5)] } }),
     ({ ref := 5, cxl := 0, prim := 0, back := 0, refRec := 0, cxlRec := 0 }), rfl, rfl, rfl, rfl, by decide, rfl, rfl, rfl, rfl⟩,
   ⟨({ Wit.up with clk := { ClkSt.init with good := [2], sel := 1 } }), (2), rfl, by decide, by decide⟩,
   ⟨({ Wit.up with clk := { ClkSt.init with safe := true } }), rfl, by decide⟩,
   ⟨(Wit.up.toStep 3), rfl, rfl, rfl⟩,
   ⟨Wit.up, (0x01ff01ff), rfl, rfl, rfl, rfl⟩⟩

set_option maxRecDepth 100000 in
/-- The premises of PowerCommandsComplete are met, clause by clause. -/
theorem test_powerCommandsComplete_premises :
    (∃ s : State, ∃ n : BayId, ∃ v : Word, (fld v 2 0 = 1 ∨ fld v 2 0 = 2) ∧ (bit v 30 = false) ∧ (s.pageOpen (pgMC n.val) Reg.Hdr.PWR_STATE 0) ∧
      (s.waking (.bay n) = false) ∧ (s.islandState (.bay n) = 0)) ∧
    (∃ s : State, ∃ n : BayId, ∃ v : Word, (fld v 2 0 = 0) ∧ (bit v 30 = false) ∧ (s.pageOpen (pgMC n.val) Reg.Hdr.PWR_STATE 0) ∧
      (s.waking (.bay n) = false) ∧ (s.islandState (.bay n) ≠ 0)) ∧
    (∃ s : State, ∃ n : BayId, ∃ v : Word, (bit v 30 = false) ∧ (s.pageOpen (pgSp n.val) Reg.Hdr.PWR_STATE 0)) ∧
    (∃ s : State, ∃ n : BayId, ∃ level : Nat, (SMap.get (fun _ => 0) s.pwr.req n.val = level) ∧ (level ≠ 0) ∧ (s.waking (.bay n) = false) ∧
      (s.islandState (.bay n) = 0) ∧ (s.mayEnter (.bay n) = true)) ∧
    (∃ s : State, ∃ n : BayId, (s.islandState (.bay n) = 0) ∧ (s.waking (.bay n) = false) ∧ (SMap.get (fun _ => 0) s.pwr.req n.val ≠ 0)) ∧
    (∃ s : State, ∃ level : Nat, ∃ cap : Nat, ∃ heat : Nat, (s.hub Reg.Pwr.VIN_STAT = 0) ∧ (s.pwr.low = false) ∧ (s.pwr.warn = false) ∧
      (level = fld (s.hub Reg.Pwr.THR_STAT) 2 0) ∧ (cap = s.capDemand level) ∧ (heat = s.heatDemand level) ∧ (level < max cap heat)) ∧
    (∃ s : State, (s.pwr.warn = false)) :=
  ⟨⟨Wit.up, 0, (1), by decide, rfl, rfl, rfl, rfl⟩,
   ⟨({ Wit.up with islands := [(0, 1)] }), 0, 0, rfl, rfl, rfl, rfl, by decide⟩,
   ⟨Wit.up, 0, 0, rfl, rfl⟩,
   ⟨({ Wit.up with pwr := { PwrSt.init with req := [(0, 1)] } }), 0, (1), rfl, by decide, rfl, rfl, rfl⟩,
   ⟨({ Wit.up with pwr := { PwrSt.init with req := [(0, 1)] } }), 0, rfl, rfl, by decide⟩,
   ⟨(Wit.up.setHub Reg.Pwr.PIN_STAT 0x1000), _, _, _, rfl, rfl, rfl, rfl, rfl, rfl, by decide⟩,
   ⟨Wit.up, rfl⟩⟩

set_option maxRecDepth 100000 in
/-- The premises of WakeCommandsComplete are met, clause by clause. -/
theorem test_wakeCommandsComplete_premises :
    (∃ s : State, ∃ i : Island, ∃ _m : Msg, (s.islandState i ≠ 0)) ∧
    (∃ s : State, ∃ i : Island, ∃ _m : Msg, (s.islandState i = 0)) ∧
    (∃ s : State, ∃ i : Island, ∃ q : List Island, (s.govQ = i :: q) ∧ (s.charge i * perCentiAmp ≤ s.pwr.budget)) ∧
    (∃ s : State, ∃ i : Island, ∃ q : List Island, (s.govQ = i :: q) ∧ (s.pwr.budget < s.charge i * perCentiAmp)) ∧
    (∃ s : State, ∃ n : BayId, ∃ g : Fin 8, (s.calm) ∧ (s.granted = [.spindles n g]) ∧ (s.crossing = []) ∧ (s.rst.waits = [])) :=
  ⟨⟨({ Wit.up with islands := [(0, 1)] }), .bay 0, (.req Wit.req), by decide⟩,
   ⟨Wit.up, .bay 0, (.req Wit.req), rfl⟩,
   ⟨({ Wit.up with govQ := [.bay 0] }), .bay 0, ([]), by rfl, by decide⟩,
   ⟨({ Wit.up with govQ := [.bay 0], pwr := { PwrSt.init with budget := 0 } }), .bay 0, ([]), rfl, by decide⟩,
   ⟨({ Wit.up with granted := [.spindles 0 0] }), 0, 0, calm_of _ rfl rfl rfl rfl rfl rfl rfl rfl rfl, rfl, rfl, rfl⟩⟩

set_option maxRecDepth 100000 in
/-- The premises of ResetCommandsComplete are met, clause by clause. -/
theorem test_resetCommandsComplete_premises :
    (∃ s : State, (bit (s.hub Reg.Rst.WDT_CFG) 31 = true) ∧ (fld (s.hub Reg.Rst.WDT_STAT) 1 0 = 0)) ∧
    (∃ s : State, (bit (s.hub Reg.Rst.WDT_CFG) 31 = true) ∧ (fld (s.hub Reg.Rst.WDT_STAT) 1 0 = 1)) ∧
    (∃ s : State, (bit (s.hub Reg.Rst.WDT_CFG) 31 = true) ∧ (fld (s.hub Reg.Rst.WDT_STAT) 1 0 = 2)) ∧
    (∃ s : State, (ResetUnit.device ∉ s.held)) ∧
    (∃ s : State, (ResetUnit.device ∈ s.held)) ∧
    (∃ _s : State, ∃ k : Byte, (k ≠ 0xA5)) :=
  ⟨⟨((Wit.up.setHub Reg.Rst.WDT_CFG 0x80000000)), rfl, rfl⟩,
   ⟨((Wit.up.setHub Reg.Rst.WDT_CFG 0x80000000).setHub Reg.Rst.WDT_STAT 1), rfl, rfl⟩,
   ⟨((Wit.up.setHub Reg.Rst.WDT_CFG 0x80000000).setHub Reg.Rst.WDT_STAT 2), rfl, rfl⟩,
   ⟨Wit.up, by decide⟩,
   ⟨(State.reset), by decide⟩,
   ⟨Wit.up, 0, by decide⟩⟩

set_option maxRecDepth 100000 in
/-- The premises of UnitResetCommandsComplete are met, clause by clause. -/
theorem test_unitResetCommandsComplete_premises :
    (∃ s : State, ∃ n : BayId, ∃ pg : Fin 5120, ∃ _v : Word, (pg.val = pgMC n.val) ∧ (s.pageBlocked (pgMC n.val * 4096 + 0x10) = none)) ∧
    (∃ s : State, ∃ pg : Nat, ∃ v : Word, ∃ n : BayId, ∃ t : State, (pg = pgMC n.val) ∧ (bit (s.rg pg Reg.Hdr.RST_CTRL) 16 = false) ∧
      (t = ((s.setF pg Reg.Hdr.RST_CTRL 16 16 (b2n (bit v 16))).setF pg Reg.Hdr.RST_CTRL 13 8 (fld v 13 8)).setF pg Reg.Hdr.RST_CTRL 30 28 (fld v 30 28)) ∧
      (fld v 2 0 = 3) ∧ (t.resetHides 3 (.bay n.val) = false)) ∧
    (∃ s : State, ∃ n : BayId, (s.islandState (.bay n) = 0)) ∧
    (∃ s : State, ∃ n : BayId, ∃ pg : Fin 5120, ∃ _v : Word, (pg.val = pgLoom n.val) ∧ (s.pageBlocked (pgLoom n.val * 4096 + 0x10) = none)) ∧
    (∃ s : State, ∃ pg : Fin 5120, (s.pageBlocked (pg.val * 4096 + 0x10) = none) ∧ (bit (s.rg pg.val Reg.Hdr.RST_CTRL) 16 = true)) ∧
    (∃ s : State, ∃ n : BayId, (s.calm) ∧ (ResetUnit.loom n.val ∈ s.held) ∧ (bit (s.rg (pgLoom n.val) Reg.Hdr.RST_CTRL) 16 = false)) ∧
    (∃ s : State, (s.pwr.stopped = false) ∧ (s.pwr.tripped = false) ∧ (s.relStep = 1)) ∧
    (∃ s : State, (s.pwr.stopped = false) ∧ (s.pwr.tripped = false) ∧ (s.relStep = 2) ∧ (s.ks.boot = 1)) ∧
    (∃ s : State, (s.pwr.stopped = false) ∧ (s.pwr.tripped = false) ∧ (s.relStep = 3) ∧ (s.rst.stuck = false) ∧ (s.clkGood 0 = true)) ∧
    (∃ s : State, (s.pwr.stopped = false) ∧ (s.pwr.tripped = false) ∧ (s.relStep = 6) ∧
      (s.toPower.all (fun g => NSet.has g s.rst.calibrated) = true)) ∧
    (∃ s : State, ∃ u : State, ∃ t : State, ∃ n : BayId, (shState (s.rg (pgMC n.val) Reg.MC.PHY_SHELL_STAT) = 1) ∧ (s.islandState (.bay n) = 0) ∧
      (u = (s.firstSample n.val).set (pgMC n.val) Reg.MC.PHY_SHELL_STAT (shCalibrated (setFld (s.rg (pgMC n.val) Reg.MC.PHY_SHELL_STAT) 31 24 0) 3 0)) ∧
      (t = (u.setBay n.val (u.bay n.val).hardened).syncRepair n.val) ∧ (t.relStep ≠ 5)) ∧
    (∃ s : State, ∃ n : BayId, ∃ f : BitVec 8, (f ≠ 0) ∧ (shState (s.rg (pgMC n.val) Reg.MC.PHY_SHELL_STAT) = 1) ∧ (s.islandState (.bay n) = 0)) ∧
    (∃ s : State, ∃ t : State, ∃ g : GroupId, (s.islandState (.group g) = 0) ∧
      (t = (List.range 27).foldl (fun s j => if shState (s.laneShell (3 * g.val + j / 9) (j % 9)) = 1 then s.setLaneShell (3 * g.val + j / 9) (j % 9) (shCalibrated (s.laneShell (3 * g.val + j / 9) (j % 9)) 2 0) else s) s) ∧
      (t.relStep ≠ 6)) :=
  ⟨⟨Wit.up, 0, (Fin.ofNat 5120 (pgMC 0)), 0, rfl, rfl⟩,
   ⟨Wit.up, _, (3), 0, _, rfl, rfl, rfl, rfl, rfl⟩,
   ⟨Wit.up, 0, rfl⟩,
   ⟨Wit.up, 0, (Fin.ofNat 5120 (pgLoom 0)), 0, rfl, rfl⟩,
   ⟨(Wit.up.setF (pgMC 0) Reg.Hdr.RST_CTRL 16 16 1), (Fin.ofNat 5120 (pgMC 0)), rfl, rfl⟩,
   ⟨({ Wit.up with held := [.loom 0] }), 0, calm_of _ rfl rfl rfl rfl rfl rfl rfl rfl rfl, by decide, rfl⟩,
   ⟨(Wit.up.toStep 1), rfl, rfl, rfl⟩,
   ⟨({ Wit.up.toStep 2 with ks := { KsSt.init with boot := 1 } }), rfl, rfl, rfl, rfl⟩,
   ⟨({ Wit.up.toStep 3 with clk := { ClkSt.init with good := [0] } }), rfl, rfl, rfl, rfl, rfl⟩,
   ⟨({ Wit.up.toStep 6 with rst := { RstSt.init with calibrated := List.range 24 } }), rfl, rfl, rfl, rfl⟩,
   ⟨(Wit.up.set (pgMC 0) Reg.MC.PHY_SHELL_STAT 1 |>.setBay 0 { BaySt.init with sampled := true }), _, _, 0, rfl, rfl, rfl, rfl, by decide⟩,
   ⟨(Wit.up.set (pgMC 0) Reg.MC.PHY_SHELL_STAT 1), 0, (1), by decide, rfl, rfl⟩,
   ⟨Wit.up, _, 0, rfl, rfl, by decide⟩⟩

set_option maxRecDepth 100000 in
/-- The premises of FaultCommandsComplete are met, clause by clause. -/
theorem test_faultCommandsComplete_premises :
    (∃ _s : State, ∃ k : Fin 5, (k.val < 4)) ∧
    (∃ s : State, ∃ k : Fin 10, ∃ t : State, (bit (s.hub Reg.Flt.BRIDGE_STAT) k.val = false) ∧ (SMap.get (fun _ => []) s.flt.bridge k.val = []) ∧
      (t = (({ s with flt := { s.flt with beats := SMap.set (fun _ => 0) s.flt.beats k.val 0, bridge := SMap.set (fun _ => []) s.flt.bridge k.val [s.now] } } : State).bumpI pgFlt Reg.Flt.BRIDGE_REPLAY_CNT k.val)) ∧
      (1 ≤ fld (t.hub Reg.Flt.FAULT_CFG) 15 8)) ∧
    (∃ s : State, ∃ k : Fin 16, (SMap.get (fun _ => []) s.flt.hist (10 * 4096 + k.val) = [])) ∧
    (∃ _s : State, ∃ n : BitVec 5, (n.toNat < 24)) ∧
    (∃ s : State, ∃ k : Fin 4, (s.calm) ∧ ((∀ sp < 4, fld (s.hub Reg.Flt.EPART_MAP) (2 * sp + 1) (2 * sp) ≠ k.val))) ∧
    (∃ s : State, ∃ k : Fin 8, ∃ n : BayId, ((∀ u < 48, s.lpart u = k.val ↔ u = n.val))) ∧
    (∃ s : State, ∃ k : Fin 8, ∃ g : GroupId, ((∀ u < 48, s.lpart u = k.val ↔ u = 24 + g.val))) ∧
    (∃ s : State, ∃ k : Fin 8, ((∀ u < 48, s.lpart u ≠ k.val))) ∧
    (∃ s : State, ∃ t : State, (t = (s.setHubF Reg.Flt.FOOT_STAT 30 30 0).footClear 0) ∧ (t.inFootway = true) ∧
      (fld (t.hub Reg.Flt.FOOT_STAT) 12 8 = 0)) ∧
    (∃ s : State, ∃ t : State, (t = (s.setHubF Reg.Flt.FOOT_STAT 30 30 0).footClear 0) ∧ (t.inFootway = true) ∧
      (fld (t.hub Reg.Flt.FOOT_STAT) 12 8 ≠ 0)) ∧
    (∃ s : State, (s.inFootway = true)) ∧
    (∃ s : State, ∃ n : BitVec 5, ∃ mode : Fin 4, (n.toNat < 24) ∧ (mode ≠ 3) ∧ (s.flt.btest = none) ∧ (s.retired n.toNat = true) ∧
      (bit (s.hub Reg.Flt.SPAN_FENCED) (4 + n.toNat / 6) = false)) ∧
    (∃ s : State, (s.flt.btest ≠ none)) ∧
    (∃ s : State, ∃ n : Nat, (s.flt.btest = some ⟨n, 1, false⟩)) ∧
    (∃ s : State, ∃ p : PierId, ∃ v : Word, ∃ w : Word, (w = setFld (setFld v 31 31 1) 30 30 0) ∧ (bit w 30 = false) ∧ (bit w 31 = true) ∧
      (s.pageOpen (pgPier p.val) Reg.Pier.LOOP_CMD 0) ∧ ((s.pier p.val).loop = none) ∧ (fld w 3 0 ≤ 8) ∧ (fld w 19 8 ≠ 0) ∧
      (s.laneFree p.val (fld w 3 0) = true)) ∧
    (∃ s : State, ∃ p : PierId, ∃ v : Word, (s.pageOpen (pgPier p.val) Reg.Pier.LOOP_CMD 0) ∧ ((s.pier p.val).loop ≠ none) ∧
      (bit (setFld v 30 30 1) 30 = true)) ∧
    (∃ s : State, ∃ p : PierId, ∃ _n : BitVec 32, ((s.pier p.val).loop ≠ none)) ∧
    (∃ s : State, ∃ n : BitVec 6, (s.flt.dpath = none) ∧ (n.toNat < 53)) ∧
    (∃ s : State, ∃ _b : BitVec 11, (s.flt.dpath ≠ none)) :=
  ⟨⟨Wit.up, 0, by decide⟩,
   ⟨Wit.up, 0, _, by rfl, by rfl, rfl, by decide⟩,
   ⟨Wit.up, 0, rfl⟩,
   ⟨Wit.up, 0, by decide⟩,
   ⟨(Wit.up.setHub Reg.Flt.EPART_MAP 0), (3), calm_of _ rfl rfl rfl rfl rfl rfl rfl rfl rfl, by decide⟩,
   ⟨(Wit.up.setReg pgFlt Reg.Flt.LPART_MAP 0 0 1), (1), 0, by decide⟩,
   ⟨(Wit.up.setReg pgFlt Reg.Flt.LPART_MAP 3 0 1), (1), 0, by decide⟩,
   ⟨Wit.up, (3), by decide⟩,
   ⟨(Wit.up.setHub Reg.Flt.FOOT_STAT 0x80000000), _, rfl, rfl, rfl⟩,
   ⟨(Wit.up.setHub Reg.Flt.FOOT_STAT 0x80000200), _, rfl, rfl, by decide⟩,
   ⟨(Wit.up.setHub Reg.Flt.FOOT_STAT 0x80000000), rfl⟩,
   ⟨(Wit.up.setHub Reg.Flt.BAY_RETIRED 1), 0, (0), by decide, by decide, rfl, rfl, rfl⟩,
   ⟨({ Wit.up with flt := { FltSt.init with btest := some ⟨0, 1, false⟩ } }), by decide⟩,
   ⟨({ Wit.up with flt := { FltSt.init with btest := some ⟨0, 1, false⟩ } }), 0, rfl⟩,
   ⟨Wit.up, 0, (0x100), _, rfl, by rfl, by rfl, by rfl, by rfl, by decide, by decide, by rfl⟩,
   ⟨({ Wit.up with piers := [(0, { PierSt.init with loop := some 0 })] }), 0, (0), rfl, by decide, rfl⟩,
   ⟨({ Wit.up with piers := [(0, { PierSt.init with loop := some 0 })] }), 0, 0, by decide⟩,
   ⟨Wit.up, 0, rfl, by decide⟩,
   ⟨({ Wit.up with flt := { FltSt.init with dpath := some 0 } }), 0, by decide⟩⟩

set_option maxRecDepth 100000 in
/-- The premises of PlainRegisterWritesComplete are met, clause by clause. -/
theorem test_plainRegisterWritesComplete_premises :
    (∃ s : State, ∃ m : Master, ∃ r : RegSpec, ∃ _v : DWord, (s.calm) ∧ (m ≠ .debug) ∧ (r ∈ plainRegs)) :=
  ⟨Wit.up, .host, (Reg.FT.TIME_CFG), 0, calm_of _ rfl rfl rfl rfl rfl rfl rfl rfl rfl, by decide, by simp [plainRegs]⟩

set_option maxRecDepth 100000 in
/-- The premises of PlainRegisterReadsComplete are met, clause by clause. -/
theorem test_plainRegisterReadsComplete_premises :
    (∃ s : State, ∃ m : Master, ∃ r : RegSpec, (m ≠ .debug) ∧ (r ∈ plainRegs) ∧ (s.latches = []) ∧ (s.staged = [])) ∧
    (∃ s : State, ∃ m : Master, ∃ sp : Fin 4, (m ≠ .debug) ∧ (s.latches = []) ∧ (s.staged = []) ∧ (s.pageState (pgOB sp.val) = 0)) ∧
    (∃ _s : State, ∃ m : Master, ∃ a : BitVec 26, (m ≠ .debug) ∧ (assigned (a.toNat / 4096) = false) ∧ (a.toNat % 4 = 0)) :=
  ⟨⟨Wit.up, .host, (Reg.FT.TIME_CFG), by decide, by simp [plainRegs], rfl, rfl⟩,
   ⟨Wit.up, .host, 0, by decide, rfl, rfl, rfl⟩,
   ⟨Wit.up, .host, (0x3FFFFFC), by decide, rfl, rfl⟩⟩

set_option maxRecDepth 100000 in
/-- The premises of ClearingReadsComplete are met, clause by clause. -/
theorem test_clearingReadsComplete_premises :
    (∃ s : State, ∃ _m : Master, ∃ n : BayId, (s.latches = []) ∧ (s.staged = []) ∧ (s.pageState (pgHome n.val) = 0)) ∧
    (∃ s : State, ∃ _m : Master, ∃ n : BayId, (s.latches = []) ∧ (s.staged = []) ∧ (s.pageState (pgMC n.val) = 0)) ∧
    (∃ s : State, ∃ _m : Master, ∃ n : BayId, (s.latches = []) ∧ (s.staged = []) ∧ (s.pageState (pgLoom n.val) = 0)) ∧
    (∃ s : State, ∃ _m : Master, ∃ n : BayId, (s.latches = []) ∧ (s.staged = []) ∧ (s.pageState (pgHed n.val) = 0)) ∧
    (∃ s : State, ∃ _m : Master, ∃ n : BayId, (s.latches = []) ∧ (s.staged = []) ∧ (s.pageState (pgSp n.val) = 0)) ∧
    (∃ s : State, ∃ _m : Master, ∃ n : BayId, (s.latches = []) ∧ (s.staged = []) ∧ (s.pageState (pgCodec n.val) = 0)) ∧
    (∃ s : State, ∃ _m : Master, ∃ k : Fin 5, (s.latches = []) ∧ (s.staged = []) ∧ (s.pageState (pgSlice k.val) = 0)) :=
  ⟨⟨Wit.up, .host, 0, rfl, rfl, rfl⟩,
   ⟨Wit.up, .host, 0, rfl, rfl, rfl⟩,
   ⟨Wit.up, .host, 0, rfl, rfl, rfl⟩,
   ⟨Wit.up, .host, 0, rfl, rfl, rfl⟩,
   ⟨Wit.up, .host, 0, rfl, rfl, rfl⟩,
   ⟨Wit.up, .host, 0, rfl, rfl, rfl⟩,
   ⟨Wit.up, .host, 0, rfl, rfl, rfl⟩⟩

set_option maxRecDepth 100000 in
/-- The premises of CareCommandsComplete are met, clause by clause. -/
theorem test_careCommandsComplete_premises :
    (∃ s : State, ∃ t : State, ∃ v : Word, (t = s.writeReg pgFlt Reg.Flt.WEFT_FENCE 0 0 (v.setWidth 64))) ∧
    (∃ s : State, ∃ _v : Word, (bit (s.hub Reg.Smp.SMP_CTRL) 31 = false) ∧ (bit (s.hub Reg.Diag.TRACE_CTRL) 31 = false)) ∧
    (∃ s : State, ∃ _v : Word, (fld (s.hub Reg.Diag.TRACE_SPLIT) 4 0 * 262144 + 32 * (s.hub Reg.Diag.TRACE_ENTRIES).toNat ≤ 4194304)) ∧
    (∃ s : State, ∃ pg : Fin 5120, ∃ _v : Word, (s.pageBlocked (pg.val * 4096 + 0x10) = none)) ∧
    (∃ s : State, (s.alert = true) ∧ (State.alertCause { s with alertHold := false } = false)) ∧
    (∃ s : State, ∃ i : Jtag, (s.jtagMay i = true)) ∧
    (∃ s : State, ∃ i : Jtag, (s.jtagMay i = false)) ∧
    (∃ s : State, ∃ n : BayId, ∃ k : Fin 64, (s.debugSp n.val k.val = true)) ∧
    (∃ s : State, ∃ n : BayId, ∃ k : Fin 64, ∃ _r : Fin 32, (s.debugSp n.val k.val = true)) ∧
    (∃ s : State, ∃ _off : BitVec 26, ∃ _w : Bool, (s.debugOpen = false)) :=
  ⟨⟨Wit.up, _, 0, rfl⟩,
   ⟨Wit.up, 0, rfl, rfl⟩,
   ⟨Wit.up, 0, by decide⟩,
   ⟨Wit.up, 0, 0, rfl⟩,
   ⟨({ Wit.up with alert := true }), rfl, rfl⟩,
   ⟨Wit.up, (.bypass), rfl⟩,
   ⟨({ Wit.up with comps := [(0, 1)] }), (.boundary), rfl⟩,
   ⟨(Wit.debug), 0, 0, rfl⟩,
   ⟨(Wit.debug), 0, 0, 0, rfl⟩,
   ⟨({ Wit.up with fuses := { Fuses.ofPart with debugDisable := true } }), 0, false, rfl⟩⟩

set_option maxRecDepth 100000 in
/-- The premises of KeystoneCommandsComplete are met, clause by clause. -/
theorem test_keystoneCommandsComplete_premises :
    (∃ s : State, ∃ e : Nat, (s.ks.boot = 0) ∧ (ResetUnit.device ∈ s.held) ∧ (s.fuses.straps.toNat % 4 < 2) ∧
      (s.imageCheck (s.flashBytes 0 4096) (fun n => s.flashBytes 4096 n) = e)) ∧
    (∃ s : State, ∃ len : BitVec 8, ∃ i : BitVec 6, ∃ _bs : List Byte, (s.ks.boot = 2) ∧ (s.ks.recov.1 ≠ 3) ∧ (len ≠ 0) ∧ (len.toNat ≤ 128) ∧
      (i.toNat ≤ 32)) ∧
    (∃ s : State, ∃ e : Nat, (s.ks.boot = 2) ∧ (s.ks.recov.1 ≠ 3) ∧ (s.imageCheck (s.stageBytes 0 4096) (fun n => s.stageBytes 4096 n) = e)) ∧
    (∃ s : State, (s.ks.boot = 2) ∧ (s.ks.recov.1 ≠ 3)) ∧
    (∃ s : State, ∃ t : State, ∃ a : Nat, (s.ksBusy = false) ∧ (a = (s.hub Reg.KS.KS_ADDR).toNat % 2 ^ 48) ∧ (s.live s.ksSel = true) ∧
      (s.inStackTier a 128 = true) ∧ (t = { (s.ksResult true 0) with ks := { (s.ksResult true 0).ks with cmd := some (1, s.ksSel) } })) ∧
    (∃ s : State, ∃ t : State, ∃ a : Nat, (s.ksBusy = false) ∧ (a = (s.hub Reg.KS.KS_ADDR).toNat % 2 ^ 48) ∧ (s.live s.ksSel = true) ∧
      (s.inStackTier a 192 = true) ∧ (t = { (s.ksResult true 0) with ks := { (s.ksResult true 0).ks with cmd := some (2, s.ksSel) } })) ∧
    (∃ s : State, (s.ksBusy = false) ∧ (s.live s.ksSel = true)) ∧
    (∃ s : State, (s.ksBusy = false) ∧ (s.fuses.svn < s.imageSvn)) ∧
    (∃ s : State, ∃ c : Nat, (s.ks.cmd = some (4, c))) ∧
    (∃ s : State, ∃ c : CompId, ((s.token c.val).installed = true) ∧ ((s.token c.val).notAfter ≤ s.timeFloor) ∧ (c.val ∉ s.ks.lapsed)) ∧
    (∃ s : State, (s.ks.entFail = false)) ∧
    (∃ s : State, (s.ks.entFail = false) ∧ (65536 ≤ s.ks.drbg)) :=
  ⟨⟨({ Wit.up with held := [.device], fuses := { Fuses.ofPart with straps := 0 } }), _, rfl, by decide, by decide, rfl⟩,
   ⟨({ Wit.up with ks := { KsSt.init with boot := 2, recov := (1, 0, 0) } }), (128), (32), [], by rfl, by decide, by decide, by rfl, by rfl⟩,
   ⟨({ Wit.up with ks := { KsSt.init with boot := 2, recov := (1, 0, 0) } }), _, rfl, by decide, rfl⟩,
   ⟨({ Wit.up with ks := { KsSt.init with boot := 2, recov := (1, 0, 0) } }), rfl, by decide⟩,
   ⟨(Wit.run), _, _, rfl, rfl, rfl, rfl, rfl⟩,
   ⟨(Wit.run), _, _, rfl, rfl, rfl, rfl, rfl⟩,
   ⟨(Wit.run), rfl, rfl⟩,
   ⟨({ Wit.up with ks := { KsSt.init with header := List.replicate 12 1 }, fuses := { Fuses.ofPart with svn := 0 } }), rfl, by decide⟩,
   ⟨({ Wit.up with ks := { KsSt.init with cmd := some (4, 0) } }), 0, rfl⟩,
   ⟨({ Wit.debug with timeFloor := 100 }), 0, by rfl, by rfl, by decide⟩,
   ⟨Wit.up, rfl⟩,
   ⟨({ Wit.up with ks := { KsSt.init with drbg := 65536 } }), by rfl, by rfl⟩⟩

set_option maxRecDepth 100000 in
/-- The premises of SpdmCommandsComplete are met, clause by clause. -/
theorem test_spdmCommandsComplete_premises :
    (∃ s : State, ∃ _via : Via, (s.ks.boot = 1)) ∧
    (∃ s : State, ∃ _via : Via, (s.ks.boot = 1) ∧ (s.ks.idCert = true)) ∧
    (∃ s : State, ∃ _via : Via, ∃ off : BitVec 16, ∃ _len : BitVec 16, (s.ks.boot = 1) ∧ (s.ks.idCert = true) ∧ (off.toNat ≤ s.certChain.length)) ∧
    (∃ s : State, ∃ _via : Via, ∃ _nonce : DWord, (s.ks.boot = 1)) ∧
    (∃ s : State, ∃ _via : Via, ∃ i : Byte, ∃ _nonce : DWord, ∃ b : List Byte, (s.ks.boot = 1) ∧ (i ≠ 0xFF) ∧ (s.measurement i.toNat = some b)) ∧
    (∃ s : State, ∃ _via : Via, ∃ id : Nat, (s.ks.boot = 1) ∧ ((id, false) ∈ s.ks.sessions)) ∧
    (∃ s : State, ∃ _via : Via, ∃ id : Nat, (s.ks.boot = 1) ∧ ((id, true) ∈ s.ks.sessions)) ∧
    (∃ s : State, ∃ _via : Via, ∃ _share : DWord, ∃ t : State, (s.ks.boot = 1) ∧ (s.ks.sessions.length < 2) ∧ (s.keygen = (true, t))) :=
  ⟨⟨(Wit.run), .doe, rfl⟩,
   ⟨(Wit.run), .doe, rfl, rfl⟩,
   ⟨(Wit.run), .doe, 0, 0, by rfl, by rfl, by decide⟩,
   ⟨(Wit.run), .doe, 0, rfl⟩,
   ⟨(Wit.run), .doe, (7), 0, (_), rfl, by decide, rfl⟩,
   ⟨(Wit.run), .doe, (1), rfl, by decide⟩,
   ⟨(Wit.run), .doe, (2), rfl, by decide⟩,
   ⟨({ Wit.run with ks := { Wit.run.ks with sessions := [] } }), .doe, 0, (_), rfl, by decide, rfl⟩⟩

set_option maxRecDepth 100000 in
/-- The premises of ManagementCommandsComplete are met, clause by clause. -/
theorem test_managementCommandsComplete_premises :
    (∃ s : State, ∃ _via : Via, ∃ e : Byte, (s.ks.boot = 1) ∧ (e ≠ 0) ∧ (e ≠ 0xFF)) ∧
    (∃ s : State, ∃ _via : Via, (s.ks.boot = 1)) ∧
    (∃ s : State, ∃ p : PortId, ∃ _tc : BitVec 3, ∃ b : List Byte, (s.ks.boot = 1) ∧ (s.voqs = []) ∧ ((s.link p.val).state ≠ .securing) ∧
      (5 ≤ b.length) ∧ (b.length ≤ 1020) ∧ ((b.getD 0 0).toNat % 16 = 1) ∧ (mctpTaken b = true)) ∧
    (∃ s : State, ∃ b : List Byte, (s.ks.boot = 1) ∧ (s.hostUp = true) ∧ (5 ≤ b.length) ∧ (b.length ≤ 1020) ∧ ((b.getD 0 0).toNat % 16 = 1) ∧
      (mctpTaken b = true)) ∧
    (∃ s : State, ∃ b : List Byte, (s.ks.boot = 1) ∧ (5 ≤ b.length) ∧ (b.length ≤ 1020) ∧ ((b.getD 0 0).toNat % 16 = 1) ∧ (mctpTaken b = true)) ∧
    (∃ s : State, (s.hostUp = true)) :=
  ⟨⟨(Wit.run), .doe, (1), rfl, by decide, by decide⟩,
   ⟨(Wit.run), .doe, rfl⟩,
   ⟨(Wit.run), 0, 0, ([1, 0, 0, 0, 0]), by rfl, by rfl, by decide, by rfl, by decide, by rfl, by rfl⟩,
   ⟨(Wit.run), ([1, 0, 0, 0, 0]), by rfl, by rfl, by rfl, by decide, by rfl, by rfl⟩,
   ⟨(Wit.run), ([1, 0, 0, 0, 0]), by rfl, by rfl, by decide, by rfl, by rfl⟩,
   ⟨(Wit.run), rfl⟩⟩

set_option maxRecDepth 100000 in
/-- The premises of MailboxCommandsComplete are met, clause by clause. -/
theorem test_mailboxCommandsComplete_premises :
    (∃ s : State, (s.mbOn = true)) ∧
    (∃ s : State, ∃ log : Fin 4, (s.mbOn = true) ∧ (log ≠ 3)) ∧
    (∃ s : State, ∃ log : Fin 4, ∃ _hs : List Nat, (s.mbOn = true) ∧ (log ≠ 3)) ∧
    (∃ s : State, ∃ _v : DWord, (s.mbOn = true)) ∧
    (∃ s : State, (s.mbOn = true) ∧ (s.host.stamp ≠ (0, 0))) ∧
    (∃ s : State, ∃ _core : Fin 16, ∃ _off : BitVec 26, (s.mbOn = true)) ∧
    (∃ s : State, ∃ _core : Fin 16, ∃ _off : BitVec 26, ∃ _v : DWord, (s.mbOn = true)) ∧
    (∃ s : State, ∃ cert : List Byte, (s.mbOn = true) ∧ (cert.length ≤ 4096) ∧ (s.ks.anchors.length < 4)) ∧
    (∃ s : State, ∃ off : BitVec 32, ∃ bs : List Byte, (s.mbOn = true) ∧ (bs.length ≤ 65536) ∧ (off.toNat + bs.length ≤ 2 ^ 25)) ∧
    (∃ s : State, ∃ _i : BitVec 16, (s.mbOn = true)) :=
  ⟨⟨(Wit.run), rfl⟩,
   ⟨(Wit.run), 0, rfl, by decide⟩,
   ⟨(Wit.run), 0, [], rfl, by decide⟩,
   ⟨(Wit.run), 0, rfl⟩,
   ⟨({ Wit.run with host := { Wit.run.host with stamp := (1, 0) } }), rfl, by decide⟩,
   ⟨(Wit.run), 0, 0, rfl⟩,
   ⟨(Wit.run), 0, 0, 0, rfl⟩,
   ⟨(Wit.run), [], by rfl, by decide, by decide⟩,
   ⟨(Wit.run), 0, [], by rfl, by decide, by decide⟩,
   ⟨(Wit.run), 0, rfl⟩⟩

set_option maxRecDepth 100000 in
/-- The premises of HostPortCommandsComplete are met, clause by clause. -/
theorem test_hostPortCommandsComplete_premises :
    (∃ s : State, ∃ w : Byte, ∃ r : Byte, (hostLinkMode 1 w.toNat r.toNat = true) ∧ (s.host.perst = false) ∧ (s.hostUp = false) ∧
      (s.clkGood 1 = true) ∧ (s.isHeld .hostPort = false) ∧ (bit (s.hub Reg.HP.HP_CFG) 31 = true)) ∧
    (∃ s : State, (s.hostUp = true)) ∧
    (∃ s : State, ∃ ses : Nat, ∃ _k : Fin 2, (s.hostUp = true) ∧ (s.ks.boot = 1) ∧ ((ses, true) ∈ s.ks.sessions)) ∧
    (∃ s : State, ∃ _n : Fin 4, ∃ b : BitVec 48, ∃ z : BitVec 48, ∃ ways : Nat, ∃ gran : Nat, (s.hostUp = true) ∧ (b.toNat + z.toNat ≤ stackEnd) ∧
      (hdmInterleave ways gran = true)) ∧
    (∃ s : State, ∃ _n : Fin 4, ∃ b : BitVec 48, ∃ z : BitVec 48, ∃ _ways : Nat, ∃ _gran : Nat, (s.hostUp = true) ∧ (stackEnd < b.toNat + z.toNat)) ∧

    (∃ s : State, ∃ _c : BitVec 16, ∃ _d : BitVec 48, (s.memOn = true)) ∧
    (∃ s : State, ∃ _c : BitVec 16, ∃ d : BitVec 48, ∃ _mv : MetaValue, ∃ _bad : Bool, ∃ _l : Line, (s.memOn = true) ∧
      ((s.bumpHub Reg.HP.MEM_WR_CNT).hostOwns d.toNat = false)) ∧
    (∃ s : State, ∃ _c : BitVec 16, ∃ _d : BitVec 48, ∃ _m : BitVec 64, ∃ _bad : Bool, ∃ _l : Line, (s.memOn = true)) ∧
    (∃ s : State, ∃ la : BitVec 42, ∃ n : Nat, (s.memOn = true) ∧ (s.homeBay (la.toNat * 64) = some n)) ∧
    (∃ s : State, ∃ c : BitVec 16, ∃ r : HostReq, (s.host.reqs.find? (fun r => r.ctag = c.toNat && r.waiting) = some r) ∧
      (r.since + 1000 * fld (s.hub Reg.HP.HP_RETRY) 15 0 ≤ s.now) ∧ (s.ns < r.req.deadline)) ∧
    (∃ s : State, ∃ c : BitVec 16, ∃ r : HostReq, (s.host.reqs.find? (fun r => r.ctag = c.toNat && r.waiting) = some r) ∧
      (r.since + 1000 * fld (s.hub Reg.HP.HP_RETRY) 15 0 ≤ s.now) ∧ (r.req.deadline ≤ s.ns)) :=
  ⟨⟨(State.setHub { Wit.up with clk := { ClkSt.init with good := [1] } } Reg.HP.HP_CFG 0x80000000), (16), (64), rfl, rfl, rfl, rfl, rfl, rfl⟩,
   ⟨(Wit.run), rfl⟩,
   ⟨(Wit.run), (2), 0, rfl, rfl, by decide⟩,
   ⟨(Wit.run), 0, (0x01A000000000), (0x1000000000), (1), (256), by rfl, by rfl, by rfl⟩,
   ⟨(Wit.run), 0, (0x01A000000000), (0x1010000000), 0, 0, rfl, by decide⟩,
   ⟨(Wit.run), 0, 0, rfl⟩,
   ⟨(Wit.run), 0, 0, (.any), false, 0, rfl, rfl⟩,
   ⟨(Wit.run), 0, 0, 0, false, 0, rfl⟩,
   ⟨({ Wit.run with fuses := { Fuses.ofPart with hashSel := 0 } }), (0), (_), rfl, rfl⟩,
   ⟨({ Wit.run with now := 1000000000, host := { Wit.run.host with reqs := [⟨0, 0, { Wit.req with deadline := 1000000000000 }, true, 0⟩] } }), (0),
     (_), rfl, by decide, by decide⟩,
   ⟨({ Wit.run with now := 1000000000, host := { Wit.run.host with reqs := [⟨0, 0, Wit.req, true, 0⟩] } }), (0), (_), rfl, by decide, by rfl⟩⟩

set_option maxRecDepth 100000 in
/-- The premises of RegionTableCommandsComplete are met, clause by clause. -/
theorem test_regionTableCommandsComplete_premises :
    (∃ s : State, ∃ i : BitVec 16, ∃ e : RtEntry, (s.reg.rtCmd = none) ∧ (s.reg.phase = .idle) ∧ (s.rtStaged = some e) ∧
      (s.rtCheck s.reg.nxt i.toNat e = 0)) ∧
    (∃ s : State, ∃ i : BitVec 16, ∃ e : RtEntry, (s.reg.rtCmd = none) ∧ (s.rtStaged = some e) ∧ (s.rtCheck s.reg.cur i.toNat e = 0)) ∧
    (∃ s : State, ∃ i : BitVec 16, ∃ e : RtEntry, ∃ res : Nat, (s.reg.rtCmd = none) ∧ (s.rtStaged = some e) ∧ (res ≠ 0) ∧
      (s.rtCheck s.reg.cur i.toNat e = res)) ∧
    (∃ s : State, ∃ _i : BitVec 16, (s.reg.rtCmd = none)) ∧
    (∃ s : State, ∃ i : BitVec 16, (s.reg.rtCmd = none) ∧ ((s.reg.cur.entry i.toNat).mode ≠ .shared)) ∧
    (∃ s : State, ∃ i : BitVec 16, (s.reg.rtCmd = none) ∧ ((s.reg.cur.entry i.toNat).mode = .shared)) ∧
    (∃ s : State, ∃ c : MapCmd, (s.reg.rtCmd = some c) ∧ (c.waiting = false) ∧ (c.op ≠ 3) ∧
      (s.inHomes.any (fun e => c.marked.contains e.2) = false)) ∧
    (∃ s : State, ∃ p : PortId, ∃ src : NodeId, ∃ h : Hand, ∃ i : Nat, ∃ e : RtEntry, (s.voqs = []) ∧ (s.handBusy h.granule = false) ∧
      ((s.noteHand src h.granule p.val).handEntry h.granule = some (i, e)) ∧ (e.own = .held) ∧ (e.owner = src) ∧ (e.key = h.key)) ∧
    (∃ s : State, ∃ p : PortId, ∃ src : NodeId, ∃ h : Hand, ∃ i : Nat, ∃ e : RtEntry, (s.voqs = []) ∧ (s.handBusy h.granule = false) ∧
      ((s.noteHand src h.granule p.val).handEntry h.granule = some (i, e)) ∧ (e.own = .offered) ∧ (e.peer = src) ∧ (e.hseq = h.hseq)) ∧
    (∃ s : State, ∃ _p : PortId, ∃ _src : NodeId, ∃ h : Hand, (s.voqs = []) ∧ (s.handBusy h.granule = false)) ∧
    (∃ s : State, ∃ i : BitVec 16, ∃ e : RtEntry, ∃ e' : RtEntry, (s.reg.cur.entry i.toNat = e) ∧ (e.mode = .owned) ∧ (e.own = .offered) ∧
      ((∀ w ∈ s.reg.handWrites, w.index ≠ i.toNat)) ∧ (e' = { e with own := .held, peer := 0, hseq := e.hseq + 1 })) ∧
    (∃ s : State, ∃ d : NodeId, ∃ x : Nat, ∃ l : Link, ∃ i : Identify, (s.links = [(x, l)]) ∧ (l.peer = some i) ∧ (i.node = d) ∧
      (fld (s.hub Reg.HP.HP_CFG) 11 0 ≠ d.toNat)) ∧
    (∃ s : State, ∃ d : NodeId, (s.links = []) ∧ (fld (s.hub Reg.HP.HP_CFG) 11 0 = d.toNat)) ∧
    (∃ s : State, ∃ d : NodeId, (s.links = []) ∧ (fld (s.hub Reg.HP.HP_CFG) 11 0 ≠ d.toNat)) :=
  ⟨⟨Wit.up, 0, RtEntry.none, rfl, rfl, rfl, rfl⟩,
   ⟨Wit.up, 0, RtEntry.none, rfl, rfl, rfl⟩,
   ⟨((Wit.up.setReg (pgOfHub Reg.RT.RT_DATA) Reg.RT.RT_DATA 3 0 1).setReg (pgOfHub Reg.RT.RT_DATA) Reg.RT.RT_DATA 0 0 5), (0), (_), _, rfl, rfl,
     by decide, rfl⟩,
   ⟨Wit.up, 0, rfl⟩,
   ⟨Wit.up, 0, rfl, by decide⟩,
   ⟨({ Wit.run with reg := { Wit.run.reg with cur := { rt := [(0, { Wit.entry with mode := .shared })], rct := [] } } }), 0, rfl, rfl⟩,
   ⟨({ Wit.run with reg := { Wit.run.reg with rtCmd := some ⟨1, false, 0, false, []⟩ } }), (⟨1, false, 0, false, []⟩), rfl, rfl, by decide, rfl⟩,
   ⟨(Wit.run), 0, (5), (Wit.hand), (_), (_), rfl, rfl, rfl, rfl, rfl, rfl⟩,
   ⟨({ Wit.run with reg := { Wit.run.reg with cur := { rt := [(0, { Wit.entry with own := .offered, peer := 6, hseq := 3 })], rct := [] } } }), 0,
     (6), (Wit.hand), (_), (_), rfl, rfl, rfl, rfl, rfl, rfl⟩,
   ⟨Wit.up, 0, 0, (Wit.hand), rfl, rfl⟩,
   ⟨({ Wit.run with reg := { Wit.run.reg with cur := { rt := [(0, { Wit.entry with own := .offered, peer := 6, hseq := 3 })], rct := [] } } }), 0, _, _,
     rfl, rfl, rfl, by decide, rfl⟩,
   ⟨(Wit.link { Link.init with peer := some { Wit.identify with node := 7 } }), (7), (0),
     ({ Link.init with peer := some { Wit.identify with node := 7 } }), ({ Wit.identify with node := 7 }), rfl, rfl, rfl, by decide⟩,
   ⟨Wit.up, (BitVec.ofNat 12 (fld (Wit.up.hub Reg.HP.HP_CFG) 11 0)), rfl, by decide⟩,
   ⟨Wit.up, 0, rfl, by decide⟩⟩

set_option maxRecDepth 100000 in
/-- The premises of CompositionCommandsComplete are met, clause by clause. -/
theorem test_compositionCommandsComplete_premises :
    (∃ s : State, ∃ t : State, (SMap.get (fun _ => 0) s.comps s.compSel = 0) ∧ (s.keygen = (true, t))) ∧
    (∃ s : State, (SMap.get (fun _ => 0) s.comps s.compSel ≠ 0)) ∧
    (∃ s : State, ∃ g : GrantReg, ∃ v : DWord, (s.live s.compSel = true) ∧
      ((g.spec.1.written (s.reg? (pgHub 0x11) g.spec.1 g.spec.2 s.compSel) v).2 = false) ∧
      (s.grantOk s.compSel g (g.spec.1.written (s.reg? (pgHub 0x11) g.spec.1 g.spec.2 s.compSel) v).1 = true)) ∧
    (∃ s : State, (s.reg.phase = .idle) ∧ (s.switchCheck = 0)) ∧
    (∃ s : State, (s.reg.phase = .checking) ∧ (s.switchCheck = 0) ∧ (s.reg.cur.rt = [])) ∧
    (∃ s : State, (s.reg.phase = .draining) ∧ (s.reg.revs = [])) ∧
    (∃ s : State, (s.reg.phase = .idle)) ∧
    (∃ s : State, (s.reg.phase = .copying) ∧ (s.reg.rtCmd = none) ∧ (s.reg.rctCmd = none)) ∧
    (∃ _s : State, ∃ i : BitVec 16, (i.toNat < 4096)) ∧
    (∃ s : State, ∃ i : BitVec 16, (s.reg.rctCmd = none) ∧ (i.toNat < 4096) ∧ (s.reg.phase = .idle) ∧
      (s.rctStaged.base.toNat ≤ s.rctStaged.limit.toNat)) ∧
    (∃ s : State, ∃ i : BitVec 16, (s.reg.rctCmd = none) ∧ (i.toNat < 4096) ∧ (s.reg.phase = .idle)) ∧
    (∃ s : State, ∃ i : BitVec 16, (s.reg.rctCmd = none) ∧ (i.toNat < 4096)) ∧
    (∃ s : State, ∃ c : MapCmd, (s.reg.rctCmd = some c) ∧ (c.waiting = false) ∧ (s.inHomes.any (fun e => c.marked.contains e.2) = false) ∧
      (s.inDeck.any (fun r => c.marked.contains (r.origin, r.tag)) = false)) ∧
    (∃ s : State, ∃ i : Fin 64, ∃ lo : Nat, ∃ hi : Nat, (lo = fld (s.hub Reg.Comp.REV_DATA0) 26 0) ∧ (hi = fld (s.hub Reg.Comp.REV_DATA1) 26 0) ∧
      (lo ≤ hi) ∧ ((s.rev i.val).inForce = false)) ∧
    (∃ s : State, ∃ i : Fin 64, (bit (s.hub Reg.Comp.REV_PEND) i.val = true) ∧ ((s.rev i.val).marked = [])) ∧
    (∃ s : State, ∃ c : CompId, (s.calm) ∧ ((s.rgb (pgHub 0x11) Reg.Comp.SNAP_ADDR c.val).toNat = 0)) ∧
    (∃ s : State, ∃ t : State, ∃ c : CompId, ∃ a : Nat, (s.live c.val = true) ∧ (a = (s.rgb (pgHub 0x11) Reg.Comp.SNAP_ADDR c.val).toNat) ∧ (a ≠ 0) ∧
      (t = State.count { s with snapSeq := SMap.set (fun _ => 0) s.snapSeq c.val ((SMap.get (fun _ => 0) s.snapSeq c.val + 1) % 2 ^ 32) } (pgHub 0x11) Reg.Comp.SNAP_CNT 0 c.val 1)) ∧

    (∃ s : State, (s.releaseCheck s.compSel = 0)) :=
  ⟨⟨Wit.up, (_), rfl, rfl⟩,
   ⟨(Wit.run), by decide⟩,
   ⟨(Wit.run), (.ports 0), 0, rfl, rfl, rfl⟩,
   ⟨Wit.up, rfl, rfl⟩,
   ⟨({ Wit.run with reg := { RegionSt.init with phase := .checking } }), rfl, rfl, rfl⟩,
   ⟨({ Wit.run with reg := { RegionSt.init with phase := .draining } }), rfl, rfl⟩,
   ⟨Wit.up, rfl⟩,
   ⟨({ Wit.run with reg := { RegionSt.init with phase := .copying } }), rfl, rfl, rfl⟩,
   ⟨Wit.up, 0, by decide⟩,
   ⟨Wit.up, 0, by rfl, by decide, by rfl, by rfl⟩,
   ⟨Wit.up, 0, rfl, by decide, rfl⟩,
   ⟨Wit.up, 0, rfl, by decide⟩,
   ⟨({ Wit.run with reg := { Wit.run.reg with rctCmd := some ⟨1, false, 0, false, []⟩ } }), (⟨1, false, 0, false, []⟩), rfl, rfl, rfl, rfl⟩,
   ⟨Wit.up, 0, _, _, rfl, rfl, by rfl, by rfl⟩,
   ⟨(Wit.run.setHub Reg.Comp.REV_PEND 1), 0, rfl, rfl⟩,
   ⟨Wit.up, 0, calm_of _ rfl rfl rfl rfl rfl rfl rfl rfl rfl, rfl⟩,
   ⟨(Wit.run.setReg (pgOfHub Reg.Comp.SNAP_ADDR) Reg.Comp.SNAP_ADDR 0 0 0x1000), _, 0, _, rfl, rfl, by decide, rfl⟩,
   ⟨({ Wit.run with reg := RegionSt.init }), rfl⟩⟩

set_option maxRecDepth 100000 in
/-- The premises of HomeRequestsComplete are met, clause by clause. -/
theorem test_homeRequestsComplete_premises :
    (∃ s : State, ∃ t : State, ∃ w : State, ∃ n : BayId, ∃ r : Req, ∃ p : Pass, ∃ l : Line, (t = s.readRow n.val (lineOf r.addr)) ∧
      (w = s.queueWrite n.val (lineOf r.addr) false) ∧ (l = s.rawLine n.val (lineOf r.addr)) ∧ (s.homeReady n { r with op := .rd } p)) ∧
    (∃ s : State, ∃ t : State, ∃ w : State, ∃ n : BayId, ∃ r : Req, ∃ p : Pass, ∃ l : Line, (t = s.readRow n.val (lineOf r.addr)) ∧
      (w = s.queueWrite n.val (lineOf r.addr) false) ∧ (l = s.rawLine n.val (lineOf r.addr)) ∧ (s.homeReady n { r with op := .rdS } p)) ∧
    (∃ s : State, ∃ t : State, ∃ w : State, ∃ n : BayId, ∃ r : Req, ∃ p : Pass, ∃ l : Line, (t = s.readRow n.val (lineOf r.addr)) ∧
      (w = s.queueWrite n.val (lineOf r.addr) false) ∧ (l = s.rawLine n.val (lineOf r.addr)) ∧ (s.homeReady n { r with op := .rdM } p)) ∧
    (∃ s : State, ∃ t : State, ∃ w : State, ∃ n : BayId, ∃ r : Req, ∃ p : Pass, ∃ l : Line, (t = s.readRow n.val (lineOf r.addr)) ∧
      (w = s.queueWrite n.val (lineOf r.addr) false) ∧ (l = s.rawLine n.val (lineOf r.addr)) ∧ (s.homeReady n { r with op := .own } p)) ∧
    (∃ s : State, ∃ t : State, ∃ w : State, ∃ n : BayId, ∃ r : Req, ∃ p : Pass, ∃ l : Line, (t = s.readRow n.val (lineOf r.addr)) ∧
      (w = s.queueWrite n.val (lineOf r.addr) false) ∧ (l = s.rawLine n.val (lineOf r.addr)) ∧ (s.homeReady n { r with op := .wr } p)) ∧
    (∃ s : State, ∃ t : State, ∃ w : State, ∃ n : BayId, ∃ r : Req, ∃ p : Pass, ∃ l : Line, (t = s.readRow n.val (lineOf r.addr)) ∧
      (w = s.queueWrite n.val (lineOf r.addr) false) ∧ (l = s.rawLine n.val (lineOf r.addr)) ∧ (s.homeReady n { r with op := .wrP } p)) ∧
    (∃ s : State, ∃ t : State, ∃ w : State, ∃ n : BayId, ∃ r : Req, ∃ p : Pass, ∃ l : Line, (t = s.readRow n.val (lineOf r.addr)) ∧
      (w = s.queueWrite n.val (lineOf r.addr) false) ∧ (l = s.rawLine n.val (lineOf r.addr)) ∧ (s.homeReady n { r with op := .capWr } p)) ∧
    (∃ s : State, ∃ t : State, ∃ w : State, ∃ n : BayId, ∃ r : Req, ∃ p : Pass, ∃ l : Line, (t = s.readRow n.val (lineOf r.addr)) ∧
      (w = s.queueWrite n.val (lineOf r.addr) false) ∧ (l = s.rawLine n.val (lineOf r.addr)) ∧ (s.homeReady n { r with op := .atom } p) ∧
      ((atomFields r.opnd).1 ≠ 1)) ∧
    (∃ s : State, ∃ t : State, ∃ w : State, ∃ n : BayId, ∃ r : Req, ∃ p : Pass, ∃ l : Line, (t = s.readRow n.val (lineOf r.addr)) ∧
      (w = s.queueWrite n.val (lineOf r.addr) false) ∧ (l = s.rawLine n.val (lineOf r.addr)) ∧ (s.homeReady n { r with op := .rsD } p) ∧
      ((t.redStore n.val r.addr (lineOf r.addr) { r with op := .rsD } .none).2.txns = [])) ∧
    (∃ s : State, ∃ t : State, ∃ w : State, ∃ n : BayId, ∃ r : Req, ∃ p : Pass, ∃ l : Line, ∃ o : RedOp, ∃ u : Line × Nat,
      (t = s.readRow n.val (lineOf r.addr)) ∧ (w = s.queueWrite n.val (lineOf r.addr) false) ∧ (l = s.rawLine n.val (lineOf r.addr)) ∧
      (s.homeReady n { r with op := .rsU } p) ∧ (RedOp.ofCode (fld r.opnd 11 8) = some o) ∧ (u = rsuLine o (fld r.opnd 15 12) l r.data)) :=
  ⟨⟨(Wit.home), _, _, 0, Wit.req, (⟨0, Wit.entry, 0⟩), _, rfl, rfl, rfl, Wit.home_ready _⟩,
   ⟨(Wit.home), _, _, 0, Wit.req, (⟨0, Wit.entry, 0⟩), _, rfl, rfl, rfl, Wit.home_ready _⟩,
   ⟨(Wit.home), _, _, 0, Wit.req, (⟨0, Wit.entry, 0⟩), _, rfl, rfl, rfl, Wit.home_ready _⟩,
   ⟨(Wit.home), _, _, 0, Wit.req, (⟨0, Wit.entry, 0⟩), _, rfl, rfl, rfl, Wit.home_ready _⟩,
   ⟨(Wit.home), _, _, 0, Wit.req, (⟨0, Wit.entry, 0⟩), _, rfl, rfl, rfl, Wit.home_ready _⟩,
   ⟨(Wit.home), _, _, 0, Wit.req, (⟨0, Wit.entry, 0⟩), _, rfl, rfl, rfl, Wit.home_ready _⟩,
   ⟨(Wit.home), _, _, 0, Wit.req, (⟨0, Wit.entry, 0⟩), _, rfl, rfl, rfl, Wit.home_ready _⟩,
   ⟨(Wit.home), _, _, 0, Wit.req, (⟨0, Wit.entry, 0⟩), _, rfl, rfl, rfl, Wit.home_ready _, by decide⟩,
   ⟨(Wit.home), _, _, 0, Wit.req, (⟨0, Wit.entry, 0⟩), _, rfl, rfl, rfl, Wit.home_ready _, rfl⟩,
   ⟨(Wit.home), _, _, 0, Wit.req, (⟨0, Wit.entry, 0⟩), _, (_), (_), rfl, rfl, rfl, Wit.home_ready _, rfl, rfl⟩⟩

set_option maxRecDepth 100000 in
/-- The premises of FollowUpCommandsComplete are met, clause by clause. -/
theorem test_followUpCommandsComplete_premises :
    (∃ s : State, ∃ r : Req, ∃ p : PortId, ∃ h : CapHold, (r.origin = .port p) ∧ (r.dnode = s.node) ∧ (s.capWins = []) ∧
      (h = { req := { r with op := .capWr }, waits := [], vc := s.vcOf 0 r.tc.toNat, size := (Msg.req { r with op := .capWr }).slots, red := false })) ∧

    (∃ s : State, ∃ r : Req, ∃ p : PortId, ∃ w : CapWindow, ∃ h : CapHold, (r.origin = .port p) ∧ (r.dnode = s.node) ∧ (s.capWins = [w]) ∧
      (w.port = p.val) ∧ (w.src = r.src) ∧ (h.ready = false) ∧
      (h = { req := { r with op := .capWr }, waits := w.reqs, vc := s.vcOf 0 r.tc.toNat, size := (Msg.req { r with op := .capWr }).slots, red := false })) ∧

    (∃ s : State, ∃ p : PortId, ∃ h : CapHold, (h.req.origin.port? = some p.val) ∧ (h.ready = true) ∧ (s.capHolds = [h])) ∧
    (∃ s : State, ∃ r : Req, ∃ p : PortId, ∃ e : McEntry, (r.origin = .port p) ∧ (s.voqs = []) ∧ (s.mcEntry r.dnode.toNat = e) ∧ (e.en = true) ∧
      (r.key = e.key) ∧ (e.remotes = [])) ∧
    (∃ s : State, ∃ r : Req, (s.voqs = []) ∧ ((s.mcEntry r.dnode.toNat).en = true) ∧ (r.key ≠ (s.mcEntry r.dnode.toNat).key)) ∧
    (∃ s : State, ∃ m : McOut, (s.tr.mcOut = [m]) ∧ (m.ports = []) ∧ (m.remotes = 0) ∧ (m.dests = [])) ∧
    (∃ s : State, ∃ p : PortId, ∃ _tc : BitVec 3, ∃ la : BitVec 42, ∃ _keepS : Bool, ∃ _bad : Bool, ∃ _l : Line, ∃ n : BayId, ∃ i : Nat, ∃ d : Nat, ∃ e : RtEntry,
      (la.toNat * 64 < stackEnd) ∧ (s.homeBay (la.toNat * 64) = some n.val) ∧ (bayOf s.sel (la.toNat * 64) = n.val) ∧ (s.voqs = []) ∧
      (s.islandState (.bay n) = 0) ∧ (SMap.get (fun _ => 0) s.pwr.req n.val = 0) ∧ (s.bayUp n.val = true) ∧ (s.txns = []) ∧
      (s.covers (la.toNat * 64) = some (i, e)) ∧ (e.mode = .shared) ∧ (e.dirOffset (la.toNat * 64) = d) ∧ (dirState (s.rawDir n.val d) = 2) ∧
      (dirOwner (s.rawDir n.val d) = p.val)) ∧
    (∃ s : State, ∃ p : PortId, ∃ _tc : BitVec 3, ∃ la : BitVec 42, ∃ n : BayId, ∃ t : Txn, (la.toNat * 64 < stackEnd) ∧
      (s.homeBay (la.toNat * 64) = some n.val) ∧ (s.voqs = []) ∧ (s.islandState (.bay n) = 0) ∧ (SMap.get (fun _ => 0) s.pwr.req n.val = 0) ∧
      (s.activeTxn (bayOf s.sel (la.toNat * 64)) (lineOf (la.toNat * 64)) = some t) ∧ (t.await.contains p.val = true)) ∧
    (∃ s : State, ∃ p : PortId, ∃ la : BitVec 42, ∃ t : Txn, (s.activeTxn (bayOf s.sel (la.toNat * 64)) (lineOf (la.toNat * 64)) = some t) ∧
      (t.await.contains p.val = true)) ∧
    (∃ s : State, ∃ la : BitVec 42, ∃ t : Txn, (s.activeTxn (bayOf s.sel (la.toNat * 64)) (lineOf (la.toNat * 64)) = some t)) ∧
    (∃ s : State, ∃ t : State, ∃ n : BayId, (s.reg.cur.rt = []) ∧ ((s.bay n.val).sweep ≠ []) ∧
      (t = ((s.setBay n.val { s.bay n.val with sweep := [] }).setF (pgHome n.val) Reg.Home.SWEEP_STAT 31 31 0).bump (pgHome n.val) Reg.Home.SWEEP_CNT)) ∧

    (∃ s : State, ∃ v : VoqItem, ∃ r : Req, (s.landing = []) ∧ (s.voqs = [v]) ∧ (v.mc = none) ∧ (v.msg = .req r) ∧ (r.deadline ≤ s.ns)) :=
  ⟨⟨(Wit.home), Wit.req, 0, _, rfl, rfl, rfl, rfl⟩,
   ⟨({ Wit.home with capWins := [⟨0, 5, [(0, none)]⟩] }), Wit.req, 0, (⟨0, 5, [(0, none)]⟩), _, rfl, rfl, rfl, rfl, rfl, rfl, rfl⟩,
   ⟨({ Wit.home with capHolds := [Wit.capHold []] }), 0, (Wit.capHold []), rfl, rfl, rfl⟩,
   ⟨({ Wit.home with tr := { TrestleSt.init with mc := [(0, { McEntry.none with en := true })] } }), Wit.req, 0, (_), rfl, rfl, rfl, rfl, rfl, rfl⟩,
   ⟨({ Wit.home with tr := { TrestleSt.init with mc := [(0, { McEntry.none with en := true, key := 1 })] } }), Wit.req, rfl, rfl, by decide⟩,
   ⟨({ Wit.home with tr := { TrestleSt.init with mcOut := [Wit.mcOut] } }), (Wit.mcOut), rfl, rfl, rfl, rfl⟩,
   ⟨(Wit.coherent), 0, 0, 0, false, false, 0, 0, (_), (86016), (_), by decide, rfl, rfl, rfl, rfl, rfl, rfl, rfl, rfl, rfl, rfl, rfl, rfl⟩,
   ⟨(Wit.recalled), 0, 0, 0, 0, (_), by decide, rfl, rfl, rfl, rfl, rfl, rfl⟩,
   ⟨(Wit.recalled), 0, 0, (_), rfl, rfl⟩,
   ⟨(Wit.recalled), 0, (_), rfl⟩,
   ⟨({ Wit.home with reg := RegionSt.init, bays := [(0, { BaySt.init with sweep := [0] })] }), _, 0, rfl, by decide, rfl⟩,
   ⟨({ Wit.home with voqs := [Wit.voq] }), (Wit.voq), (Wit.req), by rfl, by rfl, by rfl, by rfl, by rfl⟩⟩

set_option maxRecDepth 100000 in
/-- The premises of StackCommandsComplete are met, clause by clause. -/
theorem test_stackCommandsComplete_premises :
    (∃ s : State, ∃ n : BayId, (s.pageOpen (pgMC n.val) Reg.MC.REPAIR_CMD 0) ∧ (fld (s.rg (pgMC n.val) Reg.MC.REPAIR_ADDR) 36 0 < baySize)) ∧
    (∃ s : State, ∃ n : BayId, ∃ op : BitVec 4, (s.pageOpen (pgMC n.val) Reg.MC.REPAIR_CMD 0) ∧ (op ≠ 1)) ∧
    (∃ s : State, ∃ n : BayId, ∃ o : Nat, ∃ rest : List Nat, ((s.bay n.val).repairing = o :: rest) ∧ (s.txns = [])) ∧
    (∃ s : State, ∃ n : BayId, ∃ _op : BitVec 4, ∃ q : Nat, ∃ b : Nat,
      (s.pageBlocked (pgMC n.val * 4096 + (Reg.MC.REPAIR_CMD.off + Reg.MC.REPAIR_CMD.stride * 0)) = some (q, b))) ∧
    (∃ s : State, ∃ n : BayId, (s.pageOpen (pgMC n.val) Reg.MC.MARGIN_CMD 0) ∧ (s.outUp (24 + n.val) = false) ∧
      (shState (s.rg (pgMC n.val) Reg.MC.PHY_SHELL_STAT) = 3)) ∧
    (∃ s : State, ∃ n : BayId, ∃ _w : Word, (shState (s.rg (pgMC n.val) Reg.MC.PHY_SHELL_STAT) = 4)) ∧
    (∃ s : State, ∃ n : BayId, (shState (s.rg (pgMC n.val) Reg.MC.PHY_SHELL_STAT) = 5)) ∧
    (∃ s : State, ∃ n : BayId, ∃ lo : Nat, ∃ hi : Nat, ∃ i : Nat, ∃ e : RtEntry, (s.pageOpen (pgMC n.val) Reg.MC.FILL_CMD 0) ∧
      ((s.rg (pgMC n.val) Reg.MC.FILL_BASE).toNat = lo) ∧ ((s.rg (pgMC n.val) Reg.MC.FILL_LIMIT).toNat = hi) ∧
      (bit (s.rg (pgMC n.val) Reg.MC.FILL_STAT) 31 = false) ∧ (lo % 64 = 0) ∧ (hi % 64 = 0) ∧ (lo < hi) ∧ (s.fillEntry lo hi = some (i, e))) ∧
    (∃ s : State, ∃ n : BayId, ∃ f : Fill, ((s.bay n.val).fill = some f) ∧ (s.reg.cur.entry f.idx = f.ent) ∧
      (s.txns.any (fun t => t.isFill n.val) = false)) ∧
    (∃ s : State, ∃ n : BayId, ∃ c : Fin 32, (s.refreshes n.val = true) ∧ (bit (s.rg (pgMC n.val) Reg.MC.MC_CTRL) 6 = true) ∧
      (s.hotStack n.val = false) ∧ (SMap.get (fun _ => 0) (s.bay n.val).debt c.val < 7)) ∧
    (∃ s : State, ∃ n : BayId, ∃ c : Fin 32, ∃ d : Nat, (s.refreshes n.val = true) ∧ (SMap.get (fun _ => 0) (s.bay n.val).debt c.val = d) ∧ (d ≤ 7) ∧
      (2 ≤ s.refreshRoom n.val c.val)) ∧
    (∃ s : State, ∃ t : State, ∃ n : BayId, ∃ k : Nat, ∃ errs : Syms, (s.refreshes n.val = true) ∧
      (bit (s.rg (pgMC n.val) Reg.MC.MC_CTRL) 5 = true) ∧ (s.testing.contains n.val = false) ∧ (s.txns = []) ∧ (s.hed.ops = []) ∧
      ((s.bay n.val).repairing = []) ∧ ((s.bay n.val).scrubLine = k) ∧ (k + 1 < bayLines) ∧
      (t = ((s.readRow n.val (k * 64)).readLine n.val (k * 64) 2 errs).2) ∧ (t.txns = [])) ∧
    (∃ s : State, ∃ n : BayId, ∃ d : List (BitVec 8), ∃ b : BitVec 8, ∃ m : Nat, (s.samples n.val = true) ∧
      ((d.take 16).foldl (fun a b => max a b.toNat) 0 = m) ∧ (m ≤ 85)) :=
  ⟨⟨Wit.up, 0, rfl, by decide⟩,
   ⟨Wit.up, 0, 0, rfl, by decide⟩,
   ⟨({ Wit.up with bays := [(0, { BaySt.init with repairing := [0] })] }), 0, 0, ([]), rfl, rfl⟩,
   ⟨({ Wit.up with held := [.bay 0] }), 0, 0, (_), (_), rfl⟩,
   ⟨(State.set (Wit.up.setF (pgPort 24) Reg.Port.PORT_CTRL 0 0 1) (pgMC 0) Reg.MC.PHY_SHELL_STAT 3), 0, rfl, rfl, rfl⟩,
   ⟨(Wit.up.set (pgMC 0) Reg.MC.PHY_SHELL_STAT 4), 0, 0, rfl⟩,
   ⟨(Wit.up.set (pgMC 0) Reg.MC.PHY_SHELL_STAT 5), 0, rfl⟩,
   ⟨(Wit.run.set (pgMC 0) Reg.MC.FILL_LIMIT 64), 0, (0), (64), (_), (_), rfl, rfl, rfl, rfl, rfl, rfl, by decide, rfl⟩,
   ⟨({ Wit.run with bays := [(0, { BaySt.init with fill := some ⟨0, Wit.entry, 0, 64⟩ })] }), 0, (_), rfl, rfl, rfl⟩,
   ⟨Wit.up, 0, 0, rfl, rfl, rfl, by decide⟩,
   ⟨Wit.up, 0, 0, _, by rfl, rfl, by decide, by decide⟩,
   ⟨Wit.up, _, 0, _, [], rfl, rfl, rfl, rfl, rfl, rfl, rfl, by decide, rfl, rfl⟩,
   ⟨Wit.up, 0, [], 0, _, by rfl, rfl, by decide⟩⟩

set_option maxRecDepth 100000 in
/-- The premises of TrayAndStreamCommandsComplete are met, clause by clause. -/
theorem test_trayAndStreamCommandsComplete_premises :
    (∃ s : State, ∃ v : Word, (s.trayMapped = false) ∧ (nfld v.toNat 5 0 ≤ 48) ∧ (s.slotsFit (nfld v.toNat 5 0) = true)) ∧
    (∃ s : State, ∃ p : PortId, ∃ c : TrayCmp, ∃ t : TrayTxn, ∃ r : Req, ∃ n : BayId, (s.voqs = []) ∧ (s.trayBay p.val = some n.val) ∧
      (s.islandState (.bay n) = 0) ∧ (SMap.get (fun _ => 0) s.pwr.req n.val = 0) ∧ (s.tray.txns = [t]) ∧ (t.ttag = c.ttag.toNat) ∧
      (s.trayPort t.slot = p.val) ∧ (t.phase = .writing) ∧ (t.late = false) ∧ (t.req = some r)) ∧
    (∃ s : State, ∃ p : PortId, ∃ c : TrayCmp, ∃ t : TrayTxn, ∃ r : Req, ∃ l : Line, ∃ n : BayId, (s.voqs = []) ∧ (s.trayBay p.val = some n.val) ∧
      (s.islandState (.bay n) = 0) ∧ (SMap.get (fun _ => 0) s.pwr.req n.val = 0) ∧ (s.tray.txns = [t]) ∧ (t.ttag = c.ttag.toNat) ∧
      (s.trayPort t.slot = p.val) ∧ (t.phase = .reading) ∧ (t.late = false) ∧ (t.req = some r) ∧ (c.outcome = .ok) ∧ (c.data = [l])) ∧
    (∃ s : State, ∃ n : BayId, ∃ k : Fin 48, ∃ pos : Nat, (bit (s.rg (pgTray n.val) Reg.Tray.TRAY_SCRUB) 31 = true) ∧ (k.val < s.trayN) ∧
      ((s.traySlot k.val).2 = n.val) ∧ (s.portUp (s.trayPort k.val) 0 = true) ∧ (SMap.get (fun _ => 0) s.tray.scrub k.val = pos) ∧
      (s.trayRoom n.val 1 = true)) ∧
    (∃ s : State, ∃ v : Word, ∃ c : Nat, (fld (s.hub Reg.Stream.STREAM_SEL) 7 0 = c) ∧ (s.winOn c = false) ∧
      ((Reg.Stream.WIN_CFG.written (s.rgb pgStream Reg.Stream.WIN_CFG c) (v.zeroExtend 64)).2 = false) ∧
      (bit (Reg.Stream.WIN_CFG.written (s.rgb pgStream Reg.Stream.WIN_CFG c) (v.zeroExtend 64)).1 31 = false)) ∧
    (∃ s : State, ∃ u : State, ∃ v : Word, ∃ c : Nat, ∃ new : DWord, (fld (s.hub Reg.Stream.STREAM_SEL) 7 0 = c) ∧ (s.winOn c = false) ∧
      (Reg.Stream.WIN_CFG.written (s.rgb pgStream Reg.Stream.WIN_CFG c) (v.zeroExtend 64) = (new, false)) ∧ (bit new 31 = true) ∧
      (u = s.setReg pgStream Reg.Stream.WIN_CFG 0 c (setBit new 31 false)) ∧
      (u.reg.cur.areaCause u.node c (u.winGranules c).1 (u.winGranules c).2 = 0)) ∧
    (∃ s : State, ∃ u : State, ∃ v : Word, ∃ c : Nat, ∃ k : Nat, ∃ new : DWord, (fld (s.hub Reg.Stream.STREAM_SEL) 7 0 = c) ∧ (s.winOn c = false) ∧
      (Reg.Stream.WIN_CFG.written (s.rgb pgStream Reg.Stream.WIN_CFG c) (v.zeroExtend 64) = (new, false)) ∧ (bit new 31 = true) ∧
      (u = s.setReg pgStream Reg.Stream.WIN_CFG 0 c (setBit new 31 false)) ∧
      (u.reg.cur.areaCause u.node c (u.winGranules c).1 (u.winGranules c).2 = k) ∧ (k ≠ 0)) ∧
    (∃ s : State, ∃ t : TaskRef, ∃ off : Nat, ∃ x : StreamSt, ∃ j : StreamJob, ∃ l : Layer, ∃ cs : List Cmp, ∃ b : Nat, ∃ u : State,
      (s.stream t = some x) ∧ (x.jobs.find? (fun j => j.off = off && !j.writing) = some j) ∧ (x.layers[x.next - 1]? = some l) ∧
      (s.batchAll j.batch = some cs) ∧ (l.coded = false) ∧ (j.tab = none) ∧ (firstBad cs = .ok) ∧
      ((s.endBatch j.batch).startBatch (.streamWrote t off) ((s.endBatch j.batch).jobWrites x (x.next - 1) none j cs) = (b, u))) ∧
    (∃ s : State, ∃ t : TaskRef, ∃ x : StreamSt, ∃ i : Nat, ∃ b : Nat, ∃ cs : List Cmp, (s.stream t = some x) ∧ (x.sending = some i) ∧
      (x.sends = some (some b)) ∧ (s.batchAll b = some cs) ∧ (cs.any (fun c => c.status = .portDown) = false) ∧ (x.stop = .ok) ∧
      (firstBad cs = .ok)) :=
  ⟨⟨Wit.up, 0, by rfl, by decide, by rfl⟩,
   ⟨({ State.set Wit.up (pgOfHub Reg.TMap.TRAY_CFG) Reg.TMap.TRAY_CFG 1 with tray := { TraySt.init with txns := [⟨0, 0, 0, 1, .writing, 0, some Wit.req, 0, 0, Wit.entry, false, none, none⟩] } }), 0,
     (⟨0, .ok, 0, 0, 0, 0, 0, []⟩), (_), (_), 0, rfl, rfl, rfl, rfl, rfl, rfl, rfl, rfl, rfl, rfl⟩,
   ⟨({ State.set Wit.up (pgOfHub Reg.TMap.TRAY_CFG) Reg.TMap.TRAY_CFG 1 with tray := { TraySt.init with txns := [⟨0, 0, 0, 1, .reading, 0, some Wit.req, 0, 0, Wit.entry, false, none, none⟩] } }), 0,
     (⟨0, .ok, 0, 0, 0, 0, 0, [0]⟩), (_), (_), (0), 0, rfl, rfl, rfl, rfl, rfl, rfl, rfl, rfl, rfl, rfl, rfl, rfl⟩,
   ⟨((State.set { Wit.up with links := [(0, { Link.init with state := .active })] } (pgOfHub Reg.TMap.TRAY_CFG) Reg.TMap.TRAY_CFG 1).set (pgTray 0) Reg.Tray.TRAY_SCRUB 0x80000000), 0, 0, _,
     rfl, by decide, rfl, rfl, rfl, rfl⟩,
   ⟨Wit.up, (0x2), _, rfl, rfl, rfl, rfl⟩,
   ⟨({ Wit.home with reg := { RegionSt.init with cur := { rt := [(0, { Wit.entry with owner := 0 })], rct := [] } } }), (_), (0x80000002), (0),
     (0x80000002), rfl, rfl, by decide, by decide, rfl, rfl⟩,
   ⟨(Wit.home), (_), (0x80000002), (0), (_), (0x80000002), rfl, rfl, by decide, by decide, rfl, rfl, by decide⟩,
   ⟨({ Wit.run with streams := [Wit.stream], batches := [⟨7, .ksKey, 1, [(0, some Wit.cmp)]⟩] }), (Wit.taskRef), (0), (_), (_), (_), (_), (_), (_),
     rfl, rfl, rfl, rfl, rfl, rfl, rfl, rfl⟩,
   ⟨({ Wit.run with streams := [{ Wit.stream with sending := some 0, sends := some (some 7) }], batches := [⟨7, .ksKey, 1, [(0, some Wit.cmp)]⟩] }),
     (Wit.taskRef), (_), (_), (_), (_), rfl, rfl, rfl, rfl, rfl, rfl, rfl⟩⟩

set_option maxRecDepth 100000 in
/-- The premises of DeckCommandsComplete are met, clause by clause. -/
theorem test_deckCommandsComplete_premises :
    (∃ s : State, ∃ p : PortId, ∃ vc : Fin 8, ∃ _e : Option PathErr, (s.landingOf p.val vc.val = [])) ∧
    (∃ s : State, ∃ t : State, ∃ p : PortId, ∃ vc : Fin 8, ∃ e : Option PathErr, ∃ c : Cmp, ∃ i : LandItem, ∃ rest : List LandItem, ∃ v : VoqItem,
      (s.landingOf p.val vc.val = i :: rest) ∧ (i.msg = .cmp c) ∧ (v = s.landVoq p.val i e) ∧ (s.limitRoom (p.val / 12) p.val v = true) ∧
      (s.capRoom (p.val / 12) v = true) ∧ (t = (s.setLanding p.val vc.val rest).freeSlots p.val vc.val i.size) ∧ (t.outUp v.out = true)) ∧
    (∃ s : State, ∃ u : State, ∃ t : State, ∃ p : PortId, ∃ vc : Fin 8, ∃ e : Option PathErr, ∃ r : Req, ∃ i : LandItem, ∃ rest : List LandItem, ∃ v : VoqItem,
      (s.landingOf p.val vc.val = i :: rest) ∧ (i.msg = .req r) ∧ (i.held = false) ∧ (s.classOff (p.val / 12) r = false) ∧
      (u = s.setLanding p.val vc.val (i :: rest)) ∧ (v = u.landVoq p.val i e) ∧ (u.lineWaits p.val r = false) ∧
      (u.limitRoom (p.val / 12) p.val v = true) ∧ (u.capRoom (p.val / 12) v = true) ∧
      (t = (u.setLanding p.val vc.val rest).freeSlots p.val vc.val i.size) ∧ (t.outUp v.out = true)) ∧
    (∃ s : State, ∃ t : State, ∃ g : GroupId, ∃ w : LimitReg, ∃ v : Word, ∃ k : Nat, ∃ ok : Bool, (s.pageOpen (pgPort g.val) w.reg w.elem) ∧
      (t = (match w with | .rsv => s.setN (pgPort g.val) Reg.Port.LIM_RSV v.toNat | .classLim c => s.setReg (pgPort g.val) Reg.Port.CLASS_LIM c.val 0 (BitVec.ofNat 64 v.toNat) | .voqCap c => s.setReg (pgPort g.val) Reg.Port.VOQ_CAP c.val 0 (BitVec.ofNat 64 (v.toNat % 65536)))) ∧
      (limCheck (fld (t.rg (pgPort g.val) Reg.Port.LIM_RSV) 15 0) (fld (t.rg (pgPort g.val) Reg.Port.LIM_RSV) 31 16) ((List.range 8).map (fun c => t.classLim g.val c)) ((List.range 8).map (fun c => (t.rgi (pgPort g.val) Reg.Port.VOQ_CAP c).toNat)) = (k, ok))) ∧

    (∃ s : State, ∃ g : GroupId, ∃ i : BitVec 16, ∃ w0 : Word, ∃ w1 : Word, ∃ w2 : Word, ∃ w3 : Word,
      (s.pageOpen (pgPort g.val) Reg.Port.POL_CMD 0) ∧ (bit (s.rg (pgPort g.val) Reg.Port.POL_STAT) 31 = false) ∧ (i.toNat < 1024) ∧
      (w0 = s.polData g.val 0 &&& 0x000FFFFF) ∧ (w1 = s.polData g.val 1 &&& 0x000FFFFF) ∧ (w2 = s.polData g.val 2 &&& 0x000FFFFF) ∧
      (w3 = s.polData g.val 3 &&& 0xFF0FFFFF) ∧ (fld w3 28 27 ≠ 3) ∧
      ((fld w3 28 27 = 1 → bit (s.rg (pgSlice 4) Reg.Slice.TC_MODE) (fld w3 26 24) = false)) ∧ (fld w0 19 0 ≤ fld w1 19 0)) ∧
    (∃ s : State, ∃ g : GroupId, ∃ i : BitVec 16, (s.pageOpen (pgPort g.val) Reg.Port.POL_CMD 0) ∧
      (bit (s.rg (pgPort g.val) Reg.Port.POL_STAT) 31 = false) ∧ (i.toNat < 1024)) ∧
    (∃ s : State, ∃ g : GroupId, ∃ i : BitVec 16, (s.pageOpen (pgPort g.val) Reg.Port.POL_CMD 0) ∧
      (bit (s.rg (pgPort g.val) Reg.Port.POL_STAT) 31 = false) ∧ (i.toNat < 4096)) ∧
    (∃ s : State, ∃ g : GroupId, ∃ i : BitVec 16, ∃ c, (s.pageOpen (pgPort g.val) Reg.Port.POL_CMD 0) ∧
      (bit (s.rg (pgPort g.val) Reg.Port.POL_STAT) 31 = false) ∧ (4096 ≤ i.toNat) ∧
      (c ∈ [Instr.polWrite g i, .polRead g i, .polCntRead g i, .polMapWrite g i, .polMapRead g i])) ∧
    (∃ s : State, ∃ t : State, ∃ u : State, ∃ k : Fin 5, ∃ last : Nat, ∃ win : Nat, ∃ _again : Bool,
      (t = s.bump (pgSlice k.val) Reg.Slice.ARB_MISMATCH_CNT) ∧ (last = SMap.get (fun _ => 0) t.arbLast k.val) ∧
      (win = fld (t.rg (pgSlice k.val) Reg.Slice.ARB_CTRL) 15 0 * 1000000) ∧
      (u = { t with arbLast := SMap.set (fun _ => 0) t.arbLast k.val (t.now + 1), arb := { t.arb with stall := SMap.set (fun _ => 0) t.arb.stall k.val 2 } })) ∧

    (∃ s : State, ∃ t : State, ∃ i : Fin 53, ∃ o : Fin 53, ∃ c : BitVec 3, ∃ k : Fin 4, ∃ q : List VoqItem,
      (s.headStuck i.val o.val c.toNat k.val = true) ∧ (markStuck i.val o.val c.toNat k.val s.voqs = some q) ∧
      (t = (({ s with voqs := q } : State).bump (pgSlice (sliceOfPort i.val)) Reg.Slice.STUCK_CNT).setErr (pgSlice (sliceOfPort i.val)) 9 0) ∧
      (bit (t.rg (pgSlice (sliceOfPort i.val)) Reg.Slice.STUCK_INFO) 31 = false)) ∧
    (∃ s : State, ∃ t : State, ∃ d : Fin 53, (s.pageOpen (pgPort d.val) Reg.Port.PORT_CTRL 0) ∧ (s.adminDown d.val = false) ∧
      (t = s.setF (pgPort d.val) Reg.Port.PORT_CTRL 0 0 1) ∧ (d.val < 24)) ∧
    (∃ s : State, ∃ t : State, ∃ d : Fin 53, (s.pageOpen (pgPort d.val) Reg.Port.PORT_CTRL 0) ∧ (s.adminDown d.val = false) ∧
      (t = s.setF (pgPort d.val) Reg.Port.PORT_CTRL 0 0 1) ∧ (24 ≤ d.val) ∧ (d.val < 52)) ∧
    (∃ s : State, ∃ t : State, ∃ d : Fin 53, (s.pageOpen (pgPort d.val) Reg.Port.PORT_CTRL 0) ∧ (s.adminDown d.val = false) ∧
      (t = s.setF (pgPort d.val) Reg.Port.PORT_CTRL 0 0 1) ∧ (d.val = 52)) ∧
    (∃ s : State, ∃ d : Fin 53, (s.pageOpen (pgPort d.val) Reg.Port.PORT_CTRL 0)) ∧
    (∃ s : State, ∃ x : PortId, (s.flushing = [.port x]) ∧ (s.flushWaits = false)) ∧
    (∃ s : State, ∃ d : Fin 53, ∃ r : Req, (s.flushing = [.deck d]) ∧ (s.flushWaits = false) ∧ (s.returns = [(d.val, r)])) ∧
    (∃ s : State, ∃ t : State, ∃ g : GroupId, ∃ o : Nat, (bit (s.rg (pgHist g.val) Reg.Hist.HIST_CTRL) 31 = true) ∧
      (fld (s.rg (pgHist g.val) Reg.Hist.HIST_CTRL) 29 24 = o) ∧ (o ≠ 0x3F) ∧ (t = s.setN (pgHist g.val) Reg.Hist.HIST_LAST o)) ∧
    (∃ s : State, ∃ g : GroupId, (s.pageOpen (pgHist g.val) Reg.Hist.HIST_CLR 0)) ∧
    (∃ s : State, ((s.hub Reg.Smp.RING_BASE).toNat + 160 * (s.hub Reg.Smp.RING_ENTRIES).toNat ≤ 4194304) ∧
      ((s.hub Reg.Smp.RING_BASE).toNat + 160 * (s.hub Reg.Smp.RING_ENTRIES).toNat ≤ fld (s.hub Reg.Diag.TRACE_SPLIT) 4 0 * 262144) ∧
      (bit (s.hub Reg.Smp.SMP_CTRL) 31 = false)) ∧
    (∃ s : State, ∃ t : State, ∃ d : Fin 53, ∃ c : Fin 8, ∃ v : Word, (s.pageOpen (pgPort d.val) Reg.Port.SAMPLE_CFG c.val) ∧
      (t = s.writeReg (pgPort d.val) Reg.Port.SAMPLE_CFG c.val 0 (BitVec.ofNat 64 v.toNat)) ∧
      (bit (t.rgi (pgPort d.val) Reg.Port.SAMPLE_CFG c.val) 31 = false)) ∧
    (∃ s : State, ∃ t : State, ∃ d : Fin 53, ∃ c : Fin 8, ∃ v : Word, (s.pageOpen (pgPort d.val) Reg.Port.SAMPLE_CFG c.val) ∧
      (t = s.writeReg (pgPort d.val) Reg.Port.SAMPLE_CFG c.val 0 (BitVec.ofNat 64 v.toNat)) ∧
      (bit (t.rgi (pgPort d.val) Reg.Port.SAMPLE_CFG c.val) 31 = true) ∧ (bit (s.rgi (pgPort d.val) Reg.Port.SAMPLE_CFG c.val) 31 = false)) :=
  ⟨⟨Wit.up, 0, 0, none, rfl⟩,
   ⟨({ Wit.home with landing := [(0, [⟨.cmp Wit.cmp, 1, false, false⟩])] }), _, 0, 0, none, (Wit.cmp), (⟨.cmp Wit.cmp, 1, false, false⟩), ([]), _,
     rfl, rfl, rfl, rfl, rfl, rfl, rfl⟩,
   ⟨({ Wit.home with landing := [(0, [⟨.req Wit.req, 1, false, false⟩])] }), (_), (_), 0, 0, none, (Wit.req), (⟨.req Wit.req, 1, false, false⟩),
     ([]), (_), rfl, rfl, rfl, rfl, rfl, rfl, rfl, rfl, rfl, rfl, rfl⟩,
   ⟨Wit.up, _, 0, (.rsv), (0x01000400), (_), (_), rfl, rfl, Prod.ext rfl (by decide)⟩,
   ⟨Wit.up, 0, 0, _, _, _, _, by rfl, by rfl, by decide, rfl, rfl, rfl, rfl, by decide, by decide, by decide⟩,
   ⟨Wit.up, 0, 0, rfl, rfl, by decide⟩,
   ⟨Wit.up, 0, 0, rfl, rfl, by decide⟩,
   ⟨Wit.up, 0, (4096), (.polWrite 0 4096), by rfl, by rfl, by rfl, by decide⟩,
   ⟨Wit.up, _, _, 0, _, _, false, rfl, rfl, rfl, rfl⟩,
   ⟨({ Wit.home with voqs := [Wit.voq] }), _, 0, (24), 0, 0, (_), rfl, rfl, rfl, rfl⟩,
   ⟨Wit.up, _, 0, rfl, rfl, rfl, by decide⟩,
   ⟨Wit.up, _, (24), by rfl, by rfl, rfl, by rfl, by decide⟩,
   ⟨Wit.up, _, (52), rfl, rfl, rfl, rfl⟩,
   ⟨Wit.up, 0, rfl⟩,
   ⟨({ Wit.home with flushing := [.port 0] }), 0, rfl, rfl⟩,
   ⟨({ Wit.home with flushing := [.deck 24], returns := [(24, Wit.req)] }), (24), (Wit.req), rfl, rfl, rfl⟩,
   ⟨(Wit.up.set (pgHist 0) Reg.Hist.HIST_CTRL 0x80000000), _, 0, _, rfl, rfl, by decide, rfl⟩,
   ⟨Wit.up, 0, rfl⟩,
   ⟨Wit.up, by decide, by decide, by rfl⟩,
   ⟨Wit.up, _, 0, 0, 0, rfl, rfl, rfl⟩,
   ⟨Wit.up, _, 0, 0, (0x80000000), rfl, rfl, rfl, rfl⟩⟩

set_option maxRecDepth 100000 in
/-- The premises of LinkCommandsComplete are met, clause by clause. -/
theorem test_linkCommandsComplete_premises :
    (∃ s : State, ∃ p : PierId, ∃ _v : Word, (s.pageOpen (pgPier p.val) Reg.Pier.PIER_CFG 0) ∧ ((∀ x ∈ s.pierPorts p.val,
      (s.link x).state = .disabled)) ∧ (s.trayUses p.val = false)) ∧
    (∃ s : State, ∃ t : State, ∃ p : PortId, (s.pageOpen (pgPier (p.val / 4)) Reg.Pier.LINK_CTRL (p.val % 4)) ∧ ((s.link p.val).state ≠ .disabled) ∧
      (t = (s.setReg (pgPier (p.val / 4)) Reg.Pier.LINK_CTRL (p.val % 4) 0 1).linkTo p.val .disabled)) ∧
    (∃ s : State, ∃ t : State, ∃ p : PortId, (s.pageOpen (pgPier (p.val / 4)) Reg.Pier.LINK_CTRL (p.val % 4)) ∧
      (t = s.setReg (pgPier (p.val / 4)) Reg.Pier.LINK_CTRL (p.val % 4) 0 0) ∧ ((t.link p.val).state = .disabled) ∧ (t.portExists p.val = true) ∧
      (bit (t.rgi (pgPier (p.val / 4)) Reg.Pier.LINK_CTRL (p.val % 4)) 0 = false) ∧ (t.shellsReady (p.val / 4) = true) ∧ (t.latched = true) ∧
      (t.groupUp (p.val / 12) = true) ∧ (t.isHeld (.pier (p.val / 4)) = false)) ∧
    (∃ s : State, ∃ p : PortId, (SMap.wf (fun _ => Link.init) s.links = true) ∧ ((s.link p.val).state = .detect)) ∧
    (∃ s : State, ∃ p : PortId, ((s.link p.val).state = .equalize) ∧ ((s.link p.val).signal = true)) ∧
    (∃ s : State, ∃ t : State, ∃ p : PortId, ∃ ms : List (BitVec 120), ∃ k : Nat, ∃ c : Nat, ((s.link p.val).state = .lock) ∧
      (areEndMarkers (s.lanesOf p.val) ms = true) ∧ (k ≤ 20) ∧ (64 ≤ c) ∧
      (t = (((s.emit (.markers p.val (endMarkers (s.lanesOf p.val) (s.lockCount p.val)))).setLink p.val { s.link p.val with own := none, theirs := none, peer := none, rxPos := 0, cwBad := false, txBits := 0, txLen := 0 }).linkTo p.val .identify))) ∧

    (∃ s : State, ∃ p : PortId, ∃ k : Fin 9, (k.val ≠ 8) ∧ (s.onPort p.val k.val = true) ∧ ((s.link p.val).state = .active)) ∧
    (∃ s : State, ∃ p : PortId, ∃ k : Fin 9, (k.val ≠ 8) ∧ (s.onPort p.val k.val = true) ∧
      ((s.link p.val).state ∈ [LinkState.equalize, .lock, .identify])) ∧
    (∃ s : State, ∃ p : PortId, ∃ k : Fin 9, (s.onPort p.val k.val = true) ∧ ((s.link p.val).state = .active) ∧
      (s.laneHot (p.val / 4) k.val = true) ∧ (shState (s.laneShell (p.val / 4) k.val) ≠ 6)) ∧
    (∃ s : State, ∃ p : PortId, ((s.link p.val).state ∈ [LinkState.equalize, .lock, .identify, .securing])) ∧
    (∃ s : State, ∃ t : State, ∃ p : PortId, ∃ f : Flit, ∃ i : Identify, (s.hears p.val f (some (.identify i))) ∧
      (t = (s.countFec p.val f).plainCtrl p.val f) ∧ ((t.link p.val).state = .identify)) ∧
    (∃ s : State, ∃ t : State, ∃ p : PortId, ∃ f : Flit, ∃ r : BitVec 8, ∃ d : NodeId, (s.hears p.val f (some (.identifyAck r d))) ∧
      (t = (s.countFec p.val f).plainCtrl p.val f) ∧ ((t.link p.val).state = .identify)) ∧
    (∃ s : State, ∃ p : PortId, ((s.link p.val).state = .identify) ∧ ((s.link p.val).own = none)) ∧
    (∃ s : State, ∃ p : PortId, ∃ a, ((s.link p.val).state = .identify) ∧ ((s.link p.val).own = some a)) ∧
    (∃ s : State, ∃ t : State, ∃ u : State, ∃ p : PortId, ∃ f : Flit, ∃ d : NodeId, ∃ nonce : List Byte, ∃ key : List Byte, ∃ sig : List Byte, ∃ n : Nat,
      (s.hears p.val f (some (.keyShare d nonce key sig))) ∧ (t = (s.countFec p.val f).plainCtrl p.val f) ∧ ((t.link p.val).state = .securing) ∧
      ((t.link p.val).eph = some n) ∧ (3 ≤ (t.link p.val).auth) ∧ ((t.link p.val).shared = false) ∧ (u = t.linkRestart p.val)) ∧
    (∃ s : State, ∃ p : PortId, ((s.link p.val).state = .securing) ∧ ((s.link p.val).auth = 3) ∧ ((s.link p.val).shared = false)) ∧
    (∃ s : State, ∃ p : PortId, ((s.link p.val).awaiting = true) ∧ ((s.link p.val).state.takes = true) ∧
      ((s.link p.val).nakTime + s.replayTime p.val 7 0 100 ≤ s.now)) ∧
    (∃ s : State, ∃ p : PortId, ∃ f : TxFlit, ∃ r : List TxFlit, ((s.link p.val).replay = f :: r) ∧ ((s.link p.val).state.takes = true) ∧
      (f.time + s.replayTime p.val 15 8 500 ≤ s.now)) ∧
    (∃ s : State, ∃ p : PortId, ((s.link p.val).replay ≠ []) ∧ ((s.link p.val).ackTime + s.replayTime p.val 23 16 1000 ≤ s.now) ∧
      ((s.link p.val).state = .active)) ∧
    (∃ s : State, ∃ t : State, ∃ u : State, ∃ p : PortId, ∃ f : Flit, ∃ k : BitVec 8, ∃ y : BitVec 8, (s.hears p.val f (some (.spareReq k y))) ∧
      (t = (s.countFec p.val f).plainCtrl p.val f) ∧ (u = t.loopYield (p.val / 4)) ∧ ((u.pier (p.val / 4)).spareTx = none)) ∧
    (∃ s : State, ∃ t : State, ∃ u : State, ∃ p : PortId, ∃ f : Flit, ∃ k : BitVec 8, ∃ y : BitVec 8, (s.hears p.val f (some (.spareAck k y))) ∧
      (t = (s.countFec p.val f).plainCtrl p.val f) ∧ ((t.pier (p.val / 4)).sparing = some (p.val, k.toNat)) ∧
      (u = t.setPier (p.val / 4) { t.pier (p.val / 4) with sparing := none, spareRx := some k.toNat })) ∧
    (∃ s : State, ∃ t : State, ∃ p : PortId, ∃ f : Flit, ∃ k : BitVec 8, ∃ y : BitVec 8, (s.hears p.val f (some (.spareDone k y))) ∧
      (t = (s.countFec p.val f).plainCtrl p.val f) ∧ ((t.pier (p.val / 4)).spareTx = some k.toNat) ∧
      (fld (t.rg (pgPier (p.val / 4)) Reg.Pier.SPARE_STAT) 7 4 ≠ k.toNat)) ∧
    (∃ s : State, ∃ p : PierId, ∃ x : Nat, ∃ k : Nat, ((s.pier p.val).sparing = some (x, k))) ∧
    (∃ s : State, ∃ t : State, ∃ p : PortId, ∃ f : Flit, ∃ c, (s.hears p.val f none) ∧ (t = (s.countFec p.val f).plainCtrl p.val f) ∧
      (c ∈ [Instr.identify p f, .identifyAck p f, .keyShare p f, .spareReq p f, .spareAck p f, .spareDone p f])) ∧
    (∃ s : State, ∃ p : PierId, ∃ v : Word, (s.pageOpen (pgPier p.val) Reg.Pier.MARGIN_CMD 0) ∧ (bit v 4 = true) ∧ (fld v 3 0 ≤ 8)) ∧
    (∃ s : State, ∃ t : State, (t = s.setHubF Reg.Admit.ADMIT_CTRL 0 0 1) ∧ (t.latched = false) ∧ (6 ≤ fld (t.hub Reg.Rst.RST_STAT) 30 28)) :=
  ⟨⟨Wit.up, 0, 0, rfl, by decide, rfl⟩,
   ⟨(Wit.link { Link.init with state := .active }), _, 0, rfl, by decide, rfl⟩,
   ⟨(Wit.shelled), (_), 0, rfl, rfl, rfl, rfl, rfl, rfl, rfl, rfl, rfl⟩,
   ⟨(Wit.link { Link.init with state := .detect }), 0, rfl, rfl⟩,
   ⟨(Wit.link { Link.init with state := .equalize, signal := true }), 0, rfl, rfl⟩,
   ⟨(Wit.link { Link.init with state := .lock }), _, 0, ((endMarkers 8 0).map (BitVec.ofNat 120)), 0, (64), by rfl, by rfl, by decide, by rfl, rfl⟩,
   ⟨(Wit.link { Link.init with state := .active }), 0, 0, by decide, rfl, rfl⟩,
   ⟨(Wit.link { Link.init with state := .equalize }), 0, 0, by decide, rfl, by decide⟩,
   ⟨(Wit.linkPier { Link.init with state := .active } { PierSt.init with symHits := [(0, [(1000000000, 1000000)])] }), 0, 0, rfl, rfl, rfl,
     by decide⟩,
   ⟨(Wit.link { Link.init with state := .identify }), 0, by decide⟩,
   ⟨(Wit.link { Link.init with state := .identify }), _, 0, (Wit.ctrlFlit [1, 1]), (_), ⟨by decide, by decide, by decide, by decide, rfl⟩, rfl, rfl⟩,
   ⟨(Wit.link { Link.init with state := .identify }), _, 0, (Wit.ctrlFlit [2]), 0, 0, ⟨by decide, by decide, by decide, by decide, rfl⟩, rfl, rfl⟩,
   ⟨(Wit.link { Link.init with state := .identify }), 0, rfl, rfl⟩,
   ⟨(Wit.link { Link.init with state := .identify, own := some 0 }), 0, (0), rfl, rfl⟩,
   ⟨(Wit.link { Link.init with state := .securing, eph := some 5, auth := 3 }), _, _, 0, (Wit.ctrlFlit [3]), (_), (_), (_), (_), (5), ⟨by decide,
     by decide, by decide, by decide, rfl⟩, rfl, by rfl, by rfl, by rfl, by rfl, rfl⟩,
   ⟨(Wit.link { Link.init with state := .securing, auth := 3 }), 0, rfl, rfl, rfl⟩,
   ⟨(Wit.linkPier { Link.init with state := .active, awaiting := true } PierSt.init), 0, by rfl, by rfl, by decide⟩,
   ⟨(Wit.linkPier { Link.init with state := .active, replay := [Wit.txFlit] } PierSt.init), 0, (Wit.txFlit), [], by rfl, by rfl, by decide⟩,
   ⟨(Wit.linkPier { Link.init with state := .active, replay := [Wit.txFlit] } PierSt.init), 0, by decide, by decide, by rfl⟩,
   ⟨(Wit.link { Link.init with state := .active }), _, _, 0, (Wit.ctrlFlit [5]), 0, 0, ⟨by decide, by decide, by decide, by decide, rfl⟩, rfl, rfl,
     rfl⟩,
   ⟨(Wit.linkPier { Link.init with state := .active } { PierSt.init with sparing := some (0, 0) }), _, _, 0, (Wit.ctrlFlit [6]), 0, 0, ⟨by decide,
     by decide, by decide, by decide, rfl⟩, rfl, rfl, rfl⟩,
   ⟨(State.set (Wit.linkPier { Link.init with state := .active } { PierSt.init with spareTx := some 0 }) (pgPier 0) Reg.Pier.SPARE_STAT 0x80), _, 0,
     (Wit.ctrlFlit [7]), 0, 0, ⟨by decide, by decide, by decide, by decide, rfl⟩, rfl, rfl, by decide⟩,
   ⟨(Wit.linkPier { Link.init with state := .active } { PierSt.init with sparing := some (0, 0) }), 0, 0, 0, rfl⟩,
   ⟨(Wit.link { Link.init with state := .active }), _, 0, (Wit.ctrlFlit [9]), (.identify 0 (Wit.ctrlFlit [9])), ⟨by decide, by decide, by decide,
     by decide, rfl⟩, rfl, by decide⟩,
   ⟨Wit.up, 0, (0x18), by rfl, by rfl, by rfl⟩,
   ⟨Wit.up, _, rfl, by rfl, by decide⟩⟩

set_option maxRecDepth 100000 in
/-- The premises of FlitCommandsComplete are met, clause by clause. -/
theorem test_flitCommandsComplete_premises :
    (∃ s : State, ∃ t : State, ∃ p : PortId, ∃ f : Flit, (s.nextFlit p.val 0 f) ∧ ((s.countFec p.val f).useCtrl p.val f.ctrl = (false, t)) ∧
      ((t.link p.val).state.takes = true)) ∧
    (∃ s : State, ∃ t : State, ∃ p : PortId, ∃ f : Flit, (s.nextFlit p.val 1 f) ∧ ((s.countFec p.val f).useCtrl p.val f.ctrl = (false, t)) ∧
      ((t.link p.val).state.takes = true)) ∧
    (∃ s : State, ∃ t : State, ∃ p : PortId, ∃ f : Flit, ((s.link p.val).state.live = true) ∧ ((s.link p.val).takesFlit f = true) ∧
      (fld f.ctrl 63 60 = 2) ∧ (fld f.ctrl 59 48 = 0) ∧ (f.slots.any (fun w => w ≠ 0) = false) ∧ (t = s.countFec p.val f) ∧
      ((t.link p.val).state.takes = true)) ∧
    (∃ s : State, ∃ p : PortId, ∃ f : Flit, ((s.link p.val).state.takes = true) ∧ ((s.link p.val).takesFlit f = false)) :=
  ⟨⟨(Wit.link { Link.init with state := .active }), (_), 0, (Wit.flit 0), ⟨by decide, by decide, by decide, by decide, by decide⟩, Prod.ext
     (by decide) rfl, by decide⟩,
   ⟨(Wit.link { Link.init with state := .active, shared := true }), (_), 0, (Wit.flit 0x1000000000000000), ⟨by decide, by decide, by decide,
     by decide, by decide⟩, Prod.ext (by decide) rfl, rfl⟩,
   ⟨(Wit.link { Link.init with state := .active }), _, 0, (Wit.flit 0x2000000000000000), rfl, rfl, rfl, rfl, rfl, rfl, rfl⟩,
   ⟨(Wit.link { Link.init with state := .active }), 0, ({ Wit.flit 0 with crc := 0 }), rfl, rfl⟩⟩

set_option maxRecDepth 100000 in
/-- The premises of TrestleCommandsComplete are met, clause by clause. -/
theorem test_trestleCommandsComplete_premises :
    (∃ s : State, ∃ id : Nat, ∃ c : Cmp, ∃ u : UnitReq, (s.unitDone = [(id, c)]) ∧ (s.unitReqs = [u]) ∧ (u.id = id)) ∧
    (∃ s : State, ∃ t : State, ∃ u : State, ∃ p : PortId, ∃ b : Bulk, (s.voqs = []) ∧ (s.spanFenced (p.val / 72) = false) ∧ (s.inFootway = false) ∧
      (b.dnode = s.node) ∧ (b.records ≠ []) ∧ (t = s.bump (pgTr (p.val / 72)) Reg.Tr.BULK_RX_CNT) ∧
      (u = { t with tr := { t.tr with rxNum := t.tr.rxNum + 1, rx := t.tr.rx ++ [{ span := p.val / 72, id := t.tr.rxNum, port := p.val, bulk := b, next := 0, answers := b.records.map (fun _ => none) }] } })) ∧

    (∃ s : State, ∃ sp : SpanId, ∃ t : RxXfer, (s.tr.rx = [t]) ∧ (t.span = sp.val) ∧ (t.answers.all (fun a => a.isSome) = true)) ∧
    (∃ s : State, ∃ p : PortId, ∃ b : BulkRsp, ∃ t : Xfer, (s.voqs = []) ∧
      (s.tr.xfers.find? (fun t => t.sent && t.port = p.val && s.node.toNat = fld b.txid 11 0 && t.span = fld b.txid 13 12 && t.num = fld b.txid 31 14) = some t)) ∧

    (∃ s : State, ∃ sp : SpanId, ∃ flow : Nat, ∃ k : PortId, ∃ x : Xfer, (s.tr.xfers = [x]) ∧ (x.sent = false) ∧ (x.span = sp.val) ∧
      (x.flow = flow) ∧ (x.port = k.val) ∧ (x.opened + x.coalesce ≤ s.now)) ∧
    (∃ s : State, ∃ sp : SpanId, ∃ g : Fin 16, (s.groupQuiet sp.val g.val = true) ∧ (s.tr.held = [])) ∧
    (∃ s : State, ∃ i : BitVec 16, (bit (s.rg (pgOfHub Reg.Route.ROUTE_STAT) Reg.Route.ROUTE_STAT) 31 = false) ∧ (i.toNat < 4096) ∧
      (i.toNat ≠ s.node.toNat) ∧ ((s.route i.toNat).tgrp = fld (s.hub Reg.Route.ROUTE_DATA) 3 0)) ∧
    (∃ s : State, ∃ t : State, ∃ i : BitVec 16, (bit (s.rg (pgOfHub Reg.Route.ROUTE_STAT) Reg.Route.ROUTE_STAT) 31 = false) ∧ (i.toNat < 4096) ∧
      (i.toNat ≠ s.node.toNat) ∧ ((s.route i.toNat).tgrp ≠ fld (s.hub Reg.Route.ROUTE_DATA) 3 0) ∧
      (t = { s with tr := { s.tr with routes := SMap.set (fun _ => Route.none) s.tr.routes i.toNat { en := bit (s.hub Reg.Route.ROUTE_DATA) 31, tc := BitVec.ofNat 3 (fld (s.hub Reg.Route.ROUTE_DATA) 6 4), tgrp := fld (s.hub Reg.Route.ROUTE_DATA) 3 0 } } })) ∧

    (∃ s : State, ∃ i : BitVec 16, (bit (s.rg (pgOfHub Reg.Route.ROUTE_STAT) Reg.Route.ROUTE_STAT) 31 = false) ∧ (i.toNat < 4096)) ∧
    (∃ s : State, ∃ i : BitVec 16, (bit (s.rg (pgOfHub Reg.Route.ROUTE_STAT) Reg.Route.ROUTE_STAT) 31 = false) ∧ (4096 ≤ i.toNat)) ∧
    (∃ s : State, ∃ t : State, ∃ i : BitVec 16, (bit (s.rg (pgOfHub Reg.Route.ROUTE_STAT) Reg.Route.ROUTE_STAT) 31 = false) ∧
      (1 ≤ fld (s.tgData.getD 0 0) 4 0) ∧ (fld (s.tgData.getD 0 0) 4 0 ≤ 16) ∧ ((tgMembers s.tgData).any (fun x => 287 < x) = false) ∧
      (t = { s with tr := { s.tr with groups := SMap.set (fun _ => []) s.tr.groups (i.toNat % 16) s.tgData } }) ∧
      (t.upList (i.toNat % 16) = s.upList (i.toNat % 16))) ∧
    (∃ s : State, ∃ _i : BitVec 16, (bit (s.rg (pgOfHub Reg.Route.ROUTE_STAT) Reg.Route.ROUTE_STAT) 31 = false)) ∧
    (∃ s : State, ∃ i : BitVec 16, (bit (s.rg (pgOfHub Reg.Mcast.MC_STAT) Reg.Mcast.MC_STAT) 31 = false) ∧ (i.toNat < 4096) ∧
      (s.mcData.remotes.contains s.node = false)) ∧
    (∃ s : State, ∃ i : BitVec 16, (bit (s.rg (pgOfHub Reg.Mcast.MC_STAT) Reg.Mcast.MC_STAT) 31 = false) ∧ (i.toNat < 4096)) ∧
    (∃ s : State, ∃ i : BitVec 16, ∃ c, (bit (s.rg (pgOfHub Reg.Mcast.MC_STAT) Reg.Mcast.MC_STAT) 31 = false) ∧ (4096 ≤ i.toNat) ∧
      (c ∈ [Instr.mcEntryWrite i, .mcEntryRead i, .mcEntryDisable i])) :=
  ⟨⟨({ Wit.home with unitDone := [(0, Wit.cmp)], unitReqs := [⟨0, .plain, Wit.req⟩] }), (_), (_), (_), rfl, rfl, rfl⟩,
   ⟨(Wit.home), _, _, 0, (Wit.bulk), rfl, rfl, rfl, rfl, by decide, rfl, rfl⟩,
   ⟨({ Wit.home with tr := { TrestleSt.init with rx := [⟨0, 0, 0, Wit.bulk, 1, [some ⟨.ok, 0, false, none, none⟩]⟩] } }), 0, (_), rfl, rfl, rfl⟩,
   ⟨({ Wit.home with tr := { TrestleSt.init with xfers := [Wit.xfer] } }), 0, (⟨0, 0, 0, []⟩), (_), rfl, rfl⟩,
   ⟨({ Wit.home with now := 1000000, tr := { TrestleSt.init with xfers := [{ Wit.xfer with sent := false }] } }), 0, _, 0, (_), rfl, by rfl, by rfl,
     rfl, by rfl, by decide⟩,
   ⟨Wit.up, 0, 0, rfl, rfl⟩,
   ⟨(Wit.home), (4095), rfl, by decide, by decide, rfl⟩,
   ⟨(State.setHub Wit.home Reg.Route.ROUTE_DATA 5), (_), (1), rfl, by decide, by decide, by decide, rfl⟩,
   ⟨Wit.up, 0, rfl, by decide⟩,
   ⟨Wit.up, (4096), by rfl, by rfl⟩,
   ⟨(Wit.up.setHub Reg.Route.TG_DATA0 1), _, 0, by rfl, by rfl, by decide, by rfl, rfl, by rfl⟩,
   ⟨Wit.up, 0, rfl⟩,
   ⟨Wit.up, 0, rfl, by decide, rfl⟩,
   ⟨Wit.up, 0, rfl, by decide⟩,
   ⟨Wit.up, (4096), (.mcEntryRead 4096), by rfl, by rfl, by decide⟩⟩

set_option maxRecDepth 100000 in
/-- The premises of TimeCommandsComplete are met, clause by clause. -/
theorem test_timeCommandsComplete_premises :
    (∃ s : State, ∃ t : State, ∃ u : State, ∃ p : PortId, ∃ x : TimeX, ∃ t3 : Nat, (s.voqs = []) ∧
      (t = s.sendFrom 54 p.val (s.timeMsg .rsp x.seq x.rx.toNat)) ∧ (t.popStamp p.val x.seq.toNat .rsp = (some t3, u))) ∧
    (∃ s : State, ∃ p : PortId, ∃ x : TimeX, ∃ e : Exch, ∃ t1 : Nat, (s.voqs = []) ∧ (s.time.exch = some e) ∧ (e.port = p.val) ∧
      (e.seq = x.seq.toNat) ∧ (e.t1 = some t1) ∧ (s.popStamp p.val e.seq .req = (none, s))) ∧
    (∃ s : State, ∃ u : State, ∃ p : PortId, ∃ x : TimeX, ∃ e : Exch, ∃ t1 : Nat, ∃ t2 : Nat, ∃ t4 : Nat, ∃ th : Int, ∃ d : Int, (s.voqs = []) ∧
      (s.time.exch = some e) ∧ (e.port = p.val) ∧ (e.seq = x.seq.toNat) ∧ (e.t1 = some t1) ∧ (e.t2 = some (t2, t4)) ∧
      (u = s.noteParent { x with kind := .fup }) ∧ (exchange t1 t2 x.t.toNat t4 (sx 16 (fld (u.hub Reg.FT.ASYM) 15 0)) = (th, d)) ∧ (0 ≤ d) ∧
      (d ≤ 6553600000)) ∧
    (∃ s : State, ∃ t : State, ∃ u : State, ∃ x : Nat, ∃ n : Nat, ∃ t1 : Option Nat, (s.timingPort = x) ∧ (s.timeRoot = false) ∧ (x ≠ 0x1FF) ∧
      (s.portUp x 3 = true) ∧ (s.time.exch = none) ∧ ((s.time.seq + 1) % 65536 = n) ∧ (t = s.sendFrom 54 x (s.timeMsg .req (BitVec.ofNat 16 n) 0)) ∧
      (t.popStamp x n .req = (t1, u))) ∧
    (∃ s : State, ∃ t : State, ∃ e : Exch, (s.time.exch = some e) ∧
      (t = State.bumpHub { s with time := { s.time with exch := none, good := 0, bad := s.time.bad + 1 } } Reg.FT.EXCH_FAIL_CNT)) ∧
    (∃ s : State, ∃ t : State, (s.timeRoot = true) ∧ (t = s.setFt ((s.hub Reg.FT.SET_NS).toNat * 65536 + fld (s.hub Reg.FT.SET_FRAC) 15 0))) ∧
    (∃ s : State, (s.timeRoot = false)) ∧
    (∃ s : State, ((sx 64 (s.hub Reg.FT.ADJ).toNat).natAbs ≤ 65536000)) ∧
    (∃ s : State, ∃ _m : Master, ∃ p : PierId, (s.latches = []) ∧ (s.staged = []) ∧ (s.pageState (pgPier p.val) = 0)) ∧
    (∃ s : State, ∃ u : State, ∃ t : TaskRef, ∃ x : TaskSt, ∃ b : GateBody, (s.beginTask t 8 = some (x, u)) ∧ (GateBody.parse x.body = some b) ∧
      (u.groupUp (b.pier / 3) = true)) ∧
    (∃ s : State, ∃ p : PierId, ∃ c : Fin 8, ∃ l : GateList, ((s.gate p.val c.val).pend = some l) ∧ (l.base ≤ s.ns)) ∧
    (∃ s : State, ∃ p : PierId, ∃ c : Fin 8, ∃ l : GateList, ((s.gate p.val c.val).oper = some l)) ∧
    (∃ s : State, ∃ t : State, (s.ns % 1000000000 = 0) ∧ (t = { s with pins := { s.pins with pps := s.hub Reg.Diag.PPS_CFG } }) ∧ (t.gpioEff = 1) ∧
      (bit (s.hub Reg.Diag.PPS_CFG) 31 = true) ∧ (bit (s.hub Reg.Diag.PPS_CFG) 30 = false)) :=
  ⟨⟨({ Wit.home with stamps := [(0, [⟨7, 0, .rsp, 0⟩])] }), (_), (_), 0, (Wit.timeX .req), (7), rfl, rfl, rfl⟩,
   ⟨({ Wit.home with time := { TimeSt.init with exch := some Wit.exch } }), 0, (Wit.timeX .rsp), (Wit.exch), 0, rfl, rfl, rfl, rfl, rfl, rfl⟩,
   ⟨({ Wit.home with time := { TimeSt.init with exch := some { Wit.exch with t2 := some (0, 100) } } }), (_), 0, (Wit.timeX .fup),
     ({ Wit.exch with t2 := some (0, 100) }), 0, 0, (100), (-50), (50), by rfl, by rfl, by rfl, by rfl, by rfl, by rfl, rfl, by rfl, by decide,
     by decide⟩,
   ⟨((Wit.link { Link.init with state := .active }).setHub Reg.FT.TIME_STAT 0), (_), (_), (0), (1), (_), rfl, rfl, by decide, rfl, rfl, rfl, rfl,
     rfl⟩,
   ⟨({ Wit.home with time := { TimeSt.init with exch := some Wit.exch } }), (_), (Wit.exch), rfl, rfl⟩,
   ⟨(Wit.home.setHub Reg.FT.TIME_CFG 0x80000000), (_), rfl, rfl⟩,
   ⟨Wit.up, rfl⟩,
   ⟨Wit.up, by decide⟩,
   ⟨Wit.up, .host, 0, rfl, rfl, rfl⟩,
   ⟨(Wit.tasked 8 (Wit.body [(1, 1), (2, 1), (0x18, 1000)])), (_), (Wit.taskRef), (_), (_), rfl, rfl, rfl⟩,
   ⟨({ Wit.home with glists := [(gateKey 0 0, { GateSt.init with pend := some ⟨0, 1000, [0]⟩ })] }), 0, 0, (⟨0, 1000, [0]⟩), by rfl, by rfl⟩,
   ⟨({ Wit.home with glists := [(gateKey 0 0, { GateSt.init with oper := some ⟨0, 1000, [0]⟩ })] }), 0, 0, (⟨0, 1000, [0]⟩), rfl⟩,
   ⟨((Wit.home.setHub Reg.Diag.PPS_CFG 0x80000064).setHub Reg.Diag.GPIO_MUX 1), (_), rfl, rfl, rfl, rfl, rfl⟩⟩

set_option maxRecDepth 100000 in
/-- The premises of CollectiveCommandsComplete are met, clause by clause. -/
theorem test_collectiveCommandsComplete_premises :
    (∃ s : State, ∃ t : State, ∃ a : Nat, (s.declBusy = false) ∧ ((s.hub Reg.Decl.DECL_ADDR).toNat = a) ∧
      (t = { s.setHub Reg.Decl.DECL_STAT (setFld (s.hub Reg.Decl.DECL_STAT) 31 31 1) with loom := { s.loom with declAddr := a } })) ∧
    (∃ s : State, ∃ _i : BitVec 16, (s.declBusy = true)) ∧
    (∃ s : State, ∃ i : BitVec 16, ∃ r : Red, (s.declBusy = false) ∧ (s.red i.toNat = some r) ∧ (r.installed = true) ∧ (r.isOpen = true)) ∧
    (∃ s : State, ∃ i : BitVec 16, (s.declBusy = false) ∧ ((∀ r, s.red i.toNat = some r → r.installed = false))) ∧
    (∃ s : State, ∃ _i : BitVec 16, (s.declBusy = false)) ∧
    (∃ s : State, ∃ i : BitVec 16, ∃ r : Red, (s.red i.toNat = some r) ∧ (r.installed = false) ∧ (r.task = none)) ∧
    (∃ s : State, ∃ t : State, ∃ c : Nat, ∃ q : Quota, (bit (s.rg (pgOfHub Reg.Decl.QUOTA_STAT) Reg.Decl.QUOTA_STAT) 31 = false) ∧
      (fld (s.hub Reg.Decl.QUOTA_SEL) 7 0 = c) ∧
      (q = { collLo := (s.hub Reg.Decl.COLL_LO).toNat, collHi := (s.hub Reg.Decl.COLL_HI).toNat, poolLo := (s.hub Reg.Decl.POOL_LO).toNat, poolHi := (s.hub Reg.Decl.POOL_HI).toNat }) ∧
      (s.quotaCheck c q = 0) ∧ (t = s.setHub Reg.Decl.QUOTA_STAT 0)) ∧
    (∃ s : State, ∃ n : BayId, ∃ i : BitVec 16, ∃ r : Red, (s.red i.toNat = some r) ∧ (r.installed = true) ∧
      ((r.bay n.val).doneLines < (r.bay n.val).need)) ∧
    (∃ s : State, ∃ n : BayId, ∃ i : BitVec 16, ∃ r : Red, (s.red i.toNat = some r) ∧ ((r.bay n.val).st ≠ .opened) ∧
      ((r.setBay n.val .gone).bays.all (fun e => e.st = .gone) = true)) ∧
    (∃ s : State, ∃ u : State, ∃ t : TaskRef, ∃ x : TaskSt, ∃ y : TaskSt, ∃ b : Reduce, (s.task t = some x) ∧  (bytesAt x.body 0 1 ≠ 1) ∧
      (s.beginTask t 2 = some (y, u)) ∧ (Reduce.parse x.body = some b) ∧ (u.declCheck x.body = 0)) ∧
    (∃ s : State, ∃ u : State, ∃ t : TaskRef, ∃ x : TaskSt, ∃ y : TaskSt, ∃ b : BcastBody, (s.task t = some x) ∧  (bytesAt x.body 0 1 = 1) ∧
      (s.beginTask t 2 = some (y, u)) ∧ (BcastBody.parse x.body = some b) ∧ (b.lines ≠ 0)) :=
  ⟨⟨Wit.up, _, _, rfl, rfl, rfl⟩,
   ⟨(Wit.up.setHub Reg.Decl.DECL_STAT 0x80000000), 0, rfl⟩,
   ⟨(Wit.reds true Wit.home), 0, (_), rfl, rfl, rfl, rfl⟩,
   ⟨Wit.up, 0, rfl, by decide⟩,
   ⟨Wit.up, 0, rfl⟩,
   ⟨(Wit.reds false Wit.home), 0, (_), rfl, rfl, rfl⟩,
   ⟨(Wit.home), (_), (0), (_), rfl, rfl, rfl, rfl, rfl⟩,
   ⟨(Wit.reds true Wit.home), 0, 0, (_), rfl, rfl, by decide⟩,
   ⟨({ Wit.home with loom := { LoomSt.init with reds := [{ Wit.red true with bays := { Wit.redBay with st := .done } :: List.replicate 23 .gone }] } }), 0, 0,
     (_), rfl, by decide, rfl⟩,
   ⟨({ Wit.tasked 2 Wit.reduceBody with loom := { LoomSt.init with quota := [(0, ⟨0, 614400, 0, 0⟩)] } }), (_), (Wit.taskRef), (_), (_), (_), rfl,
     by decide, rfl, rfl, rfl⟩,
   ⟨(Wit.tasked 2 (Wit.body [(0, 1), (0x10, 1)])), (_), (Wit.taskRef), (_), (_), (_), rfl, rfl, rfl, rfl, by decide⟩⟩

set_option maxRecDepth 100000 in
/-- The premises of TreadleCommandsComplete are met, clause by clause. -/
theorem test_treadleCommandsComplete_premises :
    (∃ s : State, ∃ t : State, ∃ u : State, ∃ v : DWord, ∃ a : Nat, ∃ b : Nat, (t = s.setHub Reg.Trd.NEXT_TIME v) ∧ (t.trdOff = false) ∧
      (t.trd.pend = none) ∧ ((t.hub Reg.Trd.NEXT_ADDR).toNat = a) ∧ (t.startBatch .draftHead [(hubIn, t.readReq (t.compAt a) a)] = (b, u))) ∧
    (∃ s : State, ∃ v : DWord, ((s.setHub Reg.Trd.NEXT_TIME v).trdOff = true)) ∧
    (∃ s : State, ∃ t : State, ∃ p : PendDraft, ∃ hs : List Cmp, ∃ cs : List Cmp, ∃ b : Nat, (s.trd.pend = some p) ∧ (p.ready = none) ∧
      (p.time = 0) ∧ (s.batchAll p.head = some hs) ∧ (firstBad hs = .ok) ∧ (p.rest = some b) ∧ (s.batchAll b = some cs) ∧ (firstBad cs = .ok) ∧
      (t = (s.endBatch p.head).endBatch b) ∧ (t.draftCheck p.addr (cmpBytes (hs ++ cs)) = 0)) ∧
    (∃ s : State, ∃ p : PendDraft, (s.trd.pend = some p) ∧ (p.ready = none) ∧ (p.time ≠ 0) ∧ (p.time < s.ns)) ∧
    (∃ s : State, ∃ t : State, ∃ p : PendDraft, ∃ d : DraftSt, ∃ e : DraftSt, (s.trd.pend = some p) ∧ (p.ready = some d) ∧ (p.time ≤ s.ns) ∧
      (s.trd.active = none) ∧ (e = { d with act := s.ns, lastEnd := s.ns }) ∧
      (t = ((State.nextResult { s with trd := { s.trd with pend := none, active := some e } } 0).bumpHub Reg.Trd.TAKEOVER_CNT).setHub Reg.Trd.ACT_ID (BitVec.ofNat 64 e.id))) ∧

    (∃ s : State, ∃ p : PendDraft, (s.trd.pend = some p)) ∧
    (∃ s : State, ∃ d : DraftSt, (s.trd.active = some d) ∧ (d.tasks = [])) ∧
    (∃ s : State, ∃ t : State, ∃ m : State, ∃ u : State, ∃ d : DraftSt, ∃ i : Nat, ∃ x : TaskSt, ∃ y : TaskSt, (s.openSlots.skipAll = t) ∧
      (t.trd.active = some d) ∧ (t.inFlight < 512) ∧ (d.firstReady t.ns = some i) ∧ (d.tasks[i]? = some x) ∧ (t.markMiss d x = (y, m)) ∧
      (y.kind = 0) ∧ (y.bodyComp = none) ∧
      (u = ((m.setTask ⟨d.uid, i⟩ { y with dispatched := true, fate := 1 }).bumpHub Reg.Trd.DISPATCH_CNT).traceTask d i y 0) ∧
      (u.live y.comp = true)) ∧
    (∃ s : State, ∃ t : TaskRef, ∃ d : DraftSt, ∃ x : TaskSt, (s.draft t.draft = some d) ∧ (s.task t = some x) ∧ (x.tflags.testBit 0 = true) ∧
      (d.slotBegun x s.ns = true)) ∧
    (∃ s : State, ∃ t : TaskRef, ∃ x : TaskSt, (s.task t = some x) ∧ (x.kind ≠ 7)) ∧
    (∃ s : State, ∃ u : State, ∃ t : TaskRef, ∃ x : TaskSt, (s.beginTask t 0 = some (x, u))) ∧
    (∃ s : State, ∃ u : State, ∃ t : TaskRef, ∃ x : TaskSt, ∃ b : MoveBody, (s.beginTask t 1 = some (x, u)) ∧ (MoveBody.parse x.body = some b) ∧
      (b.decode = false)) ∧
    (∃ s : State, ∃ u : State, ∃ t : TaskRef, ∃ x : TaskSt, ∃ b : StreamBody, ∃ rs : List (Nat × Req), (s.beginTask t 7 = some (x, u)) ∧
      (StreamBody.parse x.body = some b) ∧ (u.winOn b.comp = true) ∧ (u.streams = []) ∧
      (rs = (spanLines b.table (32 * b.n)).map (fun a => (hubIn, u.readReq (Fin.ofNat 256 b.comp) a)))) ∧
    (∃ s : State, ∃ u : State, ∃ t : TaskRef, ∃ x : TaskSt, ∃ w : WaitSt, (s.beginTask t 9 = some (x, u)) ∧ (waitOk x.body = true) ∧
      (w = { t := t, addr := bitsAt x.body 8 8 48, read := none, watch := none, tried := false })) ∧
    (∃ s : State, ∃ u : State, ∃ t : TaskRef, ∃ x : TaskSt, ∃ w : WaitSt, ∃ b : Nat, ∃ cs : List Cmp,
      (s.trd.waits.find? (fun w => w.t = t) = some w) ∧ (s.task t = some x) ∧ (w.read = some b) ∧ (s.batchAll b = some cs) ∧ (firstBad cs = .ok) ∧
      (u = (s.endBatch b).setWait { w with read := none }) ∧ (waitSatisfied x.body (num (cmpBytes cs) (w.addr % 64) 8) = true) ∧
      ((bytesAt x.body 0 1).testBit 2 = false)) ∧
    (∃ s : State, ∃ t : TaskRef, ∃ x : TaskSt, ∃ w : WaitSt, (s.trd.waits.find? (fun w => w.t = t) = some w) ∧ (s.task t = some x) ∧
      (w.read = none)) ∧
    (∃ s : State, ∃ t : TaskRef, (s.trd.waits.any (fun w => w.t = t) = true)) ∧
    (∃ s : State, ∃ u : State, ∃ t : TaskRef, ∃ x : TaskSt, ∃ d : Nat, ∃ k : Word, ∃ v : DWord, ∃ r : Req, (s.beginTask t 10 = some (x, u)) ∧
      (signalOk x.body = true) ∧ (d = bitsAt x.body 8 8 60) ∧ (k = BitVec.ofNat 32 (bytesAt x.body 4 4)) ∧ (v = BitVec.ofNat 64
      (bytesAt x.body 0x10 8)) ∧
      (r = (match bytesAt x.body 0 1 with | 0 => u.capReq d k v | 1 => { u.unitReq .atom (BitVec.ofNat 12 (d / 2 ^ 48)) (d % 2 ^ 48 / 64 * 64) k none with opnd := BitVec.ofNat 32 (7 * 4096 + 1 * 64 + d % 2 ^ 48 % 64), data := BitVec.ofNat 512 v.toNat } | _ => u.unitMc (d / 2 ^ 48) (d % 2 ^ 48 / 64 * 64) (flagMask (d % 2 ^ 48)) (flagData (d % 2 ^ 48) v) (some k)))) :=
  ⟨⟨(Wit.home), (_), (_), 0, (_), (_), rfl, rfl, rfl, rfl, rfl⟩,
   ⟨(State.reset), 0, rfl⟩,
   ⟨(Wit.drafting), (_), (_), (_), (_), (_), rfl, rfl, rfl, rfl, rfl, rfl, rfl, rfl, rfl, rfl⟩,
   ⟨({ Wit.trd (some (Wit.pend none none 1)) none with ft := 131072 }), (_), rfl, rfl, by decide, by decide⟩,
   ⟨(Wit.trd (some (Wit.pend none (some Wit.draft) 0)) none), (_), (_), (_), (_), rfl, rfl, by rfl, by rfl, rfl, rfl⟩,
   ⟨(Wit.trd (some (Wit.pend none none 1)) none), (_), rfl⟩,
   ⟨(Wit.trd none (some { Wit.draft with tasks := [] })), (_), rfl, rfl⟩,
   ⟨(Wit.trd none (some { Wit.draft with tasks := [{ Wit.task with dispatched := false, begun := false }] })), (_), (_), (_),
     ({ Wit.draft with tasks := [{ Wit.task with dispatched := false, begun := false }] }), (0),
     ({ Wit.task with dispatched := false, begun := false }), ({ Wit.task with dispatched := false, begun := false }), rfl, rfl, by decide, rfl, rfl,
     rfl, rfl, rfl, rfl, rfl⟩,
   ⟨(Wit.trd none (some { Wit.draft with tasks := [{ Wit.task with tflags := 1, slotOpen := false, dispatched := false, begun := false }] })),
     (Wit.taskRef), (_), (_), rfl, rfl, rfl, rfl⟩,
   ⟨(Wit.tasked 0 0), (Wit.taskRef), (_), rfl, by decide⟩,
   ⟨(Wit.tasked 0 0), (_), (Wit.taskRef), (_), rfl⟩,
   ⟨(Wit.tasked 1 (Wit.body [(0x18, 64)])), (_), (Wit.taskRef), (_), (_), rfl, rfl, rfl⟩,
   ⟨((Wit.tasked 7 (Wit.body [(2, 1)])).setReg pgStream Reg.Stream.WIN_CFG 0 0 0x80000000), (_), (Wit.taskRef), (_), (_), (_), rfl, rfl, rfl, rfl,
     rfl⟩,
   ⟨(Wit.tasked 9 (Wit.body [(0x20, 1)])), (_), (Wit.taskRef), (_), (_), rfl, rfl, rfl⟩,
   ⟨(Wit.waiting (some 7) (Wit.body [(0x20, 1)])), (_), (Wit.taskRef), (_), (_), (7), (_), rfl, rfl, rfl, rfl, rfl, rfl, rfl, rfl⟩,
   ⟨(Wit.waiting none (Wit.body [(0x20, 1)])), (Wit.taskRef), (_), (_), rfl, rfl, rfl⟩,
   ⟨(Wit.waiting none (Wit.body [(0x20, 1)])), (Wit.taskRef), rfl⟩,
   ⟨(Wit.tasked 10 0), (_), (Wit.taskRef), (_), _, _, _, _, rfl, rfl, rfl, rfl, rfl, rfl⟩⟩

set_option maxRecDepth 100000 in
/-- The premises of HeddleCommandsComplete are met, clause by clause. -/
theorem test_heddleCommandsComplete_premises :
    (∃ s : State, ∃ u : State, ∃ v : State, ∃ t : TaskRef, ∃ h : HedTask, ∃ x : TaskSt, ∃ r : VerRec, (s.hedTask t = some h) ∧ (h.stage = 0) ∧
      (s.hedFirst h = true) ∧ (s.hedReady h.lead = true) ∧ (h.ver.bind (fun i => v.verRec i) = some r) ∧ (h.kind = 3) ∧
      (s.beginTask t 3 = some (x, u)) ∧ (gatherOk x.body = true) ∧ (v = u.bump (pgHed h.lead) Reg.Hed.GATHER_CNT)) ∧
    (∃ s : State, ∃ u : State, ∃ v : State, ∃ t : TaskRef, ∃ h : HedTask, ∃ x : TaskSt, ∃ r : VerRec, (s.hedTask t = some h) ∧ (h.stage = 0) ∧
      (s.hedFirst h = true) ∧ (s.hedReady h.lead = true) ∧ (h.ver.bind (fun i => v.verRec i) = some r) ∧ (h.kind = 4) ∧
      (s.beginTask t 4 = some (x, u)) ∧ (updateOk x.body = true) ∧ (v = u.bump (pgHed h.lead) Reg.Hed.UPDATE_CNT)) ∧
    (∃ s : State, ∃ u : State, ∃ v : State, ∃ t : TaskRef, ∃ h : HedTask, ∃ x : TaskSt, ∃ f : FilterBody, (s.hedTask t = some h) ∧ (h.stage = 0) ∧
      (s.hedFirst h = true) ∧ (s.hedReady h.lead = true) ∧ (h.ver = none) ∧ (h.kind = 5) ∧ (s.beginTask t 5 = some (x, u)) ∧
      (FilterBody.parse x.body = some f) ∧ (v = u.bump (pgHed h.lead) Reg.Hed.FILTER_CNT)) ∧
    (∃ s : State, ∃ u : State, ∃ t : TaskRef, ∃ h : HedTask, ∃ g : HedTask, ∃ x : TaskSt, ∃ b : HedBody, ∃ d : TableDesc, (s.hedTask t = some h) ∧
      (s.task t = some x) ∧ (h.stage = 2) ∧ ((s.hed.sorter.find? (fun q => q.1 = h.lead)).map Prod.snd = some t) ∧ (h.kind = 4) ∧
      (b = HedBody.ofLine x.body) ∧ (d = TableDesc.ofLine (h.desc.getD 0)) ∧ ((h.indices b).any (fun v => (d.named v).isNone) = false) ∧
      (u = (State.addN { s with hed := { s.hed with sorter := s.hed.sorter.filter (fun q => q.2 ≠ t) } } (pgHed h.lead) Reg.Hed.IDX_CNT b.nidx).addN (pgHed h.lead) Reg.Hed.SORT_CYC_CNT ((b.nidx + 15) / 16)) ∧
      (h.poolNeed x ≤ u.poolSlots h.comp) ∧ (g = { h with rows := d.rowsOf (h.indices b) })) ∧
    (∃ s : State, ∃ t : TaskRef, ∃ i : Nat, ∃ h : HedTask, ∃ x : TaskSt, ∃ r : HedRow, ∃ o : RowOp, ∃ st : Status, (s.hedTask t = some h) ∧
      (s.task t = some x) ∧ (h.rows[i]? = some r) ∧ (r.op.bind (fun k => s.rowOp k) = some o) ∧ (o.fin = some st) ∧ (fetchAgain st = true) ∧
      (r.tries < fld ((s.dropRowOp o.id).rg (pgHed h.lead) Reg.Hed.HED_CFG) 3 0)) ∧
    (∃ s : State, ∃ u : RowUpd, (s.hed.upds = [u]) ∧ (s.bayUp ((s.homeBay u.place).getD 0) = false)) ∧
    (∃ s : State, ∃ v : State, ∃ u : RowUpd, ∃ k : Nat, ∃ r : RowOp, (s.hed.upds = [u]) ∧ (s.bayUp ((s.homeBay u.place).getD 0) = true) ∧
      (s.hed.migs = []) ∧ (s.placeRow u.ver u.phys = u.place) ∧ (u.uop = 1) ∧ (u.size % 64 = 0) ∧ (u.place % 64 = 0) ∧
      (State.newRowOp { s with hed := { s.hed with upds := [] } } (.update u) u.comp u.place u.size = (k, v)) ∧ (v.rowOp k = some r)) ∧
    (∃ s : State, ∃ t : TaskRef, ∃ n : BayId, ∃ h : HedTask, ∃ x : TaskSt, ∃ f : FilterBody, ∃ mine : List (Nat × RowOp), (s.hedTask t = some h) ∧
      (s.task t = some x) ∧ (FilterBody.parse x.body = some f) ∧ ((s.scanOps t).filter (fun p => p.2.bay = n.val) = mine) ∧
      (h.scans.contains n.val = true) ∧ (mine.any (fun p => p.2.fin.isNone) = false) ∧ (h.scans.filter (fun m => m ≠ n.val) ≠ [])) ∧
    (∃ s : State, ∃ t : State, ∃ u : State, ∃ c : CompId, ∃ _i : BitVec 12, ∃ a : Nat, ∃ b : Nat, (s.tblBusy = false) ∧
      ((s.hub Reg.HReg.TBL_ADDR).toNat = a) ∧ (t = s.setHub Reg.HReg.TBL_STAT (BitVec.ofNat 64 (2 ^ 31))) ∧
      (t.startBatch .tblDesc [(hubIn, t.readReq (Fin.ofNat 256 c.val) a)] = (b, u))) ∧
    (∃ s : State, ∃ c : CompId, ∃ i : BitVec 12, ∃ r : VerRec, (s.tblBusy = false) ∧ (s.curRec c.val i.toNat = some r)) ∧
    (∃ s : State, ∃ c : CompId, ∃ i : BitVec 12, (s.tblBusy = false) ∧ (s.curRec c.val i.toNat = none)) ∧
    (∃ s : State, ∃ _m : Master, (s.latches = []) ∧ (s.staged = [])) ∧
    (∃ s : State, ∃ v : Word, ∃ c : Nat, ∃ w : DWord, (fld (s.hub Reg.HReg.MIG_SEL) 7 0 = c) ∧
      (Reg.HReg.MIG_POLICY.written (s.rgb (pgHub 0x18) Reg.HReg.MIG_POLICY c) (v.zeroExtend 64) = (w, false)) ∧ (fld v 31 30 = 0) ∧
      (fld w 31 30 = 0)) ∧
    (∃ s : State, ∃ v : Word, ∃ c : Nat, ∃ w : DWord, (fld (s.hub Reg.HReg.MIG_SEL) 7 0 = c) ∧
      (Reg.HReg.MIG_POLICY.written (s.rgb (pgHub 0x18) Reg.HReg.MIG_POLICY c) (v.zeroExtend 64) = (w, false)) ∧
      (fld (s.rgb (pgHub 0x18) Reg.HReg.MIG_POLICY c) 31 30 = 0) ∧ (fld v 31 30 = 2) ∧ (fld w 31 30 = 2) ∧
      (s.reg.cur.areaCause s.node c (s.migGranules c).1 (s.migGranules c).2 = 0)) ∧
    (∃ s : State, ∃ t : State, ∃ c : Nat, ∃ b : Nat, ∃ q : Nat × Nat, (s.liveComps.filter (fun c => s.migMode c = 2) = [c]) ∧
      (s.upBays.filter (s.hotBay c) = [b]) ∧ ((s.candidates c b).take (fld (s.rgb (pgHub 0x18) Reg.HReg.MIG_POLICY c) 23 16) = [q]) ∧
      (s.hed.redir = []) ∧ (t = s.migrateOne c q)) ∧
    (∃ s : State, (s.liveComps.filter (fun c => s.migMode c = 2) = [])) ∧
    (∃ s : State, ∃ m : Mig, (s.mig m.id = some m) ∧ (m.phase = 0) ∧ (s.hed.ops = [])) ∧
    (∃ s : State, ∃ m : Mig, ∃ b : Nat, ∃ cs : List Cmp, (s.mig m.id = some m) ∧ (m.batch = some b) ∧ (s.batchAll b = some cs) ∧ (m.phase = 2) ∧
      (firstBad cs = .ok) ∧ (s.now ≤ m.start + 3000)) ∧
    (∃ s : State, ∃ t : State, ∃ m : Mig, (s.mig m.id = some m) ∧ (m.phase = 3) ∧ (m.back = true) ∧
      (t = (s.bump (pgHed m.o) Reg.Hed.MIG_OUT_CNT).bump (pgHed m.t) Reg.Hed.MIG_IN_CNT)) ∧
    (∃ s : State, ∃ m : Mig, (s.mig m.id = some m) ∧ (m.phase < 3)) :=
  ⟨⟨(Wit.heddle (Wit.hedTask 3 (some 1) 0) (Wit.body [(8, 1)])), (_), (_), (Wit.taskRef), (_), (_), (Wit.verRec), rfl, rfl, rfl, rfl, by rfl, rfl,
     rfl, rfl, rfl⟩,
   ⟨(Wit.heddle (Wit.hedTask 4 (some 1) 0) (Wit.body [(0, 1), (8, 1)])), (_), (_), (Wit.taskRef), (_), (_), (Wit.verRec), rfl, rfl, rfl, rfl, by rfl,
     rfl, rfl, rfl, rfl⟩,
   ⟨(Wit.heddle (Wit.hedTask 5 none 0) (Wit.body [(0, 2), (2, 3), (0x10, 1)])), (_), (_), (Wit.taskRef), (_), (_), (_), rfl, rfl, rfl, rfl, rfl, rfl,
     rfl, rfl, rfl⟩,
   ⟨(Wit.heddle (Wit.hedTask 4 (some 1) 2) (Wit.body [(0, 1), (8, 1)])), (_), (Wit.taskRef), (_), (_), (_), (_), (_), rfl, rfl, by rfl, by rfl, by
     rfl, rfl, rfl, by rfl, rfl, by decide, rfl⟩,
   ⟨({ Wit.tasked 3 0 with hed := { HedSt.init with tasks := [{ Wit.hedTask 3 (some 1) 3 with rows := [⟨0, [0], 0, 0, some 5, none, 0, false⟩] }], ops := [Wit.rowOp (.fetch Wit.taskRef 0) (some .portDown)] } }),
     (Wit.taskRef), (0), (_), (_), (_), (_), (_), rfl, rfl, rfl, rfl, rfl, rfl, by decide⟩,
   ⟨({ Wit.hed { HedSt.init with upds := [Wit.rowUpd] } with held := [.bay 0] }), (Wit.rowUpd), rfl, rfl⟩,
   ⟨(Wit.hed { HedSt.init with upds := [Wit.rowUpd] }), (_), (Wit.rowUpd), (_), (_), rfl, rfl, rfl, rfl, rfl, rfl, rfl, rfl, rfl⟩,
   ⟨(Wit.heddle { Wit.hedTask 5 none 3 with scans := [0, 1] } (Wit.body [(0, 2), (2, 3), (0x10, 1)])), (Wit.taskRef), 0, (_), (_), (_), (_), rfl,
     rfl, rfl, rfl, rfl, rfl, by decide⟩,
   ⟨(Wit.home), (_), (_), 0, 0, (_), (_), rfl, rfl, rfl, rfl⟩,
   ⟨(Wit.hed { HedSt.init with recs := [Wit.verRec] }), 0, 0, (_), rfl, rfl⟩,
   ⟨Wit.up, 0, 0, rfl, rfl⟩,
   ⟨Wit.up, .host, rfl, rfl⟩,
   ⟨(Wit.home), (0x09000000), (0), (0x09000000), rfl, by decide, rfl, rfl⟩,
   ⟨({ Wit.home with reg := { RegionSt.init with cur := { rt := [(0, { Wit.entry with owner := 0 })], rct := [] } } }), (0x89000000), (0),
     (0x89000000), rfl, by decide, rfl, rfl, rfl, rfl⟩,
   ⟨(State.setReg (Wit.hed { HedSt.init with recs := [Wit.verRec], win := [(0, 2000)], hot := [⟨0, 1, 0, 5⟩] }) pgHReg Reg.HReg.MIG_POLICY 0 0 0x90100010),
     (_), (0), (0), ((1, 0)), rfl, rfl, rfl, rfl, rfl⟩,
   ⟨(Wit.hed { HedSt.init with migs := [Wit.mig 2 (some 7)] }), rfl⟩,
   ⟨(Wit.hed { HedSt.init with migs := [Wit.mig 0 none] }), (Wit.mig 0 none), rfl, rfl, rfl⟩,
   ⟨(Wit.hed { HedSt.init with migs := [Wit.mig 2 (some 7)] }), (Wit.mig 2 (some 7)), (7), (_), by rfl, by rfl, rfl, by rfl, by rfl, by decide⟩,
   ⟨(Wit.hed { HedSt.init with migs := [Wit.mig 3 none] }), (_), (Wit.mig 3 none), rfl, rfl, rfl, rfl⟩,
   ⟨(Wit.hed { HedSt.init with migs := [Wit.mig 2 none] }), (Wit.mig 2 none), rfl, by decide⟩⟩

set_option maxRecDepth 100000 in
/-- The premises of SpindleCoreCommandsComplete are met, clause by clause. -/
theorem test_spindleCoreCommandsComplete_premises :
    (∃ s : State, ∃ n : BayId, ∃ k : Fin 64, ∃ u : SpUnit, ∃ f : Nat, ∃ rd : Nat, ∃ rs : Nat, ∃ alt : Bool, ∃ imm : Nat, ∃ len : Nat,
      (s.coreRuns n.val k.val = true) ∧ (s.spu n.val k.val = u) ∧ (s.coreFetch n.val k.val = some (some (.opImm f rd rs alt imm), len))) ∧
    (∃ s : State, ∃ n : BayId, ∃ k : Fin 64, ∃ u : SpUnit, ∃ f : Nat, ∃ rd : Nat, ∃ a : Nat, ∃ b : Nat, ∃ alt : Bool, ∃ len : Nat,
      (s.coreRuns n.val k.val = true) ∧ (s.spu n.val k.val = u) ∧ (s.coreFetch n.val k.val = some (some (.op f rd a b alt), len))) ∧
    (∃ s : State, ∃ n : BayId, ∃ k : Fin 64, ∃ u : SpUnit, ∃ f : Nat, ∃ rd : Nat, ∃ a : Nat, ∃ b : Nat, ∃ len : Nat,
      (s.coreRuns n.val k.val = true) ∧ (s.spu n.val k.val = u) ∧ (s.coreFetch n.val k.val = some (some (.mul f rd a b), len))) ∧
    (∃ s : State, ∃ n : BayId, ∃ k : Fin 64, ∃ u : SpUnit, ∃ rd : Nat, ∃ imm : Nat, ∃ len : Nat, (s.coreRuns n.val k.val = true) ∧
      (s.spu n.val k.val = u) ∧ (s.coreFetch n.val k.val = some (some (.lui rd imm), len))) ∧
    (∃ s : State, ∃ n : BayId, ∃ k : Fin 64, ∃ u : SpUnit, (s.coreRuns n.val k.val = true) ∧ (s.spu n.val k.val = u)) ∧
    (∃ s : State, ∃ n : BayId, ∃ k : Fin 64, ∃ u : SpUnit, (s.coreRuns n.val k.val = true) ∧ (s.spu n.val k.val = u) ∧
      (s.coreFetch n.val k.val = none)) ∧
    (∃ s : State, ∃ n : BayId, ∃ k : Fin 64, ∃ u : SpUnit, ∃ len : Nat, (s.coreRuns n.val k.val = true) ∧ (s.spu n.val k.val = u) ∧
      (s.coreFetch n.val k.val = some (none, len))) ∧
    (∃ s : State, ∃ n : BayId, ∃ k : Fin 64, ∃ u : SpUnit, ∃ rd : Nat, ∃ off : Int, ∃ len : Nat, (s.coreRuns n.val k.val = true) ∧
      (s.spu n.val k.val = u) ∧ (s.coreFetch n.val k.val = some (some (.jal rd off), len))) ∧
    (∃ s : State, ∃ n : BayId, ∃ k : Fin 64, ∃ u : SpUnit, ∃ f : Nat, ∃ a : Nat, ∃ b : Nat, ∃ off : Int, ∃ len : Nat,
      (s.coreRuns n.val k.val = true) ∧ (s.spu n.val k.val = u) ∧ (s.coreFetch n.val k.val = some (some (.branch f a b off), len))) ∧
    (∃ s : State, ∃ n : BayId, ∃ k : Fin 64, ∃ u : SpUnit, ∃ f : Nat, ∃ rd : Nat, ∃ rs : Nat, ∃ off : Int, ∃ len : Nat,
      (s.coreRuns n.val k.val = true) ∧ (s.spu n.val k.val = u) ∧ (s.coreFetch n.val k.val = some (some (.load f rd rs off), len)) ∧
      (spPlace (u.addr rs off) (rvSize f) ≠ .bad) ∧ (u.addr rs off % rvSize f ≠ 0)) ∧
    (∃ s : State, ∃ n : BayId, ∃ k : Fin 64, ∃ u : SpUnit, ∃ rd : Fin 32, ∃ a : Fin 32, ∃ b : Fin 32, ∃ p, (s.coreRuns n.val k.val = true) ∧
      (s.spu n.val k.val = u) ∧ (p ∈ [(Instr.sfAdd n k rd a b, SfOp.add), (.sfSub n k rd a b, .sub), (.sfMul n k rd a b, .mul),
      (.sfMax n k rd a b, .max), (.sfMin n k rd a b, .min), (.sfLt n k rd a b, .lt)])) ∧
    (∃ s : State, ∃ n : BayId, ∃ k : Fin 64, ∃ u : SpUnit, ∃ rd : Fin 32, ∃ a : Fin 32, ∃ f : Fin 4, ∃ p, (s.coreRuns n.val k.val = true) ∧
      (s.spu n.val k.val = u) ∧ (p ∈ [(Instr.sfExp2 n k rd a, SfOp.exp2), (.sfRcp n k rd a, .rcp), (.sfCvt n k rd a f, .cvt (f.val + 1)),
      (.sfFromi n k rd a, .fromi), (.sfToi n k rd a, .toi)])) ∧
    (∃ s : State, ∃ n : BayId, ∃ k : Fin 64, ∃ u : SpUnit, ∃ _rd : Fin 32, ∃ a : Fin 32, ∃ l : Launch, ∃ d : SpStream,
      (s.coreRuns n.val k.val = true) ∧ (s.spu n.val k.val = u) ∧ (s.running n.val k.val = some l) ∧ (u.streams.length < 4) ∧
      (d = { ticket := u.tickets, desc := s.sramBytes n.val k.val (u.x a.val) 32, sent := false }) ∧ (inSram (u.x a.val) 32 32 = true) ∧
      (d.ok (s.partSize l) = true)) ∧
    (∃ s : State, ∃ n : BayId, ∃ k : Fin 64, ∃ u : SpUnit, ∃ _rd : Fin 32, ∃ a : Fin 32, (s.coreRuns n.val k.val = true) ∧ (s.spu n.val k.val = u) ∧
      (u.ticketStatus (u.x a.val) ≠ 15)) ∧
    (∃ s : State, ∃ n : BayId, ∃ k : Fin 64, ∃ u : SpUnit, ∃ _rd : Fin 32, ∃ a : Fin 32, (s.coreRuns n.val k.val = true) ∧ (s.spu n.val k.val = u) ∧
      (u.ticketStatus (u.x a.val) = 15)) ∧
    (∃ s : State, ∃ n : BayId, ∃ k : Fin 64, ∃ u : SpUnit, ∃ _rd : Fin 32, ∃ _a : Fin 32, (s.coreRuns n.val k.val = true) ∧
      (s.spu n.val k.val = u)) ∧
    (∃ s : State, ∃ n : BayId, ∃ k : Fin 64, ∃ u : SpUnit, ∃ a : Fin 32, ∃ st : Status, (s.coreRuns n.val k.val = true) ∧ (s.spu n.val k.val = u) ∧
      (Status.ofCode (u.x a.val % 16) = some st) ∧ (u.streams = [])) ∧
    (∃ s : State, ∃ n : BayId, ∃ k : Fin 64, ∃ u : SpUnit, ∃ _rd : Fin 32, ∃ i : BitVec 12, (s.coreRuns n.val k.val = true) ∧
      (s.spu n.val k.val = u) ∧ (8 ≤ i.toNat)) ∧
    (∃ s : State, ∃ n : BayId, ∃ k : Fin 64, ∃ u : SpUnit, ∃ _rd : Fin 32, (s.coreRuns n.val k.val = true) ∧ (s.spu n.val k.val = u)) ∧
    (∃ s : State, ∃ n : BayId, ∃ k : Fin 64, ∃ u : SpUnit, ∃ l : Launch, ∃ f : Nat, ∃ rd : Nat, ∃ rs : Nat, ∃ len : Nat, ∃ r : Nat, ∃ off : Int, ∃ w : Line, ∃ x : SpRead,
      (s.coreRuns n.val k.val = true) ∧ (s.spu n.val k.val = u) ∧ (s.running n.val k.val = some l) ∧ (u.streams = []) ∧
      (s.coreFetch n.val k.val = some (some (.load f rd rs off), len)) ∧ (u.addr rs off = 0x40000000 + r) ∧
      (spPlace (u.addr rs off) (rvSize f) = .region) ∧ (u.addr rs off % rvSize f = 0) ∧ (s.spCheck n.val k.val l.comp r = none) ∧
      ((s.spRead n.val k.val l.comp [(0, [])]).readAt (r / 64 * 64) = (.ok w, x))) :=
  ⟨⟨(Wit.core 0x00000093 [] SpUnit.init), 0, 0, (_), (_), (_), (_), (_), (_), (_), rfl, rfl, rfl⟩,
   ⟨(Wit.core 0x003100B3 [] SpUnit.init), 0, 0, (_), (_), (_), (_), (_), (_), (_), rfl, rfl, rfl⟩,
   ⟨(Wit.core 0x023100B3 [] SpUnit.init), 0, 0, (_), (_), (_), (_), (_), (_), rfl, rfl, rfl⟩,
   ⟨(Wit.core 0x000010B7 [] SpUnit.init), 0, 0, (_), (_), (_), (_), rfl, rfl, rfl⟩,
   ⟨(Wit.core 0 [] SpUnit.init), 0, 0, (_), rfl, rfl⟩,
   ⟨(Wit.core 0 [] { SpUnit.init with pc := 0x20000000 }), 0, 0, (_), rfl, rfl, rfl⟩,
   ⟨(Wit.core 0 [] SpUnit.init), 0, 0, (_), (_), rfl, rfl, rfl⟩,
   ⟨(Wit.core 0x008000EF [] SpUnit.init), 0, 0, (_), (_), (_), (_), rfl, rfl, rfl⟩,
   ⟨(Wit.core 0x00000463 [] SpUnit.init), 0, 0, (_), (_), (_), (_), (_), (_), rfl, rfl, rfl⟩,
   ⟨(Wit.core 0x00102083 [] SpUnit.init), 0, 0, (_), (_), (_), (_), (_), (_), rfl, rfl, rfl, by decide, by decide⟩,
   ⟨(Wit.core 0 [] SpUnit.init), 0, 0, (_), 0, 0, 0, (_), rfl, rfl, List.Mem.head _⟩,
   ⟨(Wit.core 0 [] SpUnit.init), 0, 0, (_), 0, 0, 0, (_), rfl, rfl, List.Mem.head _⟩,
   ⟨(Wit.core 0 (Wit.desc 5 0 0) { SpUnit.init with regs := [(1, 64)] }), 0, 0, (_), 0, (1), (_), (_), rfl, rfl, rfl, by decide, rfl, rfl, rfl⟩,
   ⟨(Wit.core 0 [] { SpUnit.init with done := [(0, 0)] }), 0, 0, (_), 0, 0, rfl, rfl, by decide⟩,
   ⟨(Wit.core 0 [] SpUnit.init), 0, 0, (_), 0, 0, rfl, rfl, rfl⟩,
   ⟨(Wit.core 0 [] SpUnit.init), 0, 0, (_), 0, 0, rfl, rfl⟩,
   ⟨(Wit.core 0 [] SpUnit.init), 0, 0, (_), 0, .ok, rfl, rfl, rfl, rfl⟩,
   ⟨(Wit.core 0 [] SpUnit.init), 0, 0, (_), 0, (8), by rfl, rfl, by rfl⟩,
   ⟨(Wit.core 0 [] SpUnit.init), 0, 0, (_), 0, rfl, rfl⟩,
   ⟨(Wit.core 0x00012083 [] { SpUnit.init with regs := [(2, 0x40000000)] }), 0, 0, (_), (_), (_), (_), (_), (_), (0), (_), (_), (_), rfl, rfl, rfl,
     rfl, rfl, rfl, rfl, rfl, rfl, rfl⟩⟩

set_option maxRecDepth 100000 in
/-- The premises of SpindleStreamCommandsComplete are met, clause by clause. -/
theorem test_spindleStreamCommandsComplete_premises :
    (∃ s : State, ∃ t : State, ∃ n : BayId, ∃ k : Fin 64, ∃ l : Launch, ∃ d : SpStream, ∃ e : SramErr, (t = s.sramSeen n.val k.val e) ∧ (e ≠ .lost) ∧
      (s.headStream n.val k.val 0 = some (l, d))) ∧
    (∃ s : State, ∃ t : State, ∃ n : BayId, ∃ k : Fin 64, ∃ l : Launch, ∃ d : SpStream, ∃ e : SramErr, ∃ es : List (Nat × Syms), ∃ st : Status, ∃ x : SpRead,
      (t = s.sramSeen n.val k.val e) ∧ (e ≠ .lost) ∧ (s.headStream n.val k.val 1 = some (l, d)) ∧
      (SpRead.rows n.val k.val d (State.scoreRow n.val k.val d) d.count 0 { t.spRead n.val k.val l.comp es with pace := d.dotCycles 2048 } = (st, x))) ∧

    (∃ s : State, ∃ t : State, ∃ n : BayId, ∃ k : Fin 64, ∃ l : Launch, ∃ d : SpStream, ∃ e : SramErr, ∃ es : List (Nat × Syms), ∃ st : Status, ∃ x : SpRead,
      (t = s.sramSeen n.val k.val e) ∧ (e ≠ .lost) ∧ (s.headStream n.val k.val 2 = some (l, d)) ∧
      (SpRead.rows n.val k.val d (State.axpyRow n.val k.val d) d.count 0 { t.spRead n.val k.val l.comp es with pace := d.dotCycles 2048 } = (st, x))) ∧

    (∃ s : State, ∃ t : State, ∃ n : BayId, ∃ k : Fin 64, ∃ l : Launch, ∃ d : SpStream, ∃ e : SramErr, ∃ _es : List (Nat × Syms),
      (t = s.sramSeen n.val k.val e) ∧ (e ≠ .lost) ∧ (s.headStream n.val k.val 1 = some (l, d))) ∧
    (∃ s : State, ∃ t : State, ∃ n : BayId, ∃ k : Fin 64, ∃ l : Launch, ∃ d : SpStream, ∃ e : SramErr, ∃ _es : List (Nat × Syms),
      (t = s.sramSeen n.val k.val e) ∧ (e ≠ .lost) ∧ (s.headStream n.val k.val 2 = some (l, d))) ∧
    (∃ s : State, ∃ t : State, ∃ n : BayId, ∃ k : Fin 64, ∃ l : Launch, ∃ d : SpStream, ∃ e : SramErr, (t = s.sramSeen n.val k.val e) ∧ (e ≠ .lost) ∧
      (s.headStream n.val k.val 3 = some (l, d))) ∧
    (∃ s : State, ∃ t : State, ∃ n : BayId, ∃ k : Fin 64, ∃ l : Launch, ∃ d : SpStream, ∃ e : SramErr, ∃ q : Nat × State,
      (t = s.sramSeen n.val k.val e) ∧ (e ≠ .lost) ∧ (s.headStream n.val k.val 4 = some (l, d)) ∧ (d.nq = 1) ∧
      (q = (List.range d.count).foldl (fun (q : Nat × State) j => (fp32Add q.1 (fp32Exp2 (fp32Sub (q.2.sramWord n.val k.val (d.src + 4 * j)) (t.sramWord n.val k.val d.aux))), q.2.setSramWord n.val k.val (d.src + 4 * j) (fp32Exp2 (fp32Sub (q.2.sramWord n.val k.val (d.src + 4 * j)) (t.sramWord n.val k.val d.aux))))) (0, t))) ∧

    (∃ s : State, ∃ t : State, ∃ n : BayId, ∃ k : Fin 64, ∃ l : Launch, ∃ d : SpStream, ∃ e : SramErr, (t = s.sramSeen n.val k.val e) ∧ (e ≠ .lost) ∧
      (s.headStream n.val k.val 5 = some (l, d))) ∧
    (∃ s : State, ∃ t : State, ∃ n : BayId, ∃ k : Fin 64, ∃ l : Launch, ∃ d : SpStream, ∃ e : SramErr, (t = s.sramSeen n.val k.val e) ∧ (e ≠ .lost) ∧
      (s.headStream n.val k.val 6 = some (l, d))) ∧
    (∃ s : State, ∃ t : State, ∃ n : BayId, ∃ k : Fin 64, ∃ l : Launch, ∃ d : SpStream, ∃ e : SramErr, (t = s.sramSeen n.val k.val e) ∧ (e ≠ .lost) ∧
      (s.headStream n.val k.val 7 = some (l, d))) ∧
    (∃ s : State, ∃ t : State, ∃ n : BayId, ∃ k : Fin 64, ∃ l : Launch, ∃ d : SpStream, ∃ e : SramErr, ∃ es : List (Nat × Syms), ∃ st : Status, ∃ x : SpRead,
      (t = s.sramSeen n.val k.val e) ∧ (e ≠ .lost) ∧ (s.headStream n.val k.val 8 = some (l, d)) ∧
      (SpRead.copyIn n.val k.val d (d.count / 64) 0 (s.spRead n.val k.val l.comp es) = (st, x))) ∧
    (∃ s : State, ∃ t : State, ∃ n : BayId, ∃ k : Fin 64, ∃ l : Launch, ∃ d : SpStream, ∃ e : SramErr, ∃ st : Status, ∃ u : State,
      (t = s.sramSeen n.val k.val e) ∧ (e ≠ .lost) ∧ (s.headStream n.val k.val 9 = some (l, d)) ∧
      (State.copyLines n.val k.val l.comp d (d.count / 64) 0 t = (st, u))) ∧
    (∃ s : State, ∃ t : State, ∃ n : BayId, ∃ k : Fin 64, ∃ l : Launch, ∃ d : SpStream, ∃ e : SramErr, (t = s.sramSeen n.val k.val e) ∧ (e ≠ .lost) ∧
      (s.headStream n.val k.val 0xA = some (l, d)) ∧ (d.count ≠ 0)) ∧
    (∃ s : State, ∃ t : State, ∃ n : BayId, ∃ k : Fin 64, ∃ l : Launch, ∃ d : SpStream, ∃ e : SramErr, ∃ u : State, (t = s.sramSeen n.val k.val e) ∧
      (e ≠ .lost) ∧ (s.headStream n.val k.val 0xB = some (l, d)) ∧ (u = t.setSpu n.val k.val (t.spu n.val k.val).markSent)) ∧
    (∃ s : State, ∃ t : State, ∃ n : BayId, ∃ k : Fin 64, ∃ l : Launch, ∃ d : SpStream, ∃ e : SramErr, ∃ p, (t = s.sramSeen n.val k.val e) ∧
      (e ≠ .lost) ∧ (p ∈ [(Instr.qload n k .lost, 0), (.score n k ⟨[], false, .lost⟩, 1), (.axpy n k ⟨[], false, .lost⟩, 2), (.vmax n k .lost, 3),
      (.vexps n k .lost, 4), (.oscale n k .lost, 6), (.copyOut n k .lost, 9), (.putStream n k .lost, 0xA), (.partialRec n k .lost, 0xB)]) ∧
      (s.headStream n.val k.val p.2 = some (l, d))) :=
  ⟨⟨(Wit.streaming 0 0 0), (_), 0, 0, (_), (_), (.none), rfl, by decide, rfl⟩,
   ⟨(Wit.streaming 1 0 0), (_), 0, 0, (_), (_), (.none), [], (.ok), (_), rfl, by decide, rfl, rfl⟩,
   ⟨(Wit.streaming 2 0 0), (_), 0, 0, (_), (_), (.none), [], (.ok), (_), rfl, by decide, rfl, rfl⟩,
   ⟨(Wit.streaming 1 0 0), (_), 0, 0, (_), (_), (.none), [], rfl, by decide, rfl⟩,
   ⟨(Wit.streaming 2 0 0), (_), 0, 0, (_), (_), (.none), [], rfl, by decide, rfl⟩,
   ⟨(Wit.streaming 3 0 1), (_), 0, 0, (_), (_), (.none), rfl, by decide, rfl⟩,
   ⟨(Wit.streaming 4 0 1), (_), 0, 0, (_), (_), (.none), (_), rfl, by decide, rfl, rfl, rfl⟩,
   ⟨(Wit.streaming 5 0 0), (_), 0, 0, (_), (_), (.none), rfl, by decide, rfl⟩,
   ⟨(Wit.streaming 6 0 0), (_), 0, 0, (_), (_), (.none), rfl, by decide, rfl⟩,
   ⟨(Wit.streaming 7 0 0), (_), 0, 0, (_), (_), (.none), rfl, by decide, rfl⟩,
   ⟨(Wit.streaming 8 0 0), (_), 0, 0, (_), (_), (.none), [], (.ok), (_), rfl, by decide, rfl, rfl⟩,
   ⟨(Wit.streaming 9 0 0), (_), 0, 0, (_), (_), (.none), (.ok), (_), rfl, by decide, rfl, rfl⟩,
   ⟨(Wit.streaming 10 0 64), (_), 0, 0, (_), (_), (.none), rfl, by decide, rfl, by decide⟩,
   ⟨(Wit.streaming 11 0 0), (_), 0, 0, (_), (_), (.none), (_), rfl, by decide, rfl, rfl⟩,
   ⟨(Wit.streaming 0 0 0), (_), 0, 0, (_), (_), (.none), ((Instr.qload 0 0 .lost, 0)), rfl, by decide, List.Mem.head _, rfl⟩⟩

set_option maxRecDepth 100000 in
/-- The premises of SpindleServiceCommandsComplete are met, clause by clause. -/
theorem test_spindleServiceCommandsComplete_premises :
    (∃ s : State, ∃ u : State, ∃ v : State, ∃ t : TaskRef, ∃ x : TaskSt, ∃ l : Launch, (s.beginTask t 6 = some (x, u)) ∧
      (l = { id := u.sp.next, t := t, bay := bitsAt x.body 0 1 5, comp := bytesAt x.body 1 1, fence := bit (u.rgb (pgHub 0x1A) Reg.SpCtl.COH_MODE
      (bytesAt x.body 1 1)) 0, stage := 1, body := x.body, head := [], image := [], ranges := [], comb := none, combSt := none, waits := [], parts := [] }) ∧
      (v = State.bumpHub { u with sp := { u.sp with next := u.sp.next + 1, launches := u.sp.launches ++ [l] } } Reg.SpCtl.LAUNCH_DEV_CNT) ∧
      (v.bayUp l.bay = true) ∧ (l.bodyOk = true) ∧ (v.bayShare l.comp l.bay ≠ 0) ∧ (l.mask.any (fun k => !v.spGranted l.comp l.bay k) = false)) ∧
    (∃ s : State, ∃ t : TaskRef, ∃ l : Launch, (s.launchOf t = some l) ∧ (l.stage = 4) ∧ (l.waits = [])) ∧
    (∃ s : State, ∃ t : TaskRef, ∃ l : Launch, (s.launchOf t = some l) ∧ (l.stage = 5) ∧ (s.recalling l = false)) ∧
    (∃ s : State, ∃ t : State, ∃ n : BayId, ∃ k : Fin 64, ∃ m : PartMsg, ∃ c : Comb, ∃ st : Status, (s.sp.parts = [m]) ∧ (m.bay = n.val) ∧
      (m.sp = k.val) ∧ (m.comb.bind (fun i => s.comb i) = some c) ∧ (s.bayUp c.bay = true) ∧ (s.bayRuns c.bay = true) ∧
      (State.partialStored { s with sp := { s.sp with parts := [] } } c m = (st, t))) ∧
    (∃ s : State, ∃ n : BayId, ∃ k : Fin 64, ∃ m : PartMsg, (s.sp.parts = [m]) ∧ (m.bay = n.val) ∧ (m.sp = k.val) ∧ (m.comb = none)) ∧
    (∃ s : State, ∃ i : BitVec 16, ∃ c : Comb, (s.comb i.toNat = some c) ∧ (c.state = 1) ∧ (c.writing = false)) ∧
    (∃ s : State, ∃ i : BitVec 16, ∃ c : Comb, (s.comb i.toNat = some c) ∧ (c.state = 1) ∧ (c.writing = false) ∧
      (bit (s.rg (pgHub 0x1A) Reg.SpCtl.COMB_STAT) 31 = false)) ∧
    (∃ s : State, ∃ i : BitVec 16, (bit (s.rg (pgHub 0x1A) Reg.SpCtl.COMB_STAT) 31 = false) ∧ (s.comb i.toNat = none)) ∧
    (∃ s : State, ∃ _n : BayId, ∃ i : BitVec 16, ∃ c : Comb, (s.comb i.toNat = some c) ∧ (c.state ≠ 1)) ∧
    (∃ s : State, ∃ n : BayId, ∃ k : Fin 64, ((s.running n.val k.val).isSome = true)) ∧
    (∃ s : State, ∃ n : BayId, ∃ _v : DWord, (s.pageOpen (pgSp n.val) Reg.Sp.SP_FENCE 0)) ∧
    (∃ s : State, ∃ n : BayId, ∃ k : Fin 64, (s.spFenced n.val k.val = false) ∧ ((s.spu n.val k.val).kat = 0) ∧ (s.bayUp n.val = true) ∧
      ((s.spu n.val k.val).launch.isSome = true)) ∧
    (∃ s : State, ∃ n : BayId, ∃ k : Fin 64, (s.spFenced n.val k.val = false) ∧ ((s.spu n.val k.val).kat = 0) ∧ (s.bayUp n.val = true) ∧
      ((s.spu n.val k.val).launch = none) ∧ (s.bayRuns n.val = true) ∧ (s.islandState (.spindles n (Fin.ofNat 8 (k.val / 8))) = 0)) ∧
    (∃ s : State, ∃ t : State, ∃ n : BayId, ∃ k : Fin 64, (2 ≤ (s.spu n.val k.val).kat) ∧ (t = s.bumpHub Reg.Flt.KAT_CNT)) ∧
    (∃ s : State, ∃ t : State, ∃ n : BayId, ∃ k : Fin 64, ((s.spu n.val k.val).kat = 2) ∧
      (t = (s.bumpHub Reg.Flt.KAT_CNT).bumpHub Reg.Flt.KAT_FAIL_CNT)) ∧
    (∃ s : State, ∃ t : State, ∃ u : State, ∃ c : CompId, ∃ i : BitVec 12, ∃ a : Nat, ∃ b : Nat, (s.ctBusy = false) ∧
      ((s.hub Reg.CTab.CT_ADDR).toNat = a) ∧ (t = s.setHub Reg.CTab.CT_STAT (setFld (s.hub Reg.CTab.CT_STAT) 31 31 1)) ∧
      (t.startBatch .ctImage ((List.range 3).map (fun i => (hubIn, t.readReq (Fin.ofNat 256 c.val) (a + 64 * i)))) = (b, u))) ∧
    (∃ s : State, ∃ c : CompId, ∃ i : BitVec 12, ∃ x : CodeTab, (s.ctBusy = false) ∧ (s.codeTab c.val i.toNat = some x)) ∧
    (∃ s : State, ∃ c : CompId, ∃ i : BitVec 12, (s.ctBusy = false) ∧ (s.codeTab c.val i.toNat = none)) ∧
    (∃ s : State, ∃ _c : CompId, ∃ _i : BitVec 12, (s.ctBusy = true)) :=
  ⟨⟨(((Wit.tasked 6 (Wit.body [(4, 0), (8, 1), (0x28, 1)])).setReg (pgOfHub Reg.Comp.BAY_SHARE) Reg.Comp.BAY_SHARE 0 0 0x1F)), (_), (_),
     (Wit.taskRef), (_), (_), rfl, rfl, rfl, rfl, rfl, by decide, rfl⟩,
   ⟨({ Wit.home with sp := { SpSt.init with launches := [{ Wit.launch with stage := 4 }] } }), (Wit.taskRef), (_), rfl, rfl, rfl⟩,
   ⟨({ Wit.home with sp := { SpSt.init with launches := [{ Wit.launch with stage := 5 }] } }), (Wit.taskRef), (_), rfl, rfl, rfl⟩,
   ⟨({ Wit.home with sp := { SpSt.init with parts := [Wit.part (some 3)], combs := [Wit.comb] } }), (_), 0, 0, (Wit.part (some 3)), (_), (_), rfl,
     rfl, rfl, rfl, rfl, rfl, rfl⟩,
   ⟨({ Wit.home with sp := { SpSt.init with parts := [Wit.part none] } }), 0, 0, (Wit.part none), rfl, rfl, rfl, rfl⟩,
   ⟨({ Wit.home with sp := { SpSt.init with combs := [Wit.comb] } }), (3), (_), rfl, rfl, rfl⟩,
   ⟨({ Wit.home with sp := { SpSt.init with combs := [Wit.comb] } }), (3), (_), rfl, rfl, rfl, rfl⟩,
   ⟨(Wit.home), (3), rfl, rfl⟩,
   ⟨({ Wit.home with sp := { SpSt.init with combs := [{ Wit.comb with state := 2 }] } }), 0, (3), (_), rfl, by decide⟩,
   ⟨(Wit.core 0 [] SpUnit.init), 0, 0, rfl⟩,
   ⟨Wit.up, 0, 0, rfl⟩,
   ⟨({ Wit.home with sp := { SpSt.init with units := [(0, { SpUnit.init with launch := some 1 })] } }), 0, 0, rfl, rfl, rfl, rfl⟩,
   ⟨({ Wit.home with sp := { SpSt.init with units := [(0, SpUnit.init)] } }), 0, 0, rfl, rfl, rfl, rfl, rfl, rfl⟩,
   ⟨({ Wit.home with sp := { SpSt.init with units := [(0, { SpUnit.init with kat := 2 })] } }), (_), 0, 0, by rfl, rfl⟩,
   ⟨({ Wit.home with sp := { SpSt.init with units := [(0, { SpUnit.init with kat := 2 })] } }), (_), 0, 0, rfl, rfl⟩,
   ⟨(Wit.home), (_), (_), 0, 0, (_), (_), rfl, rfl, rfl, rfl⟩,
   ⟨({ Wit.home with codec := { CodecSt.init with tabs := [⟨0, 0, 0⟩] } }), 0, 0, (_), rfl, rfl⟩,
   ⟨Wit.up, 0, 0, rfl, rfl⟩,
   ⟨(Wit.up.setHub Reg.CTab.CT_STAT 0x80000000), 0, 0, rfl⟩⟩

set_option maxRecDepth 100000 in
/-- The premises of UndeliverableRecalls are met, clause by clause. -/
theorem test_undeliverableRecalls_premises :
    (∃ s : State, ∃ p : PortId, ∃ _tc : BitVec 3, ∃ la : BitVec 42, ∃ n : BayId, ∃ t : Txn, (la.toNat * 64 < stackEnd) ∧
      (s.homeBay (la.toNat * 64) = some n.val) ∧ (s.voqs = []) ∧ (s.islandState (.bay n) = 0) ∧ (SMap.get (fun _ => 0) s.pwr.req n.val = 0) ∧
      (s.activeTxn (bayOf s.sel (la.toNat * 64)) (lineOf (la.toNat * 64)) = some t) ∧ (t.await.contains p.val = true) ∧ (dirState (s.dirOf t) = 1)) ∧

    (∃ s : State, ∃ p : PortId, ∃ _tc : BitVec 3, ∃ la : BitVec 42, ∃ n : BayId, ∃ t : Txn, ∃ u : State, ∃ r : Req, (la.toNat * 64 < stackEnd) ∧
      (s.homeBay (la.toNat * 64) = some n.val) ∧ (s.voqs = []) ∧ (s.islandState (.bay n) = 0) ∧ (SMap.get (fun _ => 0) s.pwr.req n.val = 0) ∧
      (s.activeTxn (bayOf s.sel (la.toNat * 64)) (lineOf (la.toNat * 64)) = some t) ∧ (t.await.contains p.val = true) ∧ (dirState (s.dirOf t) = 2) ∧
      (dirOwner (s.dirOf t) = p.val) ∧ (t.work = .req r) ∧ (t.answered = false) ∧
      (u = ((s.poisonLine t.bay t.line).setDir t.bay t.dir dirI).dropTxn t)) :=
  ⟨⟨(Wit.recalledShared), 0, 0, 0, 0, (_), by decide, rfl, rfl, rfl, rfl, rfl, rfl, rfl⟩,
   ⟨(Wit.recalled), 0, 0, 0, 0, (_), (_), (Wit.req), by decide, rfl, rfl, rfl, rfl, rfl, rfl, rfl, rfl, rfl, rfl, rfl⟩⟩

set_option maxRecDepth 100000 in
/-- The premises of PierCfgOnlyWhileDown are met, clause by clause. -/
theorem test_pierCfgOnlyWhileDown_premises :
    (∃ s : State, ∃ p : PierId, ∃ v : Word, ∃ moves : Prop, (s.pageOpen (pgPier p.val) Reg.Pier.PIER_CFG 0) ∧
      ((moves ↔ fld (Reg.Pier.PIER_CFG.written (s.pierCfg p.val) (BitVec.ofNat 64 v.toNat)).1 3 0 ≠ fld (s.pierCfg p.val) 3 0)) ∧
      ((∀ x ∈ s.pierPorts p.val, (s.link x).state = .disabled ∨ (s.link x).state = .fault)) ∧ ((s.trayUses p.val = false ∨ ¬moves))) ∧
    (∃ s : State, ∃ p : PierId, ∃ v : Word, ∃ moves : Prop, ∃ x, (s.pageOpen (pgPier p.val) Reg.Pier.PIER_CFG 0) ∧
      ((moves ↔ fld (Reg.Pier.PIER_CFG.written (s.pierCfg p.val) (BitVec.ofNat 64 v.toNat)).1 3 0 ≠ fld (s.pierCfg p.val) 3 0)) ∧
      (x ∈ s.pierPorts p.val) ∧ ((s.link x).state ≠ .disabled) ∧ ((s.link x).state ≠ .fault)) ∧
    (∃ s : State, ∃ p : PierId, ∃ v : Word, ∃ moves : Prop, (s.pageOpen (pgPier p.val) Reg.Pier.PIER_CFG 0) ∧
      ((moves ↔ fld (Reg.Pier.PIER_CFG.written (s.pierCfg p.val) (BitVec.ofNat 64 v.toNat)).1 3 0 ≠ fld (s.pierCfg p.val) 3 0)) ∧
      (s.trayUses p.val = true) ∧ (moves)) :=
  ⟨⟨Wit.up, 0, 0, (False), rfl, by decide, by decide, by decide⟩,
   ⟨(Wit.link { Link.init with state := .active }), 0, (0), (False), (0), rfl, by decide, by decide, by decide, by decide⟩,
   ⟨((State.set Wit.up (pgOfHub Reg.TMap.TRAY_CFG) Reg.TMap.TRAY_CFG 1)), (0), (1), (True), rfl, by decide, rfl, trivial⟩⟩

set_option maxRecDepth 100000 in
/-- The premises of MulticastChecks are met, clause by clause. -/
theorem test_multicastChecks_premises :
    (∃ s : State, ∃ r : Req, ∃ p : PortId, ∃ e : McEntry, (r.origin = .port p) ∧ (s.voqs = []) ∧ (s.mcEntry r.dnode.toNat = e) ∧ (e.en = false)) ∧
    (∃ s : State, ∃ r : Req, ∃ p : PortId, ∃ e : McEntry, (r.origin = .port p) ∧ (s.voqs = []) ∧ (s.mcEntry r.dnode.toNat = e) ∧ (e.en = true) ∧
      (r.key ≠ e.key)) ∧
    (∃ s : State, ∃ r : Req, ∃ p : PortId, ∃ e : McEntry, ∃ t : State, ∃ u : State, ∃ m : McOut, (r.origin = .port p) ∧ (s.voqs = []) ∧
      (s.mcEntry r.dnode.toNat = e) ∧ (e.en = true) ∧ (r.key = e.key) ∧ (t = s.bumpHub Reg.Mcast.MC_RX_CNT) ∧
      (m = { id := t.tr.mcNum, req := { r with op := .mcWr }, ports := [], remotes := 0, bad := false, dests := e.remotes }) ∧
      (u = e.ports.foldl (fun a x => a.mcMember (s.inputOf m.req) e m.req m.id x) { t with tr := { t.tr with mcNum := m.id + 1, mcOut := t.tr.mcOut ++ [m] } })) :=
  ⟨⟨Wit.up, Wit.req, 0, _, rfl, rfl, rfl, rfl⟩,
   ⟨({ Wit.home with tr := { TrestleSt.init with mc := [(0, { McEntry.none with en := true })] } }), ({ Wit.req with key := 1 }), 0, (_), rfl, rfl,
     rfl, rfl, by decide⟩,
   ⟨({ Wit.home with tr := { TrestleSt.init with mc := [(0, { McEntry.none with en := true })] } }), (Wit.req), 0, (_), (_), (_), (_), rfl, rfl, rfl,
     rfl, rfl, rfl, rfl, rfl⟩⟩

set_option maxRecDepth 100000 in
/-- The premises of Exp2OfSpecialValues are met, clause by clause. -/
theorem test_exp2OfSpecialValues_premises :
    (∃ x : Nat, (x < 2 ^ 32) ∧ (nfld x 30 23 = 255) ∧ (nfld x 22 0 ≠ 0)) :=
  ⟨(0x7FC00000), by decide, rfl, by decide⟩

set_option maxRecDepth 100000 in
/-- The premises of BlkIdFields are met, clause by clause. -/
theorem test_blkIdFields_premises :
    (∃ _s : State, ∃ pg : Nat, (pg < 8192) ∧ (assigned pg = true)) :=
  ⟨Wit.up, 0, by decide, rfl⟩

set_option maxRecDepth 100000 in
/-- The premises of LimitsAreEnforced are met, clause by clause. -/
theorem test_limitsAreEnforced_premises :
    (∃ s : State, ∃ t : State, ∃ g : GroupId, ∃ w : LimitReg, ∃ v : Word, ∃ total : Nat, ∃ wb : Nat, ∃ mgmt : Nat, ∃ req : Nat → Nat, ∃ rsp : Nat → Nat, ∃ cap : Nat → Nat,
      (s.pageOpen (pgPort g.val) w.reg w.elem) ∧
      (t = (match w with | .rsv => s.setN (pgPort g.val) Reg.Port.LIM_RSV v.toNat | .classLim c => s.setReg (pgPort g.val) Reg.Port.CLASS_LIM c.val 0 (BitVec.ofNat 64 v.toNat) | .voqCap c => s.setReg (pgPort g.val) Reg.Port.VOQ_CAP c.val 0 (BitVec.ofNat 64 (v.toNat % 65536)))) ∧
      (wb = fld (t.rg (pgPort g.val) Reg.Port.LIM_RSV) 15 0) ∧ (mgmt = fld (t.rg (pgPort g.val) Reg.Port.LIM_RSV) 31 16) ∧
      (req = (fun c => fld (t.rgi (pgPort g.val) Reg.Port.CLASS_LIM c) 15 0)) ∧
      (rsp = (fun c => fld (t.rgi (pgPort g.val) Reg.Port.CLASS_LIM c) 31 16)) ∧ (cap = (fun c => (t.rgi (pgPort g.val) Reg.Port.VOQ_CAP c).toNat)) ∧
      (total = 768 + wb + mgmt + ((List.range 8).map (fun c => req c + rsp c)).sum) ∧ (total ≤ 24576 ∧ 48 ≤ wb ∧ 24 ≤ mgmt ∧ (∀ c < 8,
      (req c = 0 ∨ 12 ≤ req c) ∧ (rsp c = 0 ∨ 12 ≤ rsp c) ∧ 12 ≤ cap c ∧ cap c ≤ (if req c + rsp c = 0 then 12 else req c + rsp c)))) ∧
    (∃ s : State, ∃ t : State, ∃ g : GroupId, ∃ w : LimitReg, ∃ v : Word, ∃ total : Nat, ∃ wb : Nat, ∃ mgmt : Nat, ∃ req : Nat → Nat, ∃ rsp : Nat → Nat, ∃ cap : Nat → Nat,
      (s.pageOpen (pgPort g.val) w.reg w.elem) ∧
      (t = (match w with | .rsv => s.setN (pgPort g.val) Reg.Port.LIM_RSV v.toNat | .classLim c => s.setReg (pgPort g.val) Reg.Port.CLASS_LIM c.val 0 (BitVec.ofNat 64 v.toNat) | .voqCap c => s.setReg (pgPort g.val) Reg.Port.VOQ_CAP c.val 0 (BitVec.ofNat 64 (v.toNat % 65536)))) ∧
      (wb = fld (t.rg (pgPort g.val) Reg.Port.LIM_RSV) 15 0) ∧ (mgmt = fld (t.rg (pgPort g.val) Reg.Port.LIM_RSV) 31 16) ∧
      (req = (fun c => fld (t.rgi (pgPort g.val) Reg.Port.CLASS_LIM c) 15 0)) ∧
      (rsp = (fun c => fld (t.rgi (pgPort g.val) Reg.Port.CLASS_LIM c) 31 16)) ∧ (cap = (fun c => (t.rgi (pgPort g.val) Reg.Port.VOQ_CAP c).toNat)) ∧
      (total = 768 + wb + mgmt + ((List.range 8).map (fun c => req c + rsp c)).sum) ∧ (¬(total ≤ 24576 ∧ 48 ≤ wb ∧ 24 ≤ mgmt ∧ (∀ c < 8,
      (req c = 0 ∨ 12 ≤ req c) ∧ (rsp c = 0 ∨ 12 ≤ rsp c) ∧ 12 ≤ cap c ∧ cap c ≤ (if req c + rsp c = 0 then 12 else req c + rsp c))))) :=
  ⟨⟨(Wit.up), (_), 0, (.rsv), (0x180030), (_), (_), (_), (_), (_), (_), rfl, rfl, rfl, rfl, rfl, rfl, rfl, by rfl, by decide⟩,
   ⟨(Wit.up), (_), 0, (.rsv), (0), (_), (_), (_), (_), (_), (_), rfl, rfl, rfl, rfl, rfl, rfl, rfl, by rfl, by decide⟩⟩

set_option maxRecDepth 100000 in
/-- The premises of ReductionsDoNotDependOnOrder are met, clause by clause. -/
theorem test_reductionsDoNotDependOnOrder_premises :
    (∃ _op : RedOp, ∃ sf : Nat, ∃ xs : List Nat, ∃ ys : List Nat, (sf ≤ 6) ∧ (xs.Perm ys) ∧ (xs.length ≤ 4096) ∧
      ((∀ x ∈ xs, x < 2 ^ (8 * fmtSize sf)))) :=
  ⟨.sum, 0, [], [], by decide, by rfl, by decide, by decide⟩

set_option maxRecDepth 100000 in
/-- The premises of ReductionsDoNotDependOnGrouping are met, clause by clause. -/
theorem test_reductionsDoNotDependOnGrouping_premises :
    (∃ _op : RedOp, ∃ sf : Nat, ∃ xs : List Nat, ∃ ys : List Nat, (sf ≤ 6) ∧ (xs.length + ys.length ≤ 4096) ∧
      ((∀ x ∈ xs ++ ys, x < 2 ^ (8 * fmtSize sf)))) :=
  ⟨.sum, 0, [], [], by decide, by decide, by decide⟩

set_option maxRecDepth 100000 in
/-- The premises of RequestsReadBack are met, clause by clause. -/
theorem test_requestsReadBack_premises :
    (∃ vc : Nat, ∃ c : RxCtx, ∃ r : Req, ∃ h : Slot, ∃ rest : List Slot, (vc < 2) ∧ (c.mode = 0) ∧ (r.origin = .port c.port) ∧ (r.src = c.peer) ∧
      (r.deadline = c.deadline) ∧ (r.keyless = none) ∧ (r.bad = false) ∧ (opndOk r.op r.opnd = true) ∧ ((r.op.masks = false → r.mask = 0)) ∧
      ((r.op = .capWr → r.mask ≠ 0)) ∧ (r.data.toNat < 2 ^ (128 * r.nData)) ∧ (r.wire vc c.own c.check = h :: rest)) :=
  ⟨0, (⟨0, 0, 5, 0, false, 0⟩), (Wit.req), (_), (_), by decide, rfl, rfl, rfl, rfl, rfl, rfl, rfl, by decide, by decide, by decide, rfl⟩

set_option maxRecDepth 100000 in
/-- The premises of MessagesReadBack are met, clause by clause. -/
theorem test_messagesReadBack_premises :
    (∃ c : RxCtx, ∃ vc : Nat, ∃ tc : BitVec 3, ∃ la : BitVec 42, ∃ h : Slot, ∃ rest : List Slot, (vc = 4 ∨ vc = 5) ∧ (c.mode = 0) ∧
      (Coh.wire vc (.biAck tc la) = h :: rest)) ∧
    (∃ c : RxCtx, ∃ vc : Nat, ∃ tc : BitVec 3, ∃ la : BitVec 42, ∃ keep : Bool, ∃ bad : Bool, ∃ d : Line, ∃ h : Slot, ∃ rest : List Slot,
      (vc = 4 ∨ vc = 5) ∧ (c.mode = 0) ∧ (Coh.wire vc (.wb tc la keep bad d) = h :: rest)) ∧
    (∃ c : RxCtx, ∃ vc : Nat, ∃ m : Hand, ∃ h : Slot, ∃ rest : List Slot, (vc = 6 ∨ vc = 7) ∧ (c.mode = 0) ∧ (m.op = .cancel ∨ m.status = .ok) ∧
      (m.wire vc = h :: rest)) ∧
    (∃ c : RxCtx, ∃ vc : Nat, ∃ m : TrayCmp, ∃ len : Option Nat, ∃ h : Slot, ∃ rest : List Slot, (vc = 2 ∨ vc = 3) ∧ (c.mode = 1) ∧
      (m.data.length ≤ 16) ∧ (m.data = [] ∨ len.getD m.data.length = m.data.length) ∧ ((m.status = .ok ∨ m.data = [] ∧
      (m.status = .poison ∨ m.status = .integrity ∨ m.status = .unmapped))) ∧ (m.wire vc = h :: rest)) ∧
    (∃ vc : Nat, ∃ m : TimeX, ∃ _stamp : BitVec 80, ∃ h : Slot, ∃ rest : List Slot, (vc = 6 ∨ vc = 7) ∧ (m.wire vc = h :: rest)) :=
  ⟨⟨(⟨0, 0, 5, 0, false, 0⟩), (4), 0, 0, (_), (_), by decide, rfl, rfl⟩,
   ⟨(⟨0, 0, 5, 0, false, 0⟩), (5), 0, 0, false, false, 0, (_), (_), by decide, rfl, rfl⟩,
   ⟨(⟨0, 0, 5, 0, false, 0⟩), (6), (Wit.hand), (_), (_), by decide, rfl, by decide, rfl⟩,
   ⟨(⟨0, 1, 5, 0, false, 0⟩), (2), (⟨0, .ok, 0, 0, 0, 0, 0, [0]⟩), none, (_), (_), by decide, by rfl, by decide, by decide, by decide, rfl⟩,
   ⟨(6), (Wit.timeX .req), 0, (_), (_), by decide, rfl⟩⟩

set_option maxRecDepth 100000 in
/-- The premises of TableEntriesReadBack are met, clause by clause. -/
theorem test_tableEntriesReadBack_premises :
    (∃ w : Nat → Nat, ∃ e : RtEntry, ∃ k : Nat, (RtEntry.ofWords w = some e) ∧ (k < 8)) ∧
    (∃ _w : Nat → Nat, ∃ k : Nat, (k < 4)) :=
  ⟨⟨(fun _ => 0), (_), 0, rfl, by decide⟩,
   ⟨(fun _ => 0), 0, by decide⟩⟩

set_option maxRecDepth 100000 in
/-- The premises of StackMapIsOneToOne are met, clause by clause. -/
theorem test_stackMapIsOneToOne_premises :
    (∃ _sel : Nat, ∃ a : Nat, (a < stackEnd)) ∧
    (∃ _sel : Nat, ∃ n : Nat, ∃ o : Nat, (n < 24) ∧ (o < baySize)) :=
  ⟨⟨0, 0, by decide⟩,
   ⟨0, 0, 0, by decide, by decide⟩⟩

set_option maxRecDepth 100000 in
/-- The premises of LinesReadBack are met, clause by clause. -/
theorem test_linesReadBack_premises :
    (∃ s : State, ∃ n : Nat, ∃ o : Nat, ∃ _kind : Nat, ∃ _l : Line, (n < 24) ∧ (o < baySize) ∧ (Memory.wf s.mem) ∧
      (SMap.wf (fun _ => []) s.upsets = true)) ∧
    (∃ s : State, ∃ n : Nat, ∃ o : Nat, ∃ _kind : Nat, ∃ _l : Line, ∃ errs : Syms, (n < 24) ∧ (o < baySize) ∧ (Memory.wf s.mem) ∧
      (SMap.wf (fun _ => []) s.upsets = true) ∧ (errs.eraseDups.length ≤ 1)) ∧
    (∃ s : State, ∃ n : Nat, ∃ o : Nat, ∃ _kind : Nat, ∃ _l : Line, ∃ _errs : Syms, ∃ _d : Line, (n < 24) ∧ (o < baySize) ∧ (Memory.wf s.mem) ∧
      (SMap.wf (fun _ => []) s.upsets = true)) ∧
    (∃ s : State, ∃ n : Nat, ∃ o : Nat, ∃ _kind : Nat, ∃ _l : Line, ∃ m : Nat, ∃ p : Nat, (n < 24) ∧ (o < baySize) ∧ (Memory.wf s.mem) ∧
      (SMap.wf (fun _ => []) s.upsets = true) ∧ (m < 24) ∧ (p < baySize) ∧ ((m ≠ n ∨ p / 64 ≠ o / 64))) :=
  ⟨⟨Wit.up, 0, 0, 0, 0, by decide, by decide, rfl, rfl⟩,
   ⟨Wit.up, 0, 0, 0, 0, [], by decide, by decide, by rfl, by rfl, by decide⟩,
   ⟨Wit.up, 0, 0, 0, 0, [], 0, by decide, by decide, rfl, rfl⟩,
   ⟨(Wit.home), 0, 0, 0, 0, (1), 0, by decide, by decide, by decide, by decide, by decide, by decide, Or.inl (by decide)⟩⟩

set_option maxRecDepth 100000 in
/-- The premises of HomeRequestsFrame are met, clause by clause. -/
theorem test_homeRequestsFrame_premises :
    (∃ s : State, ∃ n : BayId, ∃ r : Req, ∃ p : Pass, ∃ q : PortId, ∃ o : ReqOp, ∃ c : Instr, (s.homeReady n { r with op := o } p) ∧
      (Memory.wf s.mem) ∧ (r.origin = .port q) ∧ (q.val ≠ 288) ∧ (r.bad = false) ∧ (s.marred = []) ∧ ((o = .atom → (atomFields r.opnd).1 ≠ 1)) ∧
      (((o = .rd ∧ c = .rd r .clean) ∨ (o = .rdS ∧ c = .rdS r .clean) ∨ (o = .rdM ∧ c = .rdM r .clean) ∨ (o = .own ∧ c = .own r .clean) ∨ (o = .wr ∧
      c = .wr r .clean) ∨ (o = .wrP ∧ c = .wrP r .clean) ∨ (o = .capWr ∧ c = .capWrApply r .clean) ∨ (o = .atom ∧ c = .atom r .clean)))) :=
  ⟨(Wit.home), 0, (Wit.req), (⟨0, Wit.entry, 0⟩), (0), (.rd), (.rd Wit.req .clean), Wit.home_ready _, rfl, rfl, by decide, rfl, rfl,
    (by intro h; cases h), Or.inl ⟨rfl, rfl⟩⟩

set_option maxRecDepth 100000 in
/-- The premises of DirectoryFollowsRequests are met, clause by clause. -/
theorem test_directoryFollowsRequests_premises :
    (∃ x : Nat, ∃ e : Nat, ∃ op : ReqOp, (x < 289) ∧ (e < 2 ^ 16) ∧ (op = .rdM ∨ op = .own)) ∧
    (∃ x : Nat, ∃ e : Nat, (x < 289) ∧ (e < 2 ^ 16)) ∧
    (∃ x : Nat, ∃ e : Nat, ∃ y : Nat, (x < 289) ∧ (e < 2 ^ 16) ∧ (y < 289) ∧ (dirState e = 1) ∧ (sharesBy e (some y) = true)) ∧
    (∃ x : Nat, ∃ e : Nat, ∃ y : Nat, (x < 289) ∧ (e < 2 ^ 16) ∧ (y < 289) ∧ (sharesBy (dirAfter .rdS (some x) e) (some y) = true)) ∧
    (∃ x : Nat, ∃ e : Nat, ∃ op : ReqOp, (x < 289) ∧ (e < 2 ^ 16) ∧ (op = .wr ∨ op = .wrP ∨ op = .capWr ∨ op = .atom ∨ op = .rsU ∨ op = .rsD)) ∧
    (∃ x : Nat, ∃ e : Nat, (x < 289) ∧ (e < 2 ^ 16) ∧ (dirState e = 2) ∧ (dirOwner e < 289)) ∧
    (∃ x : Nat, ∃ e : Nat, ∃ s : State, ∃ _n : Nat, ∃ _d : Nat, (x < 289) ∧ (e < 2 ^ 16) ∧ (Memory.wf s.mem)) :=
  ⟨⟨0, 0, (.own), by decide, by decide, by decide⟩,
   ⟨0, 0, by decide, by decide⟩,
   ⟨0, (0x4001), (0), by decide, by decide, by decide, rfl, rfl⟩,
   ⟨0, 0, 0, by decide, by decide, by decide, rfl⟩,
   ⟨0, 0, (.wr), by decide, by decide, by decide⟩,
   ⟨0, (0x8000), by decide, by decide, rfl, by decide⟩,
   ⟨0, 0, Wit.up, 0, 0, by decide, by decide, rfl⟩⟩

set_option maxRecDepth 100000 in
/-- The premises of DeviceResets are met, clause by clause. -/
theorem test_deviceResets_premises :
    (∃ s : State, (s.held.contains .device = true)) ∧
    (∃ s : State, (s.held.contains .device = false)) :=
  ⟨⟨(State.reset), rfl⟩,
   ⟨Wit.up, rfl⟩⟩

end Sys2Proof.Machine
end

/-!
The state after reset (spec/00_scope.md R15): every store is empty and the device is held.
-/
namespace Sys2Proof.Proofs.AfterReset

open Sys2Proof Sys2Proof.Machine

/-- R15: where no register has been written, each shows its reset value. -/
theorem reg?_of_regs_empty {s : State} (h : s.regs = []) (pg : Nat) (r : RegSpec) (i bank : Nat) :
    s.reg? pg r i bank = BitVec.ofNat 64 r.reset := by
  rw [State.reg?, h, SMap.get]

/-- R457: while the device is held in reset, so is each of its units. -/
theorem isHeld_of_device {s : State} (h : s.held.contains .device = true) (u : ResetUnit) : s.isHeld u = true := by
  rw [State.isHeld, h, Bool.or_true]

theorem reset_holds_device : State.reset.held.contains .device = true := by
  simp [State.reset, heldAtReset]

/-- Settles O54: the stores of the reset state are empty, the device is held and with it every unit. -/
theorem resetState : Obligations.ResetState := by
  unfold Obligations.ResetState
  have held := isHeld_of_device reset_holds_device
  refine ⟨rfl, rfl, rfl, rfl, rfl, rfl, rfl, rfl, rfl, rfl, rfl, rfl, held _, fun n => held _, fun g => held _, ?_⟩
  exact reg?_of_regs_empty (s := State.reset) rfl

end Sys2Proof.Proofs.AfterReset

/-!
Reads of stored registers of 4 B that a read clears (spec/00_scope.md R14), by a master that has latched and staged nothing.
-/
namespace Sys2Proof.Proofs.ClearingReads

open Sys2Proof Sys2Proof.Machine Sys2Proof.Laws.State

/-! ### The pages that hold them -/

/-- R517, R524: the die, the class and the place of the page of a Bay's unit. -/
theorem pgBay_parts {c : Nat} (hu : c ≤ 0x17) (n : BayId) :
    pgBay c n.val / 1024 < 4 ∧ pgBay c n.val / 16 % 64 = c ∧ pgBay c n.val % 16 < 6 := by
  have hn := n.isLt
  simp only [pgBay, pageOf]
  omega

/-- R524: the pages of a Bay's units lie in the class that they are named by. -/
theorem pageClass_pgBay {c : Nat} (hu : c ≤ 0x17) (n : BayId) (hl : 0x10 ≤ c) : pageClass (pgBay c n.val) = c := by
  obtain ⟨hd, hc, -⟩ := pgBay_parts hu n
  simp only [pageClass, hd, hc]
  split_ifs <;> omega

/-- R524: a Span has six pages of each of these classes, one for each of its Bays. -/
theorem assigned_pgBay {c : Nat} (hu : c ≤ 0x17) (n : BayId) (hl : 0x10 ≤ c) : assigned (pgBay c n.val) = true := by
  obtain ⟨hd, hc, hi⟩ := pgBay_parts hu n
  have six : instancesOf (pgBay c n.val / 1024) c = 6 := by
    simp only [instancesOf, hd]
    split_ifs <;> omega
  rw [assigned, hc, six]
  exact decide_eq_true hi

theorem pageClass_pgSlice : ∀ k : Fin 5, pageClass (pgSlice k.val) = 0x01 := by decide

theorem assigned_pgSlice : ∀ k : Fin 5, assigned (pgSlice k.val) = true := by decide

/-! ### An access of a page that may be reached -/

/-- R39: a page that is assigned and answers may be reached at every offset. -/
theorem pageBlocked_of_open {s : State} {pg off : Nat} (ha : assigned pg = true) (hp : s.pageState pg = 0) (ho : off < 4096) :
    s.pageBlocked (pg * 4096 + off) = none := by
  have hpg : (pg * 4096 + off) / 4096 = pg := by omega
  simp [State.pageBlocked, hpg, ha, hp]

/-- R18: where nothing is latched or staged, an access discards nothing. -/
theorem touchPage_of_none {s : State} (hl : s.latches = []) (hs : s.staged = []) (m : Master) (pg off : Nat) (wide : Bool) :
    s.touchPage m pg off wide = s := by
  simp only [State.touchPage, hl, hs, List.filter_nil]
  rw [← hl, ← hs]

/-- R14: a read of 4 B at a register of 4 B gives what the register shows and clears what such a read clears. -/
theorem read4_of_narrow {s : State} (hl : s.latches = []) (hs : s.staged = []) {pg off i : Nat} {r : RegSpec}
    (hw : regWord pg off = some (r, i, false)) (hr : r.wide = false) (m : Master) :
    s.read4 m pg off = (BitVec.ofNat 32 (fld (s.view pg r i) 31 0), s.readClears pg r) := by
  simp only [State.read4, touchPage_of_none hl hs, hl, hw, hr, List.find?_nil]
  rfl

/-! ### The registers -/

/-- A register of 4 B of a Span class that a read clears, of which the store holds what it shows. -/
structure StoredRC (r : RegSpec) : Prop where
  span : r.cls < 0x100
  notPort : r.cls ≠ 0x08
  inPage : r.off < 4096
  clearing : r.acc = .rc
  narrow : r.wide = false
  unbanked : r.bank = 0
  listed : regTable.find? (fun q => (q.cls = 0x200 || q.cls = r.cls) && q.at r.off) = some r
  shown : ∀ (s : State) (pg : Nat), s.viewSpan pg r 0 = none

namespace StoredRC

variable {r : RegSpec} (h : StoredRC r) {pg : Nat} (hc : pageClass pg = r.cls)
include h hc

/-- R12: the register is found at its offset of a page of its class. -/
theorem regWord_eq : regWord pg r.off = some (r, 0, false) := by
  have hs := h.span
  have hat : regAt pg r.off = some r := by
    rw [← h.listed, regAt]
    simp only [RegSpec.onPage, hc]
  have hn : pageClass pg ≠ 0x103 := by omega
  simp [regWord, hn, hat]

/-- R14: the register shows what the store holds. -/
theorem view_eq (s : State) : s.view pg r 0 = s.rg pg r := by
  have hs := h.span
  have hp : pageClass pg ≠ 0x08 := hc ▸ h.notPort
  have hsum : r ≠ Reg.ErrSum.ERRSUM := by rintro rfl; exact absurd hs (by decide)
  have hadm : r ≠ Reg.Admit.ADMIT := by rintro rfl; exact absurd hs (by decide)
  have hhdr : r.cls ≠ 0x200 := by omega
  have hbank : s.regBank pg r = 0 := by simp [State.regBank, h.unbanked]
  simp [State.view, notThere, h.clearing, hp, hsum, hadm, hhdr, hs, h.shown, hbank, rg_eq]

omit hc in
/-- R14: what the read clears is in the store. -/
theorem readClears_eq (s : State) (pg : Nat) : s.readClears pg r = (clearedBy r).foldl (fun s q => s.setN pg q 0) s := by
  have hpop : r ≠ Reg.HReg.RET_POP := by rintro rfl; exact absurd h.span (by decide)
  have hstamp : r ≠ Reg.Pier.STAMP_INFO := by
    rintro rfl
    have hv : s.viewSpan pg Reg.Pier.STAMP_INFO 0 = some (s.stampInfo (unitIndex pg)) := rfl
    rw [h.shown] at hv
    cases hv
  rw [State.readClears, if_neg (not_not_intro h.clearing), if_neg hpop, if_neg hstamp]

/-- R14, R39: a read of the register on a page that answers gives its value, and the registers read with it then hold 0. -/
theorem rcRead_eq {s : State} (hl : s.latches = []) (hs : s.staged = []) (ha : assigned pg = true) (hp : s.pageState pg = 0) (m : Master) :
    s.rcRead m pg r = ((clearedBy r).foldl (fun s q => s.setN pg q 0) s).emit (.regRead m ((BitVec.ofNat 32 (fld (s.rg pg r) 31 0)).setWidth 64)) := by
  have ho := h.inPage
  have hpg : (pg * 4096 + r.off) / 4096 = pg := by omega
  have hoff : (pg * 4096 + r.off) % 4096 = r.off := by omega
  have hflash : pg ≠ pgHub 0x2E := by
    rintro rfl
    have hspan := h.span
    rw [← hc] at hspan
    exact absurd hspan (by decide)
  simp [State.rcRead, State.weftRead, pageBlocked_of_open ha hp ho, hpg, hoff, hflash, h.narrow,
    read4_of_narrow hl hs (h.regWord_eq hc) h.narrow, h.view_eq hc, h.readClears_eq]

omit hc in
/-- The same for a register of a Bay's units. -/
theorem rcRead_pgBay {s : State} (hb : 0x10 ≤ r.cls ∧ r.cls ≤ 0x17) (hl : s.latches = []) (hs : s.staged = []) (n : BayId)
    (hp : s.pageState (pgBay r.cls n.val) = 0) (m : Master) :
    s.rcRead m (pgBay r.cls n.val) r = ((clearedBy r).foldl (fun s q => s.setN (pgBay r.cls n.val) q 0) s).emit
      (.regRead m ((BitVec.ofNat 32 (fld (s.rg (pgBay r.cls n.val) r) 31 0)).setWidth 64)) :=
  h.rcRead_eq (pageClass_pgBay hb.2 n hb.1) hl hs (assigned_pgBay hb.2 n hb.1) hp m

end StoredRC

/-- The registers whose clearing reads are commands of their own, on the pages of the Bays' units and the Deck slices. -/
def faultInfos : List RegSpec :=
  [Reg.Home.FAULT_INFO, Reg.MC.UE_INFO, Reg.Loom.LOOM_FAULT_INFO, Reg.Hed.HED_FAULT_INFO, Reg.Sp.SP_FAULT_INFO,
   Reg.Codec.CODEC_FAULT_INFO, Reg.Slice.STUCK_INFO]

set_option maxRecDepth 4000 in
/-- R12: each is found by evaluating the search of the register tables, which is long for the later ones. -/
theorem storedRC_of_mem : ∀ r ∈ faultInfos, StoredRC r := by
  intro r hr
  fin_cases hr <;> exact ⟨by decide, by decide, by decide, rfl, rfl, rfl, rfl, fun _ _ => rfl⟩

/-- Settles O15: every one of the seven commands is a read of a stored register, on its unit's page. -/
theorem clearingReadsComplete : Obligations.ClearingReadsComplete := by
  unfold Obligations.ClearingReadsComplete
  intro s m hl hs
  have sealed {t u : State} (e : t = u) : (.next (s.seal t) : Host.Outcome State Fault Refusal) = .next (s.seal u) := by rw [e]
  have bay {r : RegSpec} (hr : r ∈ faultInfos) (hb : 0x10 ≤ r.cls ∧ r.cls ≤ 0x17) (n : BayId) (hp : s.pageState (pgBay r.cls n.val) = 0) :=
    sealed ((storedRC_of_mem r hr).rcRead_pgBay hb hl hs n hp m)
  refine ⟨?_, ?_, ?_, ?_, ?_, ?_, ?_⟩
  · exact bay (r := Reg.Home.FAULT_INFO) (by simp [faultInfos]) (by decide)
  · exact bay (r := Reg.MC.UE_INFO) (by simp [faultInfos]) (by decide)
  · exact bay (r := Reg.Loom.LOOM_FAULT_INFO) (by simp [faultInfos]) (by decide)
  · exact bay (r := Reg.Hed.HED_FAULT_INFO) (by simp [faultInfos]) (by decide)
  · exact bay (r := Reg.Sp.SP_FAULT_INFO) (by simp [faultInfos]) (by decide)
  · exact bay (r := Reg.Codec.CODEC_FAULT_INFO) (by simp [faultInfos]) (by decide)
  · intro k hp
    have stuck := storedRC_of_mem Reg.Slice.STUCK_INFO (by simp [faultInfos])
    exact sealed (stuck.rcRead_eq (pageClass_pgSlice k) hl hs (assigned_pgSlice k) hp m)

end Sys2Proof.Proofs.ClearingReads

/-!
Crossings and the wake governor (spec/01_warp_and_weft.md R40, R42, R43; R443-R445, R461).
-/
namespace Sys2Proof.Proofs.WakeCommands

open Sys2Proof Sys2Proof.Machine Sys2Proof.Laws.Calm

/-! ### Crossings -/

/-- R444: an item for an island that runs abandons an entry asked of it. -/
theorem crossingArrive_of_run {s : State} {i : Island} (h : s.islandState i = 0) (x : Nat) (m : Msg) : s.crossingArrive i x m = s.abandon i :=
  if_pos h

/-- R42, R43: an item for an island that sleeps is held, unless its crossing is full; the island asks for a wake either way. -/
theorem crossingArrive_of_sleep {s : State} {i : Island} (h : s.islandState i ≠ 0) (x : Nat) (m : Msg) :
    s.crossingArrive i x m = if s.crossingFull i then s.wake i
      else ({ s.takeFrom x m with crossing := s.crossing ++ [(i, s.itemFor i x m)] } : State).wake i :=
  if_neg h

/-- R43: an empty crossing delivers nothing. -/
theorem deliver_of_empty {s : State} (h : s.crossing = []) (i : Island) : s.deliver i = s := by
  simp only [State.deliver, h, List.filter_nil, List.map_nil, List.nil_append]
  rw [← h]

/-! ### The wake governor -/

/-- R461: a budget that covers the charge of the queue's head grants it, and pays that charge. -/
theorem wakeGrant_of_covered {s : State} {i : Island} {q : List Island} (hq : s.govQ = i :: q) (hb : s.charge i * perCentiAmp ≤ s.pwr.budget) :
    s.wakeGrant = ({ s with govQ := q, granted := s.granted ++ [i]
                            pwr := { s.pwr with budget := s.pwr.budget - s.charge i * perCentiAmp } } : State).bumpHub Reg.Pwr.WAKE_GRANT_CNT := by
  simp only [State.wakeGrant, hq, if_neg (Nat.not_lt.mpr hb)]

/-- R461: a budget below the charge of the queue's head grants nothing. -/
theorem wakeGrant_of_short {s : State} {i : Island} {q : List Island} (hq : s.govQ = i :: q) (hb : s.pwr.budget < s.charge i * perCentiAmp) :
    s.wakeGrant = s := by
  simp only [State.wakeGrant, hq, if_pos hb]

/-! ### Reaching Run -/

/-- R445: where no reset waits, an island that reaches Run takes none. -/
theorem runWaits_of_none {s : State} (h : s.rst.waits = []) (i : Island) : s.runWaits i = s := by
  have hr : ({ s.rst with waits := [] } : RstSt) = s.rst := by rw [← h]
  simp only [State.runWaits, h, List.filter_nil, List.foldl_nil, hr]

/-- R461: a granted group of Spindles for which nothing is held reaches Run. -/
theorem islandRun_spindles {s : State} {n : BayId} {g : Fin 8} (hg : s.granted = [.spindles n g]) (hc : s.crossing = []) (hw : s.rst.waits = []) :
    s.islandRun (.spindles n g) =
      { s with granted := [], islands := SMap.set (fun _ => 0) s.islands (100 + 8 * n.val + g.val) 0 } := by
  have runs : s.islandRuns (.spindles n g) =
      { s with granted := [], islands := SMap.set (fun _ => 0) s.islands (100 + 8 * n.val + g.val) 0 } := by
    simp only [State.islandRuns, hg, List.contains_cons, BEq.rfl, Bool.true_or, Bool.not_true, Bool.false_eq_true, if_false,
      List.erase_cons_head, Island.key]
    exact deliver_of_empty (by exact hc) _
  simp only [State.islandRun, runs, hg, List.contains_cons, BEq.rfl, Bool.true_or, Bool.not_true, Bool.false_eq_true, if_false]
  exact runWaits_of_none (by exact hw) _

/-- Settles O9: each command is one operation on the crossing, the governor's queue or the Weft root's error page, in the branch that its
premises name. -/
theorem wakeCommandsComplete : Obligations.WakeCommandsComplete := by
  unfold Obligations.WakeCommandsComplete
  have sealed {s t u : State} (e : t = u) : (.next (s.seal t) : Host.Outcome State Fault Refusal) = .next (s.seal u) := by rw [e]
  refine ⟨?_, ?_, ?_, ?_, ?_, ?_, ?_⟩
  · exact fun s i m h => sealed (crossingArrive_of_sleep h m.arr m)
  · exact fun s i m h => sealed (crossingArrive_of_run h m.arr m)
  · exact fun s i q hq hb => sealed (wakeGrant_of_covered hq hb)
  · exact fun s i q hq hb => sealed (wakeGrant_of_short hq hb)
  · intro s n g calm hg hc hw
    refine sealed ?_
    rw [islandRun_spindles hg hc hw]
    exact settle_of_calm _ (calm_congr calm rfl rfl rfl rfl rfl)
  · exact fun s m a => rfl
  · exact fun s m a => rfl

end Sys2Proof.Proofs.WakeCommands

/-!
The commands of a link and of its Pier (spec/05_piers_and_jargar_link.md R154-R157, R168-R176; R48).
-/
namespace Sys2Proof.Proofs.LinkCommands

open Sys2Proof Sys2Proof.Machine Sys2Proof.Laws.Calm

/-- A command whose effects agree ends in the same state, once what it set off is done. -/
theorem sealed_settle {s t u : State} (e : t = u) :
    (.next (s.seal t.settle) : Host.Outcome State Fault Refusal) = .next (s.seal u.settle) := by rw [e]

section

variable {s t u : State} {x : Nat}

/-! ### Registers of the Pier page -/

/-- R110, R154: PIER_CFG is written while every port of the Pier is down and no tray slot names one. -/
theorem pierCfgWrite_of_down {p : Nat} (h : ∀ x ∈ s.pierPorts p, (s.link x).state = .disabled) (ht : s.trayUses p = false) (v : Word) :
    s.pierCfgWrite p v = (s.writeReg (pgPier p) Reg.Pier.PIER_CFG 0 0 (BitVec.ofNat 64 v.toNat)).tryPier p := by
  have idle : (s.pierPorts p).all (fun x => (s.link x).state = .disabled || (s.link x).state = .fault) = true := by
    rw [List.all_eq_true]
    intro x hx
    simp [h x hx]
  simp [State.pierCfgWrite, idle, ht]

/-- R48: a margin test asked of a lane that exists goes to its shell. -/
theorem pierMargin_of_lane {p : Nat} {v : Word} (hs : bit v 4 = true) (hl : fld v 3 0 ≤ 8) :
    s.pierMargin p v = s.setLaneShell p (fld v 3 0) (shRequest (s.laneShell p (fld v 3 0)) 4).1 := by
  simp [State.pierMargin, hs, Nat.not_lt.mpr hl]

/-- R170: ADMIT_READY begins the training that the release sequence has left to it. -/
theorem admitReady_of_waiting (hl : (s.setHubF Reg.Admit.ADMIT_CTRL 0 0 1).latched = false)
    (hr : 6 ≤ fld ((s.setHubF Reg.Admit.ADMIT_CTRL 0 0 1).hub Reg.Rst.RST_STAT) 30 28) :
    s.admitReady true = (s.setHubF Reg.Admit.ADMIT_CTRL 0 0 1).beginTraining :=
  if_pos ⟨rfl, (by rw [hl]; decide : ¬(s.setHubF Reg.Admit.ADMIT_CTRL 0 0 1).latched = true), hr⟩

/-! ### Training (R169) -/

/-- A DISABLED port that may train enters DETECT. -/
theorem tryDetect_of_free (hd : (s.link x).state = .disabled) (he : s.portExists x = true)
    (hc : bit (s.rgi (pgPier (x / 4)) Reg.Pier.LINK_CTRL (x % 4)) 0 = false) (hs : s.shellsReady (x / 4) = true) (hl : s.latched = true)
    (hg : s.groupUp (x / 12) = true) (hh : s.isHeld (.pier (x / 4)) = false) : s.tryDetect x = s.detect x :=
  if_pos ⟨hd, he, by simp [hc], hs, hl, hg, by simp [hh]⟩

/-- LINK_DISABLE takes a port down that is up, and forgets all of its link but the signal. -/
theorem linkDisable_of_up (h : (s.link x).state ≠ .disabled)
    (ht : t = (s.setReg (pgPier (x / 4)) Reg.Pier.LINK_CTRL (x % 4) 0 1).linkTo x .disabled) :
    s.linkDisable x true = t.setLink x { Link.init with signal := (t.link x).signal } := by
  subst ht
  exact if_neg h

/-- Signal on every lane of a port in DETECT moves it on. -/
theorem signalPresent_of_detect (hw : SMap.wf (fun _ => Link.init) s.links = true) (h : (s.link x).state = .detect) :
    s.signalPresent x = (s.setLink x { s.link x with signal := true }).linkTo x .equalize := by
  have now : (s.setLink x { s.link x with signal := true }).link x = { s.link x with signal := true } := Laws.Store.get_set_same _ _ _ hw
  exact if_pos (by rw [now]; exact h)

/-- EQUALIZE with signal goes on to LOCK. -/
theorem equalizeDone_of_signal (h : (s.link x).state = .equalize) (hs : (s.link x).signal = true) :
    s.equalizeDone x = s.linkTo x .lock := by
  have on : s.retrainOn x = s := if_neg (by rw [h]; decide)
  simp [State.equalizeDone, on, h, hs]

/-- R156: LOCK ends with the END markers of every lane, deskewed, after 64 clean codewords. -/
theorem lockEnd_of_markers {ms : List (BitVec 120)} {k c : Nat} (h : (s.link x).state = .lock) (hm : areEndMarkers (s.lanesOf x) ms = true)
    (hk : k ≤ 20) (hc : 64 ≤ c)
    (ht : t = (((s.emit (.markers x (endMarkers (s.lanesOf x) (s.lockCount x)))).setLink x { s.link x with
      own := none, theirs := none, peer := none, rxPos := 0, cwBad := false, txBits := 0, txLen := 0 }).linkTo x .identify)) :
    s.lockEnd x ms k c = t.sendCtrl x (.identify (t.ownIdentify x)) := by
  subst ht
  exact if_pos ⟨h, hm, hk, hc⟩

/-- A state of training that has a time limit fails by it. -/
theorem linkTimeout_of_limited (h : (s.link x).state ∈ [LinkState.equalize, .lock, .identify, .securing]) :
    s.linkTimeout x = s.trainFail x := by
  simp only [List.mem_cons, List.not_mem_nil, or_false] at h
  rcases h with h | h | h | h <;> simp only [State.linkTimeout, h]

/-! ### Lanes (R157, R169, R176) -/

/-- The one lane lost is the port's own. -/
theorem lost_eq_of_onPort {k : Nat} (hp : s.onPort x k = true) : ([k].filter (fun k => s.onPort x k)).eraseDups = [k] := by
  simp only [List.filter_cons, hp, if_true, List.filter_nil]
  rfl

/-- R169: an ACTIVE port that loses the signal of one lane goes on without it. -/
theorem signalLost_of_active {k : Nat} (hk : k ≠ 8) (hp : s.onPort x k = true) (h : (s.link x).state = .active) :
    s.signalLost x [k] = s.laneFailed x k 2 := by
  simp [State.signalLost, lost_eq_of_onPort hp, Ne.symm hk, h]

/-- R169: a port in training that loses the signal of a lane starts over. -/
theorem signalLost_of_training {k : Nat} (hk : k ≠ 8) (hp : s.onPort x k = true)
    (h : (s.link x).state ∈ [LinkState.equalize, .lock, .identify]) :
    s.signalLost x [k] = (s.setLink x { s.link x with signal := false }).trainFail x := by
  simp only [List.mem_cons, List.not_mem_nil, or_false] at h
  rcases h with h | h | h <;> simp [State.signalLost, lost_eq_of_onPort hp, Ne.symm hk, h]

/-- R176: corrected symbols over the threshold fail a lane of an ACTIVE port that has not failed. -/
theorem laneOver_of_hot {k : Nat} (hp : s.onPort x k = true) (ha : (s.link x).state = .active) (hh : s.laneHot (x / 4) k = true)
    (hf : shState (s.laneShell (x / 4) k) ≠ 6) : s.laneOver x k = s.laneFailed x k 3 :=
  if_pos ⟨ha, hp, hh, hf⟩

/-! ### Link control messages (R166, R173) -/

/-- R173: what a port does with the link control message of a good flit. -/
def afterCtrl (t : State) (x : Nat) : Option LinkCtrl → State
  | none => t.bumpI (pgPier (x / 4)) Reg.Pier.PROTO_ERR_CNT (x % 4)
  | some (.identify i) => t.gotIdentify x i
  | some (.identifyAck r _) => t.gotAck x r
  | some (.keyShare d nonce pubkey sig) => t.gotShare x d nonce pubkey sig
  | some (.spareReq k _) => t.spareReq x k.toNat
  | some (.spareAck k _) => t.spareAck x k.toNat
  | some (.spareDone k _) => t.spareDone x k.toNat

/-- R166: a good unsequenced flit of the type looked for is used once the decoder has counted it. -/
theorem plainFlit_of_good {ftype : Nat} {f : Flit} (hl : (s.link x).state.live = true) (hg : (s.link x).takesFlit f = true)
    (ht : fld f.ctrl 63 60 = ftype) (hz : fld f.ctrl 59 48 = 0) (use : State → State) :
    s.plainFlit x ftype f use = use (s.countFec x f) := by
  simp [State.plainFlit, hl, hg, ht, hz]

/-- R166, R173: a good LINK_CTRL flit of a live link has its fields used, and then its message. -/
theorem ctrlFlit_of_hears {f : Flit} {c : Option LinkCtrl} (h : s.hears x f c) (ht : t = (s.countFec x f).plainCtrl x f) :
    s.ctrlFlit x f = afterCtrl t x c := by
  obtain ⟨hl, hg, hty, hz, rfl⟩ := h
  subst ht
  rw [State.ctrlFlit, plainFlit_of_good hl hg hty hz]
  cases readCtrl (bytesOfSlots f.slots) with
  | none => rfl
  | some c => cases c <;> rfl

/-- A command that brings such a flit ends as its message does. -/
theorem sealed_heard {v : State} {f : Flit} {c : Option LinkCtrl} (h : s.hears x f c) (ht : t = (s.countFec x f).plainCtrl x f)
    (e : afterCtrl t x c = v) :
    (.next (s.seal (s.ctrlFlit x f).settle) : Host.Outcome State Fault Refusal) = .next (s.seal v.settle) :=
  sealed_settle ((ctrlFlit_of_hears h ht).trans e)

/-- R171: IDENTIFY in IDENTIFY is judged, kept and answered. -/
theorem gotIdentify_of_identify (h : (s.link x).state = .identify) (i : Identify) :
    s.gotIdentify x i = ((s.setLink x { s.link x with peer := some i, own := some (s.identifyResult x i) }).sendCtrl x
      (.identifyAck (BitVec.ofNat 8 (s.identifyResult x i)) s.node)).identifyNext x :=
  if_neg (not_not_intro h)

/-- R171: an acknowledgement in IDENTIFY is kept. -/
theorem gotAck_of_identify (h : (s.link x).state = .identify) (r : BitVec 8) :
    s.gotAck x r = (s.setLink x { s.link x with theirs := some r.toNat }).identifyNext x :=
  if_neg (not_not_intro h)

/-- R171: before the peer's IDENTIFY has been judged, IDENTIFY alone is sent again. -/
theorem resendIdentify_of_unjudged (h : (s.link x).state = .identify) (ho : (s.link x).own = none) :
    s.resendIdentify x = s.sendCtrl x (.identify (s.ownIdentify x)) := by
  simp [State.resendIdentify, h, ho]

/-- R171: once it has been, the acknowledgement follows. -/
theorem resendIdentify_of_judged {a : Nat} (h : (s.link x).state = .identify) (ho : (s.link x).own = some a) :
    s.resendIdentify x = (s.sendCtrl x (.identify (s.ownIdentify x))).sendCtrl x
      (.identifyAck (BitVec.ofNat 8 a) (s.sendCtrl x (.identify (s.ownIdentify x))).node) := by
  simp [State.resendIdentify, h, ho]

/-- R174: a key share that the port awaits starts a session if it verifies, and otherwise fails the training. -/
theorem gotShare_of_awaited {d : NodeId} {nonce key sig : List Byte} {n : Nat} (h : (s.link x).state = .securing)
    (he : (s.link x).eph = some n) (ha : 3 ≤ (s.link x).auth) (hs : (s.link x).shared = false) (hu : u = s.linkRestart x) :
    s.gotShare x d nonce key sig = if s.shareOk x d nonce key sig then
      ((u.setLink x { u.link x with shared := true, keys := some (sessKeys s.node d (Config.ecdh n key) (Config.nonce n) nonce)
                                    egress := (s.link x).egress }).sendNew x (padTo 14 []) []).pump x
      else s.trainFail x := by
  subst hu
  cases hok : s.shareOk x d nonce key sig <;> simp [State.gotShare, h, he, Nat.not_lt.mpr ha, hs, hok]

/-- R174: a port that has authenticated its peer and has no share of it yet sends its own again. -/
theorem resendShare_of_awaiting (h : (s.link x).state = .securing) (ha : (s.link x).auth = 3) (hs : (s.link x).shared = false) :
    s.resendShare x = s.sendShare x :=
  if_pos ⟨h, ha, by simp [hs]⟩

/-! ### Replay (R168) -/

/-- A NAK whose time has passed is sent again. -/
theorem nakTimeout_of_late (ha : (s.link x).awaiting = true) (ht : (s.link x).state.takes = true)
    (hn : (s.link x).nakTime + s.replayTime x 7 0 100 ≤ s.now) : s.nakTimeout x = s.sendNak x :=
  if_pos ⟨ha, ht, hn⟩

/-- The oldest flit held starts replay over once it has waited its time. -/
theorem ackTimeout_of_late {f : TxFlit} {r : List TxFlit} (hr : (s.link x).replay = f :: r) (ht : (s.link x).state.takes = true)
    (hn : f.time + s.replayTime x 15 8 500 ≤ s.now) : s.ackTimeout x = s.replayFrom x f.seq ((f.seq + 4095) % 4096) := by
  simp only [State.ackTimeout, hr]
  exact if_pos ⟨ht, hn⟩

/-- An ACTIVE port without progress over flits held retrains. -/
theorem progressTimeout_of_active (hr : (s.link x).replay ≠ []) (hn : (s.link x).ackTime + s.replayTime x 23 16 1000 ≤ s.now)
    (ha : (s.link x).state = .active) : s.progressTimeout x = s.retrain x 7 := by
  have up : s.giveUp x 7 = s.retrain x 7 := by simp only [State.giveUp, ha]
  rw [← up]
  exact if_pos ⟨hr, hn⟩

/-! ### Sparing (R176) -/

/-- Step 2: a request while the transmitter's spare is free drives the lane on it, and is acknowledged. -/
theorem spareReq_of_free {k : Nat} (hu : u = s.loopYield (x / 4)) (h : (u.pier (x / 4)).spareTx = none) :
    s.spareReq x k = ((u.setPier (x / 4) { u.pier (x / 4) with spareTx := some k }).emit (.spare (x / 4) (some k))).sendCtrl x
      (.spareAck (BitVec.ofNat 8 k) (BitVec.ofNat 8 (x % 4))) := by
  subst hu
  exact if_pos (.inl (by rw [h]; rfl))

/-- Step 3: the acknowledgement of the sparing in progress switches the receiver to the spare. -/
theorem spareAck_of_sparing {k : Nat} (h : (s.pier (x / 4)).sparing = some (x, k))
    (hu : u = s.setPier (x / 4) { s.pier (x / 4) with sparing := none, spareRx := some k }) :
    s.spareAck x k = (((u.runLane (x / 4) 8 (u.link x).state.live).syncSpare (x / 4)).bump (pgPier (x / 4)) Reg.Pier.SPARE_CNT).sendCtrl x
      (.spareDone (BitVec.ofNat 8 k) (BitVec.ofNat 8 (x % 4))) := by
  subst hu
  exact if_pos h

/-- Step 4: the end of a sparing that SPARE_STAT does not show yet is counted there. -/
theorem spareDone_of_driven {k : Nat} (h : (s.pier (x / 4)).spareTx = some k)
    (hn : fld (s.rg (pgPier (x / 4)) Reg.Pier.SPARE_STAT) 7 4 ≠ k) :
    s.spareDone x k = (s.syncSpare (x / 4)).bump (pgPier (x / 4)) Reg.Pier.SPARE_CNT :=
  if_pos ⟨h, hn⟩

/-- The request of a sparing in progress is sent again. -/
theorem spareResend_of_sparing {p k : Nat} (h : (s.pier p).sparing = some (x, k)) :
    s.spareResend p = s.sendCtrl x (.spareReq (BitVec.ofNat 8 k) (BitVec.ofNat 8 (x % 4))) := by
  simp only [State.spareResend, h]

/-- A sparing without its acknowledgement is given up: the link trains again. -/
theorem spareTimeout_of_sparing {p k : Nat} (h : (s.pier p).sparing = some (x, k)) :
    s.spareTimeout p = (s.setPier p { s.pier p with sparing := none }).laneRetrain x := by
  simp only [State.spareTimeout, h]

end

/-- Settles O29: each command is one operation on the port's link or the Pier, in the branch that its premises name; the LINK_CTRL flits
first have their control fields used. -/
theorem linkCommandsComplete : Obligations.LinkCommandsComplete := by
  unfold Obligations.LinkCommandsComplete
  refine ⟨?_, ?_, ?_, ?_, ?_, ?_, ?_, ?_, ?_, ?_, ?_, ?_, ?_, ?_, ?_, ?_, ?_, ?_, ?_, ?_, ?_, ?_, ?_, ?_, ?_, ?_⟩
  · exact fun s p v ho hd ht => sealed_settle ((atPage_of_open s _ _ _ _ ho).trans (pierCfgWrite_of_down hd ht v))
  · exact fun s t p ho hu ht => sealed_settle ((atPage_of_open s _ _ _ _ ho).trans (linkDisable_of_up hu ht))
  · rintro s _ p ho rfl hd he hc hs hl hg hh
    exact sealed_settle ((atPage_of_open s _ _ _ _ ho).trans (tryDetect_of_free hd he hc hs hl hg hh))
  · exact fun s p hw h => sealed_settle (signalPresent_of_detect hw h)
  · exact fun s p h hs => sealed_settle (equalizeDone_of_signal h hs)
  · exact fun s t p ms k c h hm hk hc ht => sealed_settle (lockEnd_of_markers h hm hk hc ht)
  · exact fun s p k hk hp h => sealed_settle (signalLost_of_active hk hp h)
  · exact fun s p k hk hp h => sealed_settle (signalLost_of_training hk hp h)
  · exact fun s p k hp ha hh hf => sealed_settle (laneOver_of_hot hp ha hh hf)
  · exact fun s p h => sealed_settle (linkTimeout_of_limited h)
  · exact fun s t p f i h ht hi => sealed_heard h ht (gotIdentify_of_identify hi i)
  · exact fun s t p f r d h ht hi => sealed_heard h ht (gotAck_of_identify hi r)
  · exact fun s p h => ⟨fun ho => sealed_settle (resendIdentify_of_unjudged h ho), fun a ho => sealed_settle (resendIdentify_of_judged h ho)⟩
  · exact fun s t u p f d nonce key sig n h ht hsec he ha hs hu => sealed_heard h ht (gotShare_of_awaited hsec he ha hs hu)
  · exact fun s p h ha hs => sealed_settle (resendShare_of_awaiting h ha hs)
  · exact fun s p ha ht hn => sealed_settle (nakTimeout_of_late ha ht hn)
  · exact fun s p f r hr ht hn => sealed_settle (ackTimeout_of_late hr ht hn)
  · exact fun s p hr hn ha => sealed_settle (progressTimeout_of_active hr hn ha)
  · exact fun s t u p f k y h ht hu hf => sealed_heard h ht (spareReq_of_free hu hf)
  · exact fun s t u p f k y h ht hk hu => sealed_heard h ht (spareAck_of_sparing hk hu)
  · exact fun s t p f k y h ht hk hn => sealed_heard h ht (spareDone_of_driven hk hn)
  · exact fun s p x k h => sealed_settle (spareResend_of_sparing h)
  · exact fun s p x k h => sealed_settle (spareTimeout_of_sparing h)
  · intro s t p f h ht c hc
    simp only [List.mem_cons, List.not_mem_nil, or_false] at hc
    rcases hc with rfl | rfl | rfl | rfl | rfl | rfl <;> exact sealed_heard h ht rfl
  · intro s p v ho hs hl
    have e := (atPage_of_open s _ _ _ (fun s => s.pierMargin p.val v) ho).trans (pierMargin_of_lane hs hl)
    exact congrArg (fun t => (.next (s.seal t) : Host.Outcome State Fault Refusal)) e
  · rintro s _ rfl hl hr
    exact sealed_settle (admitReady_of_waiting hl hr)

end Sys2Proof.Proofs.LinkCommands

/-!
The invariant of the block (R49, R429): it holds at reset, and every step ends by sealing a state that has the Node ID of the one before.
-/
namespace Sys2Proof.Proofs.StepInvariant

open Sys2Proof Sys2Proof.Machine

/-- Settles O5: at reset Fabric Time and TIME_FLOOR are 0, and the Node ID is the fuses'. -/
theorem invariantAtReset : Obligations.InvariantAtReset := ⟨Nat.le_refl 0, rfl⟩

/-- Whatever a command did to the state t, sealing it restores the invariant where the state s before it had its Node ID (log entry 6). -/
theorem inv_seal {s : State} (h : s.node = Config.nodeId) (t : State) : (s.seal t).Inv := ⟨Nat.le_max_right _ _, h⟩

/-- Every command answers the seal of some state, by its own arm. -/
theorem exec_seals (c : Instr) (s : State) : ∃ t, exec c s = .next (s.seal t) := by
  cases c <;> exact ⟨_, rfl⟩

/-- A command keeps the invariant and the time. -/
theorem exec_inv {c : Instr} {s t : State} (h : s.node = Config.nodeId) (e : exec c s = .next t) : t.Inv ∧ s.now ≤ t.now := by
  obtain ⟨u, hu⟩ := exec_seals c s
  obtain rfl : s.seal u = t := Host.Outcome.next.inj (hu.symm.trans e)
  exact ⟨inv_seal h u, Nat.le_refl _⟩

/-- One ns that passes keeps the invariant, and time goes on. -/
theorem tick_inv {s : State} (h : s.node = Config.nodeId) : s.tick.Inv ∧ s.now ≤ s.tick.now := ⟨inv_seal h _, Nat.le_succ _⟩

/-- Settles O6: a step runs a command of the queue, one that the block set itself, or lets one ns pass; each ends with a seal. -/
theorem stepKeepsInvariant : Obligations.StepKeepsInvariant := by
  rintro s t ⟨-, hn⟩ e
  unfold step at e
  split at e
  next c q _ => exact exec_inv (s := { s with pending := q }) hn e
  next =>
    split at e
    next c q _ => exact exec_inv (s := { s with resume := q }) hn e
    next => exact Host.Outcome.next.inj e ▸ tick_inv hn

end Sys2Proof.Proofs.StepInvariant

/-!
The words of table entries (R54, R392): what eight words spell, field by field, and the masks of the fields that are not reserved (R16).
-/
namespace Sys2Proof.Proofs.TableWords

open Sys2Proof Sys2Proof.Machine

/-! ### Masks made of fields -/

theorem nfld_eq (v hi lo : Nat) : nfld v hi lo = v / 2 ^ lo % 2 ^ (hi + 1 - lo) := by rw [nfld, Nat.shiftRight_eq_div_pow]

/-- A mask whose topmost field is [hi:lo], over a mask m of what lies below it. -/
theorem and_field_add (v hi lo : Nat) {m : Nat} (hm : m < 2 ^ lo) :
    v &&& (2 ^ lo * (2 ^ (hi + 1 - lo) - 1) + m) = 2 ^ lo * nfld v hi lo + (v &&& m) := by
  have top : v &&& 2 ^ lo * (2 ^ (hi + 1 - lo) - 1) = 2 ^ lo * nfld v hi lo := by
    apply Nat.eq_of_testBit_eq
    intro i
    rw [Nat.testBit_and, Nat.testBit_two_pow_mul, Nat.testBit_two_pow_mul, Nat.testBit_two_pow_sub_one, nfld, Nat.testBit_mod_two_pow, Nat.testBit_shiftRight]
    by_cases h : lo ≤ i
    · simp [h, Nat.add_sub_cancel' h, Bool.and_comm]
    · simp [h]
  rw [Nat.two_pow_add_eq_or_of_lt hm, Nat.and_or_distrib_left, top, ← Nat.two_pow_add_eq_or_of_lt (Nat.lt_of_le_of_lt Nat.and_le_right hm)]

/-- The mask of the low bits. -/
theorem and_low (v hi : Nat) : v &&& (2 ^ (hi + 1) - 1) = nfld v hi 0 := by
  rw [Nat.and_two_pow_sub_one_eq_mod, nfld, Nat.shiftRight_zero, Nat.sub_zero]

/-! ### Region-table entries -/

/-- A word holds the code of a MODE just where it is no reserved encoding. -/
theorem exists_mode_code {k : Nat} (h : k < 3) : ∃ m : RegionMode, k = m.code := by
  match k, h with
  | 0, _ => exact ⟨.disabled, rfl⟩
  | 1, _ => exact ⟨.owned, rfl⟩
  | 2, _ => exact ⟨.shared, rfl⟩

theorem exists_tier_code {k : Nat} (h : k < 3) : ∃ t : Tier, k = t.code := by
  match k, h with
  | 0, _ => exact ⟨.stack, rfl⟩
  | 1, _ => exact ⟨.window, rfl⟩
  | 2, _ => exact ⟨.tray, rfl⟩

theorem exists_own_code {k : Nat} (h : k < 3) : ∃ o : OwnState, k = o.code := by
  match k, h with
  | 0, _ => exact ⟨.free, rfl⟩
  | 1, _ => exact ⟨.held, rfl⟩
  | 2, _ => exact ⟨.offered, rfl⟩

theorem mode_code_lt (m : RegionMode) : m.code < 3 := by cases m <;> decide
theorem tier_code_lt (t : Tier) : t.code < 3 := by cases t <;> decide
theorem own_code_lt (o : OwnState) : o.code < 3 := by cases o <;> decide

/-- The entry that words spell whose MODE, TIER and OWN_STATE are m, t and o. -/
def entryOf (w : Nat → Nat) (m : RegionMode) (t : Tier) (o : OwnState) : RtEntry :=
  { base := BitVec.ofNat 27 (w 0), limit := BitVec.ofNat 27 (w 1), key := BitVec.ofNat 32 (w 2), mode := m, tier := t
    comp := Fin.ofNat 256 (nfld (w 3) 15 8), owner := BitVec.ofNat 12 (nfld (w 3) 27 16), own := o
    peer := BitVec.ofNat 12 (nfld (w 4) 11 0), hseq := BitVec.ofNat 8 (nfld (w 4) 23 16) }

theorem ofWords_of_codes {w : Nat → Nat} {m : RegionMode} {t : Tier} {o : OwnState} (hm : nfld (w 3) 1 0 = m.code)
    (ht : nfld (w 3) 3 2 = t.code) (ho : nfld (w 3) 30 28 = o.code) : RtEntry.ofWords w = some (entryOf w m t o) := by
  unfold RtEntry.ofWords
  rw [hm, ht, ho]
  cases m <;> cases t <;> cases o <;> rfl

theorem ofWords_of_reserved {w : Nat → Nat} (h : 3 ≤ nfld (w 3) 1 0 ∨ 3 ≤ nfld (w 3) 3 2 ∨ 3 ≤ nfld (w 3) 30 28) :
    RtEntry.ofWords w = none := by
  unfold RtEntry.ofWords
  extract_lets mode tier own
  have hn : mode = none ∨ tier = none ∨ own = none := by
    refine h.imp (fun h => ?_) (Or.imp (fun h => ?_) fun h => ?_) <;> obtain ⟨k, hk⟩ := Nat.exists_eq_add_of_le' h
    · simp only [mode, hk]
    · simp only [tier, hk]
    · simp only [own, hk]
  clear_value mode tier own
  split
  next => simp at hn
  next => rfl

/-- R55: words spell an entry where no field of theirs holds a reserved encoding, and it is the one with their fields. -/
theorem ofWords_eq_some {w : Nat → Nat} {e : RtEntry} (h : RtEntry.ofWords w = some e) :
    nfld (w 3) 1 0 = e.mode.code ∧ nfld (w 3) 3 2 = e.tier.code ∧ nfld (w 3) 30 28 = e.own.code ∧ e = entryOf w e.mode e.tier e.own := by
  by_cases hr : 3 ≤ nfld (w 3) 1 0 ∨ 3 ≤ nfld (w 3) 3 2 ∨ 3 ≤ nfld (w 3) 30 28
  · rw [ofWords_of_reserved hr] at h
    cases h
  · simp only [not_or, Nat.not_le] at hr
    obtain ⟨m, hm⟩ := exists_mode_code hr.1
    obtain ⟨t, ht⟩ := exists_tier_code hr.2.1
    obtain ⟨o, ho⟩ := exists_own_code hr.2.2
    obtain rfl : entryOf w m t o = e := Option.some.inj ((ofWords_of_codes hm ht ho).symm.trans h)
    exact ⟨hm, ht, ho, rfl⟩

/-- Words spell no entry just where a field of theirs holds a reserved encoding. -/
theorem ofWords_eq_none_iff (w : Nat → Nat) :
    RtEntry.ofWords w = none ↔ 3 ≤ nfld (w 3) 1 0 ∨ 3 ≤ nfld (w 3) 3 2 ∨ 3 ≤ nfld (w 3) 30 28 := by
  refine ⟨fun h => ?_, ofWords_of_reserved⟩
  by_contra hr
  simp only [not_or, Nat.not_le] at hr
  obtain ⟨m, hm⟩ := exists_mode_code hr.1
  obtain ⟨t, ht⟩ := exists_tier_code hr.2.1
  obtain ⟨o, ho⟩ := exists_own_code hr.2.2
  rw [ofWords_of_codes hm ht ho] at h
  cases h

/-- R16: what the entry's words have of the words it was read from. -/
theorem words_entryOf {w : Nat → Nat} {m : RegionMode} {t : Tier} {o : OwnState} (hm : nfld (w 3) 1 0 = m.code)
    (ht : nfld (w 3) 3 2 = t.code) (ho : nfld (w 3) 30 28 = o.code) : ∀ k < 8, (entryOf w m t o).words.getD k 0 =
      w k &&& [0x07FFFFFF, 0x07FFFFFF, 0xFFFFFFFF, 0x7FFFFF0F, 0x00FF0FFF, 0, 0, 0].getD k 0
  | 0, _ => (and_low (w 0) 26).symm ▸ by simp [entryOf, RtEntry.words, nfld]
  | 1, _ => (and_low (w 1) 26).symm ▸ by simp [entryOf, RtEntry.words, nfld]
  | 2, _ => (and_low (w 2) 31).symm ▸ by simp [entryOf, RtEntry.words, nfld]
  | 3, _ => by
    have e : w 3 &&& 0x7FFFFF0F = 2 ^ 8 * nfld (w 3) 30 8 + nfld (w 3) 3 0 := by
      rw [← and_low (w 3) 3, ← and_field_add (w 3) 30 8 (by decide)]; rfl
    simp only [RtEntry.words, entryOf, ← hm, ← ht, ← ho, List.getD_cons_succ, List.getD_cons_zero, e, nfld_eq, Fin.ofNat, BitVec.toNat_ofNat]
    omega
  | 4, _ => by
    have e : w 4 &&& 0x00FF0FFF = 2 ^ 16 * nfld (w 4) 23 16 + nfld (w 4) 11 0 := by
      rw [← and_low (w 4) 11, ← and_field_add (w 4) 23 16 (by decide)]; rfl
    simp only [RtEntry.words, entryOf, List.getD_cons_succ, List.getD_cons_zero, e, nfld_eq, BitVec.toNat_ofNat]
    omega
  | 5, _ | 6, _ | 7, _ => (Nat.and_zero _).symm

/-- The words of an entry hold its fields, each below the next. -/
theorem ofWords_words (e : RtEntry) : RtEntry.ofWords (fun k => e.words.getD k 0) = some e := by
  obtain ⟨base, limit, key, mode, tier, comp, owner, own, peer, hseq⟩ := e
  have hm := mode_code_lt mode
  have ht := tier_code_lt tier
  have ho := own_code_lt own
  have hc := comp.isLt
  have hw := owner.isLt
  have hp := peer.isLt
  have hs := hseq.isLt
  rw [ofWords_of_codes (m := mode) (t := tier) (o := own)]
  · simp only [entryOf, RtEntry.words, List.getD_cons_succ, List.getD_cons_zero, nfld_eq, Option.some.injEq, RtEntry.mk.injEq,
      BitVec.ofNat_toNat, BitVec.setWidth_eq, BitVec.toNat_eq, BitVec.toNat_ofNat, Fin.ext_iff, Fin.ofNat, true_and]
    omega
  all_goals
    simp only [RtEntry.words, List.getD_cons_succ, List.getD_cons_zero, nfld_eq]
    omega

/-! ### Range-check entries -/

theorem testBit_eq_nfld (v i : Nat) : b2n (v.testBit i) = nfld v i i := by
  rw [nfld, Nat.testBit_eq_decide_div_mod_eq, b2n, Nat.shiftRight_eq_div_pow, Nat.add_sub_cancel_left]
  rcases Nat.mod_two_eq_zero_or_one (v / 2 ^ i) with h | h <;> simp [h]

theorem testBit_of_nfld {v i : Nat} {b : Bool} (h : nfld v i i = b2n b) : v.testBit i = b := by
  rw [← testBit_eq_nfld] at h
  revert h
  cases v.testBit i <;> cases b <;> simp [b2n]

theorem b2n_lt (b : Bool) : b2n b < 2 := by cases b <;> decide

theorem rctOfWords_words (e : RctEntry) : RctEntry.ofWords (fun k => e.words.getD k 0) = e := by
  obtain ⟨base, limit, en, readOnly, comp⟩ := e
  have he := b2n_lt en
  have hr := b2n_lt readOnly
  have hc := comp.isLt
  simp only [RctEntry.ofWords, RctEntry.words, List.getD_cons_succ, List.getD_cons_zero, RctEntry.mk.injEq, BitVec.ofNat_toNat,
    BitVec.setWidth_eq, true_and]
  refine ⟨testBit_of_nfld ?_, testBit_of_nfld ?_, Fin.ext ?_⟩ <;> simp only [nfld_eq, Fin.ofNat] <;> omega

theorem words_rctOfWords (w : Nat → Nat) : ∀ k < 4,
    (RctEntry.ofWords w).words.getD k 0 = w k &&& [0x07FFFFFF, 0x07FFFFFF, 0x0000FF03, 0].getD k 0
  | 0, _ => (and_low (w 0) 26).symm ▸ by simp [RctEntry.ofWords, RctEntry.words, nfld]
  | 1, _ => (and_low (w 1) 26).symm ▸ by simp [RctEntry.ofWords, RctEntry.words, nfld]
  | 2, _ => by
    have e : w 2 &&& 0x0000FF03 = 2 ^ 8 * nfld (w 2) 15 8 + nfld (w 2) 1 0 := by
      rw [← and_low (w 2) 1, ← and_field_add (w 2) 15 8 (by decide)]; rfl
    simp only [RctEntry.ofWords, RctEntry.words, List.getD_cons_succ, List.getD_cons_zero, e, testBit_eq_nfld, nfld_eq, Fin.ofNat]
    omega
  | 3, _ => (Nat.and_zero _).symm

/-- Settles O49: an entry is read from its words field by field, and its words have what the masks leave of the words it was read from. -/
theorem tableEntriesReadBack : Obligations.TableEntriesReadBack := by
  refine ⟨ofWords_words, fun w e h => ?_, fun w => ?_, rctOfWords_words, words_rctOfWords⟩
  · obtain ⟨hm, ht, ho, he⟩ := ofWords_eq_some h
    rw [he]
    exact words_entryOf hm ht ho
  · have hm : nfld (w 3) 1 0 < 4 := Nat.mod_lt _ (by decide)
    have ht : nfld (w 3) 3 2 < 4 := Nat.mod_lt _ (by decide)
    rw [ofWords_eq_none_iff]
    omega

end Sys2Proof.Proofs.TableWords

/-!
The map of the stack tier (R50, R52): an offset is a set of 24 pages, a page of it and a place in the page; the Bay of the page is its
number turned by the set's hash.
-/
namespace Sys2Proof.Proofs.StackMap

open Sys2Proof Sys2Proof.Machine

/-- The turn of a set of 24 pages. -/
def turn (sel set : Nat) : Nat := hash16 (hashPoly sel) 25 set 0 % 24

theorem turn_lt (sel set : Nat) : turn sel set < 24 := Nat.mod_lt _ (by decide)

theorem bayOf_eq (sel a : Nat) : bayOf sel a = (a / 4096 % 24 + turn sel (a / 4096 / 24)) % 24 := rfl

theorem stackAddr_eq (sel n o : Nat) : stackAddr sel n o = (24 * (o / 4096) + (n + 24 - turn sel (o / 4096)) % 24) * 4096 + o % 4096 := rfl

/-- The set of a place in a Bay's stack is the set of its offset. -/
theorem bayOff_set (a : Nat) : bayOff a / 4096 = a / 4096 / 24 := by unfold bayOff; omega

theorem stackAddr_set (sel n o : Nat) : stackAddr sel n o / 4096 / 24 = o / 4096 := by rw [stackAddr_eq]; omega

/-- Every offset of the tier has its Bay and its place there, and is found from them. -/
theorem stackAddr_bayOf_bayOff (sel : Nat) {a : Nat} (h : a < stackEnd) :
    bayOf sel a < 24 ∧ bayOff a < baySize ∧ stackAddr sel (bayOf sel a) (bayOff a) = a := by
  have ht := turn_lt sel (a / 4096 / 24)
  rw [stackAddr_eq, bayOff_set, bayOf_eq]
  generalize turn sel (a / 4096 / 24) = t at ht
  unfold bayOff baySize
  unfold stackEnd at h
  omega

/-- Every place of a Bay's stack has its offset in the tier, which leads back to it. -/
theorem bayOf_bayOff_stackAddr (sel : Nat) {n o : Nat} (hn : n < 24) (h : o < baySize) :
    stackAddr sel n o < stackEnd ∧ bayOf sel (stackAddr sel n o) = n ∧ bayOff (stackAddr sel n o) = o := by
  have ht := turn_lt sel (o / 4096)
  rw [bayOf_eq, stackAddr_set, bayOff, stackAddr_set, stackAddr_eq]
  generalize turn sel (o / 4096) = t at ht
  unfold stackEnd
  unfold baySize at h
  omega

/-- Settles O50: within a set the map is the rotation by its hash, which is undone by the rotation back. -/
theorem stackMapIsOneToOne : Obligations.StackMapIsOneToOne :=
  fun sel => ⟨fun _ h => stackAddr_bayOf_bayOff sel h, fun _ hn _ h => bayOf_bayOff_stackAddr sel hn h⟩

end Sys2Proof.Proofs.StackMap

/-!
Bytes, entries and lines of stack memory (R9, R68, R84, R89, R91): what is written reads back, and nothing else changes.
-/
namespace Sys2Proof.Proofs.StoredBytes

open Sys2Proof Sys2Proof.Machine Sys2Proof.Laws.Store

/-! ### Numbers as bytes -/

@[simp] theorem leBytes_length (n v : Nat) : (leBytes n v).length = n := by
  induction n generalizing v with
  | zero => rfl
  | succ n ih => rw [leBytes, List.length_cons, ih]

theorem leNat_leBytes (n v : Nat) : leNat (leBytes n v) = v % 256 ^ n := by
  induction n generalizing v with
  | zero => rw [pow_zero, Nat.mod_one]; rfl
  | succ n ih => rw [leBytes, leNat, ih, BitVec.toNat_ofNat, pow_succ' 256 n, Nat.mod_mul (x := v) (a := 256)]

@[simp] theorem lineBytes_length (l : Line) : (lineBytes l).length = 64 := leBytes_length 64 _

/-- A line is what its bytes spell. -/
theorem lineOfBytes_lineBytes (l : Line) : lineOfBytes (lineBytes l) = l := by
  apply BitVec.eq_of_toNat_eq
  rw [lineOfBytes, lineBytes, leNat_leBytes, BitVec.toNat_ofNat]
  have := l.isLt
  omega

/-! ### Bytes in memory -/

/-- Bytes written to canonical memory read back. -/
theorem readBytes_writeBytes {m : List Host.Cell} (hw : Memory.wf m) (k : Nat) (bs : List Byte) :
    readBytes (writeBytes m k bs) k bs.length = bs := by
  apply List.ext_getElem
  · simp [readBytes]
  · intro i _ hi
    simpa [readBytes] using get_writeBytes_at bs m k i hw hi

/-- A line that is put into canonical memory reads back. -/
theorem rawLine_putLine {s : State} (hw : Memory.wf s.mem) (n o : Nat) (l : Line) : (s.putLine n o l).rawLine n o = l := by
  have h := readBytes_writeBytes hw (memKey n o) (lineBytes l)
  rw [lineBytes_length] at h
  rw [State.rawLine, putLine_mem, h, lineOfBytes_lineBytes]

/-! ### Lines of the Bays -/

/-- The bytes of different lines lie apart. -/
theorem memKey_apart {n m o p : Nat} (ho : o < baySize) (hp : p < baySize) (h : m ≠ n ∨ p / 64 ≠ o / 64) :
    memKey m p < memKey n (o / 64 * 64) ∨ memKey n (o / 64 * 64) + 64 ≤ memKey m p := by
  unfold memKey
  unfold baySize at ho hp
  omega

/-- Different lines have different numbers. -/
theorem lineKey_ne {n m o p : Nat} (ho : o < baySize) (hp : p < baySize) (h : m ≠ n ∨ p / 64 ≠ o / 64) : lineKey m p ≠ lineKey n o := by
  unfold lineKey memKey
  unfold baySize at ho hp
  omega

/-- What a stored line changes. -/
@[simp] theorem storeLine_mem (s : State) (n o : Nat) (l : Line) :
    (s.storeLine n o l).mem = writeBytes s.mem (memKey n (o / 64 * 64)) (lineBytes l) := by
  simp only [State.storeLine, putLine_mem]

@[simp] theorem storeLine_poison (s : State) (n o : Nat) (l : Line) : (s.storeLine n o l).poison = NSet.erase (lineKey n o) s.poison := rfl

@[simp] theorem storeLine_upsets (s : State) (n o : Nat) (l : Line) :
    (s.storeLine n o l).upsets = SMap.set (fun _ => []) s.upsets (lineKey n o) [] := rfl

/-- What a poisoned line changes. -/
@[simp] theorem poisonLine_mem (s : State) (n o : Nat) :
    (s.poisonLine n o).mem = writeBytes s.mem (memKey n (o / 64 * 64)) (lineBytes 0) := by
  simp only [State.poisonLine, State.bump, (Laws.Kept.count _ _ _ _ _ _).mem, putLine_mem]

@[simp] theorem poisonLine_poison (s : State) (n o : Nat) : (s.poisonLine n o).poison = NSet.insert (lineKey n o) s.poison :=
  (Laws.Kept.count _ _ _ _ _ _).poison

@[simp] theorem poisonLine_upsets (s : State) (n o : Nat) :
    (s.poisonLine n o).upsets = SMap.set (fun _ => []) s.upsets (lineKey n o) [] := (Laws.Kept.count _ _ _ _ _ _).upsets

theorem poisoned_storeLine (s : State) (n o : Nat) (l : Line) (m p : Nat) :
    (s.storeLine n o l).poisoned m p = (decide (lineKey m p ≠ lineKey n o) && s.poisoned m p) := by
  rw [State.poisoned, storeLine_poison, has_erase, State.poisoned]

theorem poisoned_poisonLine (s : State) (n o m p : Nat) :
    (s.poisonLine n o).poisoned m p = (decide (lineKey m p = lineKey n o) || s.poisoned m p) := by
  rw [State.poisoned, poisonLine_poison, has_insert, State.poisoned]

theorem wf_storeLine {s : State} (hw : Memory.wf s.mem) (n o : Nat) (l : Line) : Memory.wf (s.storeLine n o l).mem := by
  rw [storeLine_mem]
  exact wf_writeBytes _ _ _ hw

theorem wf_poisonLine {s : State} (hw : Memory.wf s.mem) (n o : Nat) : Memory.wf (s.poisonLine n o).mem := by
  rw [poisonLine_mem]
  exact wf_writeBytes _ _ _ hw

/-- Storing a line leaves every byte of another line as it was. -/
theorem byte_storeLine_apart (s : State) {n m o p : Nat} (l : Line) (ho : o < baySize) (hp : p < baySize) (h : m ≠ n ∨ p / 64 ≠ o / 64) :
    (s.storeLine n o l).byte m p = s.byte m p := by
  rw [State.byte, storeLine_mem]
  exact get_writeBytes_outside _ _ _ _ (by simpa using memKey_apart ho hp h)

theorem byte_poisonLine_apart (s : State) {n m o p : Nat} (ho : o < baySize) (hp : p < baySize) (h : m ≠ n ∨ p / 64 ≠ o / 64) :
    (s.poisonLine n o).byte m p = s.byte m p := by
  rw [State.byte, poisonLine_mem]
  exact get_writeBytes_outside _ _ _ _ (by simpa using memKey_apart ho hp h)

theorem rawLine_storeLine {s : State} (hw : Memory.wf s.mem) (n o : Nat) (l : Line) : (s.storeLine n o l).rawLine n (o / 64 * 64) = l := by
  rw [State.rawLine, storeLine_mem, ← putLine_mem]
  exact rawLine_putLine hw n _ l

/-- R89: a clean line with no symbol in error reads as its data. -/
theorem readLine_of_clean {s : State} {n o : Nat} (hp : s.poisoned n o = false) (he : s.lineErrs n o [] = []) (kind : Nat) :
    s.readLine n o kind [] = (.data (s.rawLine n (o / 64 * 64)), s) := by
  simp [State.readLine, hp, he]

/-- R89: a poisoned line reads as poison with up to one symbol in error, and as uncorrectable with more. -/
theorem readLine_of_poisoned {s : State} {n o : Nat} (hp : s.poisoned n o = true) (kind : Nat) (errs : Syms) :
    (s.readLine n o kind errs).1 = if (s.lineErrs n o errs).length ≤ 1 then .poison else .bad := by
  simp only [State.readLine, hp, if_true, apply_ite Prod.fst]

/-- Settles O51: the line's bytes, its mark and its stored errors are each written once, at the line's own keys. -/
theorem linesReadBack : Obligations.LinesReadBack := by
  intro s n o kind l hn ho hw hu
  have poisoned : (s.poisonLine n o).poisoned n o = true := by simp [poisoned_poisonLine]
  have errs_poisoned (errs : Syms) : (s.poisonLine n o).lineErrs n o errs = errs.eraseDups := by
    rw [State.lineErrs, poisonLine_upsets, get_set_same _ _ _ hu, List.nil_append]
  refine ⟨?_, fun errs he => ?_, fun errs d => ?_, ?_, ?_, fun m hm p hp hne => ⟨?_, ?_, ?_, ?_⟩⟩
  · rw [readLine_of_clean (by simp [poisoned_storeLine])]
    · exact congrArg (fun d => (LineRead.data d, s.storeLine n o l)) (rawLine_storeLine hw n o l)
    · rw [State.lineErrs, storeLine_upsets, get_set_same _ _ _ hu]; rfl
  · rw [readLine_of_poisoned poisoned, errs_poisoned, if_pos he]
  · rw [readLine_of_poisoned poisoned]
    split <;> exact LineRead.noConfusion
  · exact wf_storeLine hw n o l
  · exact wf_poisonLine hw n o
  · exact byte_storeLine_apart s l ho hp hne
  · exact byte_poisonLine_apart s ho hp hne
  · simp [poisoned_storeLine, lineKey_ne ho hp hne]
  · simp [poisoned_poisonLine, lineKey_ne ho hp hne]

end Sys2Proof.Proofs.StoredBytes

namespace Sys2Proof.Proofs.DirectoryEntries

open Sys2Proof Sys2Proof.Machine Sys2Proof.Proofs.StoredBytes

/-! ### Entries (R68, R69) -/

theorem dirState_dirI : dirState dirI = 0 := by decide

theorem dirState_dirM (x : Nat) : dirState (dirM x) = 2 := by unfold dirState dirM; omega

theorem dirOwner_dirM {x : Nat} (h : x < 512) : dirOwner (dirM x) = x := by unfold dirOwner dirM; omega

theorem dirState_dirS (g : Nat) : dirState (dirS g) = 1 := by unfold dirState dirS; omega

theorem dirSharers_dirS (g : Nat) : dirSharers (dirS g) = g % 2 ^ 14 := by unfold dirSharers dirS; omega

/-- A logical port's group is one of the 14. -/
theorem group_lt {x : Nat} (h : x < 289) : x / 21 < 14 := by omega

/-- The groups that an entry in S lists are the ones it was made of. -/
theorem sharesBy_dirS (g : Nat) {y : Nat} (h : y < 289) : sharesBy (dirS g) (some y) = g.testBit (y / 21) := by
  rw [sharesBy, dirSharers_dirS, Nat.testBit_mod_two_pow, decide_eq_true (group_lt h), Bool.true_and]

/-- A group's bit is the group's alone. -/
theorem testBit_groupBit (x i : Nat) : (groupBit x).testBit i = decide (x / 21 = i) := Nat.testBit_two_pow

/-- R71: who shares a line after a RD_S: the requester's group, and those that shared it. -/
theorem sharesBy_rdS (x e : Nat) {y : Nat} (h : y < 289) : sharesBy (dirAfter .rdS (some x) e) (some y) =
    (decide (dirState e = 1) && sharesBy e (some y) || decide (x / 21 = y / 21)) := by
  rw [dirAfter, sharesBy_dirS _ h, Nat.testBit_or, testBit_groupBit, sharesBy]
  by_cases he : dirState e = 1
  · simp [he]
  · simp [he, dirSharers]

/-- An entry that was stored reads back. -/
theorem rawDir_putDir {s : State} (hw : Memory.wf s.mem) (n d : Nat) {e : Nat} (he : e < 2 ^ 16) : (s.putDir n d e).rawDir n d = e := by
  have h := readBytes_writeBytes hw (memKey n d) (leBytes 2 e)
  rw [leBytes_length] at h
  rw [State.rawDir, State.putDir, h, leNat_leBytes]
  exact Nat.mod_eq_of_lt he

/-- Settles O53: by the fields of the entries that dirAfter and recalled make. -/
theorem directoryFollowsRequests : Obligations.DirectoryFollowsRequests := by
  intro x e hx he
  refine ⟨?_, dirState_dirS _, ?_, ?_, ?_, ?_, dirState_dirI, ?_, fun s n d hw => rawDir_putDir hw n d he⟩
  · rintro op (rfl | rfl) <;> exact ⟨dirState_dirM x, dirOwner_dirM (by omega)⟩
  · simp [sharesBy_rdS x e hx]
  · intro y hy hs hshare
    simp [sharesBy_rdS x e hy, hs, hshare]
  · intro y hy h
    rw [sharesBy_rdS x e hy, Bool.or_eq_true, Bool.and_eq_true, decide_eq_true_eq, decide_eq_true_eq] at h
    exact h.symm.imp_left Eq.symm
  · rintro op (rfl | rfl | rfl | rfl | rfl | rfl) <;> exact dirState_dirI
  · intro hs ho
    rw [recalled, if_pos hs]
    exact ⟨dirState_dirS _, by simp [sharesBy_dirS _ ho, testBit_groupBit]⟩

end Sys2Proof.Proofs.DirectoryEntries

/-!
A request at a home that is ready (R61, R63, R71): it is taken at once, finds its row, is performed and answered.
-/
namespace Sys2Proof.Proofs.ReadyHome

open Sys2Proof Sys2Proof.Machine Sys2Proof.Laws Sys2Proof.Laws.Calm Sys2Proof.Proofs.StoredBytes
open Sys2Proof.Proofs.LinkCommands (sealed_settle)

section

variable {s : State} {n : BayId} {r : Req} {p : Pass}

/-! ### A line's row and its queued writes -/

/-- R92, R94: reaching a row changes nothing but the Bay's controller. -/
theorem touchRow_eq (s : State) (n o : Nat) : ∃ b, s.touchRow n o = { s with bays := b } := by
  unfold State.touchRow
  dsimp only
  split
  · exact ⟨s.bays, rfl⟩
  · exact ⟨_, rfl⟩

theorem issueWrites_eq (qs : List QWrite) (s : State) (n : Nat) : ∃ b, s.issueWrites n qs = { s with bays := b } := by
  unfold State.issueWrites
  induction qs generalizing s with
  | nil => exact ⟨s.bays, rfl⟩
  | cons q qs ih =>
    obtain ⟨b, hb⟩ := touchRow_eq (s.setBay n { s.bay n with wq := (s.bay n).wq.erase q }) n q.off
    rw [List.foldl_cons, hb]
    exact ih _

theorem readRow_eq (s : State) (n o : Nat) : ∃ b, s.readRow n o = { s with bays := b } := by
  obtain ⟨b, hb⟩ := issueWrites_eq ((s.bay n).wq.filter (fun q => q.off / 64 = o / 64)) s n
  rw [State.readRow, hb]
  exact touchRow_eq _ n o

theorem queueWrite_eq (s : State) (n o : Nat) (fill : Bool) : ∃ b, s.queueWrite n o fill = { s with bays := b } := by
  unfold State.queueWrite
  dsimp only
  split
  · exact ⟨_, rfl⟩
  · exact issueWrites_eq _ _ n

/-! ### The request's transaction -/

/-- The transaction of a request at its home. -/
def homeTxn (n : BayId) (r : Req) (p : Pass) : Txn :=
  { bay := n.val, line := lineOf r.addr, addr := r.addr, work := .req r, errs := .clean, ent := p.ent, idx := p.idx, await := [], kind := .inv
    active := false, answered := false }

/-- A stack line's number is that of a line of the Bay. -/
theorem lineOf_lt {a : Nat} (h : a < stackEnd) : lineOf a < baySize := by
  rw [lineOf, if_pos h]
  unfold bayOff baySize
  unfold stackEnd at h
  omega

theorem lineOf_line {a : Nat} (h : a < stackEnd) : lineOf a / 64 * 64 = lineOf a := by
  rw [lineOf, if_pos h]
  omega

theorem place_of_stack (s : State) {a : Nat} (h : a < stackEnd) : s.place a = .stack := by
  rw [State.place, placeOf, if_pos h]

/-- Where a home is ready, a request that comes to it goes in its tracker at once (R61, R85). -/
theorem reach_of_ready (h : s.homeReady n r p) (hm : r.op ≠ .mcWr) : s.reach r .clean = s.addTxn n.val r.addr (.req r) .clean p := by
  obtain ⟨-, hd, ha, hb, hu, hr, hl, hq, ht, hv, hc, -, -, -, -⟩ := h
  have hp := place_of_stack s ha
  have hi : s.islandState (.bay n) = 0 := by simpa [State.bayRuns, State.islandState, Island.key] using hr
  have hw : s.loomWaits n r = false := by simp [State.loomWaits, hl]
  have arrive : s.homeArrive r .clean = s.addTxn n.val r.addr (.req r) .clean p := by
    simp [State.homeArrive, hd, hb, hu, hr, hp, State.homeLoad, ht, State.takeReq, takeFrom_of_empty s _ _ hv, hc]
  rw [State.reach, State.arrive, outOfDeck_of_empty s _ _ _ hv, State.act, State.reached, mar_clean]
  cases r.origin <;> simp [hm, hd, hb, hp, hw, atBay_of_run s n _ _ _ hi hq, arrive]

/-- R63, R71: the transaction of a request on a line that no directory tracks and no poison mark names is performed as it starts. -/
theorem startTxn_of_owned {u : State} {t : Txn} (hw : t.work = .req r) (hc : t.coherent = false) (hp : u.poison = []) :
    u.startTxn t = (true, (u.dropTxn t).perform t dirI dirI) := by
  have hq : u.poisoned t.bay t.line = false := by simp [State.poisoned, NSet.has, hp]
  unfold State.startTxn
  simp [hc, hw, hq]

/-- A transaction that is the only one is not held up by another, a repair or a row transaction (R78, R101, R249). -/
theorem runLine_of_alone {u v : State} {t : Txn} (ht : u.txns = [t]) (ha : t.active = false) (hr : (u.bay t.bay).repairing = [])
    (ho : u.hed.ops = []) (hs : u.startTxn t = (true, v)) (hv : v.txns = []) : u.runLine t.bay t.line = v := by
  have busy : u.lineBusy t.bay t.line = false := by simp [State.lineBusy, ht, ha]
  have held : u.rowHeld t.bay t.line = false := by simp [State.rowHeld, hr]
  have next : u.nextTxn t.bay t.line = some t := by simp [State.nextTxn, ht, ha]
  have locks : u.rowLocks t = false := by simp [State.rowLocks, ho]
  have lock : u.lockRow t = u := by
    unfold State.lockRow
    split
    · split
      · simp [ho]
      · rfl
    · rfl
  have ended : State.pumpLine 1 t.bay t.line v = v := by simp [State.pumpLine, State.nextTxn, hv]
  rw [State.runLine, ht]
  unfold State.pumpLine
  simp [busy, held, next, locks, lock, hs, ended]

/-- Where a home is ready, a request that came is performed at once; its line is then free, unless its performing brings another
transaction. -/
theorem reach_eq_perform (h : s.homeReady n r p) (hm : r.op ≠ .mcWr) (hd : (s.perform (homeTxn n r p) dirI dirI).txns = []) :
    s.reach r .clean = s.perform (homeTxn n r p) dirI dirI := by
  rw [reach_of_ready h hm]
  obtain ⟨⟨-, -, ho, -⟩, -, -, -, -, -, -, -, ht, -, -, hown, hr, hp, -⟩ := h
  have hc : (homeTxn n r p).coherent = false := by simp [Txn.coherent, homeTxn, hown]
  have drop : ({ s with txns := [homeTxn n r p] } : State).dropTxn (homeTxn n r p) = s := by
    simp only [State.dropTxn, List.erase_cons_head, ← ht]
  have start := startTxn_of_owned (u := { s with txns := [homeTxn n r p] }) (r := r) rfl hc hp
  rw [drop] at start
  rw [State.addTxn, ht]
  exact runLine_of_alone (u := { s with txns := [homeTxn n r p] }) rfl rfl hr ho start hd

/-- A stack line in no directory: the request's access to the stack, and its answer. -/
theorem perform_eq (h : s.homeReady n r p) : s.perform (homeTxn n r p) dirI dirI =
    (s.stackAccess n.val (lineOf r.addr) (homeTxn n r p) r dirI).2.homeAnswer n.val r
      (s.stackAccess n.val (lineOf r.addr) (homeTxn n r p) r dirI).1.1
      (s.stackAccess n.val (lineOf r.addr) (homeTxn n r p) r dirI).1.2.1
      (s.stackAccess n.val (lineOf r.addr) (homeTxn n r p) r dirI).1.2.2.1
      (s.stackAccess n.val (lineOf r.addr) (homeTxn n r p) r dirI).1.2.2.2 := by
  obtain ⟨-, -, ha, -, -, -, -, -, -, -, -, hown, -, -, -⟩ := h
  have hc : (homeTxn n r p).coherent = false := by simp [Txn.coherent, homeTxn, hown]
  have hl : (homeTxn n r p).line < baySize := lineOf_lt ha
  unfold State.perform
  simp only [show (homeTxn n r p).work = .req r from rfl, show (homeTxn n r p).answered = false from rfl, hc, hl, if_true, Bool.false_eq_true,
    if_false]
  rfl

/-- What a request does at a ready home, once its access to the line is known. -/
theorem reach_eq_answer (h : s.homeReady n r p) (hm : r.op ≠ .mcWr) {st : Status} {g : Nat} {dw : Bool} {d : Option Line} {u : State}
    (ha : s.stackAccess n.val (lineOf r.addr) (homeTxn n r p) r dirI = ((st, g, dw, d), u)) (hu : u.txns = []) :
    s.reach r .clean = u.homeAnswer n.val r st g dw d := by
  have e := perform_eq h
  rw [ha] at e
  rw [reach_eq_perform h hm (by rw [e, homeAnswer_txns]; exact hu), e]

/-! ### The access to the line (R71, R84, R88, R231, R236, R242) -/

/-- No mark and no stored error is at a line of a ready home: it reads as its data, and reaching its row has not changed them. -/
theorem readLine_readRow (h : s.homeReady n r p) (kind : Nat) : (s.readRow n.val (lineOf r.addr)).readLine n.val (lineOf r.addr) kind [] =
    (.data (s.rawLine n.val (lineOf r.addr)), s.readRow n.val (lineOf r.addr)) := by
  obtain ⟨-, -, ha, -, -, -, -, -, -, -, -, -, -, hp, hu⟩ := h
  obtain ⟨b, hb⟩ := readRow_eq s n.val (lineOf r.addr)
  have read := readLine_of_clean (s := { s with bays := b }) (n := n.val) (o := lineOf r.addr)
    (by simp [State.poisoned, NSet.has, hp]) (by simp [State.lineErrs, hu, SMap.get]) kind
  rw [hb, read, lineOf_line ha]
  rfl

theorem stackAccess_read (h : s.homeReady n r p) (ho : r.op = .rd ∨ r.op = .rdS ∨ r.op = .rdM) :
    s.stackAccess n.val (lineOf r.addr) (homeTxn n r p) r dirI =
      ((.ok, grantOf r p.ent, false, some (s.rawLine n.val (lineOf r.addr))), s.readRow n.val (lineOf r.addr)) := by
  have read := readLine_readRow h 0
  unfold State.stackAccess
  rcases ho with ho | ho | ho <;> simp only [ho] <;> simp [homeTxn, Errs.clean, read]

theorem stackAccess_own (h : s.homeReady n r p) (ho : r.op = .own) :
    s.stackAccess n.val (lineOf r.addr) (homeTxn n r p) r dirI = ((.ok, grantOf r p.ent, false, none), s.readRow n.val (lineOf r.addr)) := by
  obtain ⟨-, -, -, -, -, -, -, -, -, -, -, hown, -, -, -⟩ := h
  unfold State.stackAccess
  simp only [ho]
  simp [homeTxn, hown]

theorem stackAccess_wr (n : BayId) (p : Pass) (ho : r.op = .wr) : s.stackAccess n.val (lineOf r.addr) (homeTxn n r p) r dirI =
    ((.ok, 0, false, none), if r.bad then (s.queueWrite n.val (lineOf r.addr) false).poisonLine n.val (lineOf r.addr)
      else (s.queueWrite n.val (lineOf r.addr) false).storeLine n.val (lineOf r.addr) r.data) := by
  unfold State.stackAccess
  simp only [ho]
  rfl

theorem stackAccess_merge (h : s.homeReady n r p) (ho : r.op = .wrP ∨ r.op = .capWr) :
    s.stackAccess n.val (lineOf r.addr) (homeTxn n r p) r dirI = ((.ok, 0, false, none), (s.readRow n.val (lineOf r.addr)).storeLine
      n.val (lineOf r.addr) (mergeLine (s.rawLine n.val (lineOf r.addr)) r.data r.mask)) := by
  have read := readLine_readRow h 1
  unfold State.stackAccess
  rcases ho with ho | ho <;> simp only [ho] <;> simp [homeTxn, Errs.clean, State.mergeIn, read]

theorem stackAccess_atom (h : s.homeReady n r p) (ho : r.op = .atom) (ha : (atomFields r.opnd).1 ≠ 1) :
    s.stackAccess n.val (lineOf r.addr) (homeTxn n r p) r dirI =
      ((.ok, 0, true, some (atomLine r (s.rawLine n.val (lineOf r.addr))).2),
       ((s.readRow n.val (lineOf r.addr)).storeLine n.val (lineOf r.addr) (atomLine r (s.rawLine n.val (lineOf r.addr))).1).bump
         (pgLoom n) Reg.Loom.ATOM_CNT) := by
  have read := readLine_readRow h 1
  unfold State.stackAccess
  simp only [ho]
  simp [homeTxn, Errs.clean, read, ha]

theorem stackAccess_rsD (n : BayId) (p : Pass) (ho : r.op = .rsD) : s.stackAccess n.val (lineOf r.addr) (homeTxn n r p) r dirI =
    ((((s.readRow n.val (lineOf r.addr)).redStore n.val r.addr (lineOf r.addr) r .none).1, 0, false, none),
     ((s.readRow n.val (lineOf r.addr)).redStore n.val r.addr (lineOf r.addr) r .none).2) := by
  unfold State.stackAccess
  simp only [ho]
  rfl

theorem stackAccess_rsU (h : s.homeReady n r p) (ho : r.op = .rsU) {op : RedOp} (hr : RedOp.ofCode (fld r.opnd 11 8) = some op) {u : Line × Nat}
    (hu : u = rsuLine op (fld r.opnd 15 12) (s.rawLine n.val (lineOf r.addr)) r.data) :
    s.stackAccess n.val (lineOf r.addr) (homeTxn n r p) r dirI = ((.nondeterministic, 0, false, none),
      (((s.readRow n.val (lineOf r.addr)).storeLine n.val (lineOf r.addr) u.1).saturated n.val u.2).bump (pgHome n) Reg.Home.UNDECL_RS_CNT) := by
  have read := readLine_readRow h 1
  unfold State.stackAccess
  simp only [ho]
  simp [homeTxn, Errs.clean, read, hr, hu]

/-! ### No access brings another transaction -/

theorem readRow_txns (h : s.homeReady n r p) (o : Nat) : (s.readRow n.val o).txns = [] := by
  obtain ⟨-, -, -, -, -, -, -, -, ht, -⟩ := h
  obtain ⟨b, hb⟩ := readRow_eq s n.val o
  rw [hb]
  exact ht

theorem queueWrite_txns (h : s.homeReady n r p) (o : Nat) : (s.queueWrite n.val o false).txns = [] := by
  obtain ⟨-, -, -, -, -, -, -, -, ht, -⟩ := h
  obtain ⟨b, hb⟩ := queueWrite_eq s n.val o false
  rw [hb]
  exact ht

theorem storeLine_readRow_txns (h : s.homeReady n r p) (o : Nat) (l : Line) : ((s.readRow n.val o).storeLine n.val o l).txns = [] :=
  (storeLine_txns _ _ _ _).trans (readRow_txns h o)

/-- R226: saturated elements are counted and reported. -/
theorem saturated_kept (s : State) (n k : Nat) : Kept s (s.saturated n k) :=
  Kept.ite (Kept.rfl' s) ((Kept.count _ _ _ _ _ _).trans (Kept.setErr _ _ _ _))

end

/-- Settles O24: at a ready home each request is its access to the line, and the answer that the access gives. -/
theorem homeRequestsComplete : Obligations.HomeRequestsComplete := by
  rintro s _ _ n r p _ rfl rfl rfl
  refine ⟨fun h => sealed_settle ?_, fun h => sealed_settle ?_, fun h => sealed_settle ?_, fun h => sealed_settle ?_, fun h => sealed_settle ?_,
    fun h => sealed_settle ?_, fun h => sealed_settle ?_, fun h ha => sealed_settle ?_, fun h ht => sealed_settle ?_,
    fun o u h ho hu => sealed_settle ?_⟩
  · exact reach_eq_answer h ReqOp.noConfusion (stackAccess_read h (.inl rfl)) (readRow_txns h _)
  · exact reach_eq_answer h ReqOp.noConfusion (stackAccess_read h (.inr (.inl rfl))) (readRow_txns h _)
  · exact reach_eq_answer h ReqOp.noConfusion (stackAccess_read h (.inr (.inr rfl))) (readRow_txns h _)
  · exact reach_eq_answer h ReqOp.noConfusion (stackAccess_own h rfl) (readRow_txns h _)
  · refine reach_eq_answer h ReqOp.noConfusion (stackAccess_wr n p rfl) ?_
    split
    · exact (poisonLine_txns _ _ _).trans (queueWrite_txns h _)
    · exact (storeLine_txns _ _ _ _).trans (queueWrite_txns h _)
  · exact reach_eq_answer h ReqOp.noConfusion (stackAccess_merge h (.inl rfl)) (storeLine_readRow_txns h _ _)
  · exact reach_eq_answer h ReqOp.noConfusion (stackAccess_merge h (.inr rfl)) (storeLine_readRow_txns h _ _)
  · exact reach_eq_answer h ReqOp.noConfusion (stackAccess_atom h rfl ha) ((Kept.count _ _ _ _ _ _).txns.trans (storeLine_readRow_txns h _ _))
  · exact reach_eq_answer h ReqOp.noConfusion (stackAccess_rsD n p rfl) ht
  · exact reach_eq_answer h ReqOp.noConfusion (stackAccess_rsU h rfl ho hu)
      ((Kept.count _ _ _ _ _ _).txns.trans ((saturated_kept _ _ _).txns.trans (storeLine_readRow_txns h _ _)))

end Sys2Proof.Proofs.ReadyHome

/-!
The frame of an answer that crosses the Deck (R77, R196, R524): beside the memory side (Laws/Kept.lean), what it leaves as it was of the
units and of the registers.
-/
namespace Sys2Proof.Proofs.DeckFrame

open Sys2Proof Sys2Proof.Machine Sys2Proof.Laws

/-! ### Registers of different pages -/

/-- Writing one key leaves every other key as it reads, whatever an unlisted key is taken to read as. -/
theorem get_set_of_ne {α : Type} [DecidableEq α] (d e : Nat → α) (m : SMap α) {k j : Nat} (v : α) (h : j ≠ k) :
    SMap.get d (SMap.set e m k v) j = SMap.get d m j := by
  induction m with
  | nil => simp only [SMap.set]; split <;> simp [SMap.get, h]
  | cons a r ih =>
    obtain ⟨k', v'⟩ := a
    simp only [SMap.set]
    split
    · split <;> simp [SMap.get, h]
    · split
      next hk => subst hk; split <;> simp [SMap.get, h]
      next => simp only [SMap.get, ih]

/-- R517: registers of different pages lie at different keys. -/
theorem regKey_ne {pg pg' off off' : Nat} (bank bank' : Nat) (hp : pg < 65536) (hp' : pg' < 65536) (ho : off < 4096) (ho' : off' < 4096)
    (h : pg ≠ pg') : regKey pg off bank ≠ regKey pg' off' bank' := by
  unfold regKey
  omega

/-! ### What stays beside the memory side -/

/-- The units, the host port and the table of compositions are as they were, every launch that waited still waits, and so are the registers
of every page outside P. -/
structure Beside (P : Nat → Prop) (s t : State) : Prop where
  comps : t.comps = s.comps
  tray : t.tray = s.tray
  ks : t.ks = s.ks
  islands : t.islands = s.islands
  held : t.held = s.held
  host : t.host = s.host
  marred : t.marred = s.marred
  units : t.sp.units = s.sp.units
  atRest : (∀ l ∈ s.sp.launches, l.atRest) → ∀ l ∈ t.sp.launches, l.atRest
  regs : ∀ (pg off bank : Nat) (d : Nat → DWord), pg < 65536 → off < 4096 → ¬P pg →
    SMap.get d t.regs (regKey pg off bank) = SMap.get d s.regs (regKey pg off bank)

namespace Beside

section

variable {P : Nat → Prop}

/-- An update that leaves the registers and each of these stores as it was. -/
theorem of_eq {s t : State} (hc : t.comps = s.comps := by rfl) (ht : t.tray = s.tray := by rfl) (hk : t.ks = s.ks := by rfl)
    (hi : t.islands = s.islands := by rfl) (hh : t.held = s.held := by rfl) (ho : t.host = s.host := by rfl)
    (hm : t.marred = s.marred := by rfl) (hs : t.sp = s.sp := by rfl) (hr : t.regs = s.regs := by rfl) : Beside P s t :=
  ⟨hc, ht, hk, hi, hh, ho, hm, by rw [hs], by rw [hs]; exact id, by rw [hr]; exact fun _ _ _ _ _ _ _ => rfl⟩

theorem setLink (s : State) (x : Nat) (l : Link) : Beside P s (s.setLink x l) := of_eq

theorem emit (s : State) (o : Output) : Beside P s (s.emit o) := of_eq

theorem trans {a b c : State} (h : Beside P a b) (k : Beside P b c) : Beside P a c :=
  ⟨k.comps.trans h.comps, k.tray.trans h.tray, k.ks.trans h.ks, k.islands.trans h.islands, k.held.trans h.held, k.host.trans h.host,
   k.marred.trans h.marred, k.units.trans h.units, fun r => k.atRest (h.atRest r),
   fun pg off bank d hp ho hn => (k.regs pg off bank d hp ho hn).trans (h.regs pg off bank d hp ho hn)⟩

/-- What leaves the registers outside P as they were leaves those outside a larger set so. -/
theorem mono {Q : Nat → Prop} {s t : State} (h : Beside P s t) (hPQ : ∀ pg, P pg → Q pg) : Beside Q s t :=
  ⟨h.comps, h.tray, h.ks, h.islands, h.held, h.host, h.marred, h.units, h.atRest,
   fun pg off bank d hp ho hn => h.regs pg off bank d hp ho (fun hP => hn (hPQ pg hP))⟩

theorem ite {c : Prop} [Decidable c] {s a b : State} (ha : Beside P s a) (hb : Beside P s b) : Beside P s (if c then a else b) := by
  split
  · exact ha
  · exact hb

theorem foldl {α : Type} (f : State → α → State) : ∀ (xs : List α) (s : State), (∀ s, ∀ x ∈ xs, Beside P s (f s x)) → Beside P s (xs.foldl f s)
  | [], _, _ => of_eq
  | x :: xs, s, h => (h s x List.mem_cons_self).trans (foldl f xs (f s x) fun s y hy => h s y (List.mem_cons_of_mem x hy))

/-- A write of a register of a page of P. -/
theorem setReg (s : State) {pg : Nat} {r : RegSpec} {i : Nat} (bank : Nat) (v : DWord) (hP : P pg) (hp : pg < 65536)
    (ho : r.off + r.stride * i < 4096) : Beside P s (s.setReg pg r i bank v) :=
  ⟨rfl, rfl, rfl, rfl, rfl, rfl, rfl, rfl, id, fun _ _ _ _ hp' ho' hn =>
    get_set_of_ne _ _ _ _ (regKey_ne _ _ hp' hp ho' ho fun e => hn (e ▸ hP))⟩

theorem count (s : State) {pg : Nat} {r : RegSpec} {i : Nat} (bank n : Nat) (hP : P pg) (hp : pg < 65536) (ho : r.off + r.stride * i < 4096) :
    Beside P s (s.count pg r i bank n) := by
  unfold State.count
  exact ite of_eq (setReg s bank _ hP hp ho)

end

/-! ### The pages of the Deck and the Piers (R524, R525) -/

/-- The pages of the Deck's ports, slices and sampler and of the Piers, and the one that counts the samples that are denied. -/
def deckPage (pg : Nat) : Prop := pageClass pg ∈ [0x01, 0x08, 0x09, 0x0C, 0x106] ∨ pg = pgOfHub Reg.KS.SAMPLE_DENY_CNT

/-- R524: the class of a Span's page; the second page class of the Piers counts as the first. -/
theorem pageClass_pageOf {d c i : Nat} (hd : d < 4) (hc : c < 0x18) (hi : i < 16) :
    pageClass (pageOf d c i) = (if c = 0x0D then 0x0C else c) ∧ pageOf d c i < 65536 := by
  have h1 : pageOf d c i / 1024 = d := by unfold pageOf; omega
  have h2 : pageOf d c i / 16 % 64 = c := by unfold pageOf; omega
  refine ⟨?_, by unfold pageOf; omega⟩
  simp only [pageClass, h1, h2, if_pos hd, if_neg (Nat.not_le.mpr hc)]

/-- A Span's page of one of these classes is one of them. -/
theorem deckPage_pageOf {d c i : Nat} (hd : d < 4) (hi : i < 16) (hc : c ∈ [0x01, 0x08, 0x09, 0x0C, 0x0D]) :
    deckPage (pageOf d c i) ∧ pageOf d c i < 65536 := by
  simp only [List.mem_cons, List.not_mem_nil, or_false] at hc
  obtain ⟨hp, hl⟩ := pageClass_pageOf (c := c) hd (by omega) hi
  refine ⟨.inl ?_, hl⟩
  rw [hp]
  rcases hc with rfl | rfl | rfl | rfl | rfl <;> decide

theorem pgSlice_deck (k : Nat) : deckPage (pgSlice k) ∧ pgSlice k < 65536 := by
  unfold pgSlice
  split
  next h => exact deckPage_pageOf h (by decide) (by decide)
  next => exact ⟨.inl (by decide), by decide⟩

theorem pgPort_deck (i : Nat) : deckPage (pgPort i) ∧ pgPort i < 65536 := by
  unfold pgPort
  split_ifs
  · exact deckPage_pageOf (by omega) (by omega) (by decide)
  · exact deckPage_pageOf (by omega) (by omega) (by decide)
  · exact deckPage_pageOf (by omega) (by omega) (by decide)
  · exact ⟨.inl (by decide), by decide⟩

theorem pgPier_deck {p : Nat} (h : p < 72) : deckPage (pgPier p) ∧ pgPier p < 65536 := by
  unfold pgPier
  split_ifs
  · exact deckPage_pageOf (by omega) (by omega) (by decide)
  · exact deckPage_pageOf (by omega) (by omega) (by decide)

theorem sampler_deck : deckPage (pgHub 0x06) ∧ pgHub 0x06 < 65536 := ⟨.inl (by decide), by decide⟩

/-! ### Counters of those pages -/

theorem countSlice (s : State) (k n : Nat) {r : RegSpec} (ho : r.off + r.stride * 0 < 4096) :
    Beside deckPage s (s.count (pgSlice k) r 0 0 n) := count s 0 n (pgSlice_deck k).1 (pgSlice_deck k).2 ho

theorem countPort (s : State) (k i n : Nat) {r : RegSpec} (ho : r.off + r.stride * i < 4096) :
    Beside deckPage s (s.count (pgPort k) r i 0 n) := count s 0 n (pgPort_deck k).1 (pgPort_deck k).2 ho

theorem countPier (s : State) {p : Nat} (hp : p < 72) (i n : Nat) {r : RegSpec} (ho : r.off + r.stride * i < 4096) :
    Beside deckPage s (s.count (pgPier p) r i 0 n) := count s 0 n (pgPier_deck hp).1 (pgPier_deck hp).2 ho

theorem countSampler (s : State) {r : RegSpec} (hr : r.cls = 0x106) (ho : r.off + r.stride * 0 < 4096) : Beside deckPage s (s.bumpHub r) := by
  have h := sampler_deck
  rw [State.bumpHub, pgOfHub, hr]
  exact count s 0 1 h.1 h.2 ho

theorem setSampler (s : State) {r : RegSpec} (v : DWord) (hr : r.cls = 0x106) (ho : r.off + r.stride * 0 < 4096) :
    Beside deckPage s (s.setHub r v) := by
  have h := sampler_deck
  rw [State.setHub, pgOfHub, hr]
  exact setReg s 0 v h.1 h.2 ho

/-! ### A message's way through the Deck to its link -/

section

variable {x : Nat}

theorem sendBits (s : State) (x : Nat) (bs : List Byte) : Beside deckPage s (s.sendBits x bs) := by
  unfold State.sendBits
  dsimp only
  exact ite of_eq of_eq

theorem sendFlit (s : State) (hx : x < 288) (ftype seq : Nat) (ss : List Slot) : Beside deckPage s (s.sendFlit x ftype seq ss) := by
  unfold State.sendFlit
  dsimp only
  have flits (u : State) : Beside deckPage u (u.bumpI (pgPier (x / 4)) Reg.Pier.TX_FLIT_CNT (x % 4)) :=
    countPier u (by omega) (x % 4) 1 (show 0x800 + 64 * (x % 4) < 4096 by omega)
  exact ((setLink s x _).trans (ite (flits _) of_eq)).trans ((emit _ _).trans (sendBits _ x _))

theorem stampTx (s : State) (hx : x < 288) (m : Msg) : Beside deckPage s (s.stampTx x m) := by
  unfold State.stampTx
  split
  · exact ite (countPier s (by omega) 0 1 (by decide)) of_eq
  · exact of_eq

theorem leaves (s : State) (hx : x < 288) (m : Msg) : Beside deckPage s (s.leaves x m) := by
  unfold State.leaves
  split
  · exact of_eq
  · exact (stampTx s hx _).trans of_eq

theorem sendNew (s : State) (hx : x < 288) (ss : List Slot) (mc : List Nat) : Beside deckPage s (s.sendNew x ss mc) := by
  unfold State.sendNew
  exact (setLink s x _).trans (sendFlit _ hx _ _ _)

theorem sendSlots (s : State) (hx : x < 288) (ss : List Slot) (ends : List (Nat × Nat)) : Beside deckPage s (s.sendSlots x ss ends) := by
  unfold State.sendSlots
  exact foldl _ _ s fun u _ _ => sendNew u hx _ _

theorem pumpItems (hx : x < 288) : ∀ (es : List Egress) (bl : List (Nat × Nat)) (ss : List Slot) (ends : List (Nat × Nat)) (s : State),
    Beside deckPage s (State.pumpItems x es bl ss ends s)
  | [], _, ss, ends, s => by
    unfold State.pumpItems
    exact ite of_eq (sendSlots s hx ss ends)
  | e :: es, bl, ss, ends, s => by
    unfold State.pumpItems
    dsimp only
    refine ite (.trans (b := s.transmit x e) ((setLink s x _).trans (leaves _ hx _)) (pumpItems hx es _ _ _ _)) ?_
    exact (setLink s x _).trans (pumpItems hx es _ _ _ _)

theorem pump (s : State) (hx : x < 288) : Beside deckPage s (s.pump x) := (setLink s x _).trans (pumpItems hx _ _ _ _ _)

/-- R123: a message that has crossed is put in the egress queue of a link. -/
theorem toEgress (s : State) (hx : x < 288) (cells : Nat) (m : Msg) (mc : Option Nat) : Beside deckPage s (s.toEgress x cells m mc) := by
  unfold State.toEgress
  rw [if_neg (by omega)]
  exact (setLink s x _).trans (pump _ hx)

end

theorem crossed (s : State) (v : VoqItem) (n k : Nat) : Beside deckPage s (s.crossed v n k) := by
  unfold State.crossed
  dsimp only
  have cells : Beside deckPage s (((s.cellPath v.inp v.out).getD []).foldl (fun s sl => s.addN (pgSlice sl) Reg.Slice.CELL_CNT n) s) :=
    foldl _ _ s fun u sl _ => countSlice u sl n (by decide)
  exact (cells.trans (ite (countSlice _ _ _ (r := Reg.Slice.DETOUR_CELL_CNT) (by decide)) of_eq)).trans (ite of_eq of_eq)

theorem sampleLost (s : State) : Beside deckPage s s.sampleLost :=
  (of_eq (t := { s with sampler := { s.sampler with lost := s.sampler.lost + 1 } })).trans (countSampler _ rfl (by decide))

/-- R145: a record is written in the ring. -/
theorem record (s : State) (off : Nat) (bs : List Byte) (d : Sampler) : Beside deckPage s { s.traceWrite off bs with sampler := d } := of_eq

theorem samplePut (s : State) (v : VoqItem) (colour : Nat) : Beside deckPage s (s.samplePut v colour) := by
  unfold State.samplePut
  dsimp only
  refine ite (sampleLost s) ?_
  exact (((ite (setSampler s _ rfl (by decide)) of_eq).trans (record _ _ _ _)).trans (setSampler _ _ rfl (by decide))).trans
    (countSampler _ rfl (by decide))

theorem nextGap (s : State) (i : Nat) (v : DWord) : Beside deckPage s (s.nextGap i v).2 := by
  unfold State.nextGap
  dsimp only
  split <;> exact of_eq

theorem laneTake (s : State) (sl : Nat) : Beside deckPage s (s.laneTake sl).2 := by
  unfold State.laneTake
  dsimp only
  split <;> exact of_eq

/-- R143: the samples that are denied are counted on a page of Keystone. -/
theorem sampleDenied (s : State) : Beside deckPage s (s.bumpHub Reg.KS.SAMPLE_DENY_CNT) := count s 0 1 (.inr rfl) (by decide) (by decide)

theorem sampleTake (s : State) (v : VoqItem) : Beside deckPage s (s.sampleTake v) := by
  unfold State.sampleTake
  dsimp only
  refine ite of_eq (ite of_eq ?_)
  have gap := (nextGap s v.inp (s.rgi (pgPort v.inp) Reg.Port.SAMPLE_CFG v.tc)).trans
    (of_eq (t := (s.nextGap v.inp (s.rgi (pgPort v.inp) Reg.Port.SAMPLE_CFG v.tc)).2.setGap v.inp v.tc
      (s.nextGap v.inp (s.rgi (pgPort v.inp) Reg.Port.SAMPLE_CFG v.tc)).1))
  generalize State.setGap _ _ _ _ = u at gap ⊢
  refine gap.trans (ite ?_ (sampleDenied u))
  have taken : Beside deckPage u ((u.bump (pgPort v.inp) Reg.Port.SAMPLE_TAKEN_CNT).laneTake (sliceOfPort v.inp)).2 :=
    (countPort u v.inp 0 1 (r := Reg.Port.SAMPLE_TAKEN_CNT) (by decide)).trans (laneTake _ _)
  split
  next w e => rw [e] at taken; exact taken.trans (samplePut w v _)
  next w e => rw [e] at taken; exact taken.trans (sampleLost w)

theorem admitAt (s : State) (i n : Nat) {tc : Nat} (h : tc < 8) : Beside deckPage s (s.admitAt i tc n) :=
  ite of_eq ((countPort s i tc 1 (show 0x800 + 8 * tc < 4096 by omega)).trans (countPort _ i tc _ (show 0x840 + 8 * tc < 4096 by omega)))

theorem entered (s : State) (v : VoqItem) (h : v.tc < 8) : Beside deckPage s (s.entered v) := (admitAt s _ _ h).trans (sampleTake _ v)

theorem pushVoq (s : State) (v : VoqItem) (h : v.tc < 8) : Beside deckPage s (s.pushVoq v) := by
  unfold State.pushVoq
  dsimp only
  exact ite ((of_eq (t := { s with voqs := _ })).trans (entered _ _ h)) of_eq

/-- There are eight traffic classes. -/
theorem msg_tc_lt (m : Msg) : m.tc < 8 := by
  cases m <;> exact BitVec.isLt _

theorem sendPart (s : State) (i : Nat) {x : Nat} (hx : x < 288) (m : Msg) (mc : Option Nat) : Beside deckPage s (s.sendPart i x m mc) := by
  unfold State.sendPart
  dsimp only
  exact ite (pushVoq s _ (msg_tc_lt m)) (((entered s _ (msg_tc_lt m)).trans (crossed _ _ _ _)).trans (toEgress _ hx _ _ _))

/-- Sending a message from an input of the Deck to a link. -/
theorem sendFrom (s : State) (i : Nat) {x : Nat} (hx : x < 288) (m : Msg) : Beside deckPage s (s.sendFrom i x m) := by
  unfold State.sendFrom State.sendVia
  refine ite of_eq (ite (sendPart s i hx m none) ?_)
  exact foldl _ _ s fun u p _ => sendPart u i hx p none

/-- R79: a request's end is noted for what waits for it: the launches that wait go on waiting for their commands. -/
theorem markCap (s : State) (p : Nat) (r : Req) (st : Status) : Beside deckPage s (s.markCap p r st) := by
  unfold State.markCap
  refine ite ⟨rfl, rfl, rfl, rfl, rfl, rfl, rfl, rfl, fun h l hl => ?_, fun _ _ _ _ _ _ _ => rfl⟩ of_eq
  obtain ⟨k, hk, rfl⟩ := List.mem_map.mp hl
  exact h k hk

/-- R196: a port's request is answered, and no error stands to meet the completion on its way. -/
theorem answerPort (s : State) (i : Nat) (r : Req) (st : Status) (grant : Nat) (dw : Bool) (data : Option Line) {q : PortId}
    (hr : r.origin = .port q) (hq : q.val ≠ 288) (hm : s.marred = []) : Beside deckPage s (s.answerAt i r st grant dw data) := by
  have marked := markCap s q.val r st
  unfold State.answerAt
  rw [hr]
  dsimp only
  rw [State.complete, marked.marred, hm]
  exact marked.trans (sendFrom _ i (by omega) _)

end Beside

end Sys2Proof.Proofs.DeckFrame

/-!
The frame of a request at a ready home (R63, R71, R84): what its access to the line, and then its answer, leave as they were.
-/
namespace Sys2Proof.Proofs.HomeFrame

open Sys2Proof Sys2Proof.Machine Sys2Proof.Laws Sys2Proof.Laws.Calm Sys2Proof.Proofs.StoredBytes Sys2Proof.Proofs.ReadyHome
open Sys2Proof.Proofs.DeckFrame Sys2Proof.Proofs.DeckFrame.Beside Sys2Proof.Proofs.ClearingReads

/-- The pages that a request at the home of Bay n writes: the home's, its Loom's, and those that its completion crosses. -/
def homePage (n : BayId) (pg : Nat) : Prop := pg = pgHome n.val ∨ pg = pgLoom n.val ∨ deckPage pg

/-- Nothing but line o of Bay n, registers of homePage and what a message crosses has changed from s to t; and where w holds, line o has not
either. No poison mark, stored error, transaction or event is there. -/
structure LineOnly (n : BayId) (o : Nat) (w : Prop) (s t : State) : Prop where
  beside : Beside (homePage n) s t
  poison : t.poison = []
  upsets : t.upsets = []
  txns : t.txns = []
  events : t.events = []
  loom : t.loom = s.loom
  hed : t.hed = s.hed
  reg : t.reg = s.reg
  wf : Memory.wf t.mem
  bytes : ∀ m < 24, ∀ x < baySize, (m ≠ n.val ∨ x / 64 * 64 ≠ o ∨ w) → t.byte m x = s.byte m x

namespace LineOnly

variable {s t u : State} {n : BayId} {r : Req} {p : Pass} {o : Nat} {w : Prop}

/-- A step that changes no line and no unit. -/
theorem trans_kept (h : LineOnly n o w s t) (hk : Kept t u) (hb : Beside (homePage n) t u) : LineOnly n o w s u := by
  have bytes (m x : Nat) : u.byte m x = t.byte m x := by rw [State.byte, hk.mem]; rfl
  exact ⟨h.beside.trans hb, hk.poison.trans h.poison, hk.upsets.trans h.upsets, hk.txns.trans h.txns, hk.events.trans h.events,
    hk.loom.trans h.loom, hk.hed.trans h.hed, hk.reg.trans h.reg, by rw [hk.mem]; exact h.wf,
    fun m hm x hx hne => (bytes m x).trans (h.bytes m hm x hx hne)⟩

/-- A ready home's row is reached, or a write queued there: only the Bay's controller changes. -/
theorem of_ready (h : s.homeReady n r p) (hw : Memory.wf s.mem) (b : SMap BaySt) : LineOnly n o w s { s with bays := b } := by
  obtain ⟨⟨he, -⟩, -, -, -, -, -, -, -, ht, -, -, -, -, hp, hu⟩ := h
  exact ⟨of_eq, hp, hu, ht, he, rfl, rfl, rfl, hw, fun _ _ _ _ _ => rfl⟩

theorem readRow (h : s.homeReady n r p) (hw : Memory.wf s.mem) (k : Nat) : LineOnly n o w s (s.readRow n.val k) := by
  obtain ⟨b, hb⟩ := readRow_eq s n.val k
  rw [hb]
  exact of_ready h hw b

theorem queueWrite (h : s.homeReady n r p) (hw : Memory.wf s.mem) (k : Nat) : LineOnly n o w s (s.queueWrite n.val k false) := by
  obtain ⟨b, hb⟩ := queueWrite_eq s n.val k false
  rw [hb]
  exact of_ready h hw b

/-- A stored line is no matter of the units. -/
theorem storeLine_units (s : State) (n o : Nat) (l : Line) : (s.storeLine n o l).events = s.events ∧ (s.storeLine n o l).loom = s.loom ∧
    (s.storeLine n o l).hed = s.hed ∧ (s.storeLine n o l).reg = s.reg := by
  unfold State.storeLine State.putLine
  exact ⟨rfl, rfl, rfl, rfl⟩

/-- The line is stored. -/
theorem storeLine (h : LineOnly n o w s t) (ho : o < baySize) (hl : o / 64 * 64 = o) (hw : ¬w) (l : Line) :
    LineOnly n o w s (t.storeLine n.val o l) := by
  have stored : Beside (homePage n) t (t.storeLine n.val o l) := by
    unfold State.storeLine State.putLine
    exact of_eq
  obtain ⟨he, hm, hh, hr⟩ := storeLine_units t n.val o l
  refine ⟨h.beside.trans stored, ?_, ?_, (storeLine_txns _ _ _ _).trans h.txns, he.trans h.events, hm.trans h.loom, hh.trans h.hed,
    hr.trans h.reg, wf_storeLine h.wf _ _ _, fun m hm x hx hne => ?_⟩
  · rw [storeLine_poison, h.poison]; rfl
  · rw [storeLine_upsets, h.upsets]; simp [SMap.set]
  · have apart : m ≠ n.val ∨ x / 64 ≠ o / 64 := by
      rcases hne with hne | hne | hne
      · exact .inl hne
      · exact .inr fun e => hne (by rw [e, hl])
      · exact absurd hne hw
    exact (byte_storeLine_apart t l ho hx apart).trans (h.bytes m hm x hx hne)

/-- An atomic is counted at the Loom (R242). -/
theorem countAtom (h : LineOnly n o w s t) : LineOnly n o w s (t.bump (pgLoom n.val) Reg.Loom.ATOM_CNT) := by
  obtain ⟨hd, -⟩ := pgBay_parts (c := 0x14) (by decide) n
  exact h.trans_kept (Kept.count _ _ _ _ _ _) (Beside.count t 0 1 (.inr (.inl rfl)) (by unfold pgLoom; omega) (by decide))

theorem status_code_lt (st : Status) : st.code < 16 := by cases st <;> decide

/-- The answer to a logical port's request: counted at the home, it crosses the Deck (R85, R196). -/
theorem homeAnswer (h : LineOnly n o w s t) (st : Status) (g : Nat) (dw : Bool) (d : Option Line) {q : PortId} (hr : r.origin = .port q)
    (hq : q.val ≠ 288) (hm : s.marred = []) : LineOnly n o w s (t.homeAnswer n.val r st g dw d) := by
  obtain ⟨hd, -⟩ := pgBay_parts (c := 0x10) (by decide) n
  have hc := status_code_lt st
  have counted : Beside (homePage n) t (t.bumpI (pgHome n.val) Reg.Home.STATUS_CNT st.code) :=
    Beside.count t 0 1 (.inl rfl) (by unfold pgHome; omega) (show 0x800 + 8 * st.code < 4096 by omega)
  unfold State.homeAnswer
  rw [hr]
  exact h.trans_kept ((Kept.count _ _ _ _ _ _).trans (Kept.answerPort _ _ _ _ _ _ _ q hr))
    (counted.trans ((answerPort _ _ r st g dw d hr hq (counted.marred.trans (h.beside.marred.trans hm))).mono fun _ => .inr ∘ .inr))

/-- From a calm state it has left a calm one: nothing more is done. -/
theorem calm (h : LineOnly n o w s t) (hs : s.calm) : t.calm := by
  obtain ⟨-, hl, ho, ht, ha, hk, hi, hw, hq⟩ := hs
  exact ⟨h.events, by rw [h.loom]; exact hl, by rw [h.hed]; exact ho, by rw [h.hed]; exact ht, h.beside.atRest ha,
    by rw [h.beside.units]; exact hk, by rw [h.beside.host]; exact hi, by rw [h.reg]; exact hw, by rw [h.hed]; exact hq⟩

/-- What a seal puts back is nothing of these. -/
theorem sealed (h : LineOnly n o w s t) (v : State) : LineOnly n o w s (v.seal t) :=
  h.trans_kept ⟨rfl, rfl, rfl, rfl, rfl, rfl, rfl, rfl, rfl⟩ of_eq

/-- What a request of a logical port comes to at a ready home, once its access to the line is known. -/
theorem of_access (h : s.homeReady n r p) (hm : r.op ≠ .mcWr) {st : Status} {g : Nat} {dw : Bool} {d : Option Line}
    (ha : s.stackAccess n.val (lineOf r.addr) (homeTxn n r p) r dirI = ((st, g, dw, d), u)) (hu : LineOnly n o w s u) {q : PortId}
    (hr : r.origin = .port q) (hq : q.val ≠ 288) (hc : s.marred = []) : LineOnly n o w s (s.seal (s.reach r .clean).settle) := by
  have answered := hu.homeAnswer st g dw d hr hq hc
  have calm := answered.calm h.1
  rw [reach_eq_answer h hm ha hu.txns, settle_of_calm _ calm]
  exact answered.sealed s

end LineOnly

/-- Settles O52: each request's access changes at most its line, and its answer no line at all. -/
theorem homeRequestsFrame : Obligations.HomeRequestsFrame := by
  intro s n r p q o c h hw hr hq hbad hm ha hc
  obtain ⟨-, -, hstack, -⟩ := id h
  have hlt : lineOf r.addr < baySize := lineOf_lt hstack
  have hln : lineOf r.addr / 64 * 64 = lineOf r.addr := lineOf_line hstack
  have main : ∃ t, exec c s = .next t ∧ LineOnly n (lineOf r.addr) (o = .rd ∨ o = .rdS ∨ o = .rdM ∨ o = .own) s t := by
    rcases hc with ⟨rfl, rfl⟩ | ⟨rfl, rfl⟩ | ⟨rfl, rfl⟩ | ⟨rfl, rfl⟩ | ⟨rfl, rfl⟩ | ⟨rfl, rfl⟩ | ⟨rfl, rfl⟩ | ⟨rfl, rfl⟩
    · exact ⟨_, rfl, .of_access h ReqOp.noConfusion (stackAccess_read h (.inl rfl)) (.readRow h hw _) hr hq hm⟩
    · exact ⟨_, rfl, .of_access h ReqOp.noConfusion (stackAccess_read h (.inr (.inl rfl))) (.readRow h hw _) hr hq hm⟩
    · exact ⟨_, rfl, .of_access h ReqOp.noConfusion (stackAccess_read h (.inr (.inr rfl))) (.readRow h hw _) hr hq hm⟩
    · exact ⟨_, rfl, .of_access h ReqOp.noConfusion (stackAccess_own h rfl) (.readRow h hw _) hr hq hm⟩
    · refine ⟨_, rfl, .of_access h ReqOp.noConfusion (stackAccess_wr n p rfl) ?_ hr hq hm⟩
      rw [show ({ r with op := .wr } : Req).bad = false from hbad]
      exact (LineOnly.queueWrite h hw _).storeLine hlt hln (by decide) _
    · exact ⟨_, rfl, .of_access h ReqOp.noConfusion (stackAccess_merge h (.inl rfl)) ((LineOnly.readRow h hw _).storeLine hlt hln (by decide) _)
        hr hq hm⟩
    · exact ⟨_, rfl, .of_access h ReqOp.noConfusion (stackAccess_merge h (.inr rfl)) ((LineOnly.readRow h hw _).storeLine hlt hln (by decide) _)
        hr hq hm⟩
    · exact ⟨_, rfl, .of_access h ReqOp.noConfusion (stackAccess_atom h rfl (ha rfl))
        ((LineOnly.readRow h hw _).storeLine hlt hln (by decide) _).countAtom hr hq hm⟩
  obtain ⟨t, he, ht⟩ := main
  refine ⟨t, he, ht.wf, ht.bytes, ht.poison, ht.upsets, ht.txns, ht.reg, ht.loom, ht.hed, ht.beside.comps, ht.beside.tray, ht.beside.ks,
    ht.beside.islands, ht.beside.held, fun pg off bank d hp hoff hh hl hd hk => ht.beside.regs pg off bank d hp hoff ?_⟩
  rintro (e | e | e | e)
  · exact hh e
  · exact hl e
  · exact hd e
  · exact hk e

end Sys2Proof.Proofs.HomeFrame

/-!
The commands of the Region Table, of handoffs and of dead sources (R55-R60, R65, R66, R83, R191).
-/
namespace Sys2Proof.Proofs.RegionCommands

open Sys2Proof Sys2Proof.Machine Sys2Proof.Laws.Calm
open Sys2Proof.Proofs.LinkCommands (sealed_settle)

section

variable {s : State} {i : Nat} {e : RtEntry}

/-! ### Commands on a map (R58-R60) -/

/-- R58, R384: with no command in progress one begins at once; on the next map, while that may be written. -/
theorem rtCommand_begins {next : Bool} (h : s.reg.rtCmd = none) (hn : next = true → s.reg.phase = .idle) (op : Nat) : s.rtCommand i next op =
    if op = 1 then s.rtWriteNow i next else if op = 2 then s.rtReadNow i next else s.rtDisableNow i next := by
  have opened : ¬(next = true ∧ ¬s.nextOpen = true) := fun ⟨hb, ho⟩ => ho (decide_eq_true (hn hb))
  rw [State.rtCommand, State.rtBusy, h, if_neg Bool.noConfusion, if_neg opened]

theorem rtCommand_write {next : Bool} (h : s.reg.rtCmd = none) (hn : next = true → s.reg.phase = .idle) :
    s.rtCommand i next 1 = s.rtWriteNow i next := by rw [rtCommand_begins h hn, if_pos rfl]

theorem rtCommand_read (h : s.reg.rtCmd = none) : s.rtCommand i false 2 = s.rtReadNow i false := by
  rw [rtCommand_begins h Bool.noConfusion, if_neg (by decide), if_pos rfl]

theorem rtCommand_disable (h : s.reg.rtCmd = none) : s.rtCommand i false 3 = s.rtDisableNow i false := by
  rw [rtCommand_begins h Bool.noConfusion, if_neg (by decide), if_neg (by decide)]

theorem rtWriteNow_next (hs : s.rtStaged = some e) (hc : s.rtCheck s.reg.nxt i e = 0) : s.rtWriteNow i true =
    (({ s with reg := { s.reg with nxt := s.reg.nxt.setEntry i e } } : State).bumpHub Reg.RT.RT_UPDATE_CNT).rtDone 0 := by
  simp [State.rtWriteNow, hs, hc]

theorem rtWriteNow_current (hs : s.rtStaged = some e) (hc : s.rtCheck s.reg.cur i e = 0) : s.rtWriteNow i false = (s.rtWait i 1).rtPut i e := by
  simp [State.rtWriteNow, hs, hc]

/-- R55: an entry that a check refuses is not written. -/
theorem rtWriteNow_refused {res : Nat} (hs : s.rtStaged = some e) (hr : res ≠ 0) (hc : s.rtCheck s.reg.cur i e = res) :
    s.rtWriteNow i false = s.rtDone res := by
  simp [State.rtWriteNow, hs, hc, hr]

/-- R58: a read fills RT_DATA with the words of the entry. -/
theorem rtReadNow_current (s : State) (i : Nat) : s.rtReadNow i false =
    ((List.range 8).foldl (fun t k => t.setReg (pgOfHub Reg.RT.RT_DATA) Reg.RT.RT_DATA k 0
      (BitVec.ofNat 64 ((s.reg.cur.entry i).words.getD k 0))) s).rtDone 0 := by
  unfold State.rtReadNow
  rw [if_neg Bool.false_ne_true]

theorem rtDisableNow_owned (h : (s.reg.cur.entry i).mode ≠ .shared) :
    s.rtDisableNow i false = (s.rtWait i 1).rtPut i { s.reg.cur.entry i with mode := .disabled } := by
  simp [State.rtDisableNow, h]

theorem rtDisableNow_shared (h : (s.reg.cur.entry i).mode = .shared) :
    s.rtDisableNow i false = (s.rtWait i 3).disableAll i (s.reg.cur.entry i) := by
  simp [State.rtDisableNow, h]

/-- R59: a command whose requests have all gone ends. -/
theorem rtComplete_of_gone {c : MapCmd} (h : s.reg.rtCmd = some c) (hw : c.waiting = false) (ho : c.op ≠ 3)
    (hg : s.inHomes.any (fun e => c.marked.contains e.2) = false) : s.rtComplete = (s.bumpHub Reg.RT.RT_UPDATE_CNT).rtDone 0 := by
  unfold State.rtComplete
  rw [h]
  simp only [hw, ho, hg, Bool.false_eq_true, if_false]

/-! ### Handoffs (R65, R66, R191) -/

/-- R66: a handoff message that nothing in the Deck waits for, and that meets no write of its entry, reaches firmware. -/
theorem handAt_offer (hv : s.voqs = []) {h : Hand} (hb : s.handBusy h.granule = false) (ho : h.op = .offer) (x : Nat) (src : NodeId) :
    s.handAt x src h = s.offer x src h := by
  simp [State.handAt, outOfDeck_of_empty s x _ _ hv, State.handActs, hb, takeFrom_of_empty s x _ hv, ho]

theorem handAt_accept (hv : s.voqs = []) {h : Hand} (hb : s.handBusy h.granule = false) (ho : h.op = .accept) (x : Nat) (src : NodeId) :
    s.handAt x src h = s.accept x src h := by
  simp [State.handAt, outOfDeck_of_empty s x _ _ hv, State.handActs, hb, takeFrom_of_empty s x _ hv, ho]

theorem handAt_quiet (hv : s.voqs = []) {h : Hand} (hb : s.handBusy h.granule = false) (ho : h.op = .commit ∨ h.op = .cancel) (x : Nat)
    (src : NodeId) : s.handAt x src h = s.noteHand src h.granule x := by
  rcases ho with ho | ho <;>
    simp [State.handAt, outOfDeck_of_empty s x _ _ hv, State.handActs, hb, takeFrom_of_empty s x _ hv, ho, State.handQuiet]

/-- R66: the entry of a region that is OFFERED to a Node ID. -/
def offeredTo (e : RtEntry) (d : NodeId) : RtEntry := { e with own := .offered, peer := d, hseq := e.hseq + 1 }

/-- A state with other handoffs noted. -/
def withHandoffs (s : State) (hs : List Handoff) : State := { s with reg := { s.reg with handoffs := hs } }

/-- R59, R65: a handoff's write is in force at once, and stands in the list of those that have not completed. -/
theorem handWrite_cur (s : State) (i : Nat) (e : RtEntry) (c : Bool) (ms : List (NodeId × Hand)) :
    (s.handWrite i e c ms).reg.cur = s.reg.cur.setEntry i e := rfl

theorem handWrite_mem (s : State) (i : Nat) (e : RtEntry) (c : Bool) (ms : List (NodeId × Hand)) : (s.handWrite i e c ms).mem = s.mem := rfl

theorem handWrite_listed (s : State) (i : Nat) (e : RtEntry) (c : Bool) (ms : List (NodeId × Hand)) :
    ∃ w : HandWrite, (s.handWrite i e c ms).reg.handWrites = s.reg.handWrites ++ [w] ∧ w.index = i ∧ w.commit = c := ⟨_, rfl, rfl, rfl⟩

/-- R66: an OFFER by the owner of a region that is HELD, with its key. -/
theorem offer_of_owner {x : Nat} {src : NodeId} {h : Hand} (he : (s.noteHand src h.granule x).handEntry h.granule = some (i, e))
    (ho : e.own = .held) (hs : e.owner = src) (hk : e.key = h.key) : s.offer x src h =
      (withHandoffs (s.noteHand src h.granule x)
        ((s.noteHand src h.granule x).reg.handoffs.filter (fun k => k.index ≠ i) ++ [{ index := i, tc := h.tc }])).handWrite i
          (offeredTo e h.node) false [offerTo h.tc (offeredTo e h.node)] := by
  simp [State.offer, he, ho, hs, hk, withHandoffs, offeredTo]

/-- R65, R66: an ACCEPT by the peer of an OFFERED region, under its HSEQ. -/
theorem accept_of_peer {x : Nat} {src : NodeId} {h : Hand} (he : (s.noteHand src h.granule x).handEntry h.granule = some (i, e))
    (ho : e.own = .offered) (hp : e.peer = src) (hs : e.hseq = h.hseq) : s.accept x src h =
      (s.noteHand src h.granule x).handWrite i { e with owner := src, own := .held, peer := 0 } true
        [commitTo ((s.noteHand src h.granule x).handTc i h.tc) e src src, commitTo ((s.noteHand src h.granule x).handTc i h.tc) e src e.owner] := by
  simp [State.accept, he, ho, hp, hs]

theorem handTimeout_of_offered (he : s.reg.cur.entry i = e) (hm : e.mode = .owned) (ho : e.own = .offered)
    (hw : ∀ w ∈ s.reg.handWrites, w.index ≠ i) : s.handTimeout i =
      ((s.putCur i { e with own := .held, peer := 0, hseq := e.hseq + 1 }).bumpHub Reg.RT.RT_UPDATE_CNT).cancelBoth i e
        { e with own := .held, peer := 0, hseq := e.hseq + 1 } .timeout := by
  have none : s.reg.handWrites.any (fun w => w.index = i) = false := by simpa using hw
  simp [State.handTimeout, he, hm, ho, none]

end

/-- Settles O22: each command in the branch that its premises name. -/
theorem regionTableCommandsComplete : Obligations.RegionTableCommandsComplete := by
  unfold Obligations.RegionTableCommandsComplete
  refine ⟨?_, ?_, ?_, ?_, ?_, ?_, ?_, ?_, ?_, ?_, ?_, ?_, ?_, ?_⟩
  · exact fun s i e h hp hs hc => sealed_settle ((rtCommand_write h fun _ => hp).trans (rtWriteNow_next hs hc))
  · exact fun s i e h hs hc => sealed_settle ((rtCommand_write h Bool.noConfusion).trans (rtWriteNow_current hs hc))
  · exact fun s i e res h hs hr hc => sealed_settle ((rtCommand_write h Bool.noConfusion).trans (rtWriteNow_refused hs hr hc))
  · exact fun s i h => congrArg (fun t => Host.Outcome.next (s.seal t)) ((rtCommand_read h).trans (rtReadNow_current s _))
  · exact fun s i h hm => sealed_settle ((rtCommand_disable h).trans (rtDisableNow_owned hm))
  · exact fun s i h hm => sealed_settle ((rtCommand_disable h).trans (rtDisableNow_shared hm))
  · exact fun s c h hw ho hg => sealed_settle (rtComplete_of_gone h hw ho hg)
  · intro s p src h i e hv hb he ho hs hk
    have reached := handAt_offer hv (h := { h with op := .offer }) hb rfl p.val src
    have offered := offer_of_owner (h := { h with op := .offer }) he ho hs hk
    exact ⟨_, sealed_settle (reached.trans offered), handWrite_cur _ _ _ _ _, handWrite_mem _ _ _ _ _⟩
  · intro s p src h i e hv hb he ho hp hs
    have reached := handAt_accept hv (h := { h with op := .accept }) hb rfl p.val src
    have accepted := accept_of_peer (h := { h with op := .accept }) he ho hp hs
    exact ⟨_, sealed_settle (reached.trans accepted), handWrite_cur _ _ _ _ _, handWrite_listed _ _ _ _ _, handWrite_mem _ _ _ _ _⟩
  · intro s p src h hv hb
    have commit := handAt_quiet hv (h := { h with op := .commit }) hb (.inl rfl) p.val src
    have cancel := handAt_quiet hv (h := { h with op := .cancel }) hb (.inr rfl) p.val src
    exact ⟨sealed_settle commit, sealed_settle cancel⟩
  · rintro s i e _ he hm ho hw rfl
    exact sealed_settle (handTimeout_of_offered he hm ho hw)
  · intro s d x l i hl hp hi hh
    have eq : s.deadSource d = (s.unadmit d).startSweep x := by simp [State.deadSource, hl, hp, hi, hh]
    exact congrArg (fun t => Host.Outcome.next (s.seal t)) eq
  · intro s d hl hh
    have eq : s.deadSource d = (s.unadmit d).startSweep 288 := by simp [State.deadSource, hl, hh]
    exact congrArg (fun t => Host.Outcome.next (s.seal t)) eq
  · intro s d hl hh
    have eq : s.deadSource d = s.unadmit d := by simp [State.deadSource, hl, hh]
    exact congrArg (fun t => Host.Outcome.next (s.seal t)) eq

end Sys2Proof.Proofs.RegionCommands

/-!
The commands that follow up requests (R73-R75, R79, R83, R140, R198, R201, R202).
-/
namespace Sys2Proof.Proofs.FollowUpCommands

open Sys2Proof Sys2Proof.Machine Sys2Proof.Laws.State Sys2Proof.Laws.Calm
open Sys2Proof.Proofs.LinkCommands (sealed_settle)

section

variable {s : State}

/-! ### Capstone stores (R79) -/

/-- A Capstone store of a logical port toward this device stands at its ingress. -/
theorem capstone_of_port {r : Req} {p : PortId} (ho : r.origin = .port p) (hd : r.dnode = s.node) :
    s.capstone r = s.capArrive p.val (s.vcOf 0 r.tc.toNat) (Msg.req r).slots r false := by
  simp [State.capstone, ho, hd]

/-- Where no window is open, a Capstone store waits for nothing. -/
theorem capArrive_of_none (hw : s.capWins = []) (x vc n : Nat) (r : Req) (red : Bool) : s.capArrive x vc n r red =
    ({ s with capWins := [] } : State).capResolve x { req := r, waits := [], vc := vc, size := n, red := red } := by
  simp [State.capArrive, State.closeCap, hw, CapHold.ready]

/-- Where a request of its Source is unanswered, it is held and counted; its Source's window is closed. -/
theorem capArrive_of_unanswered {w : CapWindow} {x vc n : Nat} {r : Req} {red : Bool} (hw : s.capWins = [w]) (hp : w.port = x)
    (hs : w.src = r.src) (hr : CapHold.ready { req := r, waits := w.reqs, vc := vc, size := n, red := red } = false) :
    s.capArrive x vc n r red =
      ({ s with capWins := [], capHolds := s.capHolds ++ [{ req := r, waits := w.reqs, vc := vc, size := n, red := red }] } : State).bump
        (pgPG (x / 12)) Reg.PG.CAP_HOLD_CNT := by
  simp [State.capArrive, State.closeCap, hw, hp, hs, hr]

theorem capRelease_of_ready {p : Nat} {h : CapHold} (ho : h.req.origin.port? = some p) (hr : h.ready = true) (hh : s.capHolds = [h]) :
    s.capRelease p h.req.src h.req.tag = ({ s with capHolds := [] } : State).capResolve p h := by
  simp [State.capRelease, hh, ho, hr]

/-! ### Multicast stores (R201, R202) -/

/-- R201: one that comes out of the Deck goes to its group's members, whatever device its number would name. -/
theorem reach_multicast {r : Req} (hv : s.voqs = []) (ho : r.op = .mcWr) : s.reach r .clean = s.mcArrive r := by
  rw [State.reach, State.arrive, outOfDeck_of_empty s _ _ _ hv, State.act, State.reached, mar_clean, if_pos ho]

theorem mcArrive_of_key {r : Req} {p : PortId} {e : McEntry} (hr : r.origin = .port p) (hv : s.voqs = []) (he : s.mcEntry r.dnode.toNat = e)
    (hen : e.en = true) (hk : r.key = e.key) (hm : e.remotes = []) : s.mcArrive r =
      e.ports.foldl (fun t x => t.mcMember (s.inputOf r) e r s.tr.mcNum x)
        { s.bumpHub Reg.Mcast.MC_RX_CNT with tr := { s.tr with
          mcNum := s.tr.mcNum + 1
          mcOut := s.tr.mcOut ++ [{ id := s.tr.mcNum, req := r, ports := [], remotes := 0, bad := false, dests := [] }] } } := by
  have ht : (s.bumpHub Reg.Mcast.MC_RX_CNT).tr = s.tr := count_tr s _ _ _ _ _
  simp only [State.mcArrive, State.takeReq, takeFrom_of_empty s _ _ hv, he, hen, hk, hr, hm, ht, State.mcTrestle]
  simp

theorem mcArrive_of_otherKey {r : Req} (hv : s.voqs = []) (hen : (s.mcEntry r.dnode.toNat).en = true) (hk : r.key ≠ (s.mcEntry r.dnode.toNat).key) :
    s.mcArrive r = (s.bumpHub Reg.Mcast.MC_KEY_FAULT_CNT).refuse r .keyFault := by
  simp [State.mcArrive, State.takeReq, takeFrom_of_empty s _ _ hv, hen, hk]

theorem mcComplete_of_acked {m : McOut} (hm : s.tr.mcOut = [m]) (hp : m.ports = []) (hr : m.remotes = 0) (hd : m.dests = []) :
    s.mcComplete m.id = ({ s with tr := { s.tr with mcOut := [] } } : State).refuse m.req (if m.bad then .portDown else .ok) := by
  simp [State.mcComplete, hm, hp, hr, hd]

/-! ### What caches send (R73-R75) -/

/-- R43: what comes from a cache for a Bay that runs reaches the home of its line. -/
theorem cohAt_wb {x : Nat} {tc : BitVec 3} {la : BitVec 42} {keepS bad : Bool} {l : Line} {n : BayId}
    (hb : s.homeBay (la.toNat * 64) = some n.val) (hv : s.voqs = []) (hi : s.islandState (.bay n) = 0)
    (hq : SMap.get (fun _ => 0) s.pwr.req n.val = 0) : s.cohAt x (.wb tc la keepS bad l) = s.writeBack x tc la keepS bad l := by
  simp [State.cohAt, State.arrive, outOfDeck_of_empty s _ _ _ hv, State.act, State.cohActs, Coh.laddr, hb, atBay_of_run s n _ _ _ hi hq,
    takeFrom_of_empty s _ _ hv]

theorem cohAt_biAck {x : Nat} {tc : BitVec 3} {la : BitVec 42} {n : BayId} (hb : s.homeBay (la.toNat * 64) = some n.val) (hv : s.voqs = [])
    (hi : s.islandState (.bay n) = 0) (hq : SMap.get (fun _ => 0) s.pwr.req n.val = 0) : s.cohAt x (.biAck tc la) = s.recallAck x la := by
  simp [State.cohAt, State.arrive, outOfDeck_of_empty s _ _ _ hv, State.act, State.cohActs, Coh.laddr, hb, atBay_of_run s n _ _ _ hi hq,
    takeFrom_of_empty s _ _ hv]

/-- R75: the owner of a line writes it back, with no transaction on the line. -/
theorem writeBack_of_owner {x : Nat} {tc : BitVec 3} {la : BitVec 42} {keepS bad : Bool} {l : Line} {n i : Nat} {e : RtEntry}
    (ha : la.toNat * 64 < stackEnd) (hn : bayOf s.sel (la.toNat * 64) = n) (hu : s.bayUp n = true) (ht : s.txns = [])
    (he : s.covers (la.toNat * 64) = some (i, e)) (hm : e.mode = .shared) (hs : dirState (s.rawDir n (e.dirOffset (la.toNat * 64))) = 2)
    (ho : dirOwner (s.rawDir n (e.dirOffset (la.toNat * 64))) = x) : s.writeBack x tc la keepS bad l =
      ((s.wbStore n (lineOf (la.toNat * 64)) bad l).setDir n (e.dirOffset (la.toNat * 64))
        (if keepS then dirS (groupBit x) else dirI)).sendFrom (24 + n) x (.coh (.wbAck tc la .ok)) := by
  have idle (o : Nat) : s.activeTxn n o = none := by simp [State.activeTxn, ht]
  simp [State.writeBack, Nat.not_le.mpr ha, hn, hu, he, hm, idle, hs, ho]

theorem recallAck_of_awaited {x : Nat} {la : BitVec 42} {t : Txn} (ha : la.toNat * 64 < stackEnd)
    (ht : s.activeTxn (bayOf s.sel (la.toNat * 64)) (lineOf (la.toNat * 64)) = some t) (hw : t.await.contains x = true) :
    s.recallAck x la = s.recallAnswered t x (s.dirOf t) := by
  simp only [State.recallAck, if_neg (Nat.not_le.mpr ha), ht, hw, if_true]

theorem undeliverable_of_awaited {x : Nat} {la : BitVec 42} {t : Txn}
    (ht : s.activeTxn (bayOf s.sel (la.toNat * 64)) (lineOf (la.toNat * 64)) = some t) (hw : t.await.contains x = true) :
    s.undeliverable x la = if dirState (s.dirOf t) = 2 ∧ dirOwner (s.dirOf t) = x then s.recallLost t false
      else s.recallAnswered t x (s.dirOf t) := by
  simp only [State.undeliverable, ht, hw, if_true]

theorem recallTimeout_of_active {la : BitVec 42} {t : Txn}
    (ht : s.activeTxn (bayOf s.sel (la.toNat * 64)) (lineOf (la.toNat * 64)) = some t) :
    s.recallTimeout la = (s.addN (pgHome t.bay) Reg.Home.RECALL_TIMEOUT_CNT t.await.length).recallLost t true := by
  simp only [State.recallTimeout, ht]

/-! ### Sweeps and deadlines (R83, R198) -/

/-- R83: under a map with no entry a sweep has nothing to read. -/
theorem sweepOn_of_noEntry (h : s.reg.cur.rt = []) (n k : Nat) : State.sweepOn n (k + 1) s = s := by
  have shared : s.sharedEntries = [] := by simp [State.sharedEntries, h]
  have next : s.sweepNext n = (false, s) := by
    unfold State.sweepNext
    simp [shared, nextDirLine]
  rw [State.sweepOn, next]

theorem endSweep_of_noEntry {t : State} {n : Nat} (h : s.reg.cur.rt = []) (hs : (s.bay n).sweep ≠ [])
    (ht : t = ((s.setBay n { s.bay n with sweep := [] }).setF (pgHome n) Reg.Home.SWEEP_STAT 31 31 0).bump (pgHome n) Reg.Home.SWEEP_CNT) :
    s.endSweep n = t.notify 2 0 [n, (t.rg (pgHome n) Reg.Home.SWEEP_SET).toNat] := by
  rw [State.endSweep, if_neg hs, Nat.add_comm, sweepOn_of_noEntry h, ht]

/-- R198: the only message of the Deck is a request past its deadline. -/
theorem deadline_of_waiting {v : VoqItem} {r : Req} (hl : s.landing = []) (hv : s.voqs = [v]) (hc : v.mc = none) (hm : v.msg = .req r)
    (hd : r.deadline ≤ s.ns) : s.deadline r.origin r.tag = (State.scanned { s with voqs := [] } v.inp).refuse r .timeout := by
  have landing : s.deadLanding (s.isDue r.origin r.tag) = none := by simp [State.deadLanding, hl]
  have taken : s.takeItem v = { s with voqs := [] } := by simp [State.takeItem, hv, removeItem, removeItem.keepCell]
  have voq : s.deadVoq (s.isDue r.origin r.tag) = some ((State.scanned { s with voqs := [] } v.inp).refuse r .timeout) := by
    simp [State.deadVoq, hv, hc, hm, Msg.req?, State.isDue, hd, taken]
  rw [State.deadline, landing, voq]
  rfl

end

/-- Settles O25: each command in the branch that its premises name. -/
theorem followUpCommandsComplete : Obligations.FollowUpCommandsComplete := by
  unfold Obligations.FollowUpCommandsComplete
  refine ⟨?_, ?_, ?_, ?_, ?_, ?_, ?_, ?_, ?_, ?_, ?_, ?_⟩
  · rintro s r p _ ho hd hw rfl
    exact sealed_settle ((capstone_of_port (r := { r with op := .capWr }) ho hd).trans (capArrive_of_none hw _ _ _ _ _))
  · rintro s r p w _ ho hd hw hp hs hr rfl
    exact sealed_settle ((capstone_of_port (r := { r with op := .capWr }) ho hd).trans (capArrive_of_unanswered hw hp hs hr))
  · exact fun s p h ho hr hh => sealed_settle (capRelease_of_ready ho hr hh)
  · intro s r p e ho hv he hen hk hm
    have arrived := mcArrive_of_key (r := { r with op := .mcWr }) ho hv he hen hk hm
    have reached := reach_multicast (r := { r with op := .mcWr }) hv rfl
    exact sealed_settle (reached.trans arrived)
  · intro s r hv hen hk
    have refused := mcArrive_of_otherKey (r := { r with op := .mcWr }) hv hen hk
    have reached := reach_multicast (r := { r with op := .mcWr }) hv rfl
    exact sealed_settle (reached.trans refused)
  · exact fun s m hm hp hr hd => sealed_settle (mcComplete_of_acked hm hp hr hd)
  · rintro s p tc la keepS bad l n i _ e ha hb hn hv hi hq hu ht he hm rfl hs ho
    exact sealed_settle ((cohAt_wb hb hv hi hq).trans (writeBack_of_owner ha hn hu ht he hm hs ho))
  · exact fun s p tc la n t ha hb hv hi hq ht hw => sealed_settle ((cohAt_biAck hb hv hi hq).trans (recallAck_of_awaited ha ht hw))
  · exact fun s p la t ht hw => sealed_settle (undeliverable_of_awaited ht hw)
  · exact fun s la t ht => sealed_settle (recallTimeout_of_active ht)
  · exact fun s t n h hs ht => sealed_settle (endSweep_of_noEntry h hs ht)
  · exact fun s v r hl hv hc hm hd => sealed_settle (deadline_of_waiting hl hv hc hm hd)

end Sys2Proof.Proofs.FollowUpCommands

/-!
The commands of the tray tier and of streams (R110, R116-R118, R203, R205).
-/
namespace Sys2Proof.Proofs.TrayCommands

open Sys2Proof Sys2Proof.Machine Sys2Proof.Laws.Calm
open Sys2Proof.Proofs.LinkCommands (sealed_settle)

/-- A command whose effects agree ends in the same state. -/
theorem sealed_of_eq {s t u : State} (e : t = u) : (.next (s.seal t) : Host.Outcome State Fault Refusal) = .next (s.seal u) := by rw [e]

section

variable {s : State}

/-! ### The tray map and patrol scrubs (R110, R205) -/

theorem trayCfgWrite_of_fits {v : Nat} (hm : s.trayMapped = false) (hn : nfld v 5 0 ≤ 48) (hf : s.slotsFit (nfld v 5 0) = true) :
    s.trayCfgWrite v = s.setN (pgHub 0x13) Reg.TMap.TRAY_CFG (nfld v 5 0) := by
  have free : ¬(s.trayMapped = true ∨ 48 < nfld v 5 0 ∨ (!s.slotsFit (nfld v 5 0)) = true) := by simp [hm, hf, hn]
  rw [State.trayCfgWrite, if_neg free]
  rfl

/-- R205: the engine that serves a slot whose port is up goes on from the slot's position, if it has an entry for the scrub. -/
theorem trayScrub_of_served {n k : Nat} (hb : bit (s.rg (pgTray n) Reg.Tray.TRAY_SCRUB) 31 = true) (hk : k < s.trayN) (hn : (s.traySlot k).2 = n)
    (hu : s.portUp (s.trayPort k) 0 = true) (hr : s.trayRoom n 1 = true) : s.trayScrub n k =
      (((State.addTray { s with tray := { s.tray with
        scrub := SMap.set (fun _ => 0) s.tray.scrub k ((SMap.get (fun _ => 0) s.tray.scrub k + 64) % 2 ^ 36) } }
          n k (SMap.get (fun _ => 0) s.tray.scrub k) 64 none ⟨0, RtEntry.none, 0⟩).obTaken (n / 6)).runTray) := by
  rw [State.trayScrub, if_pos ⟨hb, hk, hn, hu, hr⟩]

/-! ### What trays answer (R203) -/

/-- R43: what a tray sends for a Bay that runs reaches the Bay's engine. -/
theorem trayCmp_of_run {x : Nat} {c : TrayCmp} {n : BayId} (hv : s.voqs = []) (hb : s.trayBay x = some n.val) (hi : s.islandState (.bay n) = 0)
    (hq : SMap.get (fun _ => 0) s.pwr.req n.val = 0) : s.trayCmp x c = s.trayAnswer x c := by
  simp only [State.trayCmp, State.arrive, outOfDeck_of_empty s _ _ _ hv, State.act, State.trayActs, hb, atBay_of_run s n _ _ _ hi hq,
    takeFrom_of_empty s _ _ hv]

variable {x : Nat} {c : TrayCmp} {t : TrayTxn} {r : Req}

/-- R112: the engine's only transaction, sent on a port, is the one that the port's answer of its tag is for. -/
theorem trayAnswer_of_writing (ht : s.tray.txns = [t]) (hg : t.ttag = c.ttag.toNat) (hp : s.trayPort t.slot = x) (hf : t.phase = .writing)
    (hl : t.late = false) (hr : t.req = some r) : s.trayAnswer x c = (s.trayEnd t c.outcome t.answer).runTray := by
  simp [State.trayAnswer, ht, hg, hp, hf, hl, hr]

theorem trayAnswer_of_reading {l : Line} (ht : s.tray.txns = [t]) (hg : t.ttag = c.ttag.toNat) (hp : s.trayPort t.slot = x)
    (hf : t.phase = .reading) (hl : t.late = false) (hr : t.req = some r) (ho : c.outcome = .ok) (hd : c.data = [l]) :
    s.trayAnswer x c = (s.trayGot t r l).runTray := by
  simp [State.trayAnswer, ht, hg, hp, hf, hl, hr, ho, hd]

end

/-! ### The stream window (R116) -/

section

variable {s u : State} {v : Word} {new : DWord} {c : Nat} (hc : fld (s.hub Reg.Stream.STREAM_SEL) 7 0 = c) (ho : s.winOn c = false)
  (hw : Reg.Stream.WIN_CFG.written (s.rgb pgStream Reg.Stream.WIN_CFG c) (v.zeroExtend 64) = (new, false))

include hc ho hw

theorem winCfgWrite_of_clear (he : bit new 31 = false) :
    s.winCfgWrite v = s.setReg pgStream Reg.Stream.WIN_CFG 0 c (setBit new 31 false) := by
  simp [State.winCfgWrite, hc, hw, ho, he]

/-- The fields are stored with EN clear, WIN_STAT is the cause that the window's area has then, and EN is set where it is 0. -/
theorem winCfgWrite_of_set {k : Nat} (he : bit new 31 = true) (hu : u = s.setReg pgStream Reg.Stream.WIN_CFG 0 c (setBit new 31 false))
    (ha : u.reg.cur.areaCause u.node c (u.winGranules c).1 (u.winGranules c).2 = k) : s.winCfgWrite v =
      if k = 0 then (u.setReg pgStream Reg.Stream.WIN_STAT 0 c (BitVec.ofNat 64 k)).setReg pgStream Reg.Stream.WIN_CFG 0 c (setBit new 31 true)
      else u.setReg pgStream Reg.Stream.WIN_STAT 0 c (BitVec.ofNat 64 k) := by
  simp only [State.winCfgWrite, hc, hw, ho, ← hu, ha, he, Bool.false_eq_true, if_false, Bool.not_true]

end

/-! ### Streams (R117, R118) -/

section

variable {s : State} {t : TaskRef} {x : StreamSt}

/-- R118: the reads of a block that no decoder is for give their lines as they are. -/
theorem jobResult_of_uncoded (s : State) (x : StreamSt) (i : Nat) (l : Layer) (j : StreamJob) (cs : List Cmp) :
    s.jobResult x i l none j cs = (firstBad cs, 0, false, s) := rfl

/-- R118: a block read with no error is written to its slot, and its job waits for the stores. -/
theorem streamBlockDone_of_uncoded {u : State} {off b : Nat} {j : StreamJob} {l : Layer} {cs : List Cmp} (hx : s.stream t = some x)
    (hj : x.jobs.find? (fun j => j.off = off && !j.writing) = some j) (hl : x.layers[x.next - 1]? = some l) (ha : s.batchAll j.batch = some cs)
    (ht : j.tab = none) (hg : firstBad cs = .ok)
    (hw : (s.endBatch j.batch).startBatch (.streamWrote t off) ((s.endBatch j.batch).jobWrites x (x.next - 1) none j cs) = (b, u)) :
    s.streamBlockDone t off = u.setStream (x.setJob { j with batch := b, writing := true }) := by
  simp [State.streamBlockDone, hx, hj, hl, ha, ht, jobResult_of_uncoded, hg, hw]

/-- R117: a stream that nothing has stopped goes on, once every store of its layer has completed. -/
theorem streamSent_of_ok {i b : Nat} {cs : List Cmp} (hx : s.stream t = some x) (hi : x.sending = some i) (hb : x.sends = some (some b))
    (ha : s.batchAll b = some cs) (hd : cs.any (fun c => c.status = .portDown) = false) (hs : x.stop = .ok) (hg : firstBad cs = .ok) :
    s.streamSent t = State.streamGo
      (((((s.endBatch b).setSlotStat x.comp (x.slotOf i) 0).streamFlag x i .ok)).setStream
        { x with sending := none, sends := none, words := [], sent := i + 1, slots := x.slots.set (x.slotOf i) none
                 st := if x.st = .ok then .ok else x.st }) t := by
  simp [State.streamSent, hx, hi, hb, ha, hd, hs, hg]

end

/-- Settles O27: each command in the branch that its premises name. -/
theorem trayAndStreamCommandsComplete : Obligations.TrayAndStreamCommandsComplete := by
  unfold Obligations.TrayAndStreamCommandsComplete
  refine ⟨?_, ?_, ?_, ?_, ?_, ?_, ?_, ?_, ?_⟩
  · exact fun s v hm hn hf => sealed_of_eq (trayCfgWrite_of_fits hm hn hf)
  · exact fun s p c t r n hv hb hi hq ht hg hp hf hl hr =>
      sealed_settle ((trayCmp_of_run hv hb hi hq).trans (trayAnswer_of_writing ht hg hp hf hl hr))
  · exact fun s p c t r l n hv hb hi hq ht hg hp hf hl hr ho hd =>
      sealed_settle ((trayCmp_of_run hv hb hi hq).trans (trayAnswer_of_reading ht hg hp hf hl hr ho hd))
  · rintro s n k _ hb hk hn hu rfl hr
    exact sealed_settle (trayScrub_of_served hb hk hn hu hr)
  · exact fun s v c hc ho hw he => sealed_of_eq (winCfgWrite_of_clear hc ho (Prod.ext rfl hw) he)
  · exact fun s u v c new hc ho hw he hu ha => sealed_of_eq ((winCfgWrite_of_set hc ho hw he hu ha).trans (if_pos rfl))
  · exact fun s u v c k new hc ho hw he hu ha hk => sealed_of_eq ((winCfgWrite_of_set hc ho hw he hu ha).trans (if_neg hk))
  · exact fun s t off x j l cs b u hx hj hl ha _ ht hg hw => sealed_settle (streamBlockDone_of_uncoded hx hj hl ha ht hg hw)
  · exact fun s t x i b cs hx hi hb ha hd hs hg => sealed_settle (streamSent_of_ok hx hi hb ha hd hs hg)

end Sys2Proof.Proofs.TrayCommands

/-!
A home's recalls that cannot be delivered (R140).
-/
namespace Sys2Proof.Proofs.LostRecalls

open Sys2Proof Sys2Proof.Machine
open Sys2Proof.Proofs.LinkCommands (sealed_settle)
open Sys2Proof.Proofs.FollowUpCommands (cohAt_biAck recallAck_of_awaited undeliverable_of_awaited)

section

variable {s : State} {x : Nat} {la : BitVec 42} {t : Txn}

/-- R140: a recall of a line in S that its port cannot get counts as the port's answer, like its BI_ACK. -/
theorem undeliverable_eq_recallAck_of_shared (ha : la.toNat * 64 < stackEnd)
    (ht : s.activeTxn (bayOf s.sel (la.toNat * 64)) (lineOf (la.toNat * 64)) = some t) (hw : t.await.contains x = true)
    (hs : dirState (s.dirOf t) = 1) : s.undeliverable x la = s.recallAck x la := by
  have shared : ¬(dirState (s.dirOf t) = 2 ∧ dirOwner (s.dirOf t) = x) := fun h => absurd (hs.symm.trans h.1) (by decide)
  rw [undeliverable_of_awaited ht hw, if_neg shared, recallAck_of_awaited ha ht hw]

/-- R140: the waiting request of a lost line is served as one to a poisoned line: performed if its opcode overwrites poison, and otherwise
answered POISON. -/
theorem recallLost_of_request {r : Req} (hr : t.work = .req r) (hn : t.answered = false) {u : State}
    (hu : u = ((s.poisonLine t.bay t.line).setDir t.bay t.dir dirI).dropTxn t) :
    s.recallLost t false = State.runLine
      (if r.op.overPoison then u.perform { t with await := [] } dirI dirI else u.homeAnswer t.bay r .poison 0 false none) t.bay t.line := by
  subst hu
  simp only [State.recallLost, hr, hn, Bool.false_eq_true, if_false]

end

/-- Settles O39: in S both commands are the port's answer to its recall; in M the transaction's line is lost. -/
theorem undeliverableRecalls : Obligations.UndeliverableRecalls := by
  intro s p tc la n t ha hb hv hi hq ht hw
  constructor
  · intro hs
    have taken := undeliverable_eq_recallAck_of_shared ha ht hw hs
    exact sealed_settle (taken.trans (cohAt_biAck hb hv hi hq).symm)
  · intro u r hs ho hr hn hu
    have lost := (undeliverable_of_awaited ht hw).trans (if_pos ⟨hs, ho⟩)
    exact sealed_settle (lost.trans (recallLost_of_request hr hn hu))

end Sys2Proof.Proofs.LostRecalls

/-!
The buffer limits of a Pier group (R127).
-/
namespace Sys2Proof.Proofs.BufferLimits

open Sys2Proof Sys2Proof.Machine Sys2Proof.Laws.Calm
open Sys2Proof.Proofs.TrayCommands (sealed_of_eq)

/-- R127: the cells that the limits give away, with the 768 that are no class's. -/
def limitTotal (wb mgmt : Nat) (req rsp : Nat → Nat) : Nat := 768 + wb + mgmt + ((List.range 8).map (fun c => req c + rsp c)).sum

/-- R127: what the limits of one class and the cap of its VOQs must keep. -/
def classFits (req rsp cap : Nat) : Prop :=
  (req = 0 ∨ 12 ≤ req) ∧ (rsp = 0 ∨ 12 ≤ rsp) ∧ 12 ≤ cap ∧ cap ≤ (if req + rsp = 0 then 12 else req + rsp)

/-- R127: what the limits of a group must keep. -/
def limitsFit (total wb mgmt : Nat) (req rsp cap : Nat → Nat) : Prop :=
  total ≤ 24576 ∧ 48 ≤ wb ∧ 24 ≤ mgmt ∧ ∀ c < 8, classFits (req c) (rsp c) (cap c)

section

variable (wb mgmt : Nat) (req rsp cap : Nat → Nat)

/-- The check's first result, of limits listed by class. -/
theorem limCheck_total (caps : List Nat) :
    (limCheck wb mgmt ((List.range 8).map (fun c => (req c, rsp c))) caps).1 = limitTotal wb mgmt req rsp := by
  simp only [limCheck, limitTotal, List.map_map, Function.comp_def]

/-- The check passes if and only if the limits fit. -/
theorem limCheck_iff_fits : (limCheck wb mgmt ((List.range 8).map (fun c => (req c, rsp c))) ((List.range 8).map cap)).2 = true ↔
    limitsFit (limitTotal wb mgmt req rsp) wb mgmt req rsp cap := by
  have total := limCheck_total wb mgmt req rsp []
  simp only [limCheck] at total
  simp only [limCheck, total, List.zip_map', List.all_map, List.all_eq_true, List.mem_range, Function.comp_apply, Bool.and_eq_true,
    Bool.or_eq_true, decide_eq_true_eq, limitsFit, classFits, and_assoc]

end

/-- The state as a write of a limit would leave it, before the check. -/
def storeLimit (s : State) (pg : Nat) (v : Word) : LimitReg → State
  | .rsv => s.setN pg Reg.Port.LIM_RSV v.toNat
  | .classLim c => s.setReg pg Reg.Port.CLASS_LIM c.val 0 (BitVec.ofNat 64 v.toNat)
  | .voqCap c => s.setReg pg Reg.Port.VOQ_CAP c.val 0 (BitVec.ofNat 64 (v.toNat % 65536))

section

variable {s t : State} {g : Nat} {w : LimitReg} {v : Word} {total wb mgmt : Nat} {req rsp cap : Nat → Nat}
  (ht : t = storeLimit s (pgPort g) v w)
  (hwb : wb = fld (t.rg (pgPort g) Reg.Port.LIM_RSV) 15 0) (hmg : mgmt = fld (t.rg (pgPort g) Reg.Port.LIM_RSV) 31 16)
  (hreq : req = fun c => fld (t.rgi (pgPort g) Reg.Port.CLASS_LIM c) 15 0)
  (hrsp : rsp = fun c => fld (t.rgi (pgPort g) Reg.Port.CLASS_LIM c) 31 16)
  (hcap : cap = fun c => (t.rgi (pgPort g) Reg.Port.VOQ_CAP c).toNat)

include ht hwb hmg hreq hrsp hcap

/-- R127: the write is checked as it would leave the registers. -/
theorem limitWrite_of_check {k : Nat} {ok : Bool}
    (hk : limCheck wb mgmt ((List.range 8).map (fun c => (req c, rsp c))) ((List.range 8).map cap) = (k, ok)) :
    s.limitWrite g w v = if ok then t.setN (pgPort g) Reg.Port.LIM_SUM k else s.writeRejected (pgPort g) := by
  subst ht hwb hmg hreq hrsp hcap
  cases w <;> simp only [State.limitWrite, State.classLim, storeLimit] at hk ⊢ <;> simp only [hk]

theorem limitWrite_of_fits (h : limitsFit (limitTotal wb mgmt req rsp) wb mgmt req rsp cap) :
    s.limitWrite g w v = t.setN (pgPort g) Reg.Port.LIM_SUM (limitTotal wb mgmt req rsp) :=
  limitWrite_of_check ht hwb hmg hreq hrsp hcap
    (Prod.ext (limCheck_total wb mgmt req rsp _) ((limCheck_iff_fits wb mgmt req rsp cap).mpr h))

theorem limitWrite_of_unfit (h : ¬limitsFit (limitTotal wb mgmt req rsp) wb mgmt req rsp cap) :
    s.limitWrite g w v = s.writeRejected (pgPort g) :=
  limitWrite_of_check ht hwb hmg hreq hrsp hcap
    (Prod.ext (limCheck_total wb mgmt req rsp _) (Bool.eq_false_iff.mpr (mt (limCheck_iff_fits wb mgmt req rsp cap).mp h)))

end

/-- Settles O44: the write is checked by limCheck, which passes if and only if the limits fit. -/
theorem limitsAreEnforced : Obligations.LimitsAreEnforced := by
  rintro s t g w v _ wb mgmt req rsp cap ho ht hwb hmg hreq hrsp hcap rfl
  have stored : t = storeLimit s (pgPort g.val) v w := ht.trans (by cases w <;> rfl)
  have acts := atPage_of_open s _ _ _ (fun s => s.limitWrite g.val w v) ho
  exact ⟨fun fits => sealed_of_eq (acts.trans (limitWrite_of_fits stored hwb hmg hreq hrsp hcap fits)),
    fun unfit => sealed_of_eq (acts.trans (limitWrite_of_unfit stored hwb hmg hreq hrsp hcap unfit))⟩

end Sys2Proof.Proofs.BufferLimits

/-!
The commands of the page headers, of diagnostics, of the pins and of the debug port (R150, R426, R427, R498, R519, R522, R538-R541, R553).
-/
namespace Sys2Proof.Proofs.CareCommands

open Sys2Proof Sys2Proof.Machine
open Sys2Proof.Proofs.LinkCommands (sealed_settle)
open Sys2Proof.Proofs.TrayCommands (sealed_of_eq)

section

variable {s : State}

/-! ### Diagnostics (R150) -/

theorem traceSplit_of_stopped (hs : bit (s.hub Reg.Smp.SMP_CTRL) 31 = false) (ht : bit (s.hub Reg.Diag.TRACE_CTRL) 31 = false) (v : Word) :
    s.traceSplit v = s.writeReg pgDiag Reg.Diag.TRACE_SPLIT 0 0 (v.setWidth 64) := by
  simp [State.traceSplit, hs, ht]

theorem traceCtrl_of_fits
    (h : fld (s.hub Reg.Diag.TRACE_SPLIT) 4 0 * 262144 + 32 * (s.hub Reg.Diag.TRACE_ENTRIES).toNat ≤ 4194304) (v : Word) :
    s.traceCtrl v = s.writeReg pgDiag Reg.Diag.TRACE_CTRL 0 0 (v.setWidth 64) :=
  if_neg fun big => Nat.not_lt.mpr h big.2

/-! ### Page headers (R519, R522) -/

/-- A write to the header of a page that may be reached acts. -/
theorem onPage_of_reached {pg : Nat} (h : s.pageBlocked (pg * 4096 + 0x10) = none) (f : State → State) : s.onPage pg f = f s := by
  simp only [State.onPage, h]

/-! ### Pins (R427, R538, R553) -/

/-- R538: at the end of its 10 µs ALERT_N is released if nothing causes it. -/
theorem alertHoldEnd_of_causeless (ha : s.alert = true) (hc : State.alertCause { s with alertHold := false } = false) :
    s.alertHoldEnd = { s with alert := false, alertHold := false } := by
  rw [State.alertHoldEnd, if_pos ha, State.reviewAlert, hc]
  rfl

theorem jtagLoad_of_open {i : Jtag} (h : s.jtagMay i = true) : s.jtagLoad i = { s with pins := { s.pins with jtag := i } } := if_pos h

theorem jtagLoad_of_closed {i : Jtag} (h : s.jtagMay i = false) :
    s.jtagLoad i = ({ s with pins := { s.pins with jtag := .bypass } } : State).bumpHub Reg.KS.DEBUG_DENY_CNT :=
  if_neg (by simp [h])

/-! ### The debug port (R426, R427) -/

/-- R426: an operation on a Spindle that its composition opens to the debug port is done. -/
theorem debugAccess_halt_of_open {n : BayId} {k : Fin 64} (h : s.debugSp n.val k.val = true) :
    s.debugAccess (.halt n k) = s.setSpu n.val k.val { s.spu n.val k.val with halted := true } := if_pos h

theorem debugAccess_readX_of_open {n : BayId} {k : Fin 64} (h : s.debugSp n.val k.val = true) (r : Fin 32) :
    s.debugAccess (.readX n k r) = s.emit (.debug (BitVec.ofNat 512 ((s.spu n.val k.val).x r.val))) := if_pos h

/-- R427: a register read that no class opens reads 0 and is counted. -/
theorem debugAccess_readReg_of_closed (h : s.debugOpen = false) (off : BitVec 26) (wide : Bool) :
    s.debugAccess (.readReg off wide) = (s.bumpHub Reg.KS.DEBUG_DENY_CNT).emit (.debug 0) := by
  simp [State.debugAccess, State.debugDeny, h]

end

/-- Settles O16: each command in the branch that its premises name; those without premises are their one operation. -/
theorem careCommandsComplete : Obligations.CareCommandsComplete := by
  unfold Obligations.CareCommandsComplete
  refine ⟨?_, ?_, ?_, ?_, ?_, ?_, ?_, ?_, ?_, ?_, ?_, ?_, ?_⟩
  · rintro s _ v rfl
    rfl
  · exact fun s v hs ht => sealed_of_eq (traceSplit_of_stopped hs ht v)
  · exact fun s v h => sealed_of_eq (traceCtrl_of_fits h (setFld v 31 31 1))
  · exact fun s pg v h => ⟨sealed_of_eq (onPage_of_reached h _), sealed_of_eq (onPage_of_reached h _), sealed_of_eq (onPage_of_reached h _)⟩
  · exact fun s v => rfl
  · exact fun s v => rfl
  · exact fun s ha hc => sealed_of_eq (alertHoldEnd_of_causeless ha hc)
  · exact fun s l => rfl
  · exact fun s i h => sealed_of_eq (jtagLoad_of_open h)
  · exact fun s i h => sealed_of_eq (jtagLoad_of_closed h)
  · exact fun s n k h => sealed_settle (debugAccess_halt_of_open h)
  · exact fun s n k r h => sealed_settle (debugAccess_readX_of_open h r)
  · exact fun s off w h => sealed_settle (debugAccess_readReg_of_closed h off w)

end Sys2Proof.Proofs.CareCommands

/-!
A write to PIER_CFG, and the ports and the tray slots that forbid it (R110, R154).
-/
namespace Sys2Proof.Proofs.PierCfg

open Sys2Proof Sys2Proof.Machine Sys2Proof.Laws.Calm
open Sys2Proof.Proofs.LinkCommands (sealed_settle)

/-- R154: every logical port of the Pier is in DISABLED or FAULT. -/
def portsDown (s : State) (p : Nat) : Prop := ∀ x ∈ s.pierPorts p, (s.link x).state = .disabled ∨ (s.link x).state = .fault

/-- R110: the write would change the Pier's MODE or SPLIT. -/
def movesMode (s : State) (p : Nat) (v : Word) : Prop :=
  fld (Reg.Pier.PIER_CFG.written (s.pierCfg p) (BitVec.ofNat 64 v.toNat)).1 3 0 ≠ fld (s.pierCfg p) 3 0

section

variable {s : State} {p : Nat} {v : Word}

/-- The model's test of the ports is that of R154. -/
theorem all_down_iff :
    (s.pierPorts p).all (fun x => (s.link x).state = .disabled || (s.link x).state = .fault) = true ↔ portsDown s p := by
  simp [portsDown]

theorem pierCfgWrite_of_allowed (hd : portsDown s p) (hm : s.trayUses p = false ∨ ¬movesMode s p v) :
    s.pierCfgWrite p v = (s.writeReg (pgPier p) Reg.Pier.PIER_CFG 0 0 (BitVec.ofNat 64 v.toNat)).tryPier p := by
  refine if_neg (not_or.mpr ⟨not_not_intro (all_down_iff.mpr hd), fun used => ?_⟩)
  obtain ⟨uses, moves⟩ := used
  exact hm.elim (fun unused => Bool.false_ne_true (unused.symm.trans uses)) (fun still => still moves)

theorem pierCfgWrite_of_portUp (h : ¬portsDown s p) : s.pierCfgWrite p v = s.setErr (pgPier p) 1 0 :=
  if_pos (.inl (mt all_down_iff.mp h))

theorem pierCfgWrite_of_usedMode (hu : s.trayUses p = true) (hm : movesMode s p v) : s.pierCfgWrite p v = s.setErr (pgPier p) 1 0 :=
  if_pos (.inr ⟨hu, hm⟩)

end

/-- Settles O40: the write is made where its two tests pass; a port that is up fails the first, a mode moved under the tray map the second. -/
theorem pierCfgOnlyWhileDown : Obligations.PierCfgOnlyWhileDown := by
  intro s p v moves ho hmoves
  have acts := atPage_of_open s _ _ _ (fun s => s.pierCfgWrite p.val v) ho
  refine ⟨fun down free => ?_, fun x hx disabled fault => ?_, fun used moved => ?_⟩
  · exact sealed_settle (acts.trans (pierCfgWrite_of_allowed down (free.imp_right (mt hmoves.mpr))))
  · have up : ¬portsDown s p.val := fun down => (down x hx).elim disabled fault
    exact sealed_settle (acts.trans (pierCfgWrite_of_portUp up))
  · exact sealed_settle (acts.trans (pierCfgWrite_of_usedMode used (hmoves.mp moved)))

end Sys2Proof.Proofs.PierCfg

/-!
The commands that bring data, secured and idle flits (R158-R160, R166-R168, R175, R181).
-/
namespace Sys2Proof.Proofs.FlitCommands

open Sys2Proof Sys2Proof.Machine
open Sys2Proof.Proofs.LinkCommands (sealed_settle plainFlit_of_good)

/-- A link whose flits are sequenced carries flits. -/
theorem live_of_takes : ∀ {l : LinkState}, l.takes = true → l.live = true
  | .securing, _ | .active, _ | .parked, _ => rfl

section

variable {s t : State} {x ftype : Nat} {f : Flit}

/-! ### Sequenced flits (R166, R168) -/

/-- R166: a good flit in its turn is accepted, once its control fields have been used. -/
theorem seqFlit_of_next (h : s.nextFlit x ftype f) (hc : (s.countFec x f).useCtrl x f.ctrl = (false, t))
    (ht : (t.link x).state.takes = true) (accept : State → State) : s.seqFlit x ftype f accept = accept t := by
  obtain ⟨takes, good, type, seq, secured⟩ := h
  simp [State.seqFlit, live_of_takes takes, takes, good, type, seq, secured, hc, ht]

/-- R166, R181: a damaged flit of a sequenced type is counted and discarded. -/
theorem seqFlit_of_damaged (ht : (s.link x).state.takes = true) (hb : (s.link x).takesFlit f = false) (accept : State → State) :
    s.seqFlit x ftype f accept = ((s.countFec x f).countCrc x).discardFlit x := by
  simp [State.seqFlit, live_of_takes ht, ht, hb]

/-! ### Idle flits (R159, R166) -/

/-- R160, R181: a damaged flit of an unsequenced type is only counted. -/
theorem plainFlit_of_damaged (hl : (s.link x).state.live = true) (hb : (s.link x).takesFlit f = false) (use : State → State) :
    s.plainFlit x ftype f use = (s.countFec x f).countCrc x := by
  simp [State.plainFlit, hl, hb]

/-- R166: the control fields of a good idle flit are used. -/
theorem idleFlit_of_good (hl : (s.link x).state.live = true) (hg : (s.link x).takesFlit f = true) (hty : fld f.ctrl 63 60 = 2)
    (hz : fld f.ctrl 59 48 = 0) (hs : f.slots.any (fun w => w ≠ 0) = false) (hc : t = s.countFec x f)
    (ht : (t.link x).state.takes = true) : s.idleFlit x f = ((t.useCtrl x f.ctrl).2.sessionUp x).pump x := by
  subst hc
  rw [State.idleFlit, plainFlit_of_good hl hg hty hz, hs, if_neg Bool.false_ne_true, State.plainCtrl, if_pos ht]

end

/-- Settles O30: data and secured flits differ only in what is done with one that is accepted; a damaged flit reaches neither, nor the use
of an idle flit's fields. -/
theorem flitCommandsComplete : Obligations.FlitCommandsComplete := by
  unfold Obligations.FlitCommandsComplete
  refine ⟨?_, ?_, ?_, ?_⟩
  · exact fun s t p f h hc ht => sealed_settle (seqFlit_of_next h hc ht _)
  · exact fun s t p f h hc ht => sealed_settle (seqFlit_of_next h hc ht _)
  · exact fun s t p f hl hg hty hz hs hc ht => sealed_settle (idleFlit_of_good hl hg hty hz hs hc ht)
  · intro s p f ht hb
    exact ⟨sealed_settle (seqFlit_of_damaged ht hb _), sealed_settle (seqFlit_of_damaged ht hb _),
      sealed_settle (plainFlit_of_damaged (live_of_takes ht) hb _)⟩

end Sys2Proof.Proofs.FlitCommands

/-!
The fields of numbers and of header slots (R8, R161, R184).
-/
namespace Sys2Proof.Proofs.WireFields

open Sys2Proof Sys2Proof.Machine
open Sys2Proof.Proofs.TableWords (nfld_eq testBit_of_nfld)

/-! ### Fields of numbers -/

theorem nfld_eq_mod_div (v : Nat) {hi lo : Nat} (h : lo ≤ hi) : nfld v hi lo = v % 2 ^ (hi + 1) / 2 ^ lo := by
  have split : 2 ^ (hi + 1) = 2 ^ lo * 2 ^ (hi + 1 - lo) := by rw [← pow_add]; congr 1; omega
  rw [nfld_eq, split, Nat.mod_mul_right_div_self]

/-- A field below bit k does not see what is added from bit k on. -/
theorem nfld_low (x y : Nat) {k hi lo : Nat} (h : lo ≤ hi) (hk : hi < k) : nfld (x + 2 ^ k * y) hi lo = nfld x hi lo := by
  rw [nfld_eq_mod_div _ h, nfld_eq_mod_div _ h, Nat.add_mod, Nat.mod_eq_zero_of_dvd (Dvd.dvd.mul_right (pow_dvd_pow 2 hk) y), Nat.add_zero,
    Nat.mod_mod]

/-- A field from bit k on sees only what is added there. -/
theorem nfld_high {x k : Nat} (y : Nat) {hi lo : Nat} (hx : x < 2 ^ k) (hk : k ≤ lo) (h : lo ≤ hi) :
    nfld (x + 2 ^ k * y) hi lo = nfld y (hi - k) (lo - k) := by
  have place : 2 ^ lo = 2 ^ k * 2 ^ (lo - k) := by rw [← pow_add]; congr 1; omega
  have width : hi - k + 1 - (lo - k) = hi + 1 - lo := by omega
  rw [nfld_eq, nfld_eq, place, ← Nat.div_div_eq_div_mul, Nat.add_mul_div_left _ _ (by positivity), Nat.div_eq_of_lt hx, Nat.zero_add, width]

theorem nfld_mod (x : Nat) {k hi lo : Nat} (h : lo ≤ hi) (hk : hi < k) : nfld (x % 2 ^ k) hi lo = nfld x hi lo := by
  rw [nfld_eq_mod_div _ h, nfld_eq_mod_div _ h, Nat.mod_mod_of_dvd _ (pow_dvd_pow 2 hk)]

theorem fld_eq_nfld {w : Nat} (v : BitVec w) (hi lo : Nat) : fld v hi lo = nfld v.toNat hi lo := rfl

theorem fld_ofNat (w v : Nat) {hi lo : Nat} (h : lo ≤ hi) (hw : hi < w) : fld (BitVec.ofNat w v) hi lo = nfld v hi lo := by
  rw [fld_eq_nfld, BitVec.toNat_ofNat, nfld_mod v h hw]

theorem fld_zero (w hi lo : Nat) : fld (0 : BitVec w) hi lo = 0 := by simp [fld]

theorem bit_of_fld {w : Nat} {v : BitVec w} {n : Nat} {b : Bool} (h : fld v n n = b2n b) : bit v n = b := testBit_of_nfld h

/-! ### Fields of a header -/

section

variable (vc dslots op cls rest : Nat)

theorem header_toNat : (header vc dslots op cls rest).toNat =
    (dslots % 128 + vc % 8 * 2 ^ 13 + op % 256 * 2 ^ 16) + 2 ^ 24 * (cls % 2 ^ 8 + 2 ^ 8 * (rest % 2 ^ 96)) := by
  rw [header, BitVec.toNat_ofNat]
  omega

theorem hDslots_header : hDslots (header vc dslots op cls rest) = dslots % 128 := by
  rw [hDslots, fld_eq_nfld, header_toNat, nfld_eq]
  omega

theorem hVc_header : hVc (header vc dslots op cls rest) = vc % 8 := by
  rw [hVc, fld_eq_nfld, header_toNat, nfld_eq]
  omega

theorem hOp_header : hOp (header vc dslots op cls rest) = op % 256 := by
  rw [hOp, fld_eq_nfld, header_toNat, nfld_eq]
  omega

/-- The fields of a header's class byte. -/
theorem fld_header_class {hi lo : Nat} (hk : 24 ≤ lo) (h : lo ≤ hi) (hh : hi < 32) :
    fld (header vc dslots op cls rest) hi lo = nfld cls (hi - 24) (lo - 24) := by
  rw [fld_eq_nfld, header_toNat, nfld_high _ (by omega) hk h, nfld_low _ _ (by omega) (by omega), nfld_mod _ (by omega) (by omega)]

/-- The fields of a header's bytes 4 to 15. -/
theorem fld_header_rest {hi lo : Nat} (hk : 32 ≤ lo) (h : lo ≤ hi) (hh : hi < 128) :
    fld (header vc dslots op cls rest) hi lo = nfld rest (hi - 32) (lo - 32) := by
  rw [fld_eq_nfld, header_toNat, nfld_high _ (by omega) (by omega) h, nfld_high _ (Nat.mod_lt _ (by decide)) (by omega) (by omega),
    nfld_mod _ (by omega) (by omega), Nat.sub_sub, Nat.sub_sub]

end

section

variable (vc dslots op rest : Nat) {cls x : Nat} {tc : BitVec 3} (hc : cls = tc.toNat * 32 + x)

include hc

/-- R184: the traffic class, above five bits of the class byte that are the message's own. -/
theorem hTc_header (hx : x < 32) : hTc (header vc dslots op cls rest) = tc := by
  rw [hTc, fld_header_class _ _ _ _ _ (by decide) (by decide) (by decide), hc, nfld_eq, ← BitVec.toNat_inj, BitVec.toNat_ofNat]
  omega

/-- R184: those five bits. -/
theorem fld_header_own {hi lo : Nat} (hk : 24 ≤ lo) (h : lo ≤ hi) (hh : hi < 29) :
    fld (header vc dslots op cls rest) hi lo = nfld x (hi - 24) (lo - 24) := by
  rw [fld_header_class _ _ _ _ _ hk h (by omega), hc, Nat.add_comm, Nat.mul_comm]
  exact nfld_low (k := 5) x tc.toNat (by omega) (by omega)

end

theorem hVc_half {vc k : Nat} (hvc : vc = 2 * k ∨ vc = 2 * k + 1) (hk : k < 4) (dslots op cls rest : Nat) :
    hVc (header vc dslots op cls rest) / 2 = k := by
  rw [hVc_header]
  omega

end Sys2Proof.Proofs.WireFields

/-!
Lines in data slots, the line check and the codes of a message (R161, R185, R192).
-/
namespace Sys2Proof.Proofs.WireSlots

open Sys2Proof Sys2Proof.Machine

/-! ### Lines in data slots -/

/-- n slots of a number spell its low 16 n bytes. -/
theorem slots_foldr (n v : Nat) :
    ((List.range n).map (fun i => BitVec.ofNat 128 (v >>> (128 * i)))).foldr (fun s a => s.toNat + 2 ^ 128 * a) 0 = v % 2 ^ (128 * n) := by
  induction n generalizing v with
  | zero => simp [Nat.mod_one]
  | succ n ih =>
    have shifted (i : Nat) : v >>> (128 * (i + 1)) = (v >>> 128) >>> (128 * i) := by
      rw [← Nat.shiftRight_add]; congr 1; omega
    have split : 2 ^ (128 * (n + 1)) = 2 ^ 128 * 2 ^ (128 * n) := by rw [← pow_add]; congr 1; omega
    rw [List.range_succ_eq_map, List.map_cons, List.map_map, List.foldr_cons, split, Nat.mod_mul, ← Nat.shiftRight_eq_div_pow, ← ih]
    simp [Function.comp_def, shifted]

@[simp] theorem dataSlots_length (n : Nat) (l : Line) : (dataSlots n l).length = n := by simp [dataSlots]

/-- A line that its data slots can hold reads back from them. -/
theorem lineOfSlots_dataSlots {n : Nat} (hn : n ≤ 4) {l : Line} (hl : l.toNat < 2 ^ (128 * n)) : lineOfSlots (dataSlots n l) = l := by
  rw [lineOfSlots, List.take_of_length_le (by simpa using hn), dataSlots, slots_foldr, Nat.mod_eq_of_lt hl, BitVec.ofNat_toNat, BitVec.setWidth_eq]

theorem lineOfSlots_line (l : Line) : lineOfSlots (dataSlots 4 l) = l :=
  lineOfSlots_dataSlots (Nat.le_refl 4) (by simpa only [Nat.reduceMul] using l.isLt)

theorem lineOfSlots_append {ss : List Slot} (h : ss.length = 4) (ts : List Slot) : lineOfSlots (ss ++ ts) = lineOfSlots ss := by
  rw [lineOfSlots, lineOfSlots, List.take_left' h, List.take_of_length_le h.le]

theorem lineOfSlots_dataSlots_append (l : Line) (ss : List Slot) : lineOfSlots (dataSlots 4 l ++ ss) = l := by
  rw [lineOfSlots_append (dataSlots_length 4 l), lineOfSlots_line]

theorem lines_length (ls : List Line) : (ls.flatMap (dataSlots 4)).length = 4 * ls.length := by
  induction ls with
  | nil => rfl
  | cons l ls ih => simp [ih]; omega

/-- Lines read back from their slots, one after the other. -/
theorem linesOfSlots_lines (ls : List Line) {k : Nat} (h : ls.length ≤ k) : linesOfSlots k (ls.flatMap (dataSlots 4)) = ls := by
  induction ls generalizing k with
  | nil => cases k <;> simp [linesOfSlots]
  | cons l ls ih =>
    obtain ⟨k, rfl⟩ : ∃ j, k = j + 1 := ⟨k - 1, by simp at h; omega⟩
    have some_slot : dataSlots 4 l ++ ls.flatMap (dataSlots 4) ≠ [] := by
      intro e
      simpa using congrArg List.length e
    rw [List.flatMap_cons, linesOfSlots, if_neg some_slot, lineOfSlots_dataSlots_append, List.drop_left' (dataSlots_length 4 l),
      ih (Nat.le_of_succ_le_succ h)]

/-! ### The line check (R192) -/

theorem crc16Bit_lt {poly : Nat} (hp : poly < 2 ^ 16) (c b : Nat) : crc16Bit poly c b < 2 ^ 16 := by
  have shifted : c <<< 1 % 65536 < 2 ^ 16 := Nat.mod_lt _ (by decide)
  dsimp only [crc16Bit]
  split
  · exact Nat.xor_lt_two_pow shifted hp
  · exact shifted

theorem crc16Byte_lt {poly c : Nat} (hp : poly < 2 ^ 16) (hc : c < 2 ^ 16) (b : Byte) : crc16Byte poly c b < 2 ^ 16 :=
  List.foldlRecOn (motive := (· < 2 ^ 16)) _ _ hc fun _ _ _ _ => crc16Bit_lt hp _ _

theorem lineCheck_lt (bs : List Byte) : lineCheck bs < 2 ^ 16 :=
  List.foldlRecOn (motive := (· < 2 ^ 16)) _ _ (by decide) fun _ h _ _ => crc16Byte_lt (by decide) h _

/-! ### Codes -/

theorem reqOp_ofCode_code (op : ReqOp) : ReqOp.ofCode op.code = some op := by cases op <;> rfl

theorem reqOp_code_lt (op : ReqOp) : op.code < 256 := by cases op <;> decide

theorem status_ofCode_code (st : Status) : Status.ofCode st.code = some st := by cases st <;> rfl

end Sys2Proof.Proofs.WireSlots

/-!
Requests in slots (R184-R187, R192).
-/
namespace Sys2Proof.Proofs.WireRequests

open Sys2Proof Sys2Proof.Machine
open Sys2Proof.Proofs.TableWords (nfld_eq b2n_lt)
open Sys2Proof.Proofs.WireFields Sys2Proof.Proofs.WireSlots

/-! ### What a request is laid out as -/

/-- R185: is there a parameter slot? -/
def hasParam (own : NodeId) (check : Bool) (r : Req) : Bool := r.op.px || r.dnode ≠ own || (check && decide (r.nData ≠ 0))

/-- R192: the line check in the parameter slot, 0 where there is none. -/
def paramCheck (check : Bool) (r : Req) : Nat :=
  if check ∧ r.nData ≠ 0 then lineCheck (leBytes (16 * r.nData) r.data.toNat) else 0

/-- R187: the parameter slot. -/
def paramSlot (r : Req) (lchk : Nat) : Slot :=
  BitVec.ofNat 128 (r.mask.toNat + r.dnode.toNat * 2 ^ 64 + lchk * 2 ^ 80 + r.opnd.toNat * 2 ^ 96)

/-- R186: the header slot. -/
def reqHeader (vc : Nat) (px : Bool) (r : Req) : Slot :=
  header vc (b2n px + r.nData) r.op.code (r.tc.toNat * 32 + r.colour.toNat * 8 + b2n px * 4)
    (r.epoch.toNat + r.tag.toNat * 2 ^ 8 + r.laddr.toNat * 2 ^ 20 + r.key.toNat * 2 ^ 64)

theorem wire_eq (vc : Nat) (own : NodeId) (check : Bool) (r : Req) : r.wire vc own check =
    reqHeader vc (hasParam own check r) r ::
      ((if hasParam own check r then [paramSlot r (paramCheck check r)] else []) ++ dataSlots r.nData r.data) := rfl

theorem nData_le (r : Req) : r.nData ≤ 4 := by
  unfold Req.nData
  split
  · decide
  · cases r.op <;> decide

theorem paramCheck_lt (check : Bool) (r : Req) : paramCheck check r < 2 ^ 16 := by
  unfold paramCheck
  split
  · exact lineCheck_lt _
  · decide

theorem paramCheck_of_unchecked {check : Bool} {r : Req} (h : ¬(check = true ∧ r.nData ≠ 0)) : paramCheck check r = 0 := if_neg h

/-- Where a request has no parameter slot, nothing that the slot would hold is needed. -/
theorem of_noParam {own : NodeId} {check : Bool} {r : Req} (h : hasParam own check r = false) :
    r.op.px = false ∧ r.dnode = own ∧ ¬(check = true ∧ r.nData ≠ 0) := by
  simpa [hasParam, and_assoc] using h

/-- R187: an opcode that may lack the parameter slot uses neither MASK nor OPND. -/
theorem masks_of_noPx : ∀ {op : ReqOp}, op.px = false → op.masks = false
  | .rd, _ | .rdS, _ | .rdM, _ | .own, _ | .wr, _ => rfl

theorem opnd_of_noPx {o : Word} : ∀ {op : ReqOp}, op.px = false → opndOk op o = true → o = 0
  | .rd, _, h | .rdS, _, h | .rdM, _, h | .own, _, h | .wr, _, h => of_decide_eq_true h

/-! ### The header's fields (R186) -/

section

variable (vc : Nat) (px : Bool) (r : Req)

theorem hOp_reqHeader : hOp (reqHeader vc px r) = r.op.code := by
  rw [reqHeader, hOp_header, Nat.mod_eq_of_lt (reqOp_code_lt r.op)]

theorem hDslots_reqHeader : hDslots (reqHeader vc px r) = b2n px + r.nData := by
  have := nData_le r
  have := b2n_lt px
  rw [reqHeader, hDslots_header, Nat.mod_eq_of_lt (by omega)]

/-- The fields of the class byte. -/
theorem class_reqHeader : hTc (reqHeader vc px r) = r.tc ∧ fld (reqHeader vc px r) 28 27 = r.colour.toNat ∧
    bit (reqHeader vc px r) 26 = px ∧ fld (reqHeader vc px r) 25 24 = 0 := by
  have hc := r.colour.isLt
  have hp := b2n_lt px
  refine ⟨hTc_header _ _ _ _ (Nat.add_assoc _ _ _) (by omega), ?_, bit_of_fld ?_, ?_⟩
  all_goals
    rw [reqHeader, fld_header_own _ _ _ _ (Nat.add_assoc _ _ _) (by decide) (by decide) (by decide), nfld_eq]
    omega

/-- The fields of bytes 4 to 15. -/
theorem rest_reqHeader : fld (reqHeader vc px r) 39 32 = r.epoch.toNat ∧ fld (reqHeader vc px r) 51 40 = r.tag.toNat ∧
    fld (reqHeader vc px r) 93 52 = r.laddr.toNat ∧ fld (reqHeader vc px r) 95 94 = 0 ∧ fld (reqHeader vc px r) 127 96 = r.key.toNat := by
  have he := r.epoch.isLt
  have ht := r.tag.isLt
  have hl := r.laddr.isLt
  have hk := r.key.isLt
  refine ⟨?_, ?_, ?_, ?_, ?_⟩
  all_goals
    rw [reqHeader, fld_header_rest _ _ _ _ _ (by decide) (by decide) (by decide), nfld_eq]
    omega

end

/-- R187: the fields of the parameter slot. -/
theorem paramSlot_fields (r : Req) {lchk : Nat} (h : lchk < 2 ^ 16) : fld (paramSlot r lchk) 63 0 = r.mask.toNat ∧
    fld (paramSlot r lchk) 75 64 = r.dnode.toNat ∧ fld (paramSlot r lchk) 79 76 = 0 ∧ fld (paramSlot r lchk) 95 80 = lchk ∧
    fld (paramSlot r lchk) 127 96 = r.opnd.toNat := by
  have hm := r.mask.isLt
  have hd := r.dnode.isLt
  have ho := r.opnd.isLt
  refine ⟨?_, ?_, ?_, ?_, ?_⟩
  all_goals
    rw [paramSlot, fld_ofNat _ _ (by decide) (by decide), nfld_eq]
    omega

/-! ### Reading -/

section

variable {own : NodeId} {check px : Bool} {r : Req} (hpx : hasParam own check r = px)

/-- What the reader takes for the parameter slot. -/
theorem param_read (p : Slot) (d : List Slot) : (if px then ((if px then [p] else []) ++ d).headD 0 else 0) = if px then p else 0 := by
  cases px <;> rfl

/-- What the reader takes for the data slots. -/
theorem data_read (p : Slot) (d : List Slot) : (if px then ((if px then [p] else []) ++ d).drop 1 else (if px then [p] else []) ++ d) = d := by
  cases px <;> rfl

/-- R192: the line check that the reader gives beside the request. -/
theorem carried_check (check : Bool) (r : Req) : (if check = true ∧ r.nData ≠ 0 then some (paramCheck check r) else none) =
    if check = true ∧ r.nData ≠ 0 then some (lineCheck (leBytes (16 * r.nData) r.data.toNat)) else none :=
  ite_congr rfl (fun h => congrArg some (if_pos h)) fun _ => rfl

include hpx

/-- R192: a line check rides only in a parameter slot. -/
theorem param_of_checked (h : check = true ∧ r.nData ≠ 0) : px = true := by
  obtain ⟨hc, hn⟩ := h
  rw [← hpx, hasParam, hc, decide_eq_true hn, Bool.and_self, Bool.or_true]

theorem param_of_px (h : r.op.px = true) : px = true := by rw [← hpx, hasParam, h, Bool.true_or, Bool.true_or]

/-- R187: with the parameter slot or without it, the reader finds the request's MASK, OPND, DNODE and line check. -/
theorem param_fields (hopnd : opndOk r.op r.opnd = true) (hmask : r.op.masks = false → r.mask = 0) {p : Slot}
    (hp : (if px then paramSlot r (paramCheck check r) else 0) = p) :
    fld p 63 0 = r.mask.toNat ∧ (if px then BitVec.ofNat 12 (fld p 75 64) else own) = r.dnode ∧ fld p 79 76 = 0 ∧
      fld p 95 80 = paramCheck check r ∧ fld p 127 96 = r.opnd.toNat := by
  subst hp
  cases px with
  | true =>
    obtain ⟨pmask, pdnode, pres, pcheck, popnd⟩ := paramSlot_fields r (paramCheck_lt check r)
    exact ⟨pmask, by simp [pdnode], pres, pcheck, popnd⟩
  | false =>
    obtain ⟨nopx, hown, unchecked⟩ := of_noParam hpx
    rw [paramCheck_of_unchecked unchecked, hmask (masks_of_noPx nopx), opnd_of_noPx nopx hopnd, hown]
    exact ⟨fld_zero _ _ _, rfl, fld_zero _ _ _, fld_zero _ _ _, fld_zero _ _ _⟩

end

/-- Settles O47: what follows the header is found by its parameter bit, and then every field stands where it was put. -/
theorem requestsReadBack : Obligations.RequestsReadBack := by
  unfold Obligations.RequestsReadBack
  intro vc c r h rest hvc hmode horigin hsrc hdeadline hkeyless hbad hopnd hmask hcap hdata hwire
  rw [wire_eq] at hwire
  obtain ⟨rfl, rfl⟩ := List.cons.inj hwire
  generalize hpx : hasParam c.own c.check r = px
  obtain ⟨htc, hcolour, hbit, hzero⟩ := class_reqHeader vc px r
  obtain ⟨hepoch, htag, hladdr, hres, hkey⟩ := rest_reqHeader vc px r
  generalize hp : (if px then paramSlot r (paramCheck c.check r) else 0) = p
  obtain ⟨pmask, pdnode, pres, pcheck, popnd⟩ := param_fields hpx hopnd hmask hp
  have hv : hVc (reqHeader vc px r) / 2 = 0 := hVc_half (by omega) (by decide) _ _ _ _
  have hn : (if casWide r.op r.opnd = true then 2 else r.op.dataSlots) = r.nData := rfl
  rw [readReq, hOp_reqHeader, reqOp_ofCode_code]
  simp only [hbit, hDslots_reqHeader, htc, hcolour, hzero, hepoch, htag, hladdr, hres, hkey, hv, param_read, data_read, hp, pmask, pdnode, pres,
    pcheck, popnd, BitVec.ofNat_toNat, BitVec.setWidth_eq, hn, lineOfSlots_dataSlots (nData_le r) hdata]
  rw [if_pos ⟨hmode, trivial, trivial, trivial, trivial, param_of_px hpx, param_of_checked hpx, trivial, by simpa using hmask, hcap, hopnd,
    Classical.or_iff_not_imp_left.mpr paramCheck_of_unchecked⟩, carried_check]
  obtain ⟨op, origin, src, tag, dnode, laddr, tc, colour, epoch, key, mask, opnd, data, deadline, keyless, bad⟩ := r
  dsimp only at horigin hsrc hdeadline hkeyless hbad
  subst horigin hsrc hdeadline hkeyless hbad
  rfl

end Sys2Proof.Proofs.WireRequests

/-!
The other messages in slots (R190, R191, R203, R363).
-/
namespace Sys2Proof.Proofs.WireMessages

open Sys2Proof Sys2Proof.Machine
open Sys2Proof.Proofs.TableWords (nfld_eq b2n_lt)
open Sys2Proof.Proofs.HomeFrame.LineOnly (status_code_lt)
open Sys2Proof.Proofs.WireFields Sys2Proof.Proofs.WireSlots

/-! ### BI_ACK and WB (R190) -/

/-- R190: the header of a coherence message. -/
def cohHeader (vc dslots op : Nat) (tc : BitVec 3) (la : BitVec 42) (keep : Bool) : Slot :=
  header vc dslots op (tc.toNat * 32 + b2n keep) (la.toNat * 2 ^ 32)

section

variable (vc dslots op : Nat) (tc : BitVec 3) (la : BitVec 42) (keep : Bool)

theorem class_cohHeader : hTc (cohHeader vc dslots op tc la keep) = tc ∧ fld (cohHeader vc dslots op tc la keep) 28 25 = 0 ∧
    bit (cohHeader vc dslots op tc la keep) 24 = keep := by
  have hk := b2n_lt keep
  refine ⟨hTc_header _ _ _ _ rfl (by omega), ?_, bit_of_fld ?_⟩
  all_goals
    rw [cohHeader, fld_header_own _ _ _ _ rfl (by decide) (by decide) (by decide), nfld_eq]
    omega

theorem rest_cohHeader : fld (cohHeader vc dslots op tc la keep) 105 64 = la.toNat ∧ fld (cohHeader vc dslots op tc la keep) 127 106 = 0 ∧
    fld (cohHeader vc dslots op tc la keep) 63 32 = 0 ∧ fld (cohHeader vc dslots op tc la keep) 47 33 = 0 ∧
    bit (cohHeader vc dslots op tc la keep) 32 = false := by
  have hl := la.isLt
  have hf : b2n false = 0 := rfl
  refine ⟨?_, ?_, ?_, ?_, bit_of_fld ?_⟩
  all_goals
    rw [cohHeader, fld_header_rest _ _ _ _ _ (by decide) (by decide) (by decide), nfld_eq]
    omega

end

theorem readCoh_biAck {c : RxCtx} {vc : Nat} (hvc : vc = 4 ∨ vc = 5) (hm : c.mode = 0) (tc : BitVec 3) (la : BitVec 42) :
    readCoh c (cohHeader vc 0 0x32 tc la false) [] = some (.biAck tc la) := by
  obtain ⟨htc, hown, hkeep⟩ := class_cohHeader vc 0 0x32 tc la false
  obtain ⟨hla, hres, hzero, -, -⟩ := rest_cohHeader vc 0 0x32 tc la false
  have hv : hVc (cohHeader vc 0 0x32 tc la false) / 2 = 2 := hVc_half hvc (by decide) _ _ _ _
  have hop : hOp (cohHeader vc 0 0x32 tc la false) = 0x32 := hOp_header _ _ _ _ _
  have hds : hDslots (cohHeader vc 0 0x32 tc la false) = 0 := hDslots_header _ _ _ _ _
  simp [readCoh, htc, hown, hkeep, hla, hres, hzero, hv, hop, hds, hm]

theorem readCoh_wb {c : RxCtx} {vc : Nat} (hvc : vc = 4 ∨ vc = 5) (hm : c.mode = 0) (tc : BitVec 3) (la : BitVec 42) (keep : Bool) (d : Line) :
    readCoh c (cohHeader vc 4 0x33 tc la keep) (dataSlots 4 d) = some (.wb tc la keep false d) := by
  obtain ⟨htc, hown, hkeep⟩ := class_cohHeader vc 4 0x33 tc la keep
  obtain ⟨hla, hres, -, hzero, hcheck⟩ := rest_cohHeader vc 4 0x33 tc la keep
  have hv : hVc (cohHeader vc 4 0x33 tc la keep) / 2 = 2 := hVc_half hvc (by decide) _ _ _ _
  have hop : hOp (cohHeader vc 4 0x33 tc la keep) = 0x33 := hOp_header _ _ _ _ _
  have hds : hDslots (cohHeader vc 4 0x33 tc la keep) = 4 := hDslots_header _ _ _ _ _
  simp [readCoh, htc, hown, hkeep, hla, hres, hzero, hcheck, hv, hop, hds, hm, lineOfSlots_line]

/-! ### The handoff messages (R191) -/

/-- R191: only CANCEL gives a status. -/
def ownBits (m : Hand) : Nat := if m.op = .cancel then m.status.code * 2 else 0

/-- R191: the slot of a handoff message. -/
def handSlot (vc : Nat) (m : Hand) : Slot :=
  header vc 0 m.op.code (m.tc.toNat * 32 + ownBits m)
    (m.node.toNat + m.hseq.toNat * 2 ^ 16 + m.granule.toNat * 2 ^ 32 + m.key.toNat * 2 ^ 64)

section

variable {m : Hand} (hs : m.op = .cancel ∨ m.status = .ok)

include hs

theorem ownBits_eq : ownBits m = m.status.code * 2 := by
  unfold ownBits
  split
  next => rfl
  next h => rw [hs.resolve_left h]; rfl

theorem class_handSlot (vc : Nat) : hTc (handSlot vc m) = m.tc ∧ fld (handSlot vc m) 28 25 = m.status.code ∧ bit (handSlot vc m) 24 = false := by
  have hcode := status_code_lt m.status
  have hf : b2n false = 0 := rfl
  rw [handSlot, ownBits_eq hs]
  refine ⟨hTc_header _ _ _ _ rfl (by omega), ?_, bit_of_fld ?_⟩
  all_goals
    rw [fld_header_own _ _ _ _ rfl (by decide) (by decide) (by decide), nfld_eq]
    omega

end

theorem rest_handSlot (vc : Nat) (m : Hand) : fld (handSlot vc m) 43 32 = m.node.toNat ∧ fld (handSlot vc m) 47 44 = 0 ∧
    fld (handSlot vc m) 55 48 = m.hseq.toNat ∧ fld (handSlot vc m) 63 56 = 0 ∧ fld (handSlot vc m) 90 64 = m.granule.toNat ∧
    fld (handSlot vc m) 95 91 = 0 ∧ fld (handSlot vc m) 127 96 = m.key.toNat := by
  have hn := m.node.isLt
  have hq := m.hseq.isLt
  have hg := m.granule.isLt
  have hk := m.key.isLt
  refine ⟨?_, ?_, ?_, ?_, ?_, ?_, ?_⟩
  all_goals
    rw [handSlot, fld_header_rest _ _ _ _ _ (by decide) (by decide) (by decide), nfld_eq]
    omega

theorem hOp_handSlot (vc : Nat) (m : Hand) : hOp (handSlot vc m) = m.op.code := by
  rw [handSlot, hOp_header]
  cases m.op <;> rfl

theorem readHand_handSlot {c : RxCtx} {vc : Nat} {m : Hand} {h : Slot} (hh : h = handSlot vc m) (hvc : vc = 6 ∨ vc = 7) (hm : c.mode = 0)
    (hs : m.op = .cancel ∨ m.status = .ok) : readHand c h = some m := by
  obtain ⟨htc, hst, hown⟩ := hh ▸ class_handSlot hs vc
  obtain ⟨hnode, hres0, hseq, hres1, hgranule, hres2, hkey⟩ := hh ▸ rest_handSlot vc m
  have hv : hVc h / 2 = 3 := hh ▸ hVc_half hvc (by decide) _ _ _ _
  have hds : hDslots h = 0 := hh ▸ hDslots_header _ _ _ _ _
  have hop : hOp h = m.op.code := hh ▸ hOp_handSlot vc m
  unfold readHand
  extract_lets op
  have read : op = some m.op := by
    simp only [op, hop]
    cases m.op <;> rfl
  simp [read, hst, status_ofCode_code, htc, hv, hds, hown, hnode, hres0, hseq, hres1, hgranule, hres2, hkey, hm, hs]

/-! ### The tray completions (R203) -/

/-- R203: the header of a tray completion. -/
def trayHeader (vc : Nat) (m : TrayCmp) : Slot :=
  header vc (4 * m.data.length) (if m.data = [] then 0x58 else 0x59) (m.tc.toNat * 32 + m.status.code * 2)
    (m.ttag.toNat + m.pmask.toNat * 2 ^ 16 + m.umask.toNat * 2 ^ 32 + m.corr.toNat * 2 ^ 48 + m.unc.toNat * 2 ^ 64)

section

variable (vc : Nat) (m : TrayCmp)

theorem class_trayHeader : hTc (trayHeader vc m) = m.tc ∧ fld (trayHeader vc m) 28 25 = m.status.code ∧ bit (trayHeader vc m) 24 = false := by
  have hcode := status_code_lt m.status
  have hf : b2n false = 0 := rfl
  refine ⟨hTc_header _ _ _ _ rfl (by omega), ?_, bit_of_fld ?_⟩
  all_goals
    rw [trayHeader, fld_header_own _ _ _ _ rfl (by decide) (by decide) (by decide), nfld_eq]
    omega

theorem rest_trayHeader : fld (trayHeader vc m) 47 32 = m.ttag.toNat ∧ fld (trayHeader vc m) 63 48 = m.pmask.toNat ∧
    fld (trayHeader vc m) 79 64 = m.umask.toNat ∧ fld (trayHeader vc m) 95 80 = m.corr.toNat ∧ fld (trayHeader vc m) 111 96 = m.unc.toNat ∧
    fld (trayHeader vc m) 127 112 = 0 := by
  have ht := m.ttag.isLt
  have hp := m.pmask.isLt
  have hu := m.umask.isLt
  have hc := m.corr.isLt
  have hn := m.unc.isLt
  refine ⟨?_, ?_, ?_, ?_, ?_, ?_⟩
  all_goals
    rw [trayHeader, fld_header_rest _ _ _ _ _ (by decide) (by decide) (by decide), nfld_eq]
    omega

theorem hOp_trayHeader : hOp (trayHeader vc m) = if m.data = [] then 0x58 else 0x59 := by
  rw [trayHeader, hOp_header]
  split <;> rfl

theorem hDslots_trayHeader (h : m.data.length ≤ 16) : hDslots (trayHeader vc m) = 4 * m.data.length := by
  rw [trayHeader, hDslots_header]
  omega

end

theorem readTray_trayHeader {c : RxCtx} {vc : Nat} {m : TrayCmp} {len : Option Nat} {h : Slot} (hh : h = trayHeader vc m)
    (hvc : vc = 2 ∨ vc = 3) (hm : c.mode = 1) (hd : m.data.length ≤ 16) (hlen : m.data = [] ∨ len.getD m.data.length = m.data.length)
    (hs : m.status = .ok ∨ m.data = [] ∧ (m.status = .poison ∨ m.status = .integrity ∨ m.status = .unmapped)) :
    readTray c len h (m.data.flatMap (dataSlots 4)) = some m := by
  obtain ⟨htc, hst, hown⟩ := hh ▸ class_trayHeader vc m
  obtain ⟨httag, hpmask, humask, hcorr, hunc, hres⟩ := hh ▸ rest_trayHeader vc m
  have hv : hVc h / 2 = 1 := hh ▸ hVc_half hvc (by decide) _ _ _ _
  have hop : hOp h = if m.data = [] then 0x58 else 0x59 := hh ▸ hOp_trayHeader vc m
  have hds : hDslots h = 4 * m.data.length := hh ▸ hDslots_trayHeader vc m hd
  have hlines := linesOfSlots_lines m.data (k := (m.data.flatMap (dataSlots 4)).length) (by rw [lines_length]; omega)
  have hstatus : m.status = .ok ∨ m.status = .poison ∨ m.status = .integrity ∨ m.status = .unmapped := hs.imp_right And.right
  rw [readTray, hst, status_ofCode_code]
  simp only [htc, hown, httag, hpmask, humask, hcorr, hunc, hres, hv, hds, hlines, BitVec.ofNat_toNat, BitVec.setWidth_eq]
  refine if_pos ⟨?_, trivial, hm, trivial, trivial, hstatus, ?_⟩
  · rw [hop]
    split <;> simp
  · rw [hop]
    by_cases hnil : m.data = []
    · simp [hnil]
    · have pos := List.length_pos_iff.mpr hnil
      simp [hnil, hs.resolve_right fun h => hnil h.1, hlen.resolve_left hnil, pos]

/-! ### The time exchange (R363) -/

/-- R363: the header of a time-exchange message. -/
def timeHeader (vc : Nat) (m : TimeX) : Slot :=
  header vc 1 0x68 (m.tc.toNat * 32 + m.kind.code * 4) (m.seq.toNat + fld m.rx 15 0 * 2 ^ 16 + fld m.rx 79 16 * 2 ^ 32)

/-- R363: its data slot. -/
def timeData (m : TimeX) : Slot :=
  BitVec.ofNat 128 (fld m.t 79 16 + fld m.t 15 0 * 2 ^ 64 + b2n m.sync * 2 ^ 80 + b2n m.root * 2 ^ 81 + m.hops.toNat * 2 ^ 88)

theorem timeHeader_fields (vc : Nat) (m : TimeX) : hTc (timeHeader vc m) = m.tc ∧ fld (timeHeader vc m) 28 26 = m.kind.code ∧
    fld (timeHeader vc m) 25 24 = 0 ∧ fld (timeHeader vc m) 47 32 = m.seq.toNat := by
  have hk : m.kind.code < 3 := by cases m.kind <;> decide
  have hq := m.seq.isLt
  refine ⟨hTc_header _ _ _ _ rfl (by omega), ?_, ?_, ?_⟩
  · rw [timeHeader, fld_header_own _ _ _ _ rfl (by decide) (by decide) (by decide), nfld_eq]
    omega
  · rw [timeHeader, fld_header_own _ _ _ _ rfl (by decide) (by decide) (by decide), nfld_eq]
    omega
  · rw [timeHeader, fld_header_rest _ _ _ _ _ (by decide) (by decide) (by decide), nfld_eq]
    omega

/-- A time stamp is laid out as whole nanoseconds and as their 2^-16 parts. -/
theorem stamp_parts (t : BitVec 80) : fld t 79 16 < 2 ^ 64 ∧ fld t 15 0 < 2 ^ 16 ∧ BitVec.ofNat 80 (fld t 79 16 * 2 ^ 16 + fld t 15 0) = t := by
  have ht := t.isLt
  rw [fld_eq_nfld, fld_eq_nfld, nfld_eq, nfld_eq, ← BitVec.toNat_inj, BitVec.toNat_ofNat]
  omega

theorem timeData_fields (m : TimeX) : fld (timeData m) 63 0 = fld m.t 79 16 ∧ fld (timeData m) 79 64 = fld m.t 15 0 ∧
    bit (timeData m) 80 = m.sync ∧ bit (timeData m) 81 = m.root ∧ fld (timeData m) 87 82 = 0 ∧ fld (timeData m) 95 88 = m.hops.toNat ∧
    fld (timeData m) 127 96 = 0 := by
  obtain ⟨hns, hpart, -⟩ := stamp_parts m.t
  have hs := b2n_lt m.sync
  have hr := b2n_lt m.root
  have hh := m.hops.isLt
  refine ⟨?_, ?_, bit_of_fld ?_, bit_of_fld ?_, ?_, ?_, ?_⟩
  all_goals
    rw [timeData, fld_ofNat _ _ (by decide) (by decide), nfld_eq]
    omega

theorem readTime_timeHeader {vc : Nat} {m : TimeX} {h d : Slot} (hh : h = timeHeader vc m) (hd : d = timeData m) (hvc : vc = 6 ∨ vc = 7)
    (stamp : BitVec 80) : readTime h [d] stamp = some { m with rx := stamp } := by
  obtain ⟨htc, hkind, hown, hseq⟩ := hh ▸ timeHeader_fields vc m
  obtain ⟨hns, hpart, hsync, hroot, hres0, hhops, hres1⟩ := hd ▸ timeData_fields m
  obtain ⟨-, -, hstamp⟩ := stamp_parts m.t
  have hv : hVc h / 2 = 3 := hh ▸ hVc_half hvc (by decide) _ _ _ _
  have hds : hDslots h = 1 := hh ▸ hDslots_header _ _ _ _ _
  unfold readTime
  extract_lets first k
  have read : k = some m.kind := by
    simp only [k, hkind]
    cases m.kind <;> rfl
  simp only [read, first, List.headD_cons, hns, hpart, hstamp]
  simp [htc, hown, hseq, hsync, hroot, hres0, hhops, hres1, hv, hds]

/-- Settles O48: each message's header and data slots hold its fields where its reader looks for them. A WB is laid out with no line check,
so it reads back as unspoilt. -/
theorem messagesReadBack : Obligations.MessagesReadBack := by
  unfold Obligations.MessagesReadBack
  refine ⟨?_, ?_, ?_, ?_, ?_⟩
  · rintro c vc tc la _ _ hvc hm ⟨⟩
    exact readCoh_biAck hvc hm tc la
  · rintro c vc tc la keep bad d _ _ hvc hm ⟨⟩
    exact readCoh_wb hvc hm tc la keep d
  · rintro c vc m _ _ hvc hm hs ⟨⟩
    exact readHand_handSlot rfl hvc hm hs
  · rintro c vc m len _ _ hvc hm hd hlen hs ⟨⟩
    exact readTray_trayHeader rfl hvc hm hd hlen hs
  · rintro vc m stamp _ _ hvc ⟨⟩
    exact readTime_timeHeader rfl rfl hvc stamp

end Sys2Proof.Proofs.WireMessages

/-!
The checks of a multicast write (R200, R201).
-/
namespace Sys2Proof.Proofs.MulticastChecks

open Sys2Proof Sys2Proof.Machine Sys2Proof.Laws.Calm
open Sys2Proof.Proofs.LinkCommands (sealed_settle)
open Sys2Proof.Proofs.FollowUpCommands (reach_multicast mcArrive_of_otherKey)

section

variable {s : State} {r : Req} {e : McEntry} (hv : s.voqs = []) (he : s.mcEntry r.dnode.toNat = e)

include hv he

/-- R200: no one takes a write to a group whose entry is off. -/
theorem mcArrive_of_off (hen : e.en = false) : s.mcArrive r = s.refuse r .unmapped := by
  simp [State.mcArrive, State.takeReq, takeFrom_of_empty s _ _ hv, he, hen]

/-- R201: a write with its group's key is recorded, and goes to the group's members and to the Trestle of its Span. -/
theorem mcArrive_of_taken {p : PortId} (hr : r.origin = .port p) (hen : e.en = true) (hk : r.key = e.key) {t : State} {m : McOut}
    (ht : t = s.bumpHub Reg.Mcast.MC_RX_CNT)
    (hm : m = { id := t.tr.mcNum, req := r, ports := [], remotes := 0, bad := false, dests := e.remotes }) :
    s.mcArrive r = (e.ports.foldl (fun (a : State) x => a.mcMember (s.inputOf r) e r m.id x)
      { t with tr := { t.tr with mcNum := m.id + 1, mcOut := t.tr.mcOut ++ [m] } }).mcTrestle
        (s.inputOf r) (flowPort r.origin (s.inputOf r)) r m.id e.remotes.length := by
  subst ht hm
  simp only [State.mcArrive, State.takeReq, takeFrom_of_empty s _ _ hv, he, hen, hk, hr, not_true_eq_false, if_false, ne_eq]

end

/-- Settles O41: a multicast write meets its group's entry as it comes out of the Deck; nothing else has been asked by then. -/
theorem multicastChecks : Obligations.MulticastChecks := by
  unfold Obligations.MulticastChecks
  intro s r p e hr hv he
  have reached : s.reach { r with op := .mcWr } .clean = s.mcArrive { r with op := .mcWr } := reach_multicast hv rfl
  refine ⟨fun hen => ?_, fun hen hk => ?_, fun t u m hen hk ht hm hu => ?_⟩
  · exact sealed_settle (reached.trans (mcArrive_of_off hv he hen))
  · subst he
    exact sealed_settle (reached.trans (mcArrive_of_otherKey hv hen hk))
  · subst hm hu
    exact sealed_settle (reached.trans (mcArrive_of_taken (r := { r with op := .mcWr }) hv he hr hen hk ht rfl))

end Sys2Proof.Proofs.MulticastChecks

/-!
What a reduction's slot holds (R223, R224, R234, R240).
-/
namespace Sys2Proof.Proofs.ReductionSlots

open Sys2Proof Sys2Proof.Machine

/-! ### Two's complement -/

theorem sx_eq_bmod {w : Nat} (hw : 0 < w) (v : Nat) : sx w v = (v : Int).bmod (2 ^ w) := by
  have half : (2 ^ w + 1) / 2 = 2 ^ (w - 1) := by
    have := Nat.two_pow_pred_add_two_pow_pred hw
    omega
  have cut : ((v % 2 ^ w : Nat) : Int) < ((2 ^ w : Nat) + 1) / 2 ↔ v % 2 ^ w < 2 ^ (w - 1) := by omega
  rw [sx, Int.bmod_def, ← Int.natCast_emod]
  simp only [cut]

theorem sx_toBits {w : Nat} (hw : 0 < w) {x : Int} (hx : x.natAbs < 2 ^ (w - 1)) : sx w (toBits w x) = x := by
  have twice := Nat.two_pow_pred_add_two_pow_pred hw
  have pos : ((2 ^ w : Nat) : Int) ≠ 0 := by positivity
  rw [sx_eq_bmod hw, toBits, Int.toNat_of_nonneg (Int.emod_nonneg x pos), Int.emod_bmod, Int.bmod_eq_of_le] <;> omega

theorem toBits_sx {w : Nat} (hw : 0 < w) (v : Nat) : toBits w (sx w v) = v % 2 ^ w := by
  rw [toBits, sx_eq_bmod hw, Int.bmod_emod, ← Int.natCast_emod, Int.toNat_natCast]

theorem toBits_sx_add {w : Nat} (hw : 0 < w) (v u : Nat) : toBits w (sx w v + sx w u) = (v + u) % 2 ^ w := by
  rw [toBits, sx_eq_bmod hw, sx_eq_bmod hw, Int.add_emod, Int.bmod_emod, Int.bmod_emod, ← Int.add_emod, ← Int.natCast_add, ← Int.natCast_emod,
    Int.toNat_natCast]

theorem sx_range {w : Nat} (hw : 0 < w) (v : Nat) : -((2 ^ (w - 1) : Nat) : Int) ≤ sx w v ∧ sx w v < (2 ^ (w - 1) : Nat) := by
  have low := Nat.mod_lt v (Nat.two_pow_pos w)
  have twice := Nat.two_pow_pred_add_two_pow_pred hw
  unfold sx
  split <;> omega

theorem toBits_lt (w : Nat) (x : Int) : toBits w x < 2 ^ w := by
  have pos : (0 : Int) < (2 ^ w : Nat) := by positivity
  have := Int.emod_lt_of_pos x pos
  rw [toBits]
  omega

/-! ### Slots as bits -/

theorem testBit_flags : ∀ nan pinf ninf ovf : Bool, (b2n ovf + 2 * b2n ninf + 4 * b2n pinf + 8 * b2n nan).testBit 3 = nan ∧
    (b2n ovf + 2 * b2n ninf + 4 * b2n pinf + 8 * b2n nan).testBit 2 = pinf ∧
    (b2n ovf + 2 * b2n ninf + 4 * b2n pinf + 8 * b2n nan).testBit 1 = ninf ∧
    (b2n ovf + 2 * b2n ninf + 4 * b2n pinf + 8 * b2n nan).testBit 0 = ovf := by decide

theorem ofRaw_raw {a : Accum} {pair : Bool} (hn : a.n = accBits pair) (hv : a.v < 2 ^ a.n) : Accum.ofRaw pair a.raw = a := by
  obtain ⟨n, v, nan, pinf, ninf, ovf⟩ := a
  subst hn
  have flag (i : Nat) (y : Nat) : (v + 2 ^ accBits pair * y).testBit (accBits pair + i) = y.testBit i := by
    rw [Nat.add_comm v, Nat.testBit_two_pow_mul_add _ hv]
    simp
  have low := flag 0
  rw [Nat.add_zero] at low
  obtain ⟨h3, h2, h1, h0⟩ := testBit_flags nan pinf ninf ovf
  simp only [Accum.ofRaw, Accum.raw, flag, low, h3, h2, h1, h0, Nat.add_mul_mod_self_left, Nat.mod_eq_of_lt hv]

/-! ### What one element brings (R221, R224) -/

/-- R224: what a float element adds to a sum. -/
def floatSummand (pair : Bool) (f : FF) (b : Nat) : Int :=
  match f.decode b with
  | .fin neg m e => if neg then -(m <<< (e - accScale pair).toNat : Nat) else (m <<< (e - accScale pair).toNat : Nat)
  | _ => 0

/-- R224: what an element adds to a sum. -/
def summand (op : RedOp) (sf b : Nat) : Int :=
  match op with
  | .sum | .mean =>
    match FF.ofCode sf with
    | some f => floatSummand (usesPair op sf) f b
    | none => sx (8 * fmtSize sf) b
  | .count => if isNaN sf b || isZero sf b then 0 else 1
  | _ => 0

/-- R224: does an element set the flag of f under an operation? -/
def sets (op : RedOp) (sf : Nat) (f : FVal) (b : Nat) : Bool :=
  match op with
  | .sum | .mean => (FF.ofCode sf).any (fun g => g.decode b = f)
  | .max | .min => f = .nan && isNaN sf b
  | _ => false

/-- R223: the value bits of a slot that an element alone has been added to. -/
def entry (op : RedOp) (sf b : Nat) : Nat :=
  match op with
  | .sum | .mean | .count => toBits (accBits (usesPair op sf)) (summand op sf b)
  | .max | .min => if isNaN sf b then 0 else 2 ^ 32 + b
  | .and | .or | .xor => b

/-- R221: where an element stands in the order by which MAX and MIN choose. -/
def rank (op : RedOp) (sf b : Nat) : Int := if op = .min then -orderKey sf b else orderKey sf b

/-- R221, R240: the value bits of two slots combined. -/
def join (op : RedOp) (sf v w : Nat) : Nat :=
  match op with
  | .sum | .mean | .count => (v + w) % 2 ^ accBits (usesPair op sf)
  | .max | .min => if w.testBit 32 ∧ (¬v.testBit 32 ∨ rank op sf (v % 2 ^ 32) < rank op sf (w % 2 ^ 32)) then w else v
  | .and => v &&& w
  | .or => v ||| w
  | .xor => v ^^^ w

/-- The value bits that an operation uses. -/
def width (op : RedOp) (sf : Nat) : Nat :=
  match op with
  | .sum | .mean | .count => accBits (usesPair op sf)
  | .max | .min => 33
  | .and | .or | .xor => 32

theorem accBits_ge (op : RedOp) (sf : Nat) : 316 ≤ accBits (usesPair op sf) := by
  rw [accBits]
  split <;> decide

theorem accBits_pos (op : RedOp) (sf : Nat) : 0 < accBits (usesPair op sf) := Nat.lt_of_lt_of_le (by decide) (accBits_ge op sf)

/-- R223: a slot has room for 8,192 times what one element can bring. -/
theorem slot_room (op : RedOp) (sf : Nat) : 0 < 2 ^ (accBits (usesPair op sf) - 14) ∧
    8192 * 2 ^ (accBits (usesPair op sf) - 14) = 2 ^ (accBits (usesPair op sf) - 1) := by
  have long := accBits_ge op sf
  refine ⟨by positivity, ?_⟩
  rw [show 8192 = 2 ^ 13 from rfl, ← pow_add]
  congr 1
  omega

theorem width_le (op : RedOp) (sf : Nat) : width op sf ≤ accBits (usesPair op sf) := by
  have least := accBits_ge op sf
  cases op
  case sum | mean | count => exact Nat.le_refl _
  case max | min => exact Nat.le_trans (by decide : 33 ≤ 316) least
  case and | or | xor => exact Nat.le_trans (by decide : 32 ≤ 316) least

/-- R220: the elements of a format are the patterns of a float format, or those of an integer format of 1 or 4 bytes. -/
theorem format_cases {sf : Nat} (hf : sf ≤ 6) :
    (∃ f, FF.ofCode sf = some f ∧ 2 ^ (8 * fmtSize sf) = 2 * f.signW ∧ 0 < f.mant ∧
      f.mant + 1 + (2 ^ f.exp - f.bias - f.mant - accScale (sf = 0)).toNat + 14 ≤ accBits (sf = 0)) ∨
    (FF.ofCode sf = none ∧ intSize sf = some (fmtSize sf) ∧ 0 < fmtSize sf ∧ fmtSize sf ≤ 4) := by
  rcases Nat.lt_or_ge sf 5 with float | int
  · left
    interval_cases sf <;> exact ⟨_, rfl, by decide⟩
  · right
    interval_cases sf <;> decide

/-- R220: a bit pattern of a source format's size. -/
abbrev IsElement (sf b : Nat) : Prop := b < 2 ^ (8 * fmtSize sf)

theorem element_lt {sf b : Nat} (hf : sf ≤ 6) (hb : IsElement sf b) : b < 2 ^ 32 := by
  refine Nat.lt_of_lt_of_le hb (Nat.pow_le_pow_right (by decide) ?_)
  interval_cases sf <;> decide

theorem entry_lt (op : RedOp) {sf b : Nat} (hf : sf ≤ 6) (hb : IsElement sf b) : entry op sf b < 2 ^ width op sf := by
  have small := element_lt hf hb
  cases op
  case sum | mean | count => exact toBits_lt _ _
  case max | min =>
    simp only [entry, width]
    split <;> omega
  case and | or | xor => exact small

theorem join_lt (op : RedOp) (sf : Nat) {v w : Nat} (hv : v < 2 ^ width op sf) (hw : w < 2 ^ width op sf) :
    join op sf v w < 2 ^ width op sf := by
  cases op
  case sum | mean | count => exact Nat.mod_lt _ (by positivity)
  case max | min =>
    simp only [join]
    split <;> assumption
  case and => exact Nat.and_lt_two_pow _ hw
  case or => exact Nat.or_lt_two_pow hv hw
  case xor => exact Nat.xor_lt_two_pow hv hw

/-! ### Combining is associative, and commutative on what elements bring -/

/-- MAX and MIN keep the leftmost of the elements that rank highest, however the elements are grouped. -/
theorem join_assoc (op : RedOp) (sf u v w : Nat) : join op sf (join op sf u v) w = join op sf u (join op sf v w) := by
  cases op
  case sum | mean | count => simp [join, Nat.add_assoc]
  case max | min => grind [join]
  case and => exact Nat.and_assoc u v w
  case or => exact Nat.or_assoc u v w
  case xor => exact Nat.xor_assoc u v w

theorem join_init (op : RedOp) (sf : Nat) {v : Nat} (hv : v < 2 ^ width op sf) : join op sf v (slotInit op) = v := by
  cases op
  case sum | mean | count => exact Nat.mod_eq_of_lt hv
  case max | min => simp [join, slotInit]
  case and => exact (Nat.and_two_pow_sub_one_eq_mod v 32).trans (Nat.mod_eq_of_lt hv)
  case or => exact Nat.or_zero v
  case xor => exact Nat.xor_zero v

theorem sx_injOn {w : Nat} (hw : 0 < w) {a b : Nat} (ha : a < 2 ^ w) (hb : b < 2 ^ w) (h : sx w a = sx w b) : a = b := by
  rw [← Nat.mod_eq_of_lt ha, ← Nat.mod_eq_of_lt hb, ← toBits_sx hw, ← toBits_sx hw, h]

/-- R221: two float patterns that rank alike are one. -/
theorem key_injOn {f : FF} {a b : Nat} (ha : a < 2 * f.signW) (hb : b < 2 * f.signW) (h : f.key a = f.key b) : a = b := by
  have pos : 0 < f.signW := by rw [FF.signW]; positivity
  have top {c : Nat} (hc : c < 2 * f.signW) : f.key c = if f.signW ≤ c then -((c - f.signW : Nat) : Int) - 1 else c := by
    have sign : c.testBit (f.exp + f.mant) = true ↔ f.signW ≤ c := by
      have bound : c / f.signW < 2 := Nat.div_lt_of_lt_mul (by omega)
      have one := Nat.one_le_div_iff (a := c) pos
      rw [Nat.testBit_eq_decide_div_mod_eq, ← FF.signW, decide_eq_true_iff]
      rcases Nat.lt_or_ge (c / f.signW) 1 with h | h
      · rw [Nat.lt_one_iff.mp h]
        omega
      · rw [Nat.le_antisymm (Nat.le_of_lt_succ bound) h]
        omega
    simp only [FF.key, sign]
    split
    · next le => rw [Nat.mod_eq_sub_mod le, Nat.mod_eq_of_lt (by omega)]
    · rw [Nat.mod_eq_of_lt (by omega)]
  rw [top ha, top hb] at h
  split at h <;> split at h <;> omega

/-- R221: two elements that rank alike are one. -/
theorem orderKey_injOn {sf a b : Nat} (hf : sf ≤ 6) (ha : IsElement sf a) (hb : IsElement sf b)
    (h : orderKey sf a = orderKey sf b) : a = b := by
  obtain ⟨f, hc, hs, -⟩ | ⟨hc, hi, pos, -⟩ := format_cases hf
  · exact key_injOn (ha.trans_eq hs) (hb.trans_eq hs) (by simpa [orderKey, hc] using h)
  · exact sx_injOn (by omega) ha hb (by simpa [orderKey, hc, hi] using h)

theorem rank_injOn (op : RedOp) {sf a b : Nat} (hf : sf ≤ 6) (ha : IsElement sf a) (hb : IsElement sf b)
    (h : rank op sf a = rank op sf b) : a = b := by
  refine orderKey_injOn hf ha hb ?_
  unfold rank at h
  split at h <;> omega

/-- R223: a slot of MAX or MIN that holds an element shows that it does, and which. -/
theorem holds_entry {sf b : Nat} (hf : sf ≤ 6) (hb : IsElement sf b) :
    (2 ^ 32 + b).testBit 32 = true ∧ (2 ^ 32 + b) % 2 ^ 32 = b := by
  have small := element_lt hf hb
  rw [Nat.testBit_two_pow_add_eq, Nat.testBit_lt_two_pow small, Nat.add_mod_left, Nat.mod_eq_of_lt small]
  exact ⟨rfl, rfl⟩

/-- R224: an element takes the place of what a slot of MAX or MIN holds where it ranks above it, and a NaN never. -/
theorem join_entry_of_ranks {op : RedOp} (h : op = .max ∨ op = .min) {sf b : Nat} (hf : sf ≤ 6) (hb : IsElement sf b) (v : Nat) :
    join op sf v (entry op sf b) =
      if isNaN sf b then v else if ¬v.testBit 32 ∨ rank op sf (v % 2 ^ 32) < rank op sf b then 2 ^ 32 + b else v := by
  obtain ⟨bit, low⟩ := holds_entry hf hb
  by_cases hn : isNaN sf b = true
  · obtain rfl | rfl := h <;> simp [join, entry, hn]
  · obtain rfl | rfl := h <;> simp only [join, entry, hn, bit, low, true_and, if_false, Bool.false_eq_true]

/-- Elements of MAX or MIN that rank alike are one, so it does not matter which of them is kept. -/
theorem join_entry_comm (op : RedOp) {sf a b : Nat} (hf : sf ≤ 6) (ha : IsElement sf a) (hb : IsElement sf b) :
    join op sf (entry op sf a) (entry op sf b) = join op sf (entry op sf b) (entry op sf a) := by
  obtain ⟨bita, lowa⟩ := holds_entry hf ha
  obtain ⟨bitb, lowb⟩ := holds_entry hf hb
  have inj := rank_injOn op hf ha hb
  cases op
  case sum | mean | count => simp only [join, Nat.add_comm]
  case max | min => grind [join, entry]
  case and => exact Nat.and_comm a b
  case or => exact Nat.or_comm a b
  case xor => exact Nat.xor_comm a b

/-! ### What a sum can reach (R223) -/

theorem nfld_lt (v hi lo : Nat) : nfld v hi lo < 2 ^ (hi + 1 - lo) := Nat.mod_lt _ (by positivity)

/-- R220: how large a finite value's significand and exponent are. -/
theorem decode_bound {f : FF} {b m : Nat} {neg : Bool} {e : Int} (hm : 0 < f.mant) (h : f.decode b = .fin neg m e) :
    m < 2 ^ (f.mant + 1) ∧ e ≤ 2 ^ f.exp - f.bias - f.mant := by
  have sig := nfld_lt b (f.mant - 1) 0
  have ex := nfld_lt b (f.exp + f.mant - 1) f.mant
  rw [show f.mant - 1 + 1 - 0 = f.mant by omega] at sig
  rw [show f.exp + f.mant - 1 + 1 - f.mant = f.exp by omega] at ex
  have one : (1 : Int) ≤ 2 ^ f.exp := by exact_mod_cast Nat.one_le_two_pow
  have ex' : (nfld b (f.exp + f.mant - 1) f.mant : Int) < 2 ^ f.exp := by exact_mod_cast ex
  have twice : 2 ^ (f.mant + 1) = 2 * 2 ^ f.mant := Nat.pow_succ'
  simp only [FF.decode, FF.emin] at h
  split_ifs at h <;> cases h <;> omega

theorem natAbs_floatSummand_le {pair : Bool} {f : FF} {k : Nat} (hm : 0 < f.mant)
    (hk : f.mant + 1 + (2 ^ f.exp - f.bias - f.mant - accScale pair).toNat ≤ k) (b : Nat) : (floatSummand pair f b).natAbs ≤ 2 ^ k := by
  unfold floatSummand
  split
  · next neg m e hd =>
    obtain ⟨sig, ex⟩ := decode_bound hm hd
    have flip (y : Nat) : (if neg then -(y : Int) else y).natAbs = y := by cases neg <;> simp
    rw [flip, Nat.shiftLeft_eq]
    calc m * 2 ^ (e - accScale pair).toNat ≤ 2 ^ (f.mant + 1) * 2 ^ (2 ^ f.exp - f.bias - f.mant - accScale pair).toNat :=
          Nat.mul_le_mul (Nat.le_of_lt sig) (Nat.pow_le_pow_right Nat.zero_lt_two (by omega))
      _ = 2 ^ (f.mant + 1 + (2 ^ f.exp - f.bias - f.mant - accScale pair).toNat) := (pow_add _ _ _).symm
      _ ≤ 2 ^ k := Nat.pow_le_pow_right Nat.zero_lt_two hk
  · exact Nat.zero_le _

/-- R223: no element of a format reaches the last 14 bits of its slot's value. -/
theorem natAbs_summand_le (op : RedOp) {sf : Nat} (hf : sf ≤ 6) (b : Nat) :
    (summand op sf b).natAbs ≤ 2 ^ (accBits (usesPair op sf) - 14) := by
  obtain ⟨pos, -⟩ := slot_room op sf
  cases op
  case max | min | and | or | xor => exact Nat.zero_le _
  case count =>
    simp only [summand]
    split
    · exact Nat.zero_le _
    · exact pos
  case sum | mean =>
    obtain ⟨f, hc, -, hm, room⟩ | ⟨hc, -, some, size⟩ := format_cases hf
    · simp only [summand, hc]
      exact natAbs_floatSummand_le hm (Nat.le_sub_of_add_le room) b
    · simp only [summand, hc]
      have long := accBits_ge .sum sf
      have range := sx_range (w := 8 * fmtSize sf) (by omega) b
      have bits : 8 * fmtSize sf - 1 ≤ accBits (usesPair .sum sf) - 14 := by omega
      exact Nat.le_trans (by omega) (Nat.pow_le_pow_right Nat.zero_lt_two bits)

/-! ### What a slot holds after its contributions -/

/-- R234: the value bits after contributions xs. -/
def tallyValue (op : RedOp) (sf : Nat) (xs : List Nat) : Nat := (xs.map (entry op sf)).foldl (join op sf) (slotInit op)

/-- R234: the slot after contributions xs. -/
def tally (op : RedOp) (sf : Nat) (xs : List Nat) : Accum :=
  { n := accBits (usesPair op sf), v := tallyValue op sf xs, nan := xs.any (sets op sf .nan), pinf := xs.any (sets op sf (.inf false)),
    ninf := xs.any (sets op sf (.inf true)), ovf := false }

theorem slotInit_lt (op : RedOp) (sf : Nat) : slotInit op < 2 ^ width op sf := by
  cases op
  case and => exact Nat.sub_one_lt (by decide)
  all_goals exact Nat.two_pow_pos _

section

variable (op : RedOp) {sf : Nat} (hf : sf ≤ 6)

include hf

theorem tallyValue_lt {xs : List Nat} (hx : ∀ x ∈ xs, IsElement sf x) : tallyValue op sf xs < 2 ^ width op sf := by
  induction xs using List.reverseRecOn with
  | nil => exact slotInit_lt op sf
  | append_singleton xs b ih =>
    rw [List.forall_mem_append, List.forall_mem_singleton] at hx
    obtain ⟨hxs, hb⟩ := hx
    simpa [tallyValue] using join_lt op sf (ih hxs) (entry_lt op hf hb)

/-- R234: the contributions may come in any order. -/
theorem tallyValue_perm {xs ys : List Nat} (hp : xs.Perm ys) (hx : ∀ x ∈ xs, IsElement sf x) :
    tallyValue op sf xs = tallyValue op sf ys := by
  refine (hp.map _).foldl_eq' ?_ _
  simp only [List.forall_mem_map]
  intro a ha b hb v
  rw [join_assoc, join_assoc, join_entry_comm op hf (hx a ha) (hx b hb)]

/-- R240: the contributions may be grouped. -/
theorem tallyValue_append {xs ys : List Nat} (hx : ∀ x ∈ xs, IsElement sf x) :
    tallyValue op sf (xs ++ ys) = join op sf (tallyValue op sf xs) (tallyValue op sf ys) := by
  have assoc : Std.Associative (join op sf) := ⟨join_assoc op sf⟩
  have init := join_init op sf (tallyValue_lt op hf hx)
  rw [tallyValue, List.map_append, List.foldl_append, ← tallyValue, ← init, List.foldl_assoc, init, ← tallyValue]

end

theorem tally_perm (op : RedOp) {sf : Nat} (hf : sf ≤ 6) {xs ys : List Nat} (hp : xs.Perm ys) (hx : ∀ x ∈ xs, IsElement sf x) :
    tally op sf xs = tally op sf ys := by
  simp only [tally, tallyValue_perm op hf hp hx, hp.any_eq]

/-! ### Slots that hold a tally -/

theorem addInt_of_room {a : Accum} {x : Int} (hl : -((2 ^ (a.n - 1) : Nat) : Int) ≤ a.val + x) (hh : a.val + x < (2 ^ (a.n - 1) : Nat)) :
    a.addInt x = { a with v := toBits a.n (a.val + x) } := by
  simp only [Accum.addInt, Int.not_le.mpr hh, Int.not_lt.mpr hl, decide_false, Bool.or_false]

theorem addInt_zero {a : Accum} (hn : 0 < a.n) (hv : a.v < 2 ^ a.n) : a.addInt 0 = a := by
  obtain ⟨hl, hh⟩ := sx_range hn a.v
  rw [addInt_of_room] <;> rw [Int.add_zero, Accum.val]
  · rw [toBits_sx hn, Nat.mod_eq_of_lt hv]
  · exact hl
  · exact hh

theorem tallyValue_singleton (op : RedOp) {sf b : Nat} (hf : sf ≤ 6) (hb : IsElement sf b) : tallyValue op sf [b] = entry op sf b := by
  have small := element_lt hf hb
  have lt := entry_lt op hf hb
  simp only [tallyValue, List.map_cons, List.map_nil, List.foldl_cons, List.foldl_nil]
  cases op
  case sum | mean | count => exact (congrArg (· % _) (Nat.zero_add _)).trans (Nat.mod_eq_of_lt lt)
  case max | min =>
    obtain ⟨bit, -⟩ := holds_entry hf hb
    grind [join, entry, slotInit]
  case and => exact (Nat.and_comm _ _).trans ((Nat.and_two_pow_sub_one_eq_mod b 32).trans (Nat.mod_eq_of_lt small))
  case or => exact Nat.zero_or b
  case xor => exact Nat.zero_xor b

/-- R221: the operations that add. -/
def adds (op : RedOp) : Prop := op = .sum ∨ op = .mean ∨ op = .count

theorem join_of_adds {op : RedOp} (h : adds op) (sf v w : Nat) :
    join op sf v w = toBits (accBits (usesPair op sf)) (sx (accBits (usesPair op sf)) v + sx (accBits (usesPair op sf)) w) := by
  rw [toBits_sx_add (accBits_pos op sf)]
  obtain rfl | rfl | rfl := h <;> rfl

theorem sx_entry_of_adds {op : RedOp} (h : adds op) {sf : Nat} (hf : sf ≤ 6) (b : Nat) :
    sx (accBits (usesPair op sf)) (entry op sf b) = summand op sf b := by
  have near := natAbs_summand_le op hf b
  obtain ⟨pos, room⟩ := slot_room op sf
  have bits : entry op sf b = toBits (accBits (usesPair op sf)) (summand op sf b) := by obtain rfl | rfl | rfl := h <;> rfl
  rw [bits, sx_toBits (accBits_pos op sf) (by omega)]

/-- R223: k elements sum to at most k times what one can. -/
theorem natAbs_sx_tallyValue_le {op : RedOp} (h : adds op) {sf : Nat} (hf : sf ≤ 6) {xs : List Nat} (hl : xs.length ≤ 4096) :
    (sx (accBits (usesPair op sf)) (tallyValue op sf xs)).natAbs ≤ xs.length * 2 ^ (accBits (usesPair op sf) - 14) := by
  induction xs using List.reverseRecOn with
  | nil => obtain rfl | rfl | rfl := h <;> simp [tallyValue, slotInit, sx]
  | append_singleton xs b ih =>
    rw [List.length_append, List.length_singleton] at hl ⊢
    have near := natAbs_summand_le op hf b
    obtain ⟨pos, room⟩ := slot_room op sf
    have before := ih (by omega)
    have most := Nat.mul_le_mul_right (2 ^ (accBits (usesPair op sf) - 14)) hl
    have value : tallyValue op sf (xs ++ [b]) = join op sf (tallyValue op sf xs) (entry op sf b) := by simp [tallyValue]
    rw [Nat.succ_mul] at most ⊢
    rw [value, join_of_adds h, sx_entry_of_adds h hf, sx_toBits (accBits_pos op sf)] <;> omega

/-- R224: a float element adds its value, and sets its flag where it has none. -/
theorem addFloat_eq {a : Accum} (hn : 0 < a.n) (hv : a.v < 2 ^ a.n) (f : FF) (b : Nat) :
    a.addFloat f b = ({ a with nan := a.nan || f.decode b = .nan, pinf := a.pinf || f.decode b = .inf false,
                               ninf := a.ninf || f.decode b = .inf true } : Accum).addInt (floatSummand (a.n = 600) f b) := by
  unfold Accum.addFloat floatSummand
  cases f.decode b with
  | fin neg m e => simp
  | nan => simp [addInt_zero (a := { a with nan := true }) hn hv]
  | inf neg =>
    cases neg
    · simp [addInt_zero (a := { a with pinf := true }) hn hv]
    · simp [addInt_zero (a := { a with ninf := true }) hn hv]

/-- R240: a slot with the flags of another ORed in. -/
def withFlags (a c : Accum) : Accum :=
  { a with nan := a.nan || c.nan, pinf := a.pinf || c.pinf, ninf := a.ninf || c.ninf, ovf := a.ovf || c.ovf }

/-- R223: a slot as its operation lays it out. -/
def Fits (op : RedOp) (sf : Nat) (a : Accum) : Prop := a.n = accBits (usesPair op sf) ∧ a.v < 2 ^ a.n

theorem ofRaw_of_fits {op : RedOp} {sf : Nat} {a : Accum} (h : Fits op sf a) : Accum.ofRaw (usesPair op sf) a.raw = a := ofRaw_raw h.1 h.2

theorem tally_fits (op : RedOp) {sf : Nat} (hf : sf ≤ 6) {xs : List Nat} (hx : ∀ x ∈ xs, IsElement sf x) :
    Fits op sf (tally op sf xs) :=
  ⟨rfl, Nat.lt_of_lt_of_le (tallyValue_lt op hf hx) (Nat.pow_le_pow_right Nat.zero_lt_two (width_le op sf))⟩

theorem slotFold_of_adds {op : RedOp} (h : adds op) {sf : Nat} {a c : Accum} (ha : Fits op sf a) (hc : Fits op sf c) :
    slotFold op sf a.raw c.raw = ((withFlags a c).addInt c.val).raw := by
  unfold slotFold
  rw [ofRaw_of_fits ha, ofRaw_of_fits hc]
  obtain rfl | rfl | rfl := h <;> rfl

theorem slotFold_of_not_adds {op : RedOp} (h : ¬adds op) {sf : Nat} {a c : Accum} (ha : Fits op sf a) (hc : Fits op sf c) :
    slotFold op sf a.raw c.raw = Accum.raw { withFlags a c with v := join op sf a.v c.v } := by
  unfold slotFold
  rw [ofRaw_of_fits ha, ofRaw_of_fits hc]
  cases op
  case sum | mean | count => simp [adds] at h
  case max | min =>
    simp only [join, rank, reduceCtorEq, if_true, if_false, neg_lt_neg_iff]
    split_ifs <;> rfl
  case and | or | xor => rfl

theorem slotAdd_of_adds {op : RedOp} (h : adds op) {sf : Nat} {a : Accum} (ha : Fits op sf a) (b : Nat) :
    slotAdd op sf a.raw b = ((withFlags a (tally op sf [b])).addInt (summand op sf b)).raw := by
  have pos : 0 < a.n := ha.1 ▸ accBits_pos op sf
  have pair : decide (a.n = 600) = usesPair op sf := by rw [ha.1, accBits]; cases usesPair op sf <;> rfl
  unfold slotAdd
  rw [ofRaw_of_fits ha]
  obtain rfl | rfl | rfl := h <;> simp only [summand, tally, withFlags, sets, List.any_cons, List.any_nil, Bool.or_false]
  case inr.inr =>
    split
    · rw [addInt_zero pos ha.2]
    · rfl
  all_goals
    cases FF.ofCode sf with
    | none => simp
    | some f => simp [addFloat_eq pos ha.2, pair]

theorem slotAdd_of_ranks {op : RedOp} (h : op = .max ∨ op = .min) {sf b : Nat} (hf : sf ≤ 6) (hb : IsElement sf b) {a : Accum}
    (ha : Fits op sf a) :
    slotAdd op sf a.raw b = Accum.raw { a with v := join op sf a.v (entry op sf b), nan := a.nan || isNaN sf b } := by
  unfold slotAdd
  rw [ofRaw_of_fits ha, join_entry_of_ranks h hf hb]
  obtain rfl | rfl := h
  all_goals
    simp only [rank, reduceCtorEq, if_true, if_false, neg_lt_neg_iff]
    split_ifs with hn <;> simp [hn]

/-- R240: an element combines as the partial of that element alone does. -/
theorem slotAdd_eq_slotFold (op : RedOp) {sf b : Nat} (hf : sf ≤ 6) (hb : IsElement sf b) {a : Accum} (ha : Fits op sf a) :
    slotAdd op sf a.raw b = slotFold op sf a.raw (tally op sf [b]).raw := by
  have one : Fits op sf (tally op sf [b]) := tally_fits op hf (List.forall_mem_singleton.mpr hb)
  by_cases h : adds op
  · have val : (tally op sf [b]).val = summand op sf b :=
      (congrArg (sx _) (tallyValue_singleton op hf hb)).trans (sx_entry_of_adds h hf b)
    rw [slotFold_of_adds h ha one, val]
    exact slotAdd_of_adds h ha b
  · rw [slotFold_of_not_adds h ha one]
    simp only [tally, tallyValue_singleton op hf hb]
    cases op
    case sum | mean | count => simp [adds] at h
    case max => simp [slotAdd_of_ranks (.inl rfl) hf hb ha, withFlags, sets]
    case min => simp [slotAdd_of_ranks (.inr rfl) hf hb ha, withFlags, sets]
    case and | or | xor => simp [slotAdd, ofRaw_of_fits ha, sets, withFlags, join, entry]

/-- R240: the partials of two groups combine to the partial of both. -/
theorem slotFold_tally (op : RedOp) {sf : Nat} (hf : sf ≤ 6) {xs ys : List Nat} (hx : ∀ x ∈ xs, IsElement sf x)
    (hy : ∀ y ∈ ys, IsElement sf y) (hl : xs.length + ys.length ≤ 4096) :
    slotFold op sf (tally op sf xs).raw (tally op sf ys).raw = (tally op sf (xs ++ ys)).raw := by
  by_cases h : adds op
  · obtain ⟨pos, room⟩ := slot_room op sf
    have left := natAbs_sx_tallyValue_le h hf (show xs.length ≤ 4096 by omega)
    have right := natAbs_sx_tallyValue_le h hf (show ys.length ≤ 4096 by omega)
    have most := Nat.mul_le_mul_right (2 ^ (accBits (usesPair op sf) - 14)) hl
    rw [Nat.add_mul] at most
    rw [slotFold_of_adds h (tally_fits op hf hx) (tally_fits op hf hy), addInt_of_room]
    · simp only [tally, withFlags, Accum.val, tallyValue_append op hf hx, join_of_adds h, List.any_append, Bool.or_false]
    all_goals
      simp only [withFlags, Accum.val, tally]
      omega
  · rw [slotFold_of_not_adds h (tally_fits op hf hx) (tally_fits op hf hy)]
    simp only [tally, withFlags, tallyValue_append op hf hx, List.any_append, Bool.or_false]

/-- R234: contributions one after another leave their tally. -/
theorem foldl_slotAdd (op : RedOp) {sf : Nat} (hf : sf ≤ 6) {xs : List Nat} (hx : ∀ x ∈ xs, IsElement sf x) (hl : xs.length ≤ 4096) :
    xs.foldl (slotAdd op sf) (slotInit op) = (tally op sf xs).raw := by
  induction xs using List.reverseRecOn with
  | nil => simp [tally, tallyValue, Accum.raw, b2n]
  | append_singleton xs b ih =>
    rw [List.forall_mem_append] at hx
    rw [List.length_append, List.length_singleton] at hl
    obtain ⟨hxs, hb⟩ := hx
    rw [List.foldl_concat, ih hxs (by omega), slotAdd_eq_slotFold op hf (hb b (List.mem_singleton_self b)) (tally_fits op hf hxs),
      slotFold_tally op hf hxs hb hl]

/-- Settles O45: the tally of the contributions does not tell their order. -/
theorem reductionsDoNotDependOnOrder : Obligations.ReductionsDoNotDependOnOrder := by
  unfold Obligations.ReductionsDoNotDependOnOrder
  intro op sf xs ys hf hp hl hx
  have hy : ∀ y ∈ ys, IsElement sf y := fun y hy => hx y (hp.mem_iff.mpr hy)
  rw [foldl_slotAdd op hf hx hl, foldl_slotAdd op hf hy (hp.length_eq ▸ hl), tally_perm op hf hp hx]

/-- Settles O46: the tallies of two groups combine to the tally of both. -/
theorem reductionsDoNotDependOnGrouping : Obligations.ReductionsDoNotDependOnGrouping := by
  unfold Obligations.ReductionsDoNotDependOnGrouping
  intro op sf xs ys hf hl hx
  obtain ⟨hxs, hys⟩ := List.forall_mem_append.mp hx
  rw [foldl_slotAdd op hf hxs (by omega), foldl_slotAdd op hf hys (by omega), slotFold_tally op hf hxs hys hl,
    foldl_slotAdd op hf hx (by rwa [List.length_append])]

end Sys2Proof.Proofs.ReductionSlots

/-!
The commands of declarations, reductions and collective tasks (R228, R229, R233, R238, R239, R246).
-/
namespace Sys2Proof.Proofs.CollectiveCommands

open Sys2Proof Sys2Proof.Machine Sys2Proof.Laws.Calm
open Sys2Proof.Proofs.LinkCommands (sealed_settle)
open Sys2Proof.Proofs.TrayCommands (sealed_of_eq)

section

variable {s : State}

/-! ### The declaration interface (R229, R233, R246) -/

theorem declDeclare_of_free (hb : s.declBusy = false) {a : Nat} (ha : (s.hub Reg.Decl.DECL_ADDR).toNat = a) {t : State}
    (ht : t = { s.setHub Reg.Decl.DECL_STAT (setFld (s.hub Reg.Decl.DECL_STAT) 31 31 1) with loom := { s.loom with declAddr := a } }) :
    s.declDeclare = (t.startBatch .decl [(hubIn, t.readReq (t.compAt a) a)]).2 := by
  subst ha ht
  exact if_neg (by simp [hb])

theorem declCancel_of_free (hb : s.declBusy = false) {i : Nat} {r : Red} (hr : s.red i = some r) (hi : r.installed = true)
    (ho : r.isOpen = true) :
    s.declCancel i = State.declResult ((List.range 24).foldl (fun t n => t.failRedBay i n .revoked) (s.bumpHub Reg.Decl.CANCEL_CNT)) 0 := by
  have known : (s.red i).filter (fun r => r.installed) = some r := by rw [hr, Option.filter_some, if_pos hi]
  simp [State.declCancel, hb, known, ho]

theorem declCancel_of_unknown (hb : s.declBusy = false) {i : Nat} (h : ∀ r, s.red i = some r → r.installed = false) :
    s.declCancel i = s.declResult 0xA := by
  have none : (s.red i).filter (fun r => r.installed) = none := Option.filter_eq_none_iff.mpr fun r hr => by simp [h r hr]
  simp [State.declCancel, hb, none]

theorem declQuery_of_free (hb : s.declBusy = false) (i : Nat) :
    s.declQuery i = (s.setHub Reg.Decl.DECL_STAT (setFld (s.hub Reg.Decl.DECL_STAT) 9 8 (s.ridState i))).declResult 0 :=
  if_neg (by simp [hb])

/-- R229: an accepted declaration that no task waits for is installed in the Looms that hold it. -/
theorem declInstalled_of_waiting {i : Nat} {r : Red} (hr : s.red i = some r) (hi : r.installed = false) (ht : r.task = none) :
    s.declInstalled i = State.declResult ((List.range 24).foldl (fun t n =>
      if (r.bay n).st = .opened then ((List.range (r.bay n).need).foldl (fun u k => u.initGroup r.body n k) t).checkRedDone i n else t)
      ((s.setRed { r with installed := true }).bumpHub Reg.Decl.DECL_CNT)) 0 := by
  simp [State.declInstalled, hr, hi, ht]

/-- R228: a quota that passes its checks is applied, with RESULT 0. -/
theorem quotaApply_of_checked (hb : bit (s.rg (pgOfHub Reg.Decl.QUOTA_STAT) Reg.Decl.QUOTA_STAT) 31 = false) {c : Nat}
    (hc : fld (s.hub Reg.Decl.QUOTA_SEL) 7 0 = c) {q : Quota}
    (hq : q = { collLo := (s.hub Reg.Decl.COLL_LO).toNat, collHi := (s.hub Reg.Decl.COLL_HI).toNat
                poolLo := (s.hub Reg.Decl.POOL_LO).toNat, poolHi := (s.hub Reg.Decl.POOL_HI).toNat })
    (h : s.quotaCheck c q = 0) {t : State} (ht : t = s.setHub Reg.Decl.QUOTA_STAT 0) :
    s.quotaApply = { t with loom := { t.loom with quota := SMap.set (fun _ => ⟨0, 0, 0, 0⟩) t.loom.quota c q } } := by
  subst hc hq ht
  rw [State.quotaApply, unlessBusy_of_idle _ _ _ _ hb]
  simp only [h, if_true]
  rfl

/-! ### The end of a reduction (R233) -/

theorem redTimeout_of_undone {i n : Nat} {r : Red} (hr : s.red i = some r) (hi : r.installed = true)
    (hd : (r.bay n).doneLines < (r.bay n).need) : s.redTimeout n i = s.failRedBay i n .timeout := by
  simp [State.redTimeout, hr, hi, hd]

/-- R233: when the last Bay that knew an ID forgets it, the ID is free. -/
theorem ridHold_of_last {i n : Nat} {r : Red} (hr : s.red i = some r) (ho : (r.bay n).st ≠ .opened)
    (hg : (r.setBay n .gone).bays.all (fun e => e.st = .gone) = true) :
    s.ridHold n i = { s with loom := { s.loom with reds := s.loom.reds.filter (fun x => x.body.rid ≠ i) } } := by
  simp only [State.ridHold, hr, if_neg ho, if_pos hg]

/-! ### Collective tasks (R238, R239) -/

section

variable {t : TaskRef} {x y : TaskSt} {u : State} (hx : s.task t = some x) (hb : s.beginTask t 2 = some (y, u))

include hx hb

theorem reduceStep_of_checked (hk : bytesAt x.body 0 1 ≠ 1) {b : Reduce} (hp : Reduce.parse x.body = some b) (hc : u.declCheck x.body = 0) :
    s.reduceStep t = u.declAccept b (some t) := by
  simp only [State.reduceStep, hx, if_neg hk, hb, hp, if_pos hc]

theorem bcastStep_of_lines (hk : bytesAt x.body 0 1 = 1) {b : BcastBody} (hp : BcastBody.parse x.body = some b) (hl : b.lines ≠ 0) :
    s.bcastStep t = (u.startBatch (.bcastRead t)
      ((List.range b.lines).map (fun i => (u.bcastIn b i, u.readReq (Fin.ofNat 256 x.comp) (b.src + 64 * i))))).2 := by
  simp [State.bcastStep, hx, hk, hb, hp, hl]

end

end

/-- Settles O33: each command in the branch that its premises name. -/
theorem collectiveCommandsComplete : Obligations.CollectiveCommandsComplete := by
  unfold Obligations.CollectiveCommandsComplete
  refine ⟨?_, ?_, ?_, ?_, ?_, ?_, ?_, ?_, ?_, ?_, ?_⟩
  · exact fun s t a hb ha ht => sealed_settle (declDeclare_of_free hb ha ht)
  · exact fun s i hb => ⟨sealed_settle (if_pos hb), sealed_settle (if_pos hb), sealed_of_eq (if_pos hb)⟩
  · exact fun s i r hb hr hi ho => sealed_settle (declCancel_of_free hb hr hi ho)
  · exact fun s i hb h => sealed_settle (declCancel_of_unknown hb h)
  · exact fun s i hb => sealed_of_eq (declQuery_of_free hb i.toNat)
  · exact fun s i r hr hi ht => sealed_settle (declInstalled_of_waiting hr hi ht)
  · exact fun s t c q hb hc hq h ht => sealed_of_eq (quotaApply_of_checked hb hc hq h ht)
  · exact fun s n i r hr hi hd => sealed_settle (redTimeout_of_undone hr hi hd)
  · exact fun s n i r hr ho hg => sealed_settle (ridHold_of_last hr ho hg)
  · exact fun s u t x y b hx hk hb hp hc => sealed_settle (reduceStep_of_checked hx hb hk hp hc)
  · exact fun s u t x y b hx hk hb hp hl => sealed_settle (bcastStep_of_lines hx hb hk hp hl)

end Sys2Proof.Proofs.CollectiveCommands

/-!
exp2 of what is no finite number (R296).
-/
namespace Sys2Proof.Proofs.SpecialExponents

open Sys2Proof Sys2Proof.Machine

/-- R296: where the exponent field is full, the pattern is a NaN or an infinity. -/
theorem fp32Exp2_of_fullExponent {x : Nat} (h : nfld x 30 23 = 255) :
    fp32Exp2 x = if nfld x 22 0 ≠ 0 then FF.fp32.nan else if x.testBit 31 then 0 else FF.fp32.infOr false := by
  rw [fp32Exp2, if_pos h]

/-- Settles O42: a NaN has a fraction other than 0, and the sign tells the infinities apart. -/
theorem exp2OfSpecialValues : Obligations.Exp2OfSpecialValues := by
  unfold Obligations.Exp2OfSpecialValues
  refine ⟨fun x _ he hf => ?_, ?_, ?_⟩
  · rw [fp32Exp2_of_fullExponent he, if_pos hf]
    rfl
  · rw [fp32Exp2_of_fullExponent (by decide)]
    rfl
  · rw [fp32Exp2_of_fullExponent (by decide)]
    rfl

end Sys2Proof.Proofs.SpecialExponents

/-!
The commands of a Spindle's core (R281-R283, R287-R292, R302, R303).
-/
namespace Sys2Proof.Proofs.CoreCommands

open Sys2Proof Sys2Proof.Machine
open Sys2Proof.Proofs.LinkCommands (sealed_settle)

section

variable {s : State} {n k : Nat}

/-! ### A core that runs (R281) -/

/-- A core runs where its Spindle runs a part that has not reached its SP.EXIT, and is not halted. -/
theorem coreRuns_iff : s.coreRuns n k = true ↔
    (s.running n k).isSome = true ∧ (s.spu n k).exiting = none ∧ (s.spu n k).halted = false := by
  simp [State.coreRuns, and_assoc]

/-- A custom-0 instruction handed to a core that runs is performed. -/
theorem coreGiven_of_runs (hr : s.coreRuns n k = true) (f : State → State) : s.coreGiven n k f = f s := if_pos hr

theorem coreStep_of_instruction (hr : s.coreRuns n k = true) {i : Rv} {len : Nat} (hf : s.coreFetch n k = some (some i, len)) :
    s.coreStep n k .none = s.coreDo n k i len := by
  simp [State.coreStep, hr, hf]

/-- R303: an illegal instruction is cause 1. -/
theorem coreStep_of_illegal (hr : s.coreRuns n k = true) {len : Nat} (hf : s.coreFetch n k = some (none, len)) :
    s.coreStep n k .none = s.spFault n k 1 .ok 0 := by
  simp [State.coreStep, hr, hf]

/-- R303: a fetch outside the SRAM is cause 3. -/
theorem coreStep_of_outside (hr : s.coreRuns n k = true) (hf : s.coreFetch n k = none) :
    s.coreStep n k .none = s.spFault n k 3 .ok (s.spu n k).pc := by
  simp [State.coreStep, hr, hf]

/-- R303: a word that the SRAM could not correct is cause 7. -/
theorem coreStep_of_lost (hr : s.coreRuns n k = true) : s.coreStep n k .lost = s.spFault n k 7 .ok 0 := by
  simp [State.coreStep, hr]

/-- R282: a misaligned load of a place that exists. -/
theorem coreDo_load_of_misaligned {f rd rs len : Nat} {off : Int} (hp : spPlace ((s.spu n k).addr rs off) (rvSize f) ≠ .bad)
    (ha : (s.spu n k).addr rs off % rvSize f ≠ 0) :
    s.coreDo n k (.load f rd rs off) len = s.spFault n k 2 .ok ((s.spu n k).addr rs off) := by
  simp [State.coreDo, ha]

/-! ### Stream, exit and counter instructions (R290, R292, R302, R288) -/

theorem coreStart_of_legal {l : Launch} {d : SpStream} {rd rs : Nat} (hl : s.running n k = some l) (hn : (s.spu n k).streams.length < 4)
    (hd : d = { ticket := (s.spu n k).tickets, desc := s.sramBytes n k ((s.spu n k).x rs) 32, sent := false })
    (hi : inSram ((s.spu n k).x rs) 32 32 = true) (ho : d.ok (s.partSize l) = true) :
    s.coreStart n k rd rs = s.coreNext n k
      ({ s.spu n k with streams := (s.spu n k).streams ++ [d], tickets := ((s.spu n k).tickets + 1) % 65536
                        done := SMap.set (fun _ => 15) (s.spu n k).done (s.spu n k).tickets 15 }.setX rd (s.spu n k).tickets) 4 := by
  subst hd
  simp [State.coreStart, hl, Nat.not_le.mpr hn, hi, ho]

theorem coreExit_of_idle {st : Status} {rs : Nat} (hc : Status.ofCode ((s.spu n k).x rs % 16) = some st) (hs : (s.spu n k).streams = []) :
    s.coreExit n k rs = s.endPart n k st := by
  simp only [State.coreExit, hc, if_pos hs]

/-- R288: an upper half is read as it was when its lower half was read. -/
theorem coreRdcnt_of_upper {i : Nat} (hi : i % 2 = 1 ∧ i < 8) (rd : Nat) :
    s.coreRdcnt n k rd i = s.coreNext n k ((s.spu n k).setX rd (s.spu n k).upper) 4 := by
  rw [State.coreRdcnt, if_pos hi]

/-- R288: there are 8 counter words; the others read as 0. -/
theorem coreRdcnt_of_beyond {i : Nat} (hi : 8 ≤ i) (rd : Nat) : s.coreRdcnt n k rd i = s.coreNext n k ((s.spu n k).setX rd 0) 4 := by
  rw [State.coreRdcnt, if_neg (by omega), if_pos hi]

/-! ### The region window (R283) -/

/-- R287: an aligned load of a block that passes its check, by a core whose streams have completed. -/
theorem regionAccess_of_load {l : Launch} {f rd rs len r : Nat} {off : Int} {w : Line} {x : SpRead} {e : Syms} (hr : s.coreRuns n k = true)
    (hl : s.running n k = some l) (hs : (s.spu n k).streams = []) (hf : s.coreFetch n k = some (some (.load f rd rs off), len))
    (ha : (s.spu n k).addr rs off = 0x40000000 + r) (hp : spPlace ((s.spu n k).addr rs off) (rvSize f) = .region)
    (hm : (s.spu n k).addr rs off % rvSize f = 0) (hc : s.spCheck n k l.comp r = none)
    (hx : (s.spRead n k l.comp [(0, e)]).readAt (r / 64 * 64) = (.ok w, x)) :
    s.regionAccess n k e = x.s.coreNext n k ((x.s.spu n k).setX rd (rvExtend f (bytesAt w (r % 64) (rvSize f)))) len := by
  obtain ⟨-, exiting, halted⟩ := coreRuns_iff.mp hr
  have free : ¬((s.spu n k).exiting.isSome = true ∨ (s.spu n k).halted = true ∨ (s.spu n k).streams ≠ []) := by simp [exiting, halted, hs]
  have aligned : ¬(spPlace ((s.spu n k).addr rs off) (rvSize f) ≠ .region ∨ (s.spu n k).addr rs off % rvSize f ≠ 0) := by simp [hp, hm]
  have offset : (s.spu n k).addr rs off - 0x40000000 = r := by rw [ha, Nat.add_sub_cancel_left]
  rw [State.regionAccess]
  simp only [hl, hf]
  rw [if_neg free, if_neg aligned, offset, hc]
  simp only [hx]

end

/-- Settles O36: each command in the branch that its premises name. -/
theorem spindleCoreCommandsComplete : Obligations.SpindleCoreCommandsComplete := by
  unfold Obligations.SpindleCoreCommandsComplete
  rintro s n k _ hr rfl
  have given (f : State → State) := sealed_settle (s := s) (coreGiven_of_runs hr f)
  refine ⟨?_, ?_, ?_, ?_, ?_, ?_, ?_, ?_, ?_, ?_, ?_, ?_, ?_, ?_, ?_, ?_, ?_, ?_, ?_, ?_⟩
  · exact fun f rd rs alt imm len hf => sealed_settle (coreStep_of_instruction hr hf)
  · exact fun f rd a b alt len hf => sealed_settle (coreStep_of_instruction hr hf)
  · exact fun f rd a b len hf => sealed_settle (coreStep_of_instruction hr hf)
  · exact fun rd imm len hf => sealed_settle (coreStep_of_instruction hr hf)
  · exact sealed_settle (coreStep_of_lost hr)
  · exact fun hf => sealed_settle (coreStep_of_outside hr hf)
  · exact fun len hf => sealed_settle (coreStep_of_illegal hr hf)
  · exact fun rd off len hf => sealed_settle (coreStep_of_instruction hr hf)
  · exact fun f a b off len hf => sealed_settle (coreStep_of_instruction hr hf)
  · exact fun f rd rs off len hf hp ha => sealed_settle ((coreStep_of_instruction hr hf).trans (coreDo_load_of_misaligned hp ha))
  · intro rd a b
    simp only [List.forall_mem_cons]
    exact ⟨given _, given _, given _, given _, given _, given _, List.forall_mem_nil _⟩
  · intro rd a f
    simp only [List.forall_mem_cons]
    exact ⟨given _, given _, given _, given _, given _, List.forall_mem_nil _⟩
  · exact fun rd a l d hl hn hd hi ho => sealed_settle ((coreGiven_of_runs hr _).trans (coreStart_of_legal hl hn hd hi ho))
  · exact fun rd a h => sealed_settle ((coreGiven_of_runs hr _).trans (if_neg h))
  · exact fun rd a h => sealed_settle ((coreGiven_of_runs hr _).trans (if_pos h))
  · exact fun rd a => given _
  · exact fun a st hc hs => sealed_settle ((coreGiven_of_runs hr _).trans (coreExit_of_idle hc hs))
  · exact fun rd i hi => sealed_settle ((coreGiven_of_runs hr _).trans (coreRdcnt_of_beyond hi rd.val))
  · exact fun rd => sealed_settle ((coreGiven_of_runs hr _).trans (coreRdcnt_of_upper (by decide) rd.val))
  · exact fun l f rd rs len r off w x hl hs hf ha hp hm hc hx => sealed_settle (regionAccess_of_load hr hl hs hf ha hp hm hc hx)

end Sys2Proof.Proofs.CoreCommands

/-!
The commands of a Spindle's streams (R290-R298, R303, R309, R314).
-/
namespace Sys2Proof.Proofs.DescriptorStreams

open Sys2Proof Sys2Proof.Machine Sys2Proof.Laws.State
open Sys2Proof.Proofs.LinkCommands (sealed_settle)

section

variable {s : State} {n k kind : Nat} {l : Launch} {d : SpStream}

/-! ### What a stream reads from the SRAM (R281, R303) -/

/-- Counting a corrected word leaves the streams as they are. -/
theorem headStream_sramSeen (e : SramErr) : (s.sramSeen n k e).headStream n k kind = s.headStream n k kind := by
  have units : (s.sramSeen n k e).sp = s.sp := by
    unfold State.sramSeen
    split
    · exact count_sp s _ _ _ _ _
    · rfl
  simp only [State.headStream, State.running, State.spu, State.launch, units]

/-- A stream at the head goes on, after a corrected word was counted. -/
theorem sramGot_of_head {e : SramErr} (h : s.headStream n k kind = some (l, d)) (he : e ≠ .lost) (f : State → State) :
    s.sramGot n k kind e f = f (s.sramSeen n k e) := by
  cases e with
  | none => simp [State.sramGot, State.sramSeen, h]
  | fixed => simp [State.sramGot, State.sramSeen, h]
  | lost => exact absurd rfl he

theorem sramGot_of_lost (h : s.headStream n k kind = some (l, d)) (f : State → State) :
    s.sramGot n k kind .lost f = s.spFault n k 7 .ok 0 := by
  simp [State.sramGot, h]

/-! ### SCORE and AXPY (R293) -/

section

variable {f : SpStream → State → Nat → List Nat → State} {es : List (Nat × Syms)} (h : s.headStream n k kind = some (l, d))

include h

theorem dotStream_of_rows {e : SramErr} (he : e ≠ .lost) {st : Status} {x : SpRead}
    (hx : SpRead.rows n k d (f d) d.count 0 { (s.sramSeen n k e).spRead n k l.comp es with pace := d.dotCycles 2048 } = (st, x)) :
    s.dotStream n k kind f ⟨es, false, e⟩ = x.s.streamEnd n k st := by
  simp [State.dotStream, h, sramGot_of_head h he, hx]

/-- R303: a residue error is cause 8, whatever the SRAM returns. -/
theorem dotStream_of_residue {e : SramErr} : s.dotStream n k kind f ⟨es, true, e⟩ = s.spFault n k 8 .ok 0 := by
  simp [State.dotStream, h]

theorem dotStream_of_lost : s.dotStream n k kind f ⟨es, false, .lost⟩ = s.spFault n k 7 .ok 0 := by
  simp [State.dotStream, h, sramGot_of_lost h]

end

/-! ### The other streams (R291) -/

theorem qload_of_head (h : s.headStream n k 0 = some (l, d)) : s.qload n k = (s.setSpu n k
    ((List.range d.nq).foldl (fun (u : SpUnit) g =>
      u.setQr (512 * g) (s.sramBytes n k (d.src + g * (d.elems * fmtSize d.qfmt)) (d.elems * fmtSize d.qfmt)))
        (s.spu n k))).streamEnd n k .ok := by
  simp only [State.qload, h]

theorem vmax_of_head (h : s.headStream n k 3 = some (l, d)) : s.vmax n k = State.streamEnd ((List.range d.nq).foldl (fun t g =>
    t.setSramWord n k (d.dst + 4 * g)
      (((List.range d.count).map (fun j => t.sramWord n k (d.src + 4 * (g * d.count + j)))).foldl fp32Max 0xFF800000)) s) n k .ok := by
  simp only [State.vmax, h]

/-- R293: for one query, VEXPS goes over the scores once. -/
theorem vexps_of_oneQuery (h : s.headStream n k 4 = some (l, d)) (hn : d.nq = 1) {q : Nat × State}
    (hq : q = (List.range d.count).foldl (fun (q : Nat × State) j =>
      (fp32Add q.1 (fp32Exp2 (fp32Sub (q.2.sramWord n k (d.src + 4 * j)) (s.sramWord n k d.aux))),
       q.2.setSramWord n k (d.src + 4 * j) (fp32Exp2 (fp32Sub (q.2.sramWord n k (d.src + 4 * j)) (s.sramWord n k d.aux))))) (0, s)) :
    s.vexps n k = (q.2.setSramWord n k d.aux2 q.1).streamEnd n k .ok := by
  subst hq
  simp [State.vexps, h, hn, List.range_one]

theorem oclr_of_head (h : s.headStream n k 5 = some (l, d)) :
    s.oclr n k = (s.setSpu n k ((s.spu n k).mapOa d (fun _ _ => 0))).streamEnd n k .ok := by
  simp only [State.oclr, h]

theorem oscale_of_head (h : s.headStream n k 6 = some (l, d)) : s.oscale n k = (s.setSpu n k ((s.spu n k).mapOa d (fun g x =>
    (FF.fp32.ofVal ((FF.fp32.decode x).mul (FF.fp32.decode (s.sramWord n k (d.aux + 4 * g))))).1))).streamEnd n k .ok := by
  simp only [State.oscale, h]

theorem ostore_of_head (h : s.headStream n k 7 = some (l, d)) : s.ostore n k = State.streamEnd ((List.range d.nq).foldl (fun u g =>
    u.setSram n k (d.dst + 4 * d.elems * g) ((List.range d.elems).flatMap (fun e => leBytes 4 ((s.spu n k).oaw g e)))) s) n k .ok := by
  simp only [State.ostore, h]

theorem copyIn_of_lines {es : List (Nat × Syms)} {st : Status} {x : SpRead} (h : s.headStream n k 8 = some (l, d))
    (hx : SpRead.copyIn n k d (d.count / 64) 0 (s.spRead n k l.comp es) = (st, x)) : s.copyIn n k es = x.s.streamEnd n k st := by
  simp only [State.copyIn, h, hx]

theorem copyOut_of_lines {st : Status} {u : State} (h : s.headStream n k 9 = some (l, d))
    (hu : State.copyLines n k l.comp d (d.count / 64) 0 s = (st, u)) : s.copyOut n k = u.streamEnd n k st := by
  simp only [State.copyOut, h, hu]

theorem put_of_lines (h : s.headStream n k 0xA = some (l, d)) (hc : d.count ≠ 0) : s.put n k =
    ((s.setSpu n k (s.spu n k).markSent).startBatch (.spPut n k (s.spu n k).run) ((List.range (d.count / 64)).map (fun i => (24 + n,
      s.writeReq (d.putAt + 64 * i) (BitVec.ofNat 32 d.stride) none (BitVec.allOnes 64)
        (lineOfBytes (s.sramBytes n k (d.src + 64 * i) 64)))))).2 := by
  simp only [State.put, h, if_neg hc]

theorem sendPartial_of_head {u : State} (h : s.headStream n k 0xB = some (l, d)) (hu : u = s.setSpu n k (s.spu n k).markSent) :
    s.sendPartial n k = { u with sp := { u.sp with parts := u.sp.parts ++
      [{ bay := n, sp := k, run := (s.spu n k).run, ticket := d.ticket, comb := l.comb, idx := d.aux
         data := s.sramBytes n k d.src (s.partSize l) }] } } := by
  subst hu
  simp only [State.sendPartial, h]

end

/-- Settles O37: each command in the branch that its premises name. -/
theorem spindleStreamCommandsComplete : Obligations.SpindleStreamCommandsComplete := by
  unfold Obligations.SpindleStreamCommandsComplete
  rintro s _ n k l d e rfl he
  have seen {kind : Nat} (h : s.headStream n.val k.val kind = some (l, d)) :
      (s.sramSeen n.val k.val e).headStream n.val k.val kind = some (l, d) := (headStream_sramSeen e).trans h
  refine ⟨?_, ?_, ?_, ?_, ?_, ?_, ?_, ?_, ?_, ?_, ?_, ?_, ?_, ?_⟩
  · exact fun h => sealed_settle ((sramGot_of_head h he _).trans (qload_of_head (seen h)))
  · exact fun es st x h hx => sealed_settle (dotStream_of_rows h he hx)
  · exact fun es st x h hx => sealed_settle (dotStream_of_rows h he hx)
  · exact fun es => ⟨fun h => sealed_settle (dotStream_of_residue h), fun h => sealed_settle (dotStream_of_residue h)⟩
  · exact fun h => sealed_settle ((sramGot_of_head h he _).trans (vmax_of_head (seen h)))
  · exact fun q h hn hq => sealed_settle ((sramGot_of_head h he _).trans (vexps_of_oneQuery (seen h) hn hq))
  · exact fun h => sealed_settle (oclr_of_head h)
  · exact fun h => sealed_settle ((sramGot_of_head h he _).trans (oscale_of_head (seen h)))
  · exact fun h => sealed_settle (ostore_of_head h)
  · exact fun es st x h hx => sealed_settle (copyIn_of_lines h hx)
  · exact fun st u h hu => sealed_settle ((sramGot_of_head h he _).trans (copyOut_of_lines (seen h) hu))
  · exact fun h hc => sealed_settle ((sramGot_of_head h he _).trans (put_of_lines (seen h) hc))
  · exact fun u h hu => sealed_settle ((sramGot_of_head h he _).trans (sendPartial_of_head (seen h) hu))
  · have lost {kind : Nat} (f : State → State) (h : s.headStream n.val k.val kind = some (l, d)) :=
      sealed_settle (s := s) (sramGot_of_lost h f)
    simp only [List.forall_mem_cons]
    exact ⟨lost _, fun h => sealed_settle (dotStream_of_lost h), fun h => sealed_settle (dotStream_of_lost h), lost _, lost _, lost _, lost _,
      lost _, lost _, List.forall_mem_nil _⟩

end Sys2Proof.Proofs.DescriptorStreams

/-!
The commands of launches, combines, fences, tests and code tables (R301-R304, R307, R314-R317, R326, R337, R486).
-/
namespace Sys2Proof.Proofs.LaunchCommands

open Sys2Proof Sys2Proof.Machine Sys2Proof.Laws.Calm
open Sys2Proof.Proofs.LinkCommands (sealed_settle)
open Sys2Proof.Proofs.TrayCommands (sealed_of_eq)

section

variable {s : State}

/-! ### Launches (R301, R307) -/

/-- R301: a launch that passes the checks of its body reads its image header. -/
theorem spLaunch_of_checked {u v : State} {t : TaskRef} {x : TaskSt} {l : Launch} (hb : s.beginTask t 6 = some (x, u))
    (hl : l = { id := u.sp.next, t := t, bay := bitsAt x.body 0 1 5, comp := bytesAt x.body 1 1
                fence := bit (u.rgb pgSpCtl Reg.SpCtl.COH_MODE (bytesAt x.body 1 1)) 0, stage := 1, body := x.body, head := [], image := []
                ranges := [], comb := none, combSt := none, waits := [], parts := [] })
    (hv : v = State.bumpHub { u with sp := { u.sp with next := u.sp.next + 1, launches := u.sp.launches ++ [l] } } Reg.SpCtl.LAUNCH_DEV_CNT)
    (hu : v.bayUp l.bay = true) (ho : l.bodyOk = true) (hs : v.bayShare l.comp l.bay ≠ 0)
    (hg : l.mask.any (fun k => !v.spGranted l.comp l.bay k) = false) :
    s.spLaunch t = (v.startBatch (.spHead t) (l.headLines.map (fun a => (24 + l.bay, v.keyRead l.key a)))).2 := by
  have up : ¬(l.bay < 24 ∧ (!v.bayUp l.bay) = true) := by simp [hu]
  have body : ¬(!l.bodyOk) = true := by simp [ho]
  have granted : ¬(v.bayShare l.comp l.bay = 0 ∨ l.mask.any (fun k => !v.spGranted l.comp l.bay k) = true) := by simp [hs, hg]
  subst hl hv
  simp only [State.spLaunch, hb]
  exact (if_neg up).trans ((if_neg body).trans (if_neg granted))

section

variable {t : TaskRef} {l : Launch} (hl : s.launchOf t = some l)

include hl

theorem fenceStage_of_answered (hs : l.stage = 4) (hw : l.waits = []) :
    s.fenceStage t = (s.setLaunch { l with stage := 5, waits := [] }).recallRanges l true := by
  simp [State.fenceStage, hl, hs, hw]

theorem fenceStage_of_recalled (hs : l.stage = 5) (hr : s.recalling l = false) : s.fenceStage t = s.startParts l := by
  simp [State.fenceStage, hl, hs, hr]

end

/-! ### Partials and combines (R314, R315, R317) -/

section

variable {n k : Nat} {m : PartMsg} (hm : s.sp.parts = [m]) (hn : m.bay = n) (hk : m.sp = k)

include hm hn hk

theorem partialArrival_of_combine {t : State} {c : Comb} {st : Status} (hc : m.comb.bind (fun i => s.comb i) = some c)
    (hu : s.bayUp c.bay = true) (hr : s.bayRuns c.bay = true)
    (hp : State.partialStored { s with sp := { s.sp with parts := [] } } c m = (st, t)) : s.partialArrival n k = t.partialDone m st := by
  simp [State.partialArrival, hm, hn, hk, hc, hu, hr, hp]

theorem partialArrival_of_none (hc : m.comb = none) :
    s.partialArrival n k = State.partialDone { s with sp := { s.sp with parts := [] } } m .unmapped := by
  simp [State.partialArrival, hm, hn, hk, hc]

end

section

variable {i : Nat} {c : Comb} (hc : s.comb i = some c)

include hc

theorem combTimeout_of_open (hs : c.state = 1) (hw : c.writing = false) : s.combTimeout i = s.combEnd c 3 (24 + c.bay) .timeout := by
  simp [State.combTimeout, hc, hs, hw]

theorem combCancel_of_open (hs : c.state = 1) (hw : c.writing = false) : s.combCancel i =
    ((s.combEnd c 3 (24 + c.bay) .revoked).bumpHub Reg.SpCtl.COMB_CANCEL_CNT).combStat (fld (s.hub Reg.SpCtl.COMB_STAT) 9 8) 0 := by
  simp [State.combCancel, hc, hs, hw]

theorem combQuery_of_held : s.combQuery i = s.combStat c.state 0 := by simp [State.combQuery, hc]

/-- R315: once a combine has ended, its ID is free when its hold passes. -/
theorem combHold_of_ended (hs : c.state ≠ 1) : s.combHold i = { s with sp := { s.sp with combs := s.sp.combs.filter (fun d => d.id ≠ i) } } := by
  simp only [State.combHold, hc, if_neg hs]

end

section

variable {i : Nat} (hc : s.comb i = none)

include hc

theorem combCancel_of_free : s.combCancel i = s.combStat (fld (s.hub Reg.SpCtl.COMB_STAT) 9 8) 1 := by simp only [State.combCancel, hc]

theorem combQuery_of_free : s.combQuery i = s.combStat 0 0 := by simp [State.combQuery, hc]

end

/-! ### Known-answer tests (R486) -/

section

variable {n k : Nat} (hf : s.spFenced n k = false) (ht : (s.spu n k).kat = 0) (hu : s.bayUp n = true)

include hf ht hu

theorem katDue_of_busy (hl : (s.spu n k).launch.isSome = true) :
    s.katDue n k = (s.setSpu n k { s.spu n k with kat := 1 }).bumpHub Reg.Flt.KAT_LATE_CNT := by
  simp [State.katDue, hf, ht, hu, hl]

theorem katDue_of_idle (hl : (s.spu n k).launch = none) (hr : s.bayRuns n = true)
    (hi : s.islandState (.spindles (Fin.ofNat 24 n) (Fin.ofNat 8 (k / 8))) = 0) :
    s.katDue n k = s.setSpu n k { s.spu n k with kat := 2 } := by
  have due : ¬(s.spFenced n k = true ∨ (s.spu n k).kat ≠ 0 ∨ (!s.bayUp n) = true) := by simp [hf, ht, hu]
  have idle : ¬(s.spu n k).launch.isSome = true := by simp [hl]
  rw [State.katDue, if_neg due, if_neg idle, if_pos ⟨hr, hi⟩]

end

theorem katDone_of_pass {n k : Nat} (ht : 2 ≤ (s.spu n k).kat) :
    s.katDone n k true = (s.bumpHub Reg.Flt.KAT_CNT).setSpu n k { s.spu n k with kat := 0 } := by
  rw [State.katDone, if_neg (Nat.not_lt.mpr ht), if_pos rfl]

/-- R472: the first failure is logged, and the test is repeated. -/
theorem katDone_of_firstFailure {n k : Nat} (ht : (s.spu n k).kat = 2) : s.katDone n k false =
    (((s.bumpHub Reg.Flt.KAT_CNT).bumpHub Reg.Flt.KAT_FAIL_CNT).setSpu n k { s.spu n k with kat := 3 }).spindleFault n k 9 false := by
  rw [State.katDone, if_neg (by omega), if_neg Bool.false_ne_true, if_pos ht]

/-! ### Code tables (R326, R337) -/

theorem ctInstall_of_free (hb : s.ctBusy = false) {c i a b : Nat} {t u : State} (ha : (s.hub Reg.CTab.CT_ADDR).toNat = a)
    (ht : t = s.setHub Reg.CTab.CT_STAT (setFld (s.hub Reg.CTab.CT_STAT) 31 31 1))
    (hu : t.startBatch .ctImage ((List.range 3).map (fun i => (hubIn, t.readReq (Fin.ofNat 256 c) (a + 64 * i)))) = (b, u)) :
    s.ctInstall c i = { u with codec := { u.codec with cmd := some { comp := c, tid := i, addr := a, batch := b } } } := by
  have free : ¬s.ctBusy = true := by simp [hb]
  subst ht
  simp only [State.ctInstall, if_neg free, ha, hu]

theorem ctRemove_of_installed (hb : s.ctBusy = false) {c i : Nat} {x : CodeTab} (hx : s.codeTab c i = some x) :
    s.ctRemove c i = ((s.dropTable c i).bumpHub Reg.CTab.CT_REMOVE_CNT).ctResult 0 := by
  simp [State.ctRemove, hb, hx]

theorem ctRemove_of_unknown (hb : s.ctBusy = false) {c i : Nat} (hx : s.codeTab c i = none) : s.ctRemove c i = s.ctResult 5 := by
  simp [State.ctRemove, hb, hx]

theorem ctQuery_of_installed (hb : s.ctBusy = false) {c i : Nat} {x : CodeTab} (hx : s.codeTab c i = some x) :
    s.ctQuery c i = (s.setHub Reg.CTab.CT_STAT (setFld (s.hub Reg.CTab.CT_STAT) 30 30 1)).ctResult 0 := by
  simp [State.ctQuery, hb, hx, b2n]

theorem ctQuery_of_unknown (hb : s.ctBusy = false) {c i : Nat} (hx : s.codeTab c i = none) :
    s.ctQuery c i = (s.setHub Reg.CTab.CT_STAT (setFld (s.hub Reg.CTab.CT_STAT) 30 30 0)).ctResult 5 := by
  simp [State.ctQuery, hb, hx, b2n]

end

/-- Settles O38: each command in the branch that its premises name. -/
theorem spindleServiceCommandsComplete : Obligations.SpindleServiceCommandsComplete := by
  unfold Obligations.SpindleServiceCommandsComplete
  refine ⟨?_, ?_, ?_, ?_, ?_, ?_, ?_, ?_, ?_, ?_, ?_, ?_, ?_, ?_, ?_, ?_, ?_, ?_⟩
  · exact fun s u v t x l hb hl hv hu ho hs hg => sealed_settle (spLaunch_of_checked hb hl hv hu ho hs hg)
  · exact fun s t l hl hs hw => sealed_settle (fenceStage_of_answered hl hs hw)
  · exact fun s t l hl hs hr => sealed_settle (fenceStage_of_recalled hl hs hr)
  · exact fun s t n k m c st hm hn hk hc hu hr hp => sealed_settle (partialArrival_of_combine hm hn hk hc hu hr hp)
  · exact fun s n k m hm hn hk hc => sealed_settle (partialArrival_of_none hm hn hk hc)
  · intro s i c hc hs hw
    refine ⟨sealed_settle (combTimeout_of_open hc hs hw), fun hb => ⟨?_, ?_⟩⟩
    · exact sealed_settle ((unlessBusy_of_idle s _ _ _ hb).trans (combCancel_of_open hc hs hw))
    · exact sealed_of_eq ((unlessBusy_of_idle s _ _ _ hb).trans (hs ▸ combQuery_of_held hc))
  · intro s i hb hc
    exact ⟨sealed_settle ((unlessBusy_of_idle s _ _ _ hb).trans (combCancel_of_free hc)),
      sealed_of_eq ((unlessBusy_of_idle s _ _ _ hb).trans (combQuery_of_free hc))⟩
  · exact fun s n i c hc hs => sealed_settle (combHold_of_ended hc hs)
  · exact fun s n k hr => sealed_settle (if_pos hr)
  · exact fun s n v ho => sealed_settle (atPage_of_open s _ _ _ _ ho)
  · exact fun s n k hf ht hu hl => sealed_settle (katDue_of_busy hf ht hu hl)
  · intro s n k hf ht hu hl hr hi
    rw [← Fin.ofNat_val_eq_self n] at hi
    exact sealed_settle (katDue_of_idle hf ht hu hl hr hi)
  · rintro s _ n k ht rfl
    exact sealed_settle (katDone_of_pass ht)
  · rintro s _ n k ht rfl
    exact sealed_settle (katDone_of_firstFailure ht)
  · exact fun s t u c i a b hb ha ht hu => sealed_settle (ctInstall_of_free hb ha ht hu)
  · exact fun s c i x hb hx => ⟨sealed_of_eq (ctRemove_of_installed hb hx), sealed_of_eq (ctQuery_of_installed hb hx)⟩
  · exact fun s c i hb hx => ⟨sealed_of_eq (ctRemove_of_unknown hb hx), sealed_of_eq (ctQuery_of_unknown hb hx)⟩
  · exact fun s c i hb => ⟨sealed_settle (if_pos hb), sealed_of_eq (if_pos hb), sealed_of_eq (if_pos hb)⟩

end Sys2Proof.Proofs.LaunchCommands

/-!
A ns of a quiet state (log entry 5): the operations of a tick find nothing to do but count and advance Fabric Time.
-/
namespace Sys2Proof.Proofs.QuietTick

open Sys2Proof Sys2Proof.Machine Sys2Proof.Laws Sys2Proof.Laws.Calm

/-- The memory side of the block is the same in both states, and so are Fabric Time and all that a quiet state speaks of. -/
structure Rests (s t : State) : Prop extends Kept s t where
  links : t.links = s.links
  bays : t.bays = s.bays
  voqs : t.voqs = s.voqs
  ft : t.ft = s.ft
  sp : t.sp = s.sp
  host : t.host = s.host
  landing : t.landing = s.landing
  capHolds : t.capHolds = s.capHolds
  arb : t.arb = s.arb
  time : t.time = s.time

namespace Rests

variable {s t u : State}

theorem rfl' (s : State) : Rests s s := ⟨.rfl' s, rfl, rfl, rfl, rfl, rfl, rfl, rfl, rfl, rfl, rfl⟩

theorem of_eq (h : t = s) : Rests s t := h ▸ rfl' s

theorem trans (h : Rests s t) (k : Rests t u) : Rests s u :=
  ⟨h.toKept.trans k.toKept, k.links.trans h.links, k.bays.trans h.bays, k.voqs.trans h.voqs, k.ft.trans h.ft, k.sp.trans h.sp,
   k.host.trans h.host, k.landing.trans h.landing, k.capHolds.trans h.capHolds, k.arb.trans h.arb, k.time.trans h.time⟩

theorem ite {c : Prop} [Decidable c] (ht : Rests s t) (hu : Rests s u) : Rests s (if c then t else u) := by
  split
  · exact ht
  · exact hu

theorem quiet (h : Rests s t) (hs : s.quiet) : t.quiet := by
  obtain ⟨hc, hv, hl, hh, ha, hk, hb, hf⟩ := hs
  exact ⟨calm_congr hc h.events h.loom h.hed h.sp h.host (by rw [h.reg]), h.voqs.trans hv, h.landing.trans hl, h.capHolds.trans hh,
    h.arb ▸ ha, h.links.trans hk, h.bays.trans hb, h.time ▸ hf⟩

/-- An operation that a quiet state gives nothing to do follows what has rested. -/
theorem andIdle (h : Rests s t) (hs : s.quiet) (hu : t.quiet → u = t) : Rests s u := h.trans (.of_eq (hu (h.quiet hs)))

/-! ### What runs in any state -/

theorem count (s : State) (pg : Nat) (r : RegSpec) (i b n : Nat) : Rests s (s.count pg r i b n) := by
  unfold State.count
  split
  · exact rfl' s
  · exact ⟨.setReg _ _ _ _ _ _, rfl, rfl, rfl, rfl, rfl, rfl, rfl, rfl, rfl, rfl⟩

/-- The time, the governor, the pins and the sampling are no part of it. -/
theorem aside (s : State) (n : Nat) (w : PwrSt) (p : PinSt) (d : Sampler) : Rests s { s with now := n, pwr := w, pins := p, sampler := d } :=
  ⟨⟨rfl, rfl, rfl, rfl, rfl, rfl, rfl, rfl, rfl⟩, rfl, rfl, rfl, rfl, rfl, rfl, rfl, rfl, rfl, rfl⟩

theorem fillBudget (s : State) : Rests s s.fillBudget := ite (rfl' s) (aside s s.now _ s.pins s.sampler)

theorem endPulse (s : State) : Rests s s.endPulse := by
  unfold State.endPulse
  split
  · exact ite (aside s s.now s.pwr _ s.sampler) (rfl' s)
  · exact rfl' s

theorem tickUs (s : State) : Rests s s.tickUs := by
  have countIf (u : State) (c : Prop) [Decidable c] (r : RegSpec) : Rests u (if c then u.bumpHub r else u) := ite (count u _ _ _ _ _) (rfl' u)
  exact (((countIf s _ _).trans (countIf _ _ _)).trans (countIf _ _ _)).trans (countIf _ _ _)

theorem tickMs (s : State) : Rests s s.tickMs := count s _ _ _ _ _

end Rests

/-! ### What finds nothing to do in a quiet state -/

section

variable {s : State}

/-- R362: without an adjustment Fabric Time advances by one ns. -/
theorem tickFt_of_noAdj (h : s.time.adj = 0) {f : Nat} (hf : (s.ft + 65536) % 2 ^ 80 = f) (n : Nat) :
    ({ s with now := n } : State).tickFt = { s with now := n, ft := f } := by
  have adj : ({ s.time with adj := 0 } : TimeSt) = s.time := by rw [← h]
  have ft : (((s.ft : Int) + 65536) % (2 ^ 80 : Nat)).toNat = f := by omega
  simpa [State.tickFt, State.setFt, h, adj] using ft

variable (h : s.quiet)

include h

theorem calm_of_quiet : s.calm := h.1

theorem tickSweeps_of_quiet : s.tickSweeps = s := by
  obtain ⟨-, -, -, -, -, -, hb, -⟩ := h
  rw [State.tickSweeps, hb]
  rfl

theorem tickBays_of_quiet : s.tickBays = s := by
  obtain ⟨-, -, -, -, -, -, hb, -⟩ := h
  rw [State.tickBays, hb]
  rfl

theorem cycle_of_quiet : s.cycle = s := by
  obtain ⟨⟨-, -, ho, -⟩, hv, hl, hh, ha, -⟩ := h
  exact if_pos ⟨hv, by simp [hl], hh, ha, ho⟩

theorem headsWait_of_quiet : s.headsWait = s := if_pos h.2.1

theorem linksTick_of_quiet : s.linksTick = s := by
  obtain ⟨-, -, -, -, -, hk, -⟩ := h
  simp [State.linksTick, State.countGuards, hk]

theorem timeFups_of_quiet : s.timeFups = s := by
  obtain ⟨-, -, -, -, -, -, -, hf⟩ := h
  rw [State.timeFups, hf]
  rfl

end

/-! ### One ns -/

/-- The counters of the periods that end in a ns, and the Deck slices' sampling, which starts anew. -/
def countPeriods (s : State) : State :=
  let s := if s.now % 1000 = 0 then s.tickUs else s
  let s := if s.now % 1000000 = 0 then s.tickMs else s
  { s with sampler := { s.sampler with lane := [] } }

/-- The Deck's cycles of a ns. -/
def runCycles (s : State) : State := (List.range s.cycles).foldl (fun s _ => s.cycle) s

/-- What the block does in a ns once Fabric Time has advanced. -/
def afterFt (s : State) : State :=
  (runCycles (countPeriods s.fillBudget.endPulse.tickSweeps.tickBays)).headsWait.linksTick.timeFups

theorem tick_eq (s : State) : s.tick = ({ s with now := s.now + 1 } : State).seal (State.settle (afterFt ({ s with now := s.now + 1 } : State).tickFt)) :=
  rfl

/-- One ns ends with the seal of a state whose clock has gone on. -/
theorem tick_seals (s : State) : ∃ t, s.tick = ({ s with now := s.now + 1 } : State).seal t := ⟨_, tick_eq s⟩

theorem rests_countPeriods (s : State) : Rests s (countPeriods s) :=
  ((Rests.ite (.tickUs s) (.rfl' s)).trans (.ite (.tickMs _) (.rfl' _))).trans (.aside _ _ _ _ _)

theorem runCycles_of_quiet {s : State} (h : s.quiet) : runCycles s = s := by
  rw [runCycles]
  induction List.range s.cycles with
  | nil => rfl
  | cons n ns ih => rw [List.foldl_cons, cycle_of_quiet h, ih]

theorem rests_afterFt {s : State} (h : s.quiet) : Rests s (afterFt s) := by
  have power := (Rests.fillBudget s).trans (.endPulse _)
  have bays := (power.andIdle h tickSweeps_of_quiet).andIdle h tickBays_of_quiet
  have deck := ((bays.trans (rests_countPeriods _)).andIdle h runCycles_of_quiet).andIdle h headsWait_of_quiet
  exact (deck.andIdle h linksTick_of_quiet).andIdle h timeFups_of_quiet

/-- In a quiet state a ns comes to this: Fabric Time has advanced, and all else has rested. -/
theorem tick_of_quiet {s : State} (hq : s.quiet) (ha : s.time.adj = 0) {f : Nat} (hf : (s.ft + 65536) % 2 ^ 80 = f) :
    ∃ t, s.tick = ({ s with now := s.now + 1 } : State).seal t ∧ Rests { s with ft := f } t := by
  have rests : Rests { s with ft := f } (afterFt { s with now := s.now + 1, ft := f }) :=
    (Rests.aside { s with ft := f } (s.now + 1) s.pwr s.pins s.sampler).trans (rests_afterFt hq)
  refine ⟨_, ?_, rests⟩
  rw [tick_eq, tickFt_of_noAdj ha hf]
  exact seal_settle_of_calm _ _ (calm_of_quiet (rests.quiet hq))

/-- A step with no command pending and none set by the block itself is one ns. -/
theorem step_of_idle {s : State} (hp : s.pending = []) (hr : s.resume = []) : step s = .next s.tick := by
  simp only [step, hp, hr]

/-- Settles O2: on an empty queue a step runs the first command of resume, or it is one ns, which a seal ends. -/
theorem emptyQueueGoesOn : Obligations.EmptyQueueGoesOn := by
  unfold Obligations.EmptyQueueGoesOn
  refine ⟨?_, ?_, ?_⟩
  · intro c q s hp hr
    simp only [step, hp, hr]
  · intro s hp hr
    obtain ⟨u, e⟩ := tick_seals s
    exact ⟨_, (step_of_idle hp hr).trans (congrArg _ e), rfl, hp, rfl⟩
  · intro s hp hr hq ha
    obtain ⟨t, e, ht⟩ := tick_of_quiet hq ha rfl
    exact ⟨_, (step_of_idle hp hr).trans (congrArg _ e), ht.ft, ht.mem, ht.links, ht.bays, ht.txns, ht.voqs⟩

end Sys2Proof.Proofs.QuietTick

/-!
Fabric Time, its exchanges and stamps, the gate lists and PPS (R364-R369, R373, R374, R541).
-/
namespace Sys2Proof.Proofs.TimeCommands

open Sys2Proof Sys2Proof.Machine Sys2Proof.Laws.State Sys2Proof.Laws.Calm
open Sys2Proof.Proofs.ClearingReads (pageBlocked_of_open read4_of_narrow)
open Sys2Proof.Proofs.LinkCommands (sealed_settle)
open Sys2Proof.Proofs.TrayCommands (sealed_of_eq)

section

variable {s t u : State}

/-! ### Exchanges (R364-R366) -/

/-- A time-exchange message acts at once while nothing waits in the Deck, as its kind asks. -/
theorem arrive_timeX_of_empty (hv : s.voqs = []) (p : Nat) (x : TimeX) :
    s.arrive p (.timeX { x with kind := .req }) .clean = s.timeReq p { x with kind := .req } ∧
    s.arrive p (.timeX { x with kind := .rsp }) .clean = s.timeRsp p { x with kind := .rsp } ∧
    s.arrive p (.timeX { x with kind := .fup }) .clean = s.timeFup p { x with kind := .fup } := by
  have acts (y : TimeX) : s.arrive p (.timeX y) .clean = s.timeActs p y := outOfDeck_of_empty s p _ _ hv
  simp only [acts, State.timeActs, takeFrom_of_empty s p _ hv, and_self]

/-- R364: the stamp of the response that has left goes out in the follow-up. -/
theorem timeReq_of_stamped {p t3 : Nat} {x : TimeX} (ht : t = s.sendFrom 54 p (s.timeMsg .rsp x.seq x.rx.toNat))
    (hs : t.popStamp p x.seq.toNat .rsp = (some t3, u)) : s.timeReq p x = u.sendFrom 54 p (u.timeMsg .fup x.seq t3) := by
  subst ht
  simp only [State.timeReq, hs]

section

variable {p t1 : Nat} {x : TimeX} {e : Exch} (he : s.time.exch = some e) (hp : e.port = p) (hq : e.seq = x.seq.toNat) (h1 : e.t1 = some t1)

include he hp hq h1

/-- R364: the response of the exchange in progress is noted; the stamp t1 is known already. -/
theorem timeRsp_of_exchange (hs : s.popStamp p e.seq .req = (none, s)) :
    s.timeRsp p x = { s with time := { s.time with exch := some { e with t2 := some (x.t.toNat, x.rx.toNat) } } } := by
  simp [State.timeRsp, he, hp, ← hq, hs, h1]

/-- R364, R365: the follow-up completes the four stamps; a delay within bounds is accepted. -/
theorem timeFup_of_exchange {t2 t4 : Nat} {th d : Int} (h2 : e.t2 = some (t2, t4)) (hu : u = s.noteParent x)
    (hx : exchange t1 t2 x.t.toNat t4 (sx 16 (fld (u.hub Reg.FT.ASYM) 15 0)) = (th, d)) (hl : 0 ≤ d) (hh : d ≤ 6553600000) :
    s.timeFup p x = u.exchAccept th d x.sync := by
  subst hu
  have within : ¬(d < 0 ∨ 6553600000 < d) := by omega
  simp [State.timeFup, he, hp, hq, h1, h2, hx, within]

end

theorem exchFail_of_none (he : s.time.exch = none) : s.exchFail = s := by simp only [State.exchFail, he]

theorem exchStart_of_idle {x n : Nat} {t1 : Option Nat} (hx : s.timingPort = x) (hr : s.timeRoot = false) (hn : x ≠ 0x1FF)
    (hp : s.portUp x 3 = true) (he : s.time.exch = none) (hs : (s.time.seq + 1) % 65536 = n)
    (ht : t = s.sendFrom 54 x (s.timeMsg .req (BitVec.ofNat 16 n) 0)) (hu : t.popStamp x n .req = (t1, u)) :
    s.exchStart = { u with time := { u.time with exch := some { port := x, seq := n, t1 := t1, t2 := none }, seq := n } } := by
  subst ht
  simp [State.exchStart, hx, hr, hn, hp, exchFail_of_none he, hs, hu]

theorem exchTimeout_of_exchange {e : Exch} (he : s.time.exch = some e)
    (ht : t = State.bumpHub { s with time := { s.time with exch := none, good := 0, bad := s.time.bad + 1 } } Reg.FT.EXCH_FAIL_CNT) :
    s.exchTimeout = if 4 ≤ t.time.bad then t.setSync false else t := by
  subst ht
  simp only [State.exchTimeout, State.exchFail, he]

/-! ### Setting and adjusting (R365, R373) -/

theorem timeSet_of_root (hr : s.timeRoot = true)
    (ht : t = s.setFt ((s.hub Reg.FT.SET_NS).toNat * 65536 + fld (s.hub Reg.FT.SET_FRAC) 15 0)) :
    s.timeSet = (State.bumpHub { t with time := { t.time with adj := 0, set := true } } Reg.FT.STEP_CNT).setSync true := by
  subst ht
  exact if_neg (by simp [hr])

theorem timeSet_of_leaf (hr : s.timeRoot = false) : s.timeSet = s.writeRejected (pgOfHub Reg.FT.TIME_CMD) := if_pos (by simp [hr])

theorem timeAdjust_of_slewed (ha : (sx 64 (s.hub Reg.FT.ADJ).toNat).natAbs ≤ 65536000) :
    s.timeAdjust = { s with time := { s.time with adj := sx 64 (s.hub Reg.FT.ADJ).toNat } } :=
  if_pos ha

/-! ### Stamps (R374) -/

theorem pageClass_pgPier : ∀ p : PierId, pageClass (pgPier p.val) = 0x0C := by decide

theorem assigned_pgPier : ∀ p : PierId, assigned (pgPier p.val) = true := by decide

theorem pgPier_lt : ∀ p : PierId, pgPier p.val < 4096 := by decide

/-- R524: a Pier's page names it by its index in the device. -/
theorem devIndex_pgPier : ∀ p : PierId, devIndex (pgPier p.val) = p.val := by decide

theorem unitIndex_pgPier (p : PierId) : unitIndex (pgPier p.val) = p.val := by
  have h := pgPier_lt p
  rw [unitIndex, if_neg (by omega), devIndex_pgPier]

set_option maxRecDepth 4000 in
/-- R12: found by evaluating the search of the register tables. -/
theorem find_stampInfo : regTable.find? (fun q => (q.cls = 0x200 || q.cls = 0x0C) && q.at Reg.Pier.STAMP_INFO.off) =
    some Reg.Pier.STAMP_INFO := rfl

theorem regWord_stampInfo (p : PierId) :
    regWord (pgPier p.val) Reg.Pier.STAMP_INFO.off = some (Reg.Pier.STAMP_INFO, 0, false) := by
  have hc := pageClass_pgPier p
  have found : regAt (pgPier p.val) Reg.Pier.STAMP_INFO.off = some Reg.Pier.STAMP_INFO := by
    rw [← find_stampInfo, regAt]
    simp only [RegSpec.onPage, hc]
  simp [regWord, hc, found]

theorem view_stampInfo (s : State) (p : PierId) : s.view (pgPier p.val) Reg.Pier.STAMP_INFO 0 = BitVec.ofNat 64 (s.stampInfo p.val) := by
  have shown : s.viewSpan (pgPier p.val) Reg.Pier.STAMP_INFO 0 = some (s.stampInfo (unitIndex (pgPier p.val))) := rfl
  rw [unitIndex_pgPier] at shown
  have there : ¬(Reg.Pier.STAMP_INFO.acc = .wo ∨ notThere (pgPier p.val) Reg.Pier.STAMP_INFO = true) := by
    simp [Reg.Pier.STAMP_INFO, notThere, pageClass_pgPier p]
  rw [State.view, if_neg there, if_neg (by decide), if_neg (by decide), if_neg (by decide), if_pos (by decide), shown]

theorem readClears_stampInfo (s : State) (p : PierId) : s.readClears (pgPier p.val) Reg.Pier.STAMP_INFO = s.stampDrop p.val := by
  rw [State.readClears, if_neg (by decide), if_neg (by decide), if_pos rfl, devIndex_pgPier]

/-- R374: a read of STAMP_INFO drops the stamp that it shows. -/
theorem rcRead_stampInfo (hl : s.latches = []) (hs : s.staged = []) (p : PierId) (hp : s.pageState (pgPier p.val) = 0) (m : Master) :
    s.rcRead m (pgPier p.val) Reg.Pier.STAMP_INFO = (s.stampDrop p.val).emit
      (.regRead m ((BitVec.ofNat 32 (fld (BitVec.ofNat 64 (s.stampInfo p.val)) 31 0)).setWidth 64)) := by
  have ho : Reg.Pier.STAMP_INFO.off < 4096 := by decide
  have hpg : (pgPier p.val * 4096 + Reg.Pier.STAMP_INFO.off) / 4096 = pgPier p.val := by omega
  have hoff : (pgPier p.val * 4096 + Reg.Pier.STAMP_INFO.off) % 4096 = Reg.Pier.STAMP_INFO.off := by omega
  have hflash : pgPier p.val ≠ pgHub 0x2E := fun h => absurd (pageClass_pgPier p) (by rw [h]; decide)
  have hw : Reg.Pier.STAMP_INFO.wide = false := rfl
  simp [State.rcRead, State.weftRead, pageBlocked_of_open (assigned_pgPier p) hp ho, hpg, hoff, hflash, hw,
    read4_of_narrow hl hs (regWord_stampInfo p) hw, view_stampInfo, readClears_stampInfo]

/-! ### Gate lists (R367-R369) -/

theorem gateLoad_of_up {r : TaskRef} {x : TaskSt} {b : GateBody} (hb : s.beginTask r 8 = some (x, u)) (hp : GateBody.parse x.body = some b)
    (hu : u.groupUp (b.pier / 3) = true) :
    s.gateLoad r = (u.startBatch (.gate r) ((spanLines b.list (popcount 8 b.classes * b.nent * 4)).map
      (fun a => (b.pier / 3, u.readReq (Fin.ofNat 256 b.comp) a)))).2 := by
  simp [State.gateLoad, hb, hp, hu]

section

variable {p c : Nat} {l : GateList}

/-- R369: the list pending takes effect from its base time on. -/
theorem gateActivate_of_due (hl : (s.gate p c).pend = some l) (hb : l.base ≤ s.ns) :
    s.gateActivate p c = (s.setGate p c
      { pend := none, oper := some l, idx := gateIndex ((s.ns - l.base) % l.cycle) 0 l.entries }).setGateOpen p c := by
  simp only [State.gateActivate, hl, if_neg (Nat.not_lt.mpr hb)]

theorem gateAdvance_of_oper (hl : (s.gate p c).oper = some l) :
    s.gateAdvance p c = (s.setGate p c { s.gate p c with
      idx := gateIndex (((s.ns : Int) - l.base) % (l.cycle : Int)).toNat 0 l.entries }).setGateOpen p c := by
  simp only [State.gateAdvance, hl]

end

/-! ### PPS (R541) -/

theorem ppsPulse_of_enabled (hn : s.ns % 1000000000 = 0) (ht : t = { s with pins := { s.pins with pps := s.hub Reg.Diag.PPS_CFG } })
    (hg : t.gpioEff = 1) (he : bit (s.hub Reg.Diag.PPS_CFG) 31 = true) (hs : bit (s.hub Reg.Diag.PPS_CFG) 30 = false) :
    s.ppsPulse = State.emit { t with pins := { t.pins with pulse := some (t.now + 1000 * fld (s.hub Reg.Diag.PPS_CFG) 15 0) } } .pps := by
  subst ht
  have second : ¬s.ns % 1000000000 ≠ 0 := not_not_intro hn
  rw [State.ppsPulse, if_neg second]
  exact if_pos ⟨hg, he, .inr (by simp [hs])⟩

end

/-- Settles O32: each command in the branch that its premises name. -/
theorem timeCommandsComplete : Obligations.TimeCommandsComplete := by
  unfold Obligations.TimeCommandsComplete
  refine ⟨?_, ?_, ?_, ?_, ?_, ?_, ?_, ?_, ?_, ?_, ?_, ?_, ?_⟩
  · intro s t u p x t3 hv ht hs
    obtain ⟨req, -, -⟩ := arrive_timeX_of_empty hv p.val x
    exact sealed_settle (req.trans (timeReq_of_stamped ht hs))
  · intro s p x e t1 hv he hp hq h1 hs
    obtain ⟨-, rsp, -⟩ := arrive_timeX_of_empty hv p.val x
    exact sealed_settle (rsp.trans (timeRsp_of_exchange he hp hq h1 hs))
  · intro s u p x e t1 t2 t4 th d hv he hp hq h1 h2 hu hx hl hh
    obtain ⟨-, -, fup⟩ := arrive_timeX_of_empty hv p.val x
    exact sealed_settle (fup.trans (timeFup_of_exchange he hp hq h1 h2 hu hx hl hh))
  · exact fun s t u x n t1 hx hr hn hp he hs ht hu => sealed_settle (exchStart_of_idle hx hr hn hp he hs ht hu)
  · exact fun s t e he ht => sealed_settle (exchTimeout_of_exchange he ht)
  · exact fun s t hr ht => sealed_settle (timeSet_of_root hr ht)
  · exact fun s hr => sealed_settle (timeSet_of_leaf hr)
  · exact fun s ha => sealed_settle (timeAdjust_of_slewed ha)
  · exact fun s m p hl hs hp => sealed_of_eq (rcRead_stampInfo hl hs p hp m)
  · exact fun s u t x b hb hp hu => sealed_settle (gateLoad_of_up hb hp hu)
  · exact fun s p c l hl hb => sealed_settle (gateActivate_of_due hl hb)
  · exact fun s p c l hl => sealed_settle (gateAdvance_of_oper hl)
  · exact fun s t hn ht hg he hs => sealed_of_eq (ppsPulse_of_enabled hn ht hg he hs)

end Sys2Proof.Proofs.TimeCommands

/-!
The Treadle: Drafts, dispatch, slots, ends, and the tasks that it runs itself (R339, R345-R349, R351-R353, R357-R360).
-/
namespace Sys2Proof.Proofs.TreadleCommands

open Sys2Proof Sys2Proof.Machine
open Sys2Proof.Proofs.LinkCommands (sealed_settle)
open Sys2Proof.Proofs.TrayCommands (sealed_of_eq)

section

variable {s t u : State}

/-! ### Drafts (R345-R348) -/

theorem dropPending_of_none (h : s.trd.pend = none) (n : Nat) : s.dropPending n = s := by simp only [State.dropPending, h]

theorem dropPending_of_some {p : PendDraft} (h : s.trd.pend = some p) (n : Nat) :
    s.dropPending n = (({ s with trd := { s.trd with pend := none } } : State).nextResult n).bumpHub Reg.Trd.DRAFT_REJECT_CNT := by
  simp only [State.dropPending, h]

theorem stopDraft_of_none (h : s.trd.active = none) : s.stopDraft = s := by simp only [State.stopDraft, h]

/-- R345: a Draft submitted while none is pending has its header read. -/
theorem draftSubmit_of_on {v : DWord} {a b : Nat} (ht : t = s.setHub Reg.Trd.NEXT_TIME v) (ho : t.trdOff = false) (hp : t.trd.pend = none)
    (ha : (t.hub Reg.Trd.NEXT_ADDR).toNat = a) (hu : t.startBatch .draftHead [(hubIn, t.readReq (t.compAt a) a)] = (b, u)) :
    s.draftSubmit v = { u with trd := { u.trd with
      pend := some { addr := a, time := v.toNat, head := b, rest := none, ready := none } } } := by
  subst ht
  simp only [State.draftSubmit, ho, dropPending_of_none hp, ha, hu, Bool.false_eq_true, if_false]

theorem draftSubmit_of_off {v : DWord} (ho : (s.setHub Reg.Trd.NEXT_TIME v).trdOff = true) :
    s.draftSubmit v = ((s.setHub Reg.Trd.NEXT_TIME v).nextResult 9).bumpHub Reg.Trd.DRAFT_REJECT_CNT :=
  if_pos ho

section

variable {p : PendDraft} (hp : s.trd.pend = some p)

include hp

/-- R346: a Draft of no activation time, read without error, is ready once it passes its checks. -/
theorem draftLoaded_of_checked {hs cs : List Cmp} {b : Nat} (hr : p.ready = none) (hz : p.time = 0) (hh : s.batchAll p.head = some hs)
    (hg : firstBad hs = .ok) (hb : p.rest = some b) (hc : s.batchAll b = some cs) (hk : firstBad cs = .ok)
    (ht : t = (s.endBatch p.head).endBatch b) (hd : t.draftCheck p.addr (cmpBytes (hs ++ cs)) = 0) :
    s.draftLoaded = { t with trd := { t.trd with
      uid := t.trd.uid + 1, pend := some { p with ready := some (draftOf t.trd.uid (cmpBytes (hs ++ cs))) } } } := by
  subst ht
  simp [State.draftLoaded, hp, hr, hz, hh, hg, hb, hc, hk, hd]

theorem draftLoaded_of_late (hr : p.ready = none) (hz : p.time ≠ 0) (hl : p.time < s.ns) :
    s.draftLoaded = (({ s with trd := { s.trd with pend := none } } : State).nextResult 6).bumpHub Reg.Trd.DRAFT_REJECT_CNT := by
  have loading : ¬p.ready.isSome = true := by simp [hr]
  simp only [State.draftLoaded, hp, if_neg loading]
  exact (if_pos ⟨hz, hl⟩).trans (dropPending_of_some hp 6)

/-- R347: a ready Draft takes over at its time where none is active. -/
theorem takeover_of_due {d e : DraftSt} (hr : p.ready = some d) (hn : p.time ≤ s.ns) (ha : s.trd.active = none)
    (he : e = { d with act := s.ns, lastEnd := s.ns })
    (ht : t = ((State.nextResult { s with trd := { s.trd with pend := none, active := some e } } 0).bumpHub Reg.Trd.TAKEOVER_CNT).setHub
      Reg.Trd.ACT_ID (BitVec.ofNat 64 e.id)) :
    s.takeover = t.setHub Reg.Trd.ACT_TIME (BitVec.ofNat 64 e.act) := by
  subst he ht
  simp only [State.takeover, hp, hr, if_pos (Or.inr hn : p.time = 0 ∨ p.time ≤ s.ns), stopDraft_of_none ha]

end

/-- R348: an active Draft without tasks abandons none. -/
theorem stopDraft_of_empty {d : DraftSt} (ha : s.trd.active = some d) (hd : d.tasks = []) :
    s.stopDraft = State.endDraft (State.addN { s with trd := { s.trd with active := none, old := s.trd.old ++ [{ d with stopped := true }] } }
      (pgHub 0x1B) Reg.Trd.TASK_ABANDON_CNT 0) d.uid := by
  simp only [State.stopDraft, ha, hd]
  rfl

/-! ### Dispatch, slots and ends (R349, R351) -/

/-- A NOP is of no Heddle's tasks, and its body names no composition. -/
theorem dispatch_of_nop {m : State} {d : DraftSt} {i : Nat} {x y : TaskSt} (ho : s.openSlots.skipAll = t) (ha : t.trd.active = some d)
    (hl : t.inFlight < 512) (hf : d.firstReady t.ns = some i) (hx : d.tasks[i]? = some x) (hm : t.markMiss d x = (y, m)) (hk : y.kind = 0)
    (hb : y.bodyComp = none)
    (hu : u = ((m.setTask ⟨d.uid, i⟩ { y with dispatched := true, fate := 1 }).bumpHub Reg.Trd.DISPATCH_CNT).traceTask d i y 0)
    (hc : u.live y.comp = true) : s.dispatch State.hedBind = u := by
  have room : ¬512 ≤ t.inFlight := by omega
  have legal : ¬(10 < y.kind ∨ (!u.live y.comp) = true ∨ y.bodyComp.getD y.comp ≠ y.comp) := by simp [hk, hc, hb]
  have unbound (r : TaskRef) : u.hedBind r y = (none, u) := if_pos (.inl (by omega))
  simp only [State.dispatch, ho, ha, if_neg room, hf, hx, hm, ← hu, if_neg legal, unbound]

theorem slotStart_of_begun {r : TaskRef} {d : DraftSt} {x : TaskSt} (hd : s.draft r.draft = some d) (hx : s.task r = some x)
    (hs : x.tflags.testBit 0 = true) (hb : d.slotBegun x s.ns = true) :
    s.slotStart r = (s.setTask r { x with slotOpen := true }).skipAll := by
  simp only [State.slotStart, hd, hx, if_pos (And.intro hs hb)]

theorem endOfTask_of_notStream {r : TaskRef} {x : TaskSt} (hx : s.task r = some x) (hk : x.kind ≠ 7) : s.endOfTask r = s.taskEnd r := by
  simp [State.endOfTask, hx, hk]

/-! ### The tasks that the Treadle runs itself (R351-R353) -/

section

variable {r : TaskRef} {x : TaskSt}

theorem nopTask_of_begun (hb : s.beginTask r 0 = some (x, u)) : s.nopTask r = u.report r .ok := by simp only [State.nopTask, hb]

theorem moveTask_of_plain {b : MoveBody} (hb : s.beginTask r 1 = some (x, u)) (hp : MoveBody.parse x.body = some b) (hd : b.decode = false) :
    s.moveTask r = (u.startBatch (.moveRead r) ((List.range (b.len / 64)).map (fun i => u.homeRead b.comp (b.src + 64 * i)))).2 := by
  simp [State.moveTask, hb, hp, hd]

/-- R353: the stream of a task whose layer table is still to be read. -/
def newStream (s : State) (r : TaskRef) (b : StreamBody) : StreamSt :=
  { t := r, comp := b.comp, stored := b.stored, group := b.group, key := b.key, flag := b.flag, layers := [], next := 0
    slots := List.replicate (s.winSlots b.comp) none, jobs := [], retried := false, replays := 0, charges := [], sending := none
    words := [], tabs := [], sends := none, stop := .ok, sent := 0, failed := none, stall := none, full := none, st := .ok }

theorem streamTask_of_window {b : StreamBody} (hb : s.beginTask r 7 = some (x, u)) (hp : StreamBody.parse x.body = some b)
    (hw : u.winOn b.comp = true) (hn : u.streams = []) :
    s.streamTask r = (State.startBatch { u with streams := [newStream u r b] } (.streamTable r)
      ((spanLines b.table (32 * b.n)).map (fun a => (hubIn, u.readReq (Fin.ofNat 256 b.comp) a)))).2 := by
  have free : ¬((!u.winOn b.comp) = true ∨ ([] : List StreamSt).any (fun y => y.comp = b.comp) = true) := by simp [hw]
  simp only [State.streamTask, hb, hp, hn, List.nil_append]
  exact if_neg free

/-! ### Waits (R357-R359) -/

theorem waitOnFlag_of_legal {w : WaitSt} (hb : s.beginTask r 9 = some (x, u)) (hk : waitOk x.body = true)
    (hw : w = { t := r, addr := bitsAt x.body 8 8 48, read := none, watch := none, tried := false }) :
    s.waitOnFlag r = State.waitRead { u with trd := { u.trd with waits := u.trd.waits ++ [w] } } w x := by
  subst hw
  simp [State.waitOnFlag, hb, hk]

section

variable {w : WaitSt} (hw : s.trd.waits.find? (fun w => w.t = r) = some w) (hx : s.task r = some x)

include hw hx

/-- R358: the word read satisfies the wait, whose status it does not carry. -/
theorem waitReadDone_of_satisfied {b : Nat} {cs : List Cmp} (hr : w.read = some b) (hb : s.batchAll b = some cs) (hg : firstBad cs = .ok)
    (hu : u = (s.endBatch b).setWait { w with read := none })
    (hs : waitSatisfied x.body (num (cmpBytes cs) (w.addr % 64) 8) = true) (hf : (bytesAt x.body 0 1).testBit 2 = false) :
    s.waitReadDone r = u.endWait r .ok := by
  subst hu
  simp [State.waitReadDone, hw, hx, hr, hb, hg, hs, hf]

theorem waitPoll_of_idle (hr : w.read = none) : s.waitPoll r = s.waitRead w x := by simp [State.waitPoll, hw, hx, hr]

end

/-! ### Signals (R360) -/

/-- R360: the request of a signal body: a Capstone store, an atomic add, or a store to a multicast group. -/
def signalReq (s : State) (b : Line) : Req :=
  let dst := bitsAt b 8 8 60
  let key : Word := BitVec.ofNat 32 (bytesAt b 4 4)
  let v : DWord := BitVec.ofNat 64 (bytesAt b 0x10 8)
  let a := dst % 2 ^ 48
  match bytesAt b 0 1 with
  | 0 => s.capReq dst key v
  | 1 => { s.unitReq .atom (BitVec.ofNat 12 (dst / 2 ^ 48)) (a / 64 * 64) key none with
      opnd := BitVec.ofNat 32 (7 * 4096 + 1 * 64 + a % 64), data := BitVec.ofNat 512 v.toNat }
  | _ => s.unitMc (dst / 2 ^ 48) (a / 64 * 64) (flagMask a) (flagData a v) (some key)

theorem signalTask_of_legal (hb : s.beginTask r 10 = some (x, u)) (hk : signalOk x.body = true) :
    s.signalTask r = (u.startBatch (.signal r) [(hubIn, signalReq u x.body)]).2 := by
  have legal : ¬(!signalOk x.body) = true := by simp [hk]
  simp only [State.signalTask, hb]
  exact if_neg legal

end

end

/-- Settles O34: each command in the branch that its premises name. -/
theorem treadleCommandsComplete : Obligations.TreadleCommandsComplete := by
  unfold Obligations.TreadleCommandsComplete
  refine ⟨?_, ?_, ?_, ?_, ?_, ?_, ?_, ?_, ?_, ?_, ?_, ?_, ?_, ?_, ?_, ?_, ?_, ?_⟩
  · exact fun s t u v a b ht ho hp ha hu => sealed_settle (draftSubmit_of_on ht ho hp ha hu)
  · exact fun s v ho => sealed_settle (draftSubmit_of_off ho)
  · exact fun s t p hs cs b hp hr hz hh hg hb hc hk ht hd => sealed_settle (draftLoaded_of_checked hp hr hz hh hg hb hc hk ht hd)
  · exact fun s p hp hr hz hl => sealed_settle (draftLoaded_of_late hp hr hz hl)
  · exact fun s t p d e hp hr hn ha he ht => sealed_settle (takeover_of_due hp hr hn ha he ht)
  · exact fun s p hp => sealed_of_eq (dropPending_of_some hp 8)
  · exact fun s d ha hd => sealed_settle (stopDraft_of_empty ha hd)
  · exact fun s t m u d i x y ho ha hl hf hx hm hk hb hu hc => sealed_settle (dispatch_of_nop ho ha hl hf hx hm hk hb hu hc)
  · exact fun s r d x hd hx hs hb => sealed_settle (slotStart_of_begun hd hx hs hb)
  · exact fun s r x hx hk => sealed_settle (endOfTask_of_notStream hx hk)
  · exact fun s u r x hb => sealed_settle (nopTask_of_begun hb)
  · exact fun s u r x b hb hp hd => sealed_settle (moveTask_of_plain hb hp hd)
  · rintro s u r x b _ hb hp hw hn rfl
    exact ⟨newStream u r b, rfl, rfl, rfl, rfl, sealed_settle (streamTask_of_window hb hp hw hn)⟩
  · exact fun s u r x w hb hk hw => sealed_settle (waitOnFlag_of_legal hb hk hw)
  · exact fun s u r x w b cs hw hx hr hb hg hu hs hf => sealed_settle (waitReadDone_of_satisfied hw hx hr hb hg hu hs hf)
  · exact fun s r x w hw hx hr => sealed_settle (waitPoll_of_idle hw hx hr)
  · exact fun s r hw => sealed_settle (if_pos hw)
  · rintro s u r x _ _ _ _ hb hk rfl rfl rfl rfl
    exact sealed_settle (signalTask_of_legal hb hk)

end Sys2Proof.Proofs.TreadleCommands

/-!
The commands of compositions, of the maps and of range checks, of revocations and of meters (R376-R392).
-/
namespace Sys2Proof.Proofs.CompositionCommands

open Sys2Proof Sys2Proof.Machine Sys2Proof.Laws.State Sys2Proof.Laws.Calm
open Sys2Proof.Proofs.LinkCommands (sealed_settle)
open Sys2Proof.Proofs.TrayCommands (sealed_of_eq)

section

variable {s t : State} {i : Nat}

/-! ### Compositions (R376, R377, R379) -/

/-- The table of compositions and the memory are the same in both states. -/
structure SameStores (s t : State) : Prop where
  comps : t.comps = s.comps
  mem : t.mem = s.mem

namespace SameStores

theorem trans {a b c : State} (h : SameStores a b) (k : SameStores b c) : SameStores a c := ⟨k.comps.trans h.comps, k.mem.trans h.mem⟩

theorem foldl {α : Type} {f : State → α → State} (h : ∀ s a, SameStores s (f s a)) : ∀ (xs : List α) (s : State), SameStores s (xs.foldl f s)
  | [], _ => ⟨rfl, rfl⟩
  | x :: xs, s => (h s x).trans (foldl h xs (f s x))

theorem setReg (s : State) (pg : Nat) (r : RegSpec) (i b : Nat) (v : DWord) : SameStores s (s.setReg pg r i b v) := ⟨rfl, rfl⟩

theorem resetBank (s : State) (pg c : Nat) (r : RegSpec) : SameStores s (s.resetBank pg r c) := foldl (fun s i => setReg s pg r i c _) _ s

theorem resetBanks (s : State) (pg c : Nat) (rs : List RegSpec) : SameStores s (rs.foldl (fun s r => s.resetBank pg r c) s) :=
  foldl (fun s r => resetBank s pg c r) rs s

/-- R376: a nonce is drawn for a composition. -/
theorem nonceDrawn (s : State) (c : Nat) : SameStores s (s.nonce.2.setReg pgKS Reg.KS.COMP_NONCE 0 c s.nonce.1) := ⟨rfl, rfl⟩

/-- R45: the keys of live compositions lie in the XTS engines. -/
theorem keysGiven (s : State) (ns : List Nat) :
    SameStores s (ns.foldl (fun s n => if s.bayUp n ∧ s.bayRuns n then s.giveKeys n else s) s) := by
  refine foldl (fun s n => ?_) ns s
  split <;> exact ⟨rfl, rfl⟩

theorem debugClose (s : State) : SameStores s s.debugClose := by
  unfold State.debugClose
  split <;> exact ⟨rfl, rfl⟩

theorem resumeHalted (s : State) : SameStores s s.resumeHalted := ⟨rfl, rfl⟩

end SameStores

/-- R376: an ID that is free, where a key could be generated. -/
theorem compCreate_of_free (hf : SMap.get (fun _ => 0) s.comps s.compSel = 0) (hk : s.keygen = (true, t)) :
    ∃ u : State, s.compCreate = u.compResult 0 ∧ u.comps = SMap.set (fun _ => 0) t.comps s.compSel 1 ∧ u.mem = t.mem := by
  have free : ¬SMap.get (fun _ => 0) s.comps s.compSel ≠ 0 := fun h => h hf
  have banks := SameStores.resetBanks t pgComp s.compSel (meterRegs ++ [Reg.Comp.COMP_CFG, Reg.Comp.SNAP_ADDR, Reg.Comp.SNAP_CFG] ++ grantRegs)
  have nonced := banks.trans (SameStores.nonceDrawn _ s.compSel)
  have closed := fun u : State => (SameStores.keysGiven u (List.range 24)).trans (SameStores.debugClose _)
  unfold State.compCreate
  rw [if_neg free, hk]
  refine ⟨_, rfl, (closed _).comps.trans ?_, (closed _).mem.trans ?_⟩
  · exact congrArg (SMap.set (fun _ => 0) · s.compSel 1) nonced.comps
  · dsimp only
    exact nonced.mem

theorem compCreate_of_taken (h : SMap.get (fun _ => 0) s.comps s.compSel ≠ 0) : s.compCreate = s.compResult 1 := by
  unfold State.compCreate
  rw [if_pos h]

/-- R377: a composition that nothing names. -/
theorem compRelease_of_unnamed (h : s.releaseCheck s.compSel = 0) :
    ∃ t : State, s.compRelease = t.compResult 0 ∧ t.comps = SMap.set (fun _ => 0) s.comps s.compSel 0 ∧ t.mem = s.mem := by
  have unnamed : ¬s.releaseCheck s.compSel ≠ 0 := fun hn => hn h
  have grants := SameStores.resetBanks s pgComp s.compSel (grantRegs ++ [Reg.Comp.COMP_CFG, Reg.Comp.SNAP_ADDR, Reg.Comp.SNAP_CFG])
  have modes := (grants.trans (SameStores.resetBank _ pgSpCtl s.compSel Reg.SpCtl.COH_MODE)).trans
    (SameStores.resetBank _ pgHReg s.compSel Reg.HReg.MIG_POLICY)
  have window := modes.trans (SameStores.resetBanks _ (pgOfHub Reg.Stream.WIN_CFG) s.compSel
    [Reg.Stream.WIN_BASE, Reg.Stream.WIN_CFG, Reg.Stream.WIN_SLOT_SIZE, Reg.Stream.STREAM_BUDGET])
  have cleared := window.trans (SameStores.setReg _ pgKS Reg.KS.COMP_NONCE 0 s.compSel 0)
  unfold State.compRelease
  rw [if_neg unnamed]
  refine ⟨_, rfl, (SameStores.resumeHalted _).comps.trans ?_, (SameStores.resumeHalted _).mem.trans ?_⟩
  · exact congrArg (SMap.set (fun _ => 0) · s.compSel 0) cleared.comps
  · dsimp only
    exact cleared.mem

/-- R379: a grant with no reserved encoding, of a live composition, that keeps its resource exclusive. -/
theorem grantWrite_of_ok {g : GrantReg} {v : DWord} (hl : s.live s.compSel = true)
    (hw : (g.spec.1.written (s.reg? (pgHub 0x11) g.spec.1 g.spec.2 s.compSel) v).2 = false)
    (hg : s.grantOk s.compSel g (g.spec.1.written (s.reg? (pgHub 0x11) g.spec.1 g.spec.2 s.compSel) v).1 = true) :
    s.grantWrite g v = s.setReg (pgHub 0x11) g.spec.1 g.spec.2 s.compSel
      (g.spec.1.written (s.reg? (pgHub 0x11) g.spec.1 g.spec.2 s.compSel) v).1 :=
  if_pos ⟨hl, ne_true_of_eq_false hw, hg⟩

/-! ### Switches and copies of the map (R384, R386) -/

theorem mapSwitch_of_idle (hp : s.reg.phase = .idle) (hc : s.switchCheck = 0) :
    s.mapSwitch = State.syncMap { s with reg := { s.reg with phase := .checking } } 0 := by
  simp [State.mapSwitch, hp, hc]

/-- R387: a switch from a map with no entry ends no handoff. -/
theorem mapFlip_of_checked (hp : s.reg.phase = .checking) (hc : s.switchCheck = 0) (hr : s.reg.cur.rt = []) : s.mapFlip =
    (State.bumpHub { s with reg := { s.reg with
      cur := mergeMaps s.reg.cur s.reg.nxt, old := s.reg.cur, epoch := (s.reg.epoch + 1) % 256, draining := true, phase := .draining } }
        Reg.Comp.MAP_SWITCH_CNT).syncMap 0 := by
  have checking : ¬s.reg.phase ≠ .checking := fun h => h hp
  have passes : ¬s.switchCheck ≠ 0 := fun h => h hc
  have quiet (u : State) (m : MapBank) : u.cancelChanged s.reg.cur m = u := by rw [State.cancelChanged, hr, List.foldl_nil]
  unfold State.mapFlip
  rw [if_neg checking, if_neg passes]
  exact quiet _ _

theorem drainEnd_of_unrevoked (hp : s.reg.phase = .draining) (hr : s.reg.revs = []) : s.drainEnd = State.syncMap { s with reg := { s.reg with
    old := .empty, draining := false, phase := .rebuilding, nxt := s.reg.cur, revs := [] } } 0 := by
  simp [State.drainEnd, hp, hr]

theorem mapCopy_of_idle (hp : s.reg.phase = .idle) :
    s.mapCopy = State.syncMap { s with reg := { s.reg with phase := .copying, nxt := s.reg.cur } } 0 := by
  simp [State.mapCopy, hp]

/-- R384: where no command waits for the next map, none is performed when it opens. -/
theorem runWaiting_of_none (ht : s.reg.rtCmd = none) (hc : s.reg.rctCmd = none) : s.runWaiting = s := by
  simp [State.runWaiting, ht, hc]

theorem mapCopyDone_of_copying (hp : s.reg.phase = .copying) (ht : s.reg.rtCmd = none) (hc : s.reg.rctCmd = none) :
    s.mapCopyDone = State.syncMap { s with reg := { s.reg with phase := .idle } } 0 :=
  (if_pos (.inl hp)).trans (runWaiting_of_none ht hc)

/-! ### Membership and range checks (R391, R392) -/

theorem membWrite_of_lt (hi : i < 4096) : s.membWrite i = { s with reg := { s.reg with
    members := SMap.set (fun _ => 0) s.reg.members i (fld (s.hub Reg.Comp.MEMB_DATA) 8 0) } } := if_neg (Nat.not_le.2 hi)

theorem membRead_of_lt (hi : i < 4096) :
    s.membRead i = s.setHub Reg.Comp.MEMB_DATA (BitVec.ofNat 64 (SMap.get (fun _ => 0) s.reg.members i)) := if_neg (Nat.not_le.2 hi)

/-- R392: with no command in progress one begins at once; on the next map, while that may be written. -/
theorem rctCommand_begins {next : Bool} (h : s.reg.rctCmd = none) (hi : i < 4096) (hn : next = true → s.reg.phase = .idle) (op : Nat) :
    s.rctCommand i next op = s.rctNow i next op := by
  have opened : ¬(next = true ∧ ¬s.nextOpen = true) := fun ⟨hb, ho⟩ => ho (decide_eq_true (hn hb))
  rw [State.rctCommand, h, if_neg (by simp), if_neg (Nat.not_le.2 hi), if_neg opened]

theorem rctPut_next (s : State) (i : Nat) (e : RctEntry) :
    s.rctPut i true e = State.rctDone { s with reg := { s.reg with nxt := s.reg.nxt.setRange i e } } 0 := rfl

theorem rctNow_write {next : Bool} (h : s.rctStaged.base.toNat ≤ s.rctStaged.limit.toNat) : s.rctNow i next 1 = s.rctPut i next s.rctStaged :=
  if_neg (Nat.not_lt.2 h)

/-- R392: a read fills RCT_DATA with the words of the entry. -/
theorem rctNow_read (s : State) (i : Nat) : s.rctNow i false 2 =
    State.rctDone ((List.range 4).foldl (fun t k => t.setReg (pgOfHub Reg.Comp.RCT_DATA) Reg.Comp.RCT_DATA k 0
      (BitVec.ofNat 64 ((s.reg.cur.range i).words.getD k 0))) s) 0 := rfl

theorem rctNow_disable (s : State) (i : Nat) : s.rctNow i true 3 = s.rctPut i true { s.reg.nxt.range i with en := false } := rfl

/-- R392, R393: a command whose requests have all gone ends. -/
theorem rctComplete_of_gone {c : MapCmd} (h : s.reg.rctCmd = some c) (hw : c.waiting = false)
    (hh : s.inHomes.any (fun e => c.marked.contains e.2) = false) (hd : s.inDeck.any (fun r => c.marked.contains (r.origin, r.tag)) = false) :
    s.rctComplete = s.rctDone 0 := by
  unfold State.rctComplete
  rw [h]
  simp only [hw, hh, hd, Bool.false_eq_true, or_false, if_false]

/-! ### Revocations (R389, R390) -/

theorem revoke_of_free {lo hi : Nat} (hl : lo = fld (s.hub Reg.Comp.REV_DATA0) 26 0) (hh : hi = fld (s.hub Reg.Comp.REV_DATA1) 26 0) (h : lo ≤ hi)
    (hf : (s.rev i).inForce = false) : s.revoke i =
      ((s.setRev i { all := bit (s.hub Reg.Comp.REV_DATA0) 31, base := lo, limit := hi, inForce := true, epoch := s.reg.epoch
                     marked := (s.rev i).marked ++ s.tracked }).setHub Reg.Comp.REV_PEND (setBit (s.hub Reg.Comp.REV_PEND) i true)).revResult 0 := by
  subst hl hh
  unfold State.revoke
  rw [if_neg (Nat.not_lt.2 h), if_neg (ne_true_of_eq_false hf)]
  rfl

theorem revDone_of_released (hp : bit (s.hub Reg.Comp.REV_PEND) i = true) (hm : (s.rev i).marked = []) : s.revDone i =
    (((s.setRev i { s.rev i with marked := [] }).setHub Reg.Comp.REV_PEND (setBit (s.hub Reg.Comp.REV_PEND) i false)).bumpHub
      Reg.Comp.REVOKE_CNT).notify 1 0 [i] := by
  have released : ¬(s.rev i).marked.any (fun m => s.tracked.contains m) = true := by simp [hm]
  exact if_pos ⟨hp, released⟩

/-! ### Snapshots (R383) -/

theorem snapshot_of_noAddr {c : CompId} (ha : (s.rgb (pgHub 0x11) Reg.Comp.SNAP_ADDR c.val).toNat = 0) : s.snapshot c = s := if_pos (.inr ha)

/-- R383: the record is that of the state before it is counted. -/
theorem snapshot_of_addr {c : CompId} {a : Nat} (hl : s.live c.val = true) (ha : a = (s.rgb (pgHub 0x11) Reg.Comp.SNAP_ADDR c.val).toNat)
    (h0 : a ≠ 0)
    (ht : t = State.count { s with snapSeq := SMap.set (fun _ => 0) s.snapSeq c.val ((SMap.get (fun _ => 0) s.snapSeq c.val + 1) % 2 ^ 32) }
      (pgHub 0x11) Reg.Comp.SNAP_CNT 0 c.val 1) :
    s.snapshot c = [0, 1, 2].foldl (fun s' i => s'.submit 52 (.snapLine c.val)
      { s'.unitReq .wr s'.node (a + 64 * i) 0 (some c) with
        data := lineOfBytes (((s.snapRecord c.val (SMap.get (fun _ => 0) s.snapSeq c.val)).drop (64 * i)).take 64) }) t := by
  subst ha ht
  have writes : ¬(¬s.live c.val = true ∨ (s.rgb (pgHub 0x11) Reg.Comp.SNAP_ADDR c.val).toNat = 0) := by simp [hl, h0]
  exact if_neg writes

end

/-- Settles O23: each command in the branch that its premises name. -/
theorem compositionCommandsComplete : Obligations.CompositionCommandsComplete := by
  unfold Obligations.CompositionCommandsComplete
  refine ⟨?_, ?_, ?_, ?_, ?_, ?_, ?_, ?_, ?_, ?_, ?_, ?_, ?_, ?_, ?_, ?_, ?_, ?_, ?_, ?_, ?_, ?_⟩
  · intro s t hf hk
    obtain ⟨u, created, hc, hm⟩ := compCreate_of_free hf hk
    exact ⟨u, sealed_settle created, hc, hm⟩
  · exact fun s ht => sealed_settle (compCreate_of_taken ht)
  · exact fun s g v hl hw hg => sealed_of_eq (grantWrite_of_ok hl hw hg)
  · exact fun s hp hc => sealed_of_eq (mapSwitch_of_idle hp hc)
  · exact fun s hp hc hr => sealed_settle (mapFlip_of_checked hp hc hr)
  · exact fun s hp hr => sealed_of_eq (drainEnd_of_unrevoked hp hr)
  · exact fun s hp => sealed_of_eq (mapCopy_of_idle hp)
  · exact fun s hp ht hc => sealed_settle (mapCopyDone_of_copying hp ht hc)
  · exact fun s i hi => sealed_of_eq (membWrite_of_lt hi)
  · exact fun s i hi => sealed_of_eq (membRead_of_lt hi)
  · exact fun s i h hi hp hb => sealed_of_eq ((rctCommand_begins h hi (fun _ => hp) 1).trans ((rctNow_write hb).trans (rctPut_next s _ _)))
  · exact fun s i h hi hp => sealed_of_eq ((rctCommand_begins h hi (fun _ => hp) 3).trans ((rctNow_disable s _).trans (rctPut_next s _ _)))
  · exact fun s i h hi => sealed_of_eq ((rctCommand_begins h hi Bool.noConfusion 2).trans (rctNow_read s _))
  · exact fun s c h hw hh hd => sealed_of_eq (rctComplete_of_gone h hw hh hd)
  · exact fun s i lo hi hl hh h hf => sealed_of_eq (revoke_of_free hl hh h hf)
  · exact fun s i => rfl
  · exact fun s i => rfl
  · exact fun s i hp hm => sealed_of_eq (revDone_of_released hp hm)
  · exact fun s => rfl
  · exact fun s c hs ha => (sealed_settle (snapshot_of_noAddr ha)).trans (congrArg Host.Outcome.next (seal_settle_of_calm s s hs))
  · exact fun s t c a hl ha h0 ht => sealed_settle (snapshot_of_addr hl ha h0 ht)
  · intro s h
    obtain ⟨t, released, hc, hm⟩ := compRelease_of_unnamed h
    exact ⟨t, sealed_settle released, hc, hm⟩

end Sys2Proof.Proofs.CompositionCommands

/-!
What every command and every step answers (spec/95_what_each_step_holds.md, R429).
-/
namespace Sys2Proof.Proofs.StepsGoOn

open Sys2Proof Sys2Proof.Machine
open Sys2Proof.Proofs.StepInvariant (exec_seals)

/-- Settles O1: the step takes the command off the queue and runs it. -/
theorem frontCommandRuns : Obligations.FrontCommandRuns := fun _ _ => rfl

/-- Settles O3: every command answers a seal, which puts back the queue, the time and the Node ID and keeps TIME_FLOOR at Fabric Time or
above it (log entries 5 and 6: the model's choice). -/
theorem everyCommandAnswersNext : Obligations.EveryCommandAnswersNext := by
  intro c s
  obtain ⟨t, ht⟩ := exec_seals c s
  exact ⟨s.seal t, ht, rfl, rfl, rfl, Nat.le_max_right _ _⟩

/-- A step goes on: it runs a command, or lets one ns pass. -/
theorem step_goesOn (s : State) : s.goesOn := by
  have runs (c : Instr) (u : State) : ∃ t, exec c u = .next t := ⟨_, (exec_seals c u).choose_spec⟩
  unfold State.goesOn step
  split
  next c q _ => exact runs c _
  next =>
    split
    next c q _ => exact runs c _
    next => exact ⟨_, rfl⟩

/-- Settles O4, by induction on the number of steps, each of which goes on. -/
theorem runsNeverStop : Obligations.RunsNeverStop := by
  intro s k
  induction k generalizing s with
  | zero => rfl
  | succ k ih =>
    obtain ⟨t, ht⟩ := step_goesOn s
    simp only [State.safeRun, State.after, ht]
    exact ih t

end Sys2Proof.Proofs.StepsGoOn

/-!
The fields of BLK_ID of a page that the directory assigns (R517, R520, R524).
-/
namespace Sys2Proof.Proofs.PageIds

open Sys2Proof Sys2Proof.Machine

/-- R524, R525: the dies and the classes that have pages. -/
theorem class_of_instances {d c i : Nat} (h : i < instancesOf d c) : d < 4 ∧ c ≤ 0x1D ∨ d = 4 := by
  unfold instancesOf at h
  split_ifs at h <;> omega

/-- R480: the index of a bridge of a Span is at most 9. -/
theorem devIndex_lt_of_parts {pg d c i : Nat} (hd : pg / 1024 = d) (hc : pg / 16 % 64 = c) (hi : pg % 16 = i)
    (h : d < 4 ∧ c ≤ 0x1D ∨ d = 4) : devIndex pg < 256 := by
  have hi16 : i < 16 := hi ▸ Nat.mod_lt _ (by norm_num)
  simp only [devIndex, hd, hc, hi]
  rcases h with ⟨hd4, hc29⟩ | rfl
  · rw [if_neg (by omega)]
    by_cases h2 : c = 2
    · rw [if_neg (by omega), if_pos h2]
      split_ifs
      · omega
      · split <;> norm_num
    · rw [if_neg h2]
      split_ifs <;> omega
  · rw [if_pos rfl]
    split_ifs <;> omega

/-- R524, R525: DEV_INDEX of an assigned page fits its field. -/
theorem devIndex_lt {pg : Nat} (h : assigned pg = true) : devIndex pg < 256 :=
  devIndex_lt_of_parts rfl rfl rfl (class_of_instances (of_decide_eq_true h))

/-- R14, R520: BLK_ID shows the page's number of its own, whatever the state. -/
theorem view_blkId (s : State) (pg : Nat) : s.view pg Reg.Hdr.BLK_ID 0 = BitVec.ofNat 64 (blkId pg) := by
  have there : notThere pg Reg.Hdr.BLK_ID = false := by simp [notThere, Reg.Hdr.BLK_ID]
  have readable : ¬(Reg.Hdr.BLK_ID.acc = .wo ∨ notThere pg Reg.Hdr.BLK_ID = true) := by rw [there]; decide
  rw [State.view, if_neg readable]
  rfl

/-- A field of a number that fits the word. -/
theorem fld_ofNat_64 {n : Nat} (h : n < 2 ^ 64) (hi lo : Nat) : fld (BitVec.ofNat 64 n) hi lo = n / 2 ^ lo % 2 ^ (hi + 1 - lo) := by
  rw [fld, BitVec.toNat_ofNat, Nat.mod_eq_of_lt h, Nat.shiftRight_eq_div_pow]

/-- R520: the bits of BLK_ID that spell its page. -/
theorem pageBits {pg d : Nat} (hp : pg < 8192) (hd : d < 4096) : (pg * 4096 + d) &&& 0x01FFF000 = pg * 4096 := by
  have mask : 0x01FFF000 = 2 ^ 12 * (2 ^ 13 - 1) + 0 := by norm_num
  have word : pg * 4096 + d = 2 ^ 12 * pg + d := by ring
  have base : pg * 4096 = 2 ^ 12 * pg + 0 := by ring
  rw [word, base, mask]
  apply Nat.eq_of_testBit_eq
  intro i
  rw [Nat.testBit_and, Nat.testBit_two_pow_mul_add _ hd, Nat.testBit_two_pow_mul_add _ (by norm_num),
    Nat.testBit_two_pow_mul_add _ (by norm_num), Nat.testBit_two_pow_sub_one]
  by_cases hi : i < 12
  · simp [hi]
  · by_cases hj : i - 12 < 13
    · simp [hi, hj]
    · have high : pg.testBit (i - 12) = false :=
        Nat.testBit_lt_two_pow (lt_of_lt_of_le hp (Nat.pow_le_pow_right (n := 2) (by norm_num) (by omega : 13 ≤ i - 12)))
      simp [hi, hj, high]

/-- Settles O43: BLK_ID is the page's number times 4096, and DEV_INDEX, which fits below it. -/
theorem blkIdFields : Obligations.BlkIdFields := by
  intro s pg hp ha
  have hd := devIndex_lt ha
  have small : pg * 4096 + devIndex pg < 2 ^ 64 := by omega
  have word : (BitVec.ofNat 64 (pg * 4096 + devIndex pg)).toNat = pg * 4096 + devIndex pg := by
    rw [BitVec.toNat_ofNat, Nat.mod_eq_of_lt small]
  simp only [view_blkId, blkId, fld_ofNat_64 small, word]
  refine ⟨?_, ?_, ?_, ?_, ?_, ?_, pageBits hp (by omega)⟩ <;> norm_num <;> omega

end Sys2Proof.Proofs.PageIds

/-!
Resets of the device, and the commands of resets (R446-R456, R470, R537).
-/
namespace Sys2Proof.Proofs.DeviceResets

open Sys2Proof Sys2Proof.Machine Sys2Proof.Laws.State Sys2Proof.Laws.Calm
open Sys2Proof.Proofs.LinkCommands (sealed_settle)
open Sys2Proof.Proofs.TrayCommands (sealed_of_eq)

/-! ### What only shows -/

/-- The states differ at most in registers, in ALERT_N and in what the block has sent out. -/
def Shows (s t : State) : Prop := ∃ rs o a h, t = { s with regs := rs, out := o, alert := a, alertHold := h }

namespace Shows

theorem refl (s : State) : Shows s s := ⟨_, _, _, _, rfl⟩

theorem trans {s t u : State} : Shows s t → Shows t u → Shows s u := by
  rintro ⟨_, _, _, _, rfl⟩ ⟨rs, o, a, h, rfl⟩
  exact ⟨rs, o, a, h, rfl⟩

theorem foldl {α : Type} {f : State → α → State} (h : ∀ s a, Shows s (f s a)) : ∀ (xs : List α) (s : State), Shows s (xs.foldl f s)
  | [], s => refl s
  | x :: xs, s => (h s x).trans (foldl h xs (f s x))

theorem ite {c : Prop} [Decidable c] {s t u : State} (ht : Shows s t) (hu : Shows s u) : Shows s (if c then t else u) := by
  split
  · exact ht
  · exact hu

theorem setReg (s : State) (pg : Nat) (r : RegSpec) (i b : Nat) (v : DWord) : Shows s (s.setReg pg r i b v) := ⟨_, _, _, _, rfl⟩

theorem emit (s : State) (o : Output) : Shows s (s.emit o) := ⟨_, _, _, _, rfl⟩

theorem count (s : State) (pg : Nat) (r : RegSpec) (i b n : Nat) : Shows s (s.count pg r i b n) := ite (refl s) (setReg s _ _ _ _ _)

theorem raiseAlert (s : State) : Shows s s.raiseAlert := ite (refl s) ⟨_, _, _, _, rfl⟩

theorem reviewAlert (s : State) : Shows s s.reviewAlert := ite (raiseAlert s) (ite (refl s) ⟨_, _, _, _, rfl⟩)

theorem spareOff (s : State) (p : Nat) : Shows s (s.spareOff p) := ite (emit s _) (refl s)

theorem logReset (s : State) (source level : Nat) (u : ResetUnit) (ft : Nat) : Shows s (s.logReset source level u ft) :=
  (setReg s _ _ _ _ _).trans (setReg _ _ _ _ _ _)

theorem stagesOn (s : State) : Shows s s.stagesOn :=
  foldl (fun s _ => ite (refl s) (setReg s _ _ _ _ _)) _ s

theorem resetRegs (s : State) (level : Nat) (u : ResetUnit) : Shows s (s.resetRegs level u) :=
  Shows.trans ⟨_, _, _, _, rfl⟩ (foldl (fun s pg => setReg s pg Reg.Hdr.RST_CTRL 0 0 _) _ _)

end Shows

/-- The states differ besides at most in what is held in reset, the device with it, and in the islands, the wake governor and what the
release sequence keeps (R457). -/
def Restarted (s t : State) : Prop := ∃ rs o a h hs is q g r, t = { s with
  regs := rs, out := o, alert := a, alertHold := h, held := .device :: hs, islands := is, govQ := q, granted := g, rst := r }

namespace Restarted

theorem andShows {s t u : State} : Restarted s t → Shows t u → Restarted s u := by
  rintro ⟨_, _, _, _, hs, is, q, g, r, rfl⟩ ⟨rs, o, a, h, rfl⟩
  exact ⟨rs, o, a, h, hs, is, q, g, r, rfl⟩

theorem afterShows {s t u : State} : Shows s t → Restarted t u → Restarted s u := by
  rintro ⟨_, _, _, _, rfl⟩ ⟨rs, o, a, h, hs, is, q, g, r, rfl⟩
  exact ⟨rs, o, a, h, hs, is, q, g, r, rfl⟩

/-- R457: a restart at step 1. -/
theorem restart (s : State) : Restarted s (s.restart 1) := by
  have units {hs is q g r} : Restarted s { s with held := .device :: hs, islands := is, govQ := q, granted := g, rst := r } :=
    ⟨_, _, _, _, _, _, _, _, _, rfl⟩
  have regs (u : State) (pg : Nat) (r : RegSpec) (v : DWord) : Shows u (u.set pg r v) := .setReg u pg r 0 0 v
  exact ((((((units.andShows (regs _ _ _ _)).andShows (regs _ _ _ _)).andShows (regs _ _ _ _)).andShows (regs _ _ _ _)).andShows
    (regs _ _ _ _)).andShows (regs _ _ _ _)).andShows (regs _ _ _ _)

end Restarted

/-! ### What the two resets of the device leave -/

/-- R446, R559: what every reset of the whole device starts from. -/
structure Anew (t : State) : Prop where
  calm : t.calm
  ft : t.ft = 0
  timeFloor : t.timeFloor = 0
  comps : t.comps = []
  reg : t.reg = RegionSt.init
  txns : t.txns = []
  reds : t.loom.reds = []
  trd : t.trd = TreadleSt.init

theorem Restarted.anew {b t : State} (h : Restarted b t) (hb : Anew b) : Anew t := by
  obtain ⟨rs, o, a, h, hs, is, q, g, r, rfl⟩ := h
  exact ⟨calm_congr hb.calm rfl rfl rfl rfl rfl, hb.ft, hb.timeFloor, hb.comps, hb.reg, hb.txns, hb.reds, hb.trd⟩

theorem Restarted.holdsDevice {b t : State} (h : Restarted b t) : t.isHeld .device = true := by
  obtain ⟨rs, o, a, h, hs, is, q, g, r, rfl⟩ := h
  simp [State.isHeld]

theorem Restarted.stores {b t : State} (h : Restarted b t) :
    t.mem = b.mem ∧ t.poison = b.poison ∧ t.upsets = b.upsets ∧ t.fuses = b.fuses ∧ t.flt = b.flt := by
  obtain ⟨rs, o, a, h, hs, is, q, g, r, rfl⟩ := h
  exact ⟨rfl, rfl, rfl, rfl, rfl⟩

/-- Where the block keeps nothing that a calm state speaks of, it is calm. -/
theorem calm_of_empty {t : State} (he : t.events = []) (hl : t.loom.reds = []) (hh : t.hed = State.reset.hed) (hs : t.sp = State.reset.sp)
    (hi : t.host.inbox = []) (hr : t.reg = RegionSt.init) : t.calm := by
  have none {α : Type} {p : α → Prop} : ∀ a ∈ ([] : List α), p a := List.forall_mem_nil p
  unfold State.calm
  rw [he, hl, hh, hs, hi, hr]
  exact ⟨rfl, none, rfl, rfl, none, none, rfl, rfl, rfl⟩

/-- R446, R456: an L0 reset restarts a state whose stacks hold nothing. -/
theorem coldReset_restarts (s : State) (source : Nat) :
    ∃ b, Anew b ∧ b.mem = [] ∧ b.poison = [] ∧ b.upsets = [] ∧ Restarted b (s.coldReset source) := by
  refine ⟨_, ?_, ?_, ?_, ?_,
    (((Restarted.restart _).andShows (.logReset _ source 0 .device 0)).andShows (.stagesOn _)).andShows (.reviewAlert _)⟩
  · exact ⟨calm_of_empty rfl rfl rfl rfl rfl rfl, rfl, rfl, rfl, rfl, rfl, rfl, rfl⟩
  all_goals rfl

/-- R446, R447: an L1 reset restarts a state that keeps the stacks' contents, the fuses and the histories of faults. -/
theorem warmReset_restarts (s : State) (source : Nat) (u : ResetUnit) :
    ∃ b, Anew b ∧ b.mem = s.mem ∧ b.poison = s.poison ∧ b.upsets = s.upsets ∧ b.fuses = s.fuses ∧ b.flt.hist = s.flt.hist ∧
      Restarted b (s.warmReset source u) := by
  obtain ⟨rs, o, a, h, e⟩ := Shows.foldl (fun s p => Shows.spareOff s p) (List.range 72) s
  refine ⟨_, ?_, ?_, ?_, ?_, ?_, ?_,
    (((((Restarted.restart _).afterShows (.resetRegs _ 1 .device)).andShows (.logReset _ source 1 u _)).andShows
      (.count _ _ _ _ _ _)).andShows (.stagesOn _)).andShows (.reviewAlert _)⟩
  · exact ⟨calm_of_empty rfl rfl rfl rfl rfl rfl, rfl, rfl, rfl, rfl, rfl, rfl, rfl⟩
  all_goals
    simp only [e]

/-! ### Reset sources (R448-R451, R470) -/

section

variable {s : State} {source : Nat}

/-- R451: an L0 reset is never hidden. -/
theorem resetSource_zero (u : ResetUnit) : s.resetSource 0 u source = s.coldReset source := by
  simp [State.resetSource, State.resetHides, State.doReset]

/-- R451: during a reset of the device a reset of it at another level is only logged. -/
theorem resetSource_of_held {level : Nat} (hl : 1 ≤ level) (h : s.held.contains .device = true) (u : ResetUnit) :
    s.resetSource level u source = s.logReset source 5 u s.ft := by
  have hidden : s.resetHides level u = true := by simp only [State.resetHides, h, decide_eq_true hl, Bool.and_self, Bool.or_true]
  exact if_pos hidden

/-- R451: otherwise a reset of the device is performed. -/
theorem resetSource_device {level : Nat} (hl : level < 3) (h : s.held.contains .device = false) :
    s.resetSource level .device source = s.doReset level .device source := by
  have shown : s.resetHides level .device = false := by
    simp only [State.resetHides, h, decide_eq_false (Nat.not_le.mpr hl), Bool.false_and, Bool.and_false, Bool.or_self]
  rw [State.resetSource, shown, if_neg Bool.false_ne_true]

/-- R470: RST_CMD with its confirmation. -/
theorem rstCmd_of_confirmed {level : Nat} (hl : level ≤ 2) : s.rstCmd 0xA5 level = s.resetSource level .device 0x12 :=
  if_neg (by simp [hl])

theorem rstCmd_zero : s.rstCmd 0xA5 0 = s.coldReset 0x12 := (rstCmd_of_confirmed (Nat.zero_le _)).trans (resetSource_zero _)

theorem rstCmd_one_of_free (h : s.held.contains .device = false) : s.rstCmd 0xA5 1 = s.warmReset 0x12 .device :=
  (rstCmd_of_confirmed (by decide)).trans ((resetSource_device (by decide) h).trans (by simp [State.doReset]))

theorem rstCmd_two_of_free (h : s.held.contains .device = false) : s.rstCmd 0xA5 2 = s.warpReset 0x12 .device :=
  (rstCmd_of_confirmed (by decide)).trans ((resetSource_device (by decide) h).trans (by simp [State.doReset]))

/-- R451, R470: of RST_CMD during a reset of the device only L0 is performed. -/
theorem rstCmd_of_held (h : s.held.contains .device = true) {level : Nat} (h1 : 1 ≤ level) (h2 : level ≤ 2) :
    s.rstCmd 0xA5 level = s.logReset 0x12 5 .device s.ft :=
  (rstCmd_of_confirmed h2).trans (resetSource_of_held h1 h _)

/-- R17, R470: RST_CMD with a wrong confirmation. -/
theorem rstCmd_of_unconfirmed {k : Byte} (h : k ≠ 0xA5) (level : Nat) : s.rstCmd k level = s.writeRejected pgRst := if_pos (.inl h)

/-! ### The watchdog (R452) -/

section

variable (he : bit (s.hub Reg.Rst.WDT_CFG) 31 = true)

include he

/-- R452: the first expiry of an enabled watchdog. -/
theorem watchdog_first (hn : fld (s.hub Reg.Rst.WDT_STAT) 1 0 = 0) : s.watchdog false = (s.setHubF Reg.Rst.WDT_STAT 1 0 1).emit .nmi := by
  simp only [State.watchdog, he, hn, Bool.not_true, Bool.false_eq_true, if_false]
  rfl

theorem watchdog_second (hn : fld (s.hub Reg.Rst.WDT_STAT) 1 0 = 1) : s.watchdog false = (s.setHubF Reg.Rst.WDT_STAT 1 0 2).footEnter 1 := by
  simp only [State.watchdog, he, hn, Bool.not_true, Bool.false_eq_true, if_false]
  rfl

theorem watchdog_third (hn : fld (s.hub Reg.Rst.WDT_STAT) 1 0 = 2) :
    s.watchdog false = (s.setHubF Reg.Rst.WDT_STAT 1 0 3).raise (.critical 5 .device) := by
  simp only [State.watchdog, he, hn, Bool.not_true, Bool.false_eq_true, if_false]
  rfl

end

end

/-- What the end of a command keeps of a reset of the whole device. -/
structure LeftAnew (s t : State) : Prop where
  ft : t.ft = 0
  timeFloor : t.timeFloor = 0
  comps : t.comps = []
  reg : t.reg = RegionSt.init
  txns : t.txns = []
  reds : t.loom.reds = []
  trd : t.trd = TreadleSt.init
  held : t.isHeld .device = true
  pending : t.pending = s.pending

theorem leftAnew_seal {t : State} (s : State) (h : Anew t) (hd : t.isHeld .device = true) : LeftAnew s (s.seal t) := by
  have floor : (s.seal t).timeFloor = 0 := by simp [State.seal, State.ns, h.timeFloor, h.ft]
  exact ⟨h.ft, floor, h.comps, h.reg, h.txns, h.reds, h.trd, hd, rfl⟩

/-- A command that restarts the block leaves it so, with the stores of the state that it restarts. -/
theorem leaves_of_restarted {c : Instr} {s b t : State} (hr : Restarted b t) (hb : Anew b) (runs : exec c s = .next (s.seal (State.settle t))) :
    ∃ u, exec c s = .next u ∧ u.mem = b.mem ∧ u.poison = b.poison ∧ u.upsets = b.upsets ∧ u.fuses = b.fuses ∧ u.flt = b.flt ∧
      LeftAnew s u := by
  obtain ⟨mem, poison, upsets, fuses, flt⟩ := hr.stores
  have anew := hr.anew hb
  exact ⟨s.seal t, runs.trans (congrArg Host.Outcome.next (seal_settle_of_calm s t anew.calm)), mem, poison, upsets, fuses, flt,
    leftAnew_seal s anew hr.holdsDevice⟩

/-- Settles O55: both resets restart a state in which no request, reduction or task stands; L1's has what the stacks held. That L1 is only
logged while the device is held, with LEVEL 5, is log entry 102, and that L0 leaves the memory list empty is log entry 2: the model's choice. -/
theorem deviceResets : Obligations.DeviceResets := by
  intro s
  refine ⟨?_, fun h => sealed_settle (rstCmd_of_held h le_rfl one_le_two), fun h => ?_⟩
  · obtain ⟨b, hb, hm, hp, hu, hr⟩ := coldReset_restarts s 0x12
    obtain ⟨t, runs, mem, poison, upsets, -, -, left⟩ := leaves_of_restarted (c := .rstCmdL0 0xA5) (s := s) hr hb (sealed_settle rstCmd_zero)
    exact ⟨t, runs, mem.trans hm, poison.trans hp, upsets.trans hu, left.ft, left.timeFloor, left.comps, left.reg, left.txns, left.reds, left.trd, left.held, left.pending⟩
  · obtain ⟨b, hb, hm, hp, hu, hf, hh, hr⟩ := warmReset_restarts s 0x12 .device
    obtain ⟨t, runs, mem, poison, upsets, fuses, flt, left⟩ := leaves_of_restarted (c := .rstCmdL1 0xA5) hr hb
      (sealed_settle (rstCmd_one_of_free h))
    exact ⟨t, runs, mem.trans hm, poison.trans hp, upsets.trans hu, left.ft, left.timeFloor, left.comps, left.reg, left.txns, left.reds,
      left.trd, left.held, fuses.trans hf, (congrArg FltSt.hist flt).trans hh, left.pending⟩

/-- Settles O10: each command in the branch that its premises name. That a reset which another one hides is only logged, with LEVEL 5, is
log entry 102: the model's choice. -/
theorem resetCommandsComplete : Obligations.ResetCommandsComplete := by
  unfold Obligations.ResetCommandsComplete
  have free {s : State} (h : ResetUnit.device ∉ s.held) : s.held.contains .device = false := by simp [h]
  refine ⟨?_, ?_, ?_, ?_, ?_, ?_, ?_, ?_, ?_, ?_, ?_, ?_, ?_, ?_, ?_⟩
  · exact fun s => rfl
  · exact fun s => rfl
  · exact fun s => rfl
  · exact fun s => rfl
  · exact fun s => rfl
  · exact fun s => rfl
  · exact fun s he hn => sealed_settle (watchdog_first he hn)
  · exact fun s he hn => sealed_settle (watchdog_second he hn)
  · exact fun s he hn => sealed_settle (watchdog_third he hn)
  · exact fun s => rfl
  · exact fun s => sealed_settle rstCmd_zero
  · exact fun s h => sealed_settle (rstCmd_one_of_free (free h))
  · exact fun s h => sealed_settle (rstCmd_two_of_free (free h))
  · intro s h
    have held : s.held.contains .device = true := by simp [h]
    exact ⟨sealed_settle (rstCmd_of_held held le_rfl one_le_two), sealed_settle (rstCmd_of_held held one_le_two le_rfl)⟩
  · exact fun s k h => ⟨sealed_settle (rstCmd_of_unconfirmed h 0), sealed_settle (rstCmd_of_unconfirmed h 1),
      sealed_settle (rstCmd_of_unconfirmed h 2)⟩

end Sys2Proof.Proofs.DeviceResets

/-!
The clock monitor and the clock page (R434-R437, R440, R469, R538).
-/
namespace Sys2Proof.Proofs.ClockCommands

open Sys2Proof Sys2Proof.Machine
open Sys2Proof.Proofs.LinkCommands (sealed_settle)
open Sys2Proof.Proofs.TrayCommands (sealed_of_eq)

section

variable {s : State}

/-! ### Monitor windows (R435, R436) -/

theorem clkGood_of_none (h : s.clk.good = []) (k : Nat) : s.clkGood k = false := by
  rw [State.clkGood, h]
  rfl

/-- R436: a window fails no source while none is qualified. -/
theorem clkFailing_of_none (h : s.clk.good = []) (c : MonCounts) : s.clkFailing c = [] := by
  simp [State.clkFailing, clkGood_of_none h]

/-- R435: a count that is the one expected is within every tolerance. -/
theorem beyondPpm_self (r ppm : Nat) : beyondPpm r r ppm = false := by simp [beyondPpm]

/-- R435: the count that REFCLK_156 is expected to show, once known, is kept. -/
theorem clkRef_of_known (h : SMap.get (fun _ => 0) s.clk.refs 0 ≠ 0) (count : Nat) : s.clkRef count = s := if_neg fun k => h k.2

/-- R435: the sixteenth good window of REFCLK_156 in a row qualifies it. -/
theorem clkCount_sixteenth {r : Nat} (h : s.clk.good = []) (hr : SMap.get (fun _ => 0) s.clk.refs 0 = r) (h0 : r ≠ 0)
    (hn : SMap.get (fun _ => 0) s.clk.runs 0 = 15) :
    s.clkCount 0 r = { s with clk := { s.clk with runs := SMap.set (fun _ => 0) s.clk.runs 0 0, good := [0] } } := by
  have expected : s.clkExpect 0 = r := by simp [State.clkExpect, clkGood_of_none h, hr]
  simp [State.clkCount, State.clkMay, expected, beyondPpm_self, h0, hn, h, NSet.insert]

/-- R435: a window without an edge starts a source's count anew. -/
theorem clkCount_of_zero (k : Nat) : s.clkCount k 0 = { s with clk := { s.clk with runs := SMap.set (fun _ => 0) s.clk.runs k 0 } } := by
  simp [State.clkCount]

/-- R437: where no source is selected, and no holdover is to end, a window selects none. -/
theorem clkChoose_of_none (hs : s.clk.safe = false) (h : s.clk.sel = 0) (was : NSet) (held : Bool) : s.clkChoose was held = s := by
  simp [State.clkChoose, hs, h]

/-- R435: the window that qualifies REFCLK_156 alone. -/
theorem clkWindow_qualifies {c : MonCounts} (hg : s.clk.good = []) (hs : s.clk.safe = false) (hl : s.clk.sel = 0)
    (hn : SMap.get (fun _ => 0) s.clk.runs 0 = 15) (h0 : c.ref ≠ 0) (hr : SMap.get (fun _ => 0) s.clk.refs 0 = c.ref) (hc : c.cxl = 0)
    (hp : c.prim = 0) (hb : c.back = 0) :
    ∃ runs, s.clkWindow c = { s with clk := { s.clk with runs := runs, good := [0] } } := by
  have window : s.clkWindow c = ((((s.clkCount 0 c.ref).clkCount 1 0).clkCount 2 0).clkCount 3 0).clkChoose [] s.clk.safe := by
    simp only [State.clkWindow, clkRef_of_known (hr ▸ h0), clkFailing_of_none hg, hc, hp, hb, hg]
    rfl
  rw [window, clkCount_sixteenth hg hr h0 hn, clkCount_of_zero, clkCount_of_zero, clkCount_of_zero]
  exact ⟨_, clkChoose_of_none (by exact hs) (by exact hl) _ _⟩

/-! ### Failure (R436, R440, R434) -/

/-- R436: a qualified source, other than CXL_REFCLK, fails while it is not in use. -/
theorem clkFail_of_unused {k : Nat} (hg : s.clkGood k = true) (hu : s.clkSource ≠ some k) (h1 : k ≠ 1) :
    s.clkFail k = ((s.clkDrop k).clkEvent k).bumpI (pgHub 0x21) Reg.Clk.CLK_FAIL_CNT k := by
  simp [State.clkFail, hg, hu, h1]

theorem clkFailReset_of_holdover (hs : s.clk.safe = true) (hf : fld (s.hub Reg.Clk.CLK_MON_CFG) 31 16 ≠ 0) :
    s.clkFailReset = (s.clkEvent 4).raise (.critical 6 .device) := if_pos ⟨hs, hf⟩

theorem refclkLate_of_unqualified (hs : s.relStep = 3) (hg : s.clkGood 0 = false) (hr : s.rst.stuck = false) :
    s.refclkLate = ({ s with rst := { s.rst with stuck := true } } : State).clkEvent 0 := if_pos ⟨hs, by simp [hg], by simp [hr]⟩

/-! ### CLK_CFG (R437, R469) -/

/-- R469: a write that changes neither logical port. -/
theorem clkCfgWrite_of_same {v : Word} (hp : clkPortOk (fld v 8 0) = true) (hb : clkPortOk (fld v 24 16) = true)
    (ep : fld v 8 0 = fld (s.hub Reg.Clk.CLK_CFG) 8 0) (eb : fld v 24 16 = fld (s.hub Reg.Clk.CLK_CFG) 24 16) :
    s.clkCfgWrite v = (s.setHub Reg.Clk.CLK_CFG
      (setFld (setFld (setBit (s.hub Reg.Clk.CLK_CFG) 31 (bit v 31)) 8 0 (fld v 8 0)) 24 16 (fld v 24 16))).syncClock := by
  simp only [State.clkCfgWrite, hp, hb, if_true, Bool.not_true, Bool.or_self, Bool.false_eq_true, if_false, if_pos ep, if_pos eb]

end

/-- Settles O7: each command in the branch that its premises name. -/
theorem clockCommandsComplete : Obligations.ClockCommandsComplete := by
  unfold Obligations.ClockCommandsComplete
  refine ⟨?_, ?_, ?_, ?_, ?_, ?_⟩
  · intro s c hg hs hl hn h0 hr hc hp hb
    obtain ⟨runs, e⟩ := clkWindow_qualifies hg hs hl hn h0 hr hc hp hb
    exact ⟨_, sealed_settle e, rfl, hl, rfl, rfl⟩
  · exact fun s k hg hu h1 => sealed_settle (clkFail_of_unused hg hu h1)
  · exact fun s hs hf => sealed_settle (clkFailReset_of_holdover hs hf)
  · exact fun s hs hg hr => sealed_of_eq (refclkLate_of_unqualified hs hg hr)
  · exact fun s v hp hb ep eb => sealed_settle (clkCfgWrite_of_same hp hb ep eb)
  · exact fun s v => rfl

end Sys2Proof.Proofs.ClockCommands

/-!
Power states, the throttle, the supply and the power stages (R443, R444, R458-R471).
-/
namespace Sys2Proof.Proofs.PowerCommands

open Sys2Proof Sys2Proof.Machine Sys2Proof.Laws.State Sys2Proof.Laws.Calm
open Sys2Proof.Proofs.LinkCommands (sealed_settle)
open Sys2Proof.Proofs.TrayCommands (sealed_of_eq)

section

variable {s : State}

/-! ### Power states (R443, R444) -/

/-- R443: Sleep or Deep-sleep asked of an island that runs stands until its entry. -/
theorem askIsland_of_run {i : Island} {level : Nat} (hw : s.waking i = false) (hr : s.islandState i = 0) (hl : level ≠ 0) :
    s.askIsland i level = s.setReq i level := by
  have rests : ¬0 = level := fun h => hl h.symm
  simp [State.askIsland, hw, hr, hl, rests]

/-- R443: Run asked of an island that sleeps wakes it. -/
theorem askIsland_run_of_sleep {i : Island} (hw : s.waking i = false) (hr : s.islandState i ≠ 0) :
    s.askIsland i 0 = (s.setReq i 0).wake i := by
  simp [State.askIsland, hw, hr]

/-- R443: a write to a Bay's PWR_STATE that asks no reserved state and leaves REFUSED as it is. -/
theorem pwrWrite_bay {n : BayId} {v : Word} (hv : fld v 2 0 ≤ 2) (hb : bit v 30 = false) :
    s.pwrWrite (.bay n) v = (s.setF (pgMC n.val) Reg.Hdr.PWR_STATE 2 0 (fld v 2 0)).askIsland (.bay n) (fld v 2 0) := by
  simp only [State.pwrWrite, hb, Bool.false_eq_true, if_false, if_neg (Nat.not_lt.mpr hv)]
  rfl

/-- R443: a request of a Bay is written and then asked of its island. -/
theorem pwrStateRequest_bay {n : BayId} {v : Word} (ho : s.pageOpen (pgMC n.val) Reg.Hdr.PWR_STATE 0) (hv : fld v 2 0 ≤ 2)
    (hb : bit v 30 = false) : s.atPage (Island.bay n).page Reg.Hdr.PWR_STATE 0 (fun s => s.pwrWrite (.bay n) v) =
      (s.setF (pgMC n.val) Reg.Hdr.PWR_STATE 2 0 (fld v 2 0)).askIsland (.bay n) (fld v 2 0) :=
  (atPage_of_open s _ _ _ _ ho).trans (pwrWrite_bay hv hb)

theorem bit_setWidth_64 (v : Word) (n : Nat) : bit (v.setWidth 64) n = bit v n := by
  have fits : v.toNat < 2 ^ 64 := lt_of_lt_of_le v.isLt (by norm_num)
  rw [bit, bit, BitVec.toNat_setWidth, Nat.mod_eq_of_lt fits]

/-- R443: a write to a Spindle page's PWR_STATE asks a state of each of its groups. -/
theorem pwrWrite_spindles {n : BayId} {v : Word} (hb : bit v 30 = false) (g : Fin 8) :
    s.pwrWrite (.spindles n g) v = (List.range 8).foldl
      (fun s g => s.askIsland (.spindles n (Fin.ofNat 8 g)) (if bit v (16 + g) then 2 else if bit v (8 + g) then 1 else 0))
      (s.setF (pgSp n.val) Reg.Hdr.PWR_STATE 23 8 (fld v 23 8)) := by
  simp only [State.pwrWrite, hb, Bool.false_eq_true, if_false, sgLevel, bit_setWidth_64]
  rfl

/-- R444: a Bay that runs and meets the entry condition enters the state asked of it. -/
theorem powerEntry_bay {n : BayId} {level : Nat} (hq : SMap.get (fun _ => 0) s.pwr.req n.val = level) (hl : level ≠ 0)
    (hw : s.waking (.bay n) = false) (hr : s.islandState (.bay n) = 0) (he : s.mayEnter (.bay n) = true) :
    s.powerEntry (.bay n) =
      if level = 2 then ((({ s with islands := SMap.set (fun _ => 0) s.islands n.val level } : State).setReq (.bay n) 0).selfRefresh n)
      else (({ s with islands := SMap.set (fun _ => 0) s.islands n.val level } : State).setReq (.bay n) 0) := by
  subst hq
  have enters : ¬(SMap.get (fun _ => 0) s.pwr.req n.val = 0 ∨ s.waking (.bay n) = true ∨ 2 ≤ s.islandState (.bay n) ∨
      (!(decide (s.islandState (.bay n) = 1 ∨ s.mayEnter (.bay n) = true))) = true) := by
    simp [hl, hw, hr, he]
  exact if_neg enters

theorem powerEntryLate_bay {n : BayId} (hr : s.islandState (.bay n) = 0) (hw : s.waking (.bay n) = false)
    (hq : SMap.get (fun _ => 0) s.pwr.req n.val ≠ 0) :
    s.powerEntryLate (.bay n) = (s.setReq (.bay n) 0).setF (pgMC n.val) Reg.Hdr.PWR_STATE 30 30 1 :=
  (if_pos ⟨hr, by simp [hw]⟩).trans (if_neg hq)

/-! ### The throttle (R465, R466) -/

/-- R466: before a first measurement of the input, with nothing against the supply, a demand above the level sets it. -/
theorem throttle_of_demand {level cap heat : Nat} (hv : s.hub Reg.Pwr.VIN_STAT = 0) (hw : s.pwr.low = false) (hn : s.pwr.warn = false)
    (hl : level = fld (s.hub Reg.Pwr.THR_STAT) 2 0) (hc : cap = s.capDemand level) (hh : heat = s.heatDemand level)
    (hd : level < max cap heat) :
    s.throttle = (s.setHub Reg.Pwr.THR_STAT (BitVec.ofNat 64
      (b2n (level < heat) * 2 ^ 18 + b2n (level < cap) * 2 ^ 17 + max cap heat * 2 ^ 8 + max cap heat))).bumpHub Reg.Pwr.THR_CHANGE_CNT := by
  have same : ({ s with pwr := { s.pwr with low := false } } : State) = s := by rw [← hw]
  have strong : s.supplyWeak = false := by simp [State.supplyWeak, hw, hn]
  have changes : ¬max cap heat = level := Nat.ne_of_gt hd
  simp only [State.throttle, hv, ne_eq, not_true_eq_false, decide_false, Bool.false_and, Bool.false_eq_true, false_and, if_false, same, strong,
    ← hl, ← hc, ← hh, Nat.zero_max, if_pos hd, if_neg changes]
  simp [b2n]

/-! ### Supply and power stages (R463, R471) -/

theorem psuWarn_of_quiet (h : s.pwr.warn = false) : s.psuWarn true =
    (({ (s.bumpHub Reg.Pwr.PSU_WARN_CNT) with pwr := { s.pwr with warn := true } } : State)).setHubF Reg.Pwr.THR_STAT 16 16 1 := by
  have counted : (s.bumpHub Reg.Pwr.PSU_WARN_CNT).pwr = s.pwr := count_pwr _ _ _ _ _ _
  simp only [State.psuWarn, h, Bool.not_false, and_self, if_true, counted]
  rfl

theorem psuWarn_off : s.psuWarn false =
    (({ s with pwr := { s.pwr with warn := false } } : State)).setHubF Reg.Pwr.THR_STAT 16 16 (b2n s.pwr.low) := rfl

end

/-- Settles O8: each command in the branch that its premises name; those without premises are their one operation. The bits 18 and 17 of
THR_STAT give the level before the boundary (log entry 101: the model's choice). -/
theorem powerCommandsComplete : Obligations.PowerCommandsComplete := by
  unfold Obligations.PowerCommandsComplete
  refine ⟨?_, ?_, ?_, ?_, ?_, ?_, ?_, ?_, ?_, ?_, ?_, ?_, ?_, ?_, ?_, ?_, ?_, ?_, ?_, ?_, ?_⟩
  · intro s n v hv hb ho hw hr
    exact sealed_of_eq ((pwrStateRequest_bay ho (by omega) hb).trans (askIsland_of_run hw hr (by omega)))
  · intro s n v hv hb ho hw hr
    have written := pwrStateRequest_bay ho (by omega) hb
    rw [hv] at written
    exact sealed_of_eq (written.trans (askIsland_run_of_sleep hw hr))
  · exact fun s n v hb ho => sealed_of_eq ((atPage_of_open s _ _ _ _ ho).trans (pwrWrite_spindles hb 0))
  · exact fun s n level hq hl hw hr he => sealed_of_eq (powerEntry_bay hq hl hw hr he)
  · exact fun s n hr hw hq => sealed_of_eq (powerEntryLate_bay hr hw hq)
  · exact fun s level cap heat hv hw hn hl hc hh hd => sealed_of_eq (throttle_of_demand hv hw hn hl hc hh hd)
  · exact fun s v a => rfl
  · exact fun s l w => rfl
  · exact fun s => rfl
  · exact fun s => rfl
  · exact fun s => rfl
  · exact fun s d => rfl
  · exact fun s => rfl
  · exact fun s h => sealed_of_eq (psuWarn_of_quiet h)
  · exact fun s => sealed_of_eq psuWarn_off
  · exact fun s => rfl
  · exact fun s => rfl
  · exact fun s i f => rfl
  · exact fun s n => rfl
  · exact fun s k => rfl
  · exact fun s => rfl

end Sys2Proof.Proofs.PowerCommands

/-!
The commands of RST_CTRL, and the release of units and of the device (R103, R445, R454, R455, R457).
-/
namespace Sys2Proof.Proofs.UnitResets

open Sys2Proof Sys2Proof.Machine Sys2Proof.Laws.State Sys2Proof.Laws.Calm
open Sys2Proof.Proofs.LinkCommands (sealed_settle)
open Sys2Proof.Proofs.TrayCommands (sealed_of_eq)
open Sys2Proof.Proofs.CareCommands (onPage_of_reached)

/-! ### A Bay's units -/

theorem pageUnit_pgMC : ∀ n : BayId, pageUnit (pgMC n.val) = .bay n.val := by decide

theorem bayId_ofNat (n : BayId) : Fin.ofNat 24 n.val = n := Fin.ext (Nat.mod_eq_of_lt n.isLt)

section

variable {s t u : State} {n : BayId}

/-! ### RST_CTRL (R454) -/

/-- R454: a write with a REQ, to a page that may be reached. -/
theorem rstCtrlReq_of_reached {pg : Nat} (h : s.pageBlocked (pg * 4096 + 0x10) = none) (req : Nat) (v : Word) :
    s.rstCtrlReq pg req v = s.rstCtrlWrite pg (setFld v 2 0 req) := onPage_of_reached h _

/-- R454: REQ 3 of a Bay's controlling page, where HOLD does not end and no reset hides the request. -/
theorem rstCtrlWrite_bay {v : Word} (hh : bit (s.rg (pgMC n.val) Reg.Hdr.RST_CTRL) 16 = false)
    (ht : t = ((s.setF (pgMC n.val) Reg.Hdr.RST_CTRL 16 16 (b2n (bit v 16))).setF (pgMC n.val) Reg.Hdr.RST_CTRL 13 8 (fld v 13 8)).setF (pgMC n.val)
        Reg.Hdr.RST_CTRL 30 28 (fld v 30 28))
    (hv : fld v 2 0 = 3) (hr : t.resetHides 3 (.bay n.val) = false) : s.rstCtrlWrite (pgMC n.val) v = t.doReset 3 (.bay n.val) 0x13 := by
  have unit (k : Nat) : reqUnit (pgMC n.val) 3 k = some (.bay n.val) := by simp [reqUnit, pageUnit_pgMC]
  simp only [State.rstCtrlWrite, hh, Bool.false_eq_true, false_and, if_false, ← ht, hv, ne_eq, not_true_eq_false, unit]
  exact if_neg (by simp [hr])

/-- R445, R455: an L3 reset of a Bay whose island runs. -/
theorem doReset_bay (h : s.islandState (.bay n) = 0) : s.doReset 3 (.bay n.val) 0x13 =
    ((((((s.bayEnds n.val).clearBay n.val true).resetRegs 3 (.bay n.val)).hold (.bay n.val)).logReset 0x13 3 (.bay n.val) s.ft).bumpI pgRst
      Reg.Rst.RST_CNT 2) := by
  simp [State.doReset, ResetUnit.island, ResetUnit.power, h, State.islandReset]

/-- R445, R454: an L4 reset of a Loom whose island runs. -/
theorem doReset_loom (h : s.islandState (.bay n) = 0) : s.doReset 4 (.loom n.val) 0x13 =
    (((((s.loomDown n.val).resetRegs 4 (.loom n.val)).hold (.loom n.val)).logReset 0x13 4 (.loom n.val) s.ft).bumpI pgRst Reg.Rst.RST_CNT 3) := by
  simp [State.doReset, ResetUnit.island, ResetUnit.power, h, State.unitReset]

theorem holdZero_of_held {pg : Nat} (hb : s.pageBlocked (pg * 4096 + 0x10) = none) (hh : bit (s.rg pg Reg.Hdr.RST_CTRL) 16 = true) :
    s.holdZero pg = (s.setF pg Reg.Hdr.RST_CTRL 16 16 0).holdRelease pg := (onPage_of_reached hb _).trans (if_pos hh)

/-- R455: the reset time of a Loom that HOLD does not keep is over. -/
theorem resetRelease_loom (hr : ResetUnit.loom n.val ∈ s.held) (hh : bit (s.rg (pgLoom n.val) Reg.Hdr.RST_CTRL) 16 = false) :
    s.resetRelease (.loom n.val) = { s with
      held := s.held.erase (.loom n.val), rst := { s.rst with holding := s.rst.holding.erase (.loom n.val) } } := by
  have held : s.held.contains (.loom n.val) = true := by simp [hr]
  have lets : ¬s.holds (.loom n.val) = true := by
    show ¬bit (s.rg (pgLoom n.val) Reg.Hdr.RST_CTRL) 16 = true
    simp [hh]
  exact (if_pos ⟨held, rfl⟩).trans (if_neg lets)

/-! ### The release sequence (R457) -/

section

variable (hs : s.pwr.stopped = false) (ht : s.pwr.tripped = false)

include hs ht

theorem releaseStep_one (h : s.relStep = 1) : s.releaseStep = s.toStep 2 := by simp [State.releaseStep, hs, ht, h]

theorem releaseStep_two (h : s.relStep = 2) (hb : s.ks.boot = 1) : s.releaseStep = s.toStep 3 := by
  simp [State.releaseStep, hs, ht, h, hb]

theorem releaseStep_three (h : s.relStep = 3) (hr : s.rst.stuck = false) (hg : s.clkGood 0 = true) :
    s.releaseStep = ({ s.clkSelect 1 with held := s.held.erase .device } : State).toStep 4 := by
  simp [State.releaseStep, hs, ht, h, hr, hg]

theorem releaseStep_six (h : s.relStep = 6) (hc : s.toPower.all (fun g => NSet.has g s.rst.calibrated) = true) :
    s.releaseStep = (s.toStep 7).setHubF Reg.Rst.RST_STAT 31 31 1 := by
  simp only [State.releaseStep, hs, ht, h, Bool.false_eq_true, or_self, if_false, hc, if_true]

end

/-! ### Training and calibration (R103, R445, R455) -/

section

variable (ht : shState (s.rg (pgMC n.val) Reg.MC.PHY_SHELL_STAT) = 1) (hr : s.islandState (.bay n) = 0)

include ht hr

/-- R103: such a stack is in training. -/
theorem trains : ¬(shState (s.rg (pgMC n.val) Reg.MC.PHY_SHELL_STAT) ≠ 1 ∨
    s.islandState (.bay (Fin.ofNat 24 n.val)) ≠ 0) := by
  simp [ht, hr]

/-- R102, R103: training without a fault makes the repairs hard, and lets a Bay go where the release sequence trains it. -/
theorem stackTrained_of_good
    (hu : u = (s.firstSample n.val).set (pgMC n.val) Reg.MC.PHY_SHELL_STAT (shCalibrated (setFld (s.rg (pgMC n.val) Reg.MC.PHY_SHELL_STAT) 31 24 0) 3 0))
    (hv : t = (u.setBay n.val (u.bay n.val).hardened).syncRepair n.val) (h5 : t.relStep ≠ 5) : s.stackTrained n.val 0 = t := by
  subst hu
  simp only [State.stackTrained, if_neg (trains ht hr), ne_eq, not_true_eq_false, if_false, ← hv]
  exact if_neg fun h => h5 h.1

theorem stackTrained_of_fault {fault : Nat} (hf : fault ≠ 0) : s.stackTrained n.val fault =
    ((s.firstSample n.val).set (pgMC n.val) Reg.MC.PHY_SHELL_STAT
      (shCalibrated (setFld (s.rg (pgMC n.val) Reg.MC.PHY_SHELL_STAT) 31 24 0) 3 fault)).raise (.bayFault n.val true) := by
  simp only [State.stackTrained, if_neg (trains ht hr)]
  exact if_pos hf

end

/-- R445: the lane shells of a Pier group that runs, outside the release sequence's step 6. -/
theorem lanesCalibrated_of_run {g : GroupId} (hr : s.islandState (.group g) = 0) (ht : t = (List.range 27).foldl (fun s j =>
      if shState (s.laneShell (3 * g.val + j / 9) (j % 9)) = 1 then
        s.setLaneShell (3 * g.val + j / 9) (j % 9) (shCalibrated (s.laneShell (3 * g.val + j / 9) (j % 9)) 2 0) else s) s)
    (h6 : t.relStep ≠ 6) :
    s.lanesCalibrated g.val = [3 * g.val, 3 * g.val + 1, 3 * g.val + 2].foldl (fun s p => s.tryPier p) t := by
  have run : ¬s.islandState (.group (Fin.ofNat 24 g.val)) ≠ 0 := by simp [hr]
  have later : ¬(t.relStep = 6 ∧ t.held.contains (.group g.val) = true ∧ (!t.spanFenced (g.val / 6)) = true) := fun h => h6 h.1
  simp only [State.lanesCalibrated, if_neg run, ← ht, if_neg later]

end

/-- Settles O11: each command in the branch that its premises name. The first sample of a stack is log entry 61, and what is made of its
repairs log entry 60: the model's choice. -/
theorem unitResetCommandsComplete : Obligations.UnitResetCommandsComplete := by
  unfold Obligations.UnitResetCommandsComplete
  refine ⟨?_, ?_, ?_, ?_, ?_, ?_, ?_, ?_, ?_, ?_, ?_, ?_, ?_, ?_⟩
  · intro s n pg v hp hb
    rw [← hp] at hb ⊢
    exact sealed_settle (rstCtrlReq_of_reached hb 3 v)
  · rintro s _ v n rfl hh t ht hv hr
    exact rstCtrlWrite_bay hh ht hv hr
  · exact fun s n h => doReset_bay h
  · intro s n pg v hp hb
    rw [← hp] at hb ⊢
    exact sealed_settle (rstCtrlReq_of_reached hb 4 v)
  · exact fun s n h => doReset_loom h
  · exact fun s pg hb hh => sealed_settle (holdZero_of_held hb hh)
  · intro s n hc hr hh
    exact (sealed_settle (resetRelease_loom hr hh)).trans
      (congrArg Host.Outcome.next (seal_settle_of_calm s _ (calm_congr hc rfl rfl rfl rfl rfl)))
  · exact fun s hs ht h => sealed_settle (releaseStep_one hs ht h)
  · exact fun s hs ht h hb => sealed_settle (releaseStep_two hs ht h hb)
  · exact fun s hs ht h hr hg => sealed_settle (releaseStep_three hs ht h hr hg)
  · exact fun s hs ht h hc => sealed_settle (releaseStep_six hs ht h hc)
  · exact fun s u t n ht hr hu hv h5 => sealed_settle (stackTrained_of_good ht hr hu hv h5)
  · intro s n f hf ht hr
    have fault : f.toNat ≠ 0 := fun h => hf (BitVec.eq_of_toNat_eq h)
    exact sealed_settle (stackTrained_of_fault ht hr fault)
  · exact fun s t g hr ht h6 => sealed_settle (lanesCalibrated_of_run hr ht h6)

end Sys2Proof.Proofs.UnitResets

/-!
Keystone: the boot, recovery, tenant keys, tokens and the SVN (R402-R431).
-/
namespace Sys2Proof.Proofs.KeystoneCommands

open Sys2Proof Sys2Proof.Machine Sys2Proof.Laws.State
open Sys2Proof.Proofs.LinkCommands (sealed_settle)
open Sys2Proof.Proofs.TrayCommands (sealed_of_eq)

section

variable {s : State}

/-! ### Boot and recovery (R406-R409) -/

/-- R406-R408: with sound fuses, a strap for the boot flash and a flash that answers, the checks of the image decide. -/
theorem bootComplete_of_answers (hb : s.ks.boot = 0) (hh : ResetUnit.device ∈ s.held) (hs : s.fuses.straps.toNat % 4 < 2) :
    s.bootComplete true true =
      if s.imageCheck (s.flashBytes 0 4096) (fun n => s.flashBytes 4096 n) = 0 then s.runImage (s.flashBytes 0 4096) false 0
      else s.startRecovery (s.imageCheck (s.flashBytes 0 4096) (fun n => s.flashBytes 4096 n)) := by
  have boots : ¬(s.ks.boot ≠ 0 ∨ s.held.contains .device = false) := by simp [hb, hh]
  have noWait : ¬2 ≤ s.fuses.straps.toNat % 4 := Nat.not_le.mpr hs
  simp only [State.bootComplete, if_neg boots, Bool.not_true, Bool.false_eq_true, if_false, if_neg noWait]
  cases s.imageCheck (s.flashBytes 0 4096) (fun n => s.flashBytes 4096 n) <;> rfl

theorem recovering_of_boot (hb : s.ks.boot = 2) (hr : s.ks.recov.1 ≠ 3) : ¬(s.ks.boot ≠ 2 ∨ s.ks.recov.1 = 3) := by
  simp [hb, hr]

theorem recovChunk_of_recovering {len i : Nat} (bs : List Byte) (hb : s.ks.boot = 2) (hr : s.ks.recov.1 ≠ 3) (hl : len ≠ 0)
    (hm : len ≤ 128) (hi : i ≤ 32) : s.recovChunk len i bs = { s with ks := { s.ks with
      stage := (List.range (len * 4096)).foldl (fun m j => SMap.set (fun _ => (0 : Byte)) m (524288 * i + j) (bs.getD j 0)) s.ks.stage
      recov := (2, s.ks.recov.2.1 + len, s.ks.recov.2.2) } } := by
  have taken : ¬(s.ks.boot ≠ 2 ∨ s.ks.recov.1 = 3 ∨ len = 0 ∨ 128 < len ∨ 32 < i) := by
    simp [hb, hr, hl, hm, hi]
  exact if_neg taken

/-- R409: the staged image runs, or the code of the check that it fails is kept. -/
theorem recovVerify_of_recovering (hb : s.ks.boot = 2) (hr : s.ks.recov.1 ≠ 3) :
    s.recovVerify =
      if s.imageCheck (s.stageBytes 0 4096) (fun n => s.stageBytes 4096 n) = 0 then s.runImage (s.stageBytes 0 4096) true s.ks.bootFail
      else { s with ks := { s.ks with
        recov := (4, s.ks.recov.2.1, s.imageCheck (s.stageBytes 0 4096) (fun n => s.stageBytes 4096 n)) } } := by
  simp only [State.recovVerify, if_neg (recovering_of_boot hb hr)]
  cases s.imageCheck (s.stageBytes 0 4096) (fun n => s.stageBytes 4096 n) <;> rfl

theorem recovDiscard_of_recovering (hb : s.ks.boot = 2) (hr : s.ks.recov.1 ≠ 3) :
    s.recovDiscard = { s with ks := { s.ks with stage := [], recov := (1, 0, s.ks.recov.2.2) } } :=
  if_neg (recovering_of_boot hb hr)

/-! ### Keys and tokens (R423-R428) -/

/-- R423, R425: a read at KS_ADDR for a live composition, wholly in the stack tier, is sent from the Hub's port. -/
theorem ksRead_of_live {op n : Nat} {owner : Owner} (hl : s.live s.ksSel = true)
    (ha : s.inStackTier ((s.hub Reg.KS.KS_ADDR).toNat % 2 ^ 48) (64 * n) = true) :
    s.ksRead op owner n =
      (({ (s.ksResult true 0) with ks := { s.ks with cmd := some (op, s.ksSel) } } : State).startBatch owner ((List.range n).map (fun i =>
        (hubIn, ({ (s.ksResult true 0) with ks := { s.ks with cmd := some (op, s.ksSel) } } : State).readReq
          (State.compAt { (s.ksResult true 0) with ks := { s.ks with cmd := some (op, s.ksSel) } }
            ((s.hub Reg.KS.KS_ADDR).toNat % 2 ^ 48 + 64 * i)) ((s.hub Reg.KS.KS_ADDR).toNat % 2 ^ 48 + 64 * i))))).2 := by
  simp only [State.ksRead, hl, ha, Bool.not_true, Bool.false_eq_true, if_false]

theorem ksSetKey_of_idle (h : s.ksBusy = false) : s.ksSetKey = s.ksRead 1 .ksKey 2 := by
  simp [State.ksSetKey, h]

theorem ksInstall_of_idle (h : s.ksBusy = false) : s.ksInstall = s.ksRead 2 .ksToken 3 := by
  simp [State.ksInstall, h]

theorem ksRemove_of_live (hi : s.ksBusy = false) (hl : s.live s.ksSel = true) : s.ksRemove =
    (State.resumeHalted (State.debugClose
      { s with tokens := SMap.set (fun _ => Token.none) s.tokens s.ksSel Token.none })).ksResult false 0 := by
  simp only [State.ksRemove, hi, hl, Bool.not_true, Bool.false_eq_true, if_false]

theorem ksCommit_of_newer (hi : s.ksBusy = false) (hn : s.fuses.svn < s.imageSvn) :
    s.ksCommit = { (s.ksResult true 0) with ks := { s.ks with cmd := some (4, 0) } } := by
  simp only [State.ksCommit, hi, Bool.false_eq_true, if_false, if_neg (Nat.not_le.mpr hn)]

theorem svnDone_of_commit {c : Nat} (h : s.ks.cmd = some (4, c)) :
    s.svnDone = State.ksEnd { s with fuses := { s.fuses with svn := s.imageSvn } } 0 := by
  simp only [State.svnDone, h]

theorem tokenLapse_of_end {c : Nat} (ht : (s.token c).installed = true) (hf : (s.token c).notAfter ≤ s.timeFloor) (hc : c ∉ s.ks.lapsed) :
    s.tokenLapse c = State.debugClose (State.resumeHalted
      (({ s with ks := { s.ks with lapsed := NSet.insert c s.ks.lapsed } } : State).bumpHub Reg.KS.TOKEN_LAPSE_CNT)) := by
  have lapses : ¬((!(s.token c).installed) = true ∨ s.timeFloor < (s.token c).notAfter ∨ s.ks.lapsed.contains c = true) := by
    simp [ht, Nat.not_lt.mpr hf, hc]
  exact if_neg lapses

/-! ### Entropy (R411, R412) -/

theorem entropyFail_of_first (h : s.ks.entFail = false) : s.entropyFail true =
    (({ s with ks := { s.ks with entFail := true } } : State).bumpHub Reg.KS.ENT_FAIL_CNT).setErr pgKS 13 0 := by
  simp only [State.entropyFail, h, Bool.not_true, Bool.false_eq_true, if_false]

theorem reseed_of_due (he : s.ks.entFail = false) (hd : 65536 ≤ s.ks.drbg) :
    s.reseed = { s with ks := { s.ks with drbg := 0 } } := by
  have due : ¬(s.ks.drbg < 65536 ∨ s.ks.entFail = true) := by simp [he, hd]
  exact if_neg due

end

/-- Settles O17: each command in the branch that its premises name. The units of RECOV_STAT, the counting of ENT_FAIL_CNT and the DRBG's
state are log entry 98, the model's choice. -/
theorem keystoneCommandsComplete : Obligations.KeystoneCommandsComplete := by
  unfold Obligations.KeystoneCommandsComplete
  refine ⟨?_, ?_, ?_, ?_, ?_, ?_, ?_, ?_, ?_, ?_, ?_, ?_⟩
  · intro s e hb hh hs he
    subst he
    exact sealed_settle (bootComplete_of_answers hb hh hs)
  · intro s len i bs hb hr hl hm hi
    exact sealed_of_eq (recovChunk_of_recovering bs hb hr (by simpa [BitVec.toNat_eq] using hl) hm hi)
  · intro s e hb hr he
    subst he
    exact sealed_settle (recovVerify_of_recovering hb hr)
  · exact fun s hb hr => sealed_of_eq (recovDiscard_of_recovering hb hr)
  · intro s t a hi ha hl hn ht
    subst ha ht
    exact sealed_settle ((ksSetKey_of_idle hi).trans (ksRead_of_live hl hn))
  · intro s t a hi ha hl hn ht
    subst ha ht
    exact sealed_settle ((ksInstall_of_idle hi).trans (ksRead_of_live hl hn))
  · exact fun s hi hl => sealed_of_eq (ksRemove_of_live hi hl)
  · exact fun s hi hn => sealed_of_eq (ksCommit_of_newer hi hn)
  · exact fun s c h => sealed_of_eq (svnDone_of_commit h)
  · exact fun s c ht hf hc => sealed_of_eq (tokenLapse_of_end ht hf hc)
  · exact fun s h => sealed_of_eq (entropyFail_of_first h)
  · exact fun s he hd => sealed_of_eq (reseed_of_due he hd)

end Sys2Proof.Proofs.KeystoneCommands

/-!
SPDM: Keystone answers while firmware runs (R416-R421).
-/
namespace Sys2Proof.Proofs.SpdmCommands

open Sys2Proof Sys2Proof.Machine Sys2Proof.Laws.State
open Sys2Proof.Proofs.TrayCommands (sealed_of_eq)

section

variable {s : State} {via : Via}

/-- R417: while firmware runs, an answer that is no error is counted and sent. -/
theorem spdmAnswer_of_runs {r : SpdmRsp} (hb : s.ks.boot = 1) (hr : r ≠ .error) :
    s.spdmAnswer via r = (s.bumpHub Reg.KS.SPDM_MSG_CNT).emit (.spdm via r) := by
  have runs : ¬s.ks.boot ≠ 1 := not_not_intro hb
  simp only [State.spdmAnswer, if_neg runs, if_neg hr]

theorem spdmDigests_of_cert (hb : s.ks.boot = 1) (hc : s.ks.idCert = true) :
    s.spdmDigests via = (s.bumpHub Reg.KS.SPDM_MSG_CNT).emit (.spdm via (.digests [Config.sha384 s.certChain])) := by
  simp only [State.spdmDigests, hc, if_true]
  exact spdmAnswer_of_runs hb nofun

theorem spdmCertificate_of_cert {off : Nat} (len : Nat) (hb : s.ks.boot = 1) (hc : s.ks.idCert = true) (ho : off ≤ s.certChain.length) :
    s.spdmCertificate via off len =
      (s.bumpHub Reg.KS.SPDM_MSG_CNT).emit (.spdm via (.certificate ((s.certChain.drop off).take len))) := by
  rw [State.spdmCertificate, if_pos ⟨hc, ho⟩]
  exact spdmAnswer_of_runs hb nofun

theorem spdmChallenge_of_runs (nonce : DWord) (hb : s.ks.boot = 1) : s.spdmChallenge via nonce =
    (s.nonce.2.bumpHub Reg.KS.SPDM_MSG_CNT).emit
      (.spdm via (.challengeAuth s.nonce.1 (Config.idSign (leBytes 8 nonce.toNat ++ leBytes 8 s.nonce.1.toNat)))) :=
  spdmAnswer_of_runs (s := s.nonce.2) (by exact hb) nofun

/-- R420: one block, unsigned. -/
theorem spdmMeasure_one {i : Nat} {b : List Byte} (nonce : DWord) (hb : s.ks.boot = 1) (hi : i ≠ 0xFF) (hm : s.measurement i = some b) :
    s.spdmMeasure via i false nonce = (s.bumpHub Reg.KS.SPDM_MSG_CNT).emit (.spdm via (.measurements [(i, b)] [])) := by
  have one : [i].filterMap (fun i => (s.measurement i).map (fun b => (i, b))) = [(i, b)] := by simp [hm]
  simp only [State.spdmMeasure, if_neg hi, one, List.cons_ne_nil, Bool.false_eq_true, if_false]
  exact spdmAnswer_of_runs hb nofun

/-! ### Sessions, on the DOE (R417, R419) -/

theorem spdmFinish_of_open {id : Nat} (hb : s.ks.boot = 1) (h : (id, false) ∈ s.ks.sessions) : s.spdmFinish .doe id true =
    (State.bumpHub { s with ks := { s.ks with
        sessions := s.ks.sessions.map (fun (e : Nat × Bool) => if e.1 = id then (id, true) else e) } } Reg.KS.SPDM_MSG_CNT).emit
      (.spdm .doe (.finish id)) := by
  have runs : ¬s.ks.boot ≠ 1 := not_not_intro hb
  have known : ¬(Via.doe ≠ .doe ∨ (!s.ks.sessions.contains (id, false)) = true ∨ (!true) = true) := by simp [h]
  rw [State.spdmFinish, if_neg runs, if_neg known]
  exact spdmAnswer_of_runs (by exact hb) nofun

theorem spdmEnd_of_finished {id : Nat} (hb : s.ks.boot = 1) (h : (id, true) ∈ s.ks.sessions) : s.spdmEnd .doe id =
    (State.bumpHub { s with ks := { s.ks with sessions := s.ks.sessions.filter (fun e => e.1 ≠ id) } } Reg.KS.SPDM_MSG_CNT).emit
      (.spdm .doe (.endSession id)) := by
  have runs : ¬s.ks.boot ≠ 1 := not_not_intro hb
  have known : ¬(Via.doe ≠ .doe ∨ (!s.ks.sessions.contains (id, true)) = true) := by simp [h]
  rw [State.spdmEnd, if_neg runs, if_neg known]
  exact spdmAnswer_of_runs (by exact hb) nofun

theorem spdmHeartbeat_of_finished {id : Nat} (hb : s.ks.boot = 1) (h : (id, true) ∈ s.ks.sessions) :
    s.spdmHeartbeat .doe id = (s.bumpHub Reg.KS.SPDM_MSG_CNT).emit (.spdm .doe (.heartbeat id)) := by
  rw [State.spdmHeartbeat, if_pos ⟨rfl, List.contains_iff_mem.mpr h⟩]
  exact spdmAnswer_of_runs hb nofun

/-- R417, R412: with fewer than two sessions and entropy for a key, a session opens. -/
theorem spdmKeyExchange_of_room {share : DWord} {t : State} (hb : s.ks.boot = 1) (hl : s.ks.sessions.length < 2)
    (hk : s.keygen = (true, t)) : s.spdmKeyExchange .doe share =
      State.spdmAnswer { t.nonce.2 with ks := { t.nonce.2.ks with
          sessions := t.nonce.2.ks.sessions ++ [(t.nonce.2.ks.nextSes, false)], nextSes := t.nonce.2.ks.nextSes + 1 } } .doe
        (.keyExchange t.nonce.2.ks.nextSes t.nonce.1 (Config.idSign (leBytes 8 share.toNat ++ leBytes 8 t.nonce.1.toNat))) := by
  have runs : ¬s.ks.boot ≠ 1 := not_not_intro hb
  have room : ¬(Via.doe ≠ .doe ∨ 2 ≤ s.ks.sessions.length) := by simp [hl]
  simp only [State.spdmKeyExchange, if_neg runs, if_neg room, hk]

end

/-- Settles O18: each message answered as its lemma says. What the CHALLENGE_AUTH and KEY_EXCHANGE signatures cover, and how sessions are
numbered, is the model's choice (log entries 98 and 112 stand nearest). -/
theorem spdmCommandsComplete : Obligations.SpdmCommandsComplete := by
  unfold Obligations.SpdmCommandsComplete
  intro s via hb
  refine ⟨?_, ?_, ?_, ?_, ?_, ?_, ?_, ?_, ?_, ?_, ?_⟩
  · exact sealed_of_eq (spdmAnswer_of_runs hb nofun)
  · exact sealed_of_eq (spdmAnswer_of_runs hb nofun)
  · exact sealed_of_eq (spdmAnswer_of_runs hb nofun)
  · exact fun hc => sealed_of_eq (spdmDigests_of_cert hb hc)
  · exact fun off len hc ho => sealed_of_eq (spdmCertificate_of_cert len.toNat hb hc ho)
  · exact fun nonce => sealed_of_eq (spdmChallenge_of_runs nonce hb)
  · intro i nonce b hi hm
    have single : i.toNat ≠ 0xFF := fun h => hi (BitVec.eq_of_toNat_eq h)
    exact sealed_of_eq (spdmMeasure_one nonce hb single hm)
  · exact fun id h => sealed_of_eq (spdmFinish_of_open hb h)
  · exact fun id h => sealed_of_eq (spdmEnd_of_finished hb h)
  · exact fun id h => sealed_of_eq (spdmHeartbeat_of_finished hb h)
  · exact fun share t hl hk => sealed_of_eq (spdmKeyExchange_of_room hb hl hk)

end Sys2Proof.Proofs.SpdmCommands

/-!
MCTP control and packets, the SMBus and the DOE (R418, R513-R516).
-/
namespace Sys2Proof.Proofs.ManagementCommands

open Sys2Proof Sys2Proof.Machine Sys2Proof.Laws.State Sys2Proof.Laws.Calm
open Sys2Proof.Proofs.LinkCommands (sealed_settle)
open Sys2Proof.Proofs.TrayCommands (sealed_of_eq)

section

variable {s : State} {via : Via}

/-! ### MCTP control (R418) -/

theorem mctpSetEid_of_runs {e : Nat} (hb : s.ks.boot = 1) (h0 : e ≠ 0) (h255 : e ≠ 255) : s.mctpSetEid via e =
    State.emit { s with ks := { s.ks with eids := SMap.set (fun _ => 0) s.ks.eids via.binding e } } (.mctp via (.endpointId e)) := by
  have runs : ¬s.ks.boot ≠ 1 := not_not_intro hb
  have legal : ¬(e = 0 ∨ e = 255) := by simp [h0, h255]
  rw [State.mctpSetEid, if_neg runs, if_neg legal]

theorem mctpGetEid_of_runs (hb : s.ks.boot = 1) :
    s.mctpGetEid via = s.emit (.mctp via (.endpointId (SMap.get (fun _ => 0) s.ks.eids via.binding))) :=
  if_neg (not_not_intro hb)

theorem mctpVersions_of_runs (hb : s.ks.boot = 1) : s.mctpVersions via = s.emit (.mctp via .versions) :=
  if_neg (not_not_intro hb)

theorem mctpTypes_of_runs (hb : s.ks.boot = 1) : s.mctpTypes via = s.emit (.mctp via (.types [0x00, 0x05, 0x7E])) :=
  if_neg (not_not_intro hb)

/-! ### Packets (R514, R515) -/

/-- R514: the form of a packet that firmware relays. -/
def WellFormed (b : List Byte) : Prop := 5 ≤ b.length ∧ b.length ≤ 1020 ∧ (b.getD 0 0).toNat % 16 = 1 ∧ mctpTaken b = true

section

variable {b : List Byte} (hb : s.ks.boot = 1) (hw : WellFormed b)

include hb hw

/-- A well-formed packet is relayed as it came, where no port's authentication takes it. -/
theorem mctpArrive_of_wellFormed (hq : ∀ p, via = .link p → s.peerAuth p.val b = s) : s.mctpArrive via b = s.emit (.relayed via b) := by
  obtain ⟨hmin, hmax, hversion, htaken⟩ := hw
  have sound : ¬(b.length < 5 ∨ 1020 < b.length ∨ (b.getD 0 0).toNat % 16 ≠ 1) := by omega
  have runs : ¬s.ks.boot ≠ 1 := not_not_intro hb
  cases via with
  | link p => simp only [State.mctpArrive, if_neg sound, if_neg runs, htaken, Bool.not_true, Bool.false_eq_true, if_false, hq p rfl]
  | doe | vdm | smbus => simp only [State.mctpArrive, if_neg sound, if_neg runs, htaken, Bool.not_true, Bool.false_eq_true, if_false]

theorem arrive_mctp_of_authenticated (p : PortId) (tc : BitVec 3) (hv : s.voqs = []) (hp : (s.link p.val).state ≠ .securing) :
    s.arrive p.val (.mctp tc b) .clean = s.emit (.relayed (.link (Fin.ofNat 289 p.val)) b) := by
  have port : (Fin.ofNat 289 p.val).val = p.val := Nat.mod_eq_of_lt (by have := p.isLt; omega)
  have noAuth : ∀ q, Via.link (Fin.ofNat 289 p.val) = .link q → s.peerAuth q.val b = s := by
    rintro q ⟨⟩
    rw [port]
    exact if_pos (Or.inl hp)
  simp only [State.arrive, outOfDeck_of_empty s _ _ _ hv, State.act, takeFrom_of_empty s _ _ hv, mctpArrive_of_wellFormed hb hw noAuth]

theorem vdmPacket_of_up (hu : s.hostUp = true) : s.vdmPacket b = s.emit (.relayed .vdm b) := by
  simp only [State.vdmPacket, hu, Bool.not_true, Bool.false_eq_true, if_false, mctpArrive_of_wellFormed hb hw (via := .vdm) fun _ h => nomatch h]

theorem smbPacket_of_wellFormed : s.smbPacket b true = (s.bumpHub Reg.SMB.SMB_PKT_CNT).emit (.relayed .smbus b) := by
  have runs : (s.bumpHub Reg.SMB.SMB_PKT_CNT).ks.boot = 1 := (congrArg KsSt.boot (count_ks _ _ _ _ _ _)).trans hb
  exact mctpArrive_of_wellFormed runs hw (via := .smbus) fun _ h => nomatch h

end

/-! ### DOE (R513) -/

theorem doeAnswer_of_up (bs : List Byte) (h : s.hostUp = true) : s.doeAnswer bs = (s.bumpHub Reg.DOE.DOE_OBJ_CNT).emit (.doe bs) := by
  simp [State.doeAnswer, h]

theorem doeAbort_of_up (h : s.hostUp = true) : s.doeAbort = s.bumpHub Reg.DOE.DOE_ABORT_CNT := by
  simp [State.doeAbort, h]

end

/-- Settles O19: each message answered as its lemma says. The order of the DOE and CDAT answers is log entry 105, the counting of
SMB_PKT_CNT log entry 104, and that a packet that continues a message carries no type log entry 99: the model's choices. -/
theorem managementCommandsComplete : Obligations.ManagementCommandsComplete := by
  unfold Obligations.ManagementCommandsComplete
  refine ⟨?_, ?_, ?_, ?_, ?_, ?_, ?_, ?_, ?_, ?_, ?_, ?_⟩
  · intro s via e hb h0 h255
    have nonzero : e.toNat ≠ 0 := fun h => h0 (BitVec.eq_of_toNat_eq h)
    have notBroadcast : e.toNat ≠ 255 := fun h => h255 (BitVec.eq_of_toNat_eq h)
    exact sealed_of_eq (mctpSetEid_of_runs hb nonzero notBroadcast)
  · exact fun s via hb => sealed_of_eq (mctpGetEid_of_runs hb)
  · exact fun s via hb => sealed_of_eq (mctpVersions_of_runs hb)
  · exact fun s via hb => sealed_of_eq (mctpTypes_of_runs hb)
  · exact fun s p tc b hb hv hp hmin hmax hver ht =>
      sealed_settle (arrive_mctp_of_authenticated hb ⟨hmin, hmax, hver, ht⟩ p tc hv hp)
  · exact fun s b hb hu hmin hmax hver ht => sealed_of_eq (vdmPacket_of_up hb ⟨hmin, hmax, hver, ht⟩ hu)
  · exact fun s b hb hmin hmax hver ht => sealed_of_eq (smbPacket_of_wellFormed hb ⟨hmin, hmax, hver, ht⟩)
  · exact fun s b => rfl
  · exact fun s => rfl
  · exact fun s h => sealed_of_eq (doeAnswer_of_up _ h)
  · exact fun s h => sealed_of_eq (doeAnswer_of_up _ h)
  · exact fun s h => sealed_of_eq (doeAbort_of_up h)

end Sys2Proof.Proofs.ManagementCommands

/-!
The mailbox (R507-R509).
-/
namespace Sys2Proof.Proofs.MailboxCommands

open Sys2Proof Sys2Proof.Machine Sys2Proof.Laws.State
open Sys2Proof.Proofs.LinkCommands (sealed_settle)
open Sys2Proof.Proofs.TrayCommands (sealed_of_eq)

section

variable {s : State} (hm : s.mbOn = true)

include hm

/-- While the mailbox takes commands, the branch that ignores them is not taken. -/
theorem taken {t : State} : (if (!s.mbOn) = true then s else t) = t := by simp [hm]

theorem mbEvents_of_kept {log : Nat} (hl : log ≤ 2) : s.mbEvents log = s.mbAnswer .success
    (SMap.get (fun _ => 0) s.logs.lost log ::
      (s.logs.recs.filter (fun r => r.log = log)).flatMap (fun r => [r.handle, r.code] ++ r.data)) :=
  (taken hm).trans (if_neg (Nat.not_lt.mpr hl))

/-- R508: Clear Event Records of all records of a log that is kept. -/
theorem mbClear_all {log : Nat} (hs : List Nat) (hl : log ≤ 2) : s.mbClear log true hs = State.mbAnswer { s with logs := { s.logs with
    recs := s.logs.recs.filter (fun r => r.log ≠ log), lost := SMap.set (fun _ => 0) s.logs.lost log 0 } } .success [] := by
  simp only [State.mbClear, hm, Nat.not_lt.mpr hl, Bool.not_true, Bool.false_eq_true, if_false, false_and, or_self, Bool.true_or, Bool.or_false]

theorem mbTime_of_set (h : s.host.stamp ≠ (0, 0)) : s.mbTime = s.mbAnswer .success [s.host.stamp.1 + (s.now - s.host.stamp.2)] := by
  refine (taken hm).trans ?_
  rw [if_neg h]

theorem mbAnchor_of_room {cert : List Byte} (hc : cert.length ≤ 4096) (ha : s.ks.anchors.length < 4) :
    s.mbAnchor cert = State.mbAnswer { s with ks := { s.ks with anchors := s.ks.anchors ++ [cert] } } .success [] := by
  have fits : ¬(4096 < cert.length ∨ 4 ≤ s.ks.anchors.length) := by omega
  exact (taken hm).trans (if_neg fits)

theorem mbFlash_of_fits {off : Nat} {bs : List Byte} (hb : bs.length ≤ 65536) (ho : off + bs.length ≤ 2 ^ 25) :
    s.mbFlash off bs = State.mbAnswer { s with ks := { s.ks with
      flash := (List.range bs.length).foldl (fun m i => SMap.set Config.flashByte m (off + i) (bs.getD i 0)) s.ks.flash } } .success [] := by
  have fits : ¬(65536 < bs.length ∨ 2 ^ 25 < off + bs.length) := by omega
  exact (taken hm).trans (if_neg fits)

theorem mbRead_word (core : Fin 16) (off : Nat) : s.mbRead core off 4 =
    (s.busRead (.weft core) off 4).2.mbAnswer .success
      [(s.busRead (.weft core) off 4).1.toNat, (s.busRead (.weft core) off 4).2.rootErrs] :=
  taken hm

theorem mbWrite_word (core : Fin 16) (off : Nat) (v : DWord) : s.mbWrite core off 4 v =
    (s.busWrite (.weft core) off 4 v).mbAnswer .success [v.toNat, (s.busWrite (.weft core) off 4 v).rootErrs] :=
  taken hm

end

theorem le_two_of_ne_three {log : Fin 4} (h : log ≠ 3) : log.val ≤ 2 := by
  have := log.isLt
  have : log.val ≠ 3 := fun e => h (Fin.ext e)
  omega

/-- Settles O20: each command in the branch of a mailbox that is on. The outputs of the commands are log entry 105 and the filter of the
repair log is log entry 60: the model's choices. -/
theorem mailboxCommandsComplete : Obligations.MailboxCommandsComplete := by
  unfold Obligations.MailboxCommandsComplete
  intro s hm
  refine ⟨?_, ?_, ?_, ?_, ?_, ?_, ?_, ?_, ?_, ?_, ?_, ?_, ?_, ?_⟩
  · exact sealed_of_eq (taken hm)
  · exact sealed_of_eq (taken hm)
  · exact sealed_of_eq (taken hm)
  · exact fun log hl => sealed_of_eq (mbEvents_of_kept hm (le_two_of_ne_three hl))
  · exact fun log hs hl => sealed_of_eq (mbClear_all hm hs (le_two_of_ne_three hl))
  · exact fun v => sealed_of_eq (taken hm)
  · exact fun h => sealed_of_eq (mbTime_of_set hm h)
  · exact sealed_of_eq (taken hm)
  · exact fun core off => sealed_of_eq (mbRead_word hm core off.toNat)
  · exact fun core off v => sealed_settle (mbWrite_word hm core off.toNat v)
  · exact fun cert hc ha => sealed_of_eq (mbAnchor_of_room hm hc ha)
  · exact sealed_of_eq (taken hm)
  · exact fun off bs hb ho => sealed_of_eq (mbFlash_of_fits hm hb ho)
  · exact fun i => sealed_of_eq (taken hm)

end Sys2Proof.Proofs.MailboxCommands

/-!
The host link and CXL.mem (R504-R513, R537).
-/
namespace Sys2Proof.Proofs.HostPortCommands

open Sys2Proof Sys2Proof.Machine Sys2Proof.Laws.State
open Sys2Proof.Proofs.LinkCommands (sealed_settle)
open Sys2Proof.Proofs.TrayCommands (sealed_of_eq)

section

variable {s : State}

/-! ### The link (R504, R513) -/

theorem hostTrained_of_ready {w r : Nat} (hl : hostLinkMode 1 w r = true) (hp : s.host.perst = false) (hd : s.hostUp = false)
    (hc : s.clkGood 1 = true) (hh : s.isHeld .hostPort = false) (hm : bit (s.hub Reg.HP.HP_CFG) 31 = true) :
    s.hostTrained 1 w r = s.setHub Reg.HP.HP_STAT (BitVec.ofNat 64 (2 ^ 31 + 2 ^ 30 + 2 ^ 28 + w * 2 ^ 16 + r * 2 ^ 8)) := by
  have trains : ¬(s.host.perst = true ∨ s.hostUp = true ∨ (!hostLinkMode 1 w r) = true ∨ (!s.clkGood 1) = true ∨
      s.isHeld .hostPort = true) := by simp [hl, hp, hd, hc, hh]
  rw [State.hostTrained, if_neg trains, hm]
  rfl

theorem ideFail_of_up (hu : s.hostUp = true) : s.ideFail = (s.bumpHub Reg.IDE.IDE_FAIL_CNT).hostDown := by
  simp [State.ideFail, hu]

theorem ideKey_of_session {ses k : Nat} (hu : s.hostUp = true) (hb : s.ks.boot = 1) (hs : (ses, true) ∈ s.ks.sessions) :
    s.ideKey ses k =
      State.setHubF { s with host := { s.host with keys := NSet.insert k s.host.keys } } Reg.IDE.IDE_STAT k k 1 := by
  have open' : ¬((!s.hostUp) = true ∨ s.ks.boot ≠ 1 ∨ (!s.ks.sessions.contains (ses, true)) = true) := by simp [hu, hb, hs]
  exact if_neg open'

/-! ### Decoders (R509) -/

theorem hdmCommit_of_fits {n b z ways gran : Nat} (hu : s.hostUp = true) (hr : b + z ≤ stackEnd) (hi : hdmInterleave ways gran = true) :
    s.hdmCommit n b z ways gran =
      { s with host := { s.host with decs := SMap.set (fun _ => HdmDec.none) s.host.decs n ⟨b, z, ways, gran, true⟩ } } := by
  have fits : ¬(stackEnd < b + z ∨ (!hdmInterleave ways gran) = true) := by simp [hi, hr]
  rw [State.hdmCommit, if_neg (by simp [hu]), if_neg fits]

theorem hdmCommit_of_beyond {n b z ways gran : Nat} (hu : s.hostUp = true) (hr : stackEnd < b + z) :
    s.hdmCommit n b z ways gran = s.emit (.hdmError n) := by
  rw [State.hdmCommit, if_neg (by simp [hu]), if_pos (Or.inl hr)]

/-! ### CXL.mem (R511, R512) -/

section

variable {c d : Nat} (hm : s.memOn = true)

include hm

theorem memRd_any : s.memRd c d .any = (s.bumpHub Reg.HP.MEM_RD_CNT).hostIssue 0 .rdM c d 0 0 false := by
  simp only [State.memRd, hm, if_true]

theorem memRd_shared : s.memRd c d .shared = (s.bumpHub Reg.HP.MEM_RD_CNT).hostIssue 0 .rdS c d 0 0 false := by
  simp only [State.memRd, hm, if_true]

theorem memRd_invalid : s.memRd c d .invalid = (s.bumpHub Reg.HP.MEM_RD_CNT).hostIssue 0 .rd c d 0 0 false := by
  simp only [State.memRd, hm, if_true]

theorem memRdData_of_on : s.memRdData c d = (s.bumpHub Reg.HP.MEM_RD_CNT).hostIssue 0 .rdS c d 0 0 false := by
  simp only [State.memRdData, hm, if_true]

theorem memInv_invalid : s.memInv c d .invalid = s.emit (.memCmp c 0) :=
  if_pos hm

theorem memWr_of_unowned {mv : MetaValue} {bad : Bool} {l : Line} (ho : (s.bumpHub Reg.HP.MEM_WR_CNT).hostOwns d = false) :
    s.memWr c d mv bad l = (s.bumpHub Reg.HP.MEM_WR_CNT).hostIssue 1 .wr c d (BitVec.allOnes 64) l bad := by
  simp only [State.memWr, hm, if_true, ho, Bool.not_false]

theorem memWrPtl_of_on {m : BitVec 64} {bad : Bool} {l : Line} :
    s.memWrPtl c d m bad l = (s.bumpHub Reg.HP.MEM_WR_CNT).hostIssue 1 .wrP c d m l bad := by
  simp only [State.memWrPtl, hm, if_true]

/-- R511: BIRsp is a BI_ACK toward the home of its line. -/
theorem biRsp_of_home {la : BitVec 42} {n : Nat} (hn : s.homeBay (la.toNat * 64) = some n) :
    s.biRsp la = s.pushVoq {
      inp := 52, out := 24 + n, tc := (Msg.coh (.biAck (BitVec.ofNat 3 (fld (s.hub Reg.HP.HP_CFG) 14 12)) la)).tc, cls := 2, arr := 288
      dst := 0x1FF, time := s.now, stuck := false, msg := .coh (.biAck (BitVec.ofNat 3 (fld (s.hub Reg.HP.HP_CFG) 14 12)) la) } := by
  simp only [State.biRsp, hm, Bool.not_true, Bool.false_eq_true, if_false, hn]

end

section

variable {c : Nat} {r : HostReq} (hr : s.host.reqs.find? (fun r => r.ctag = c && r.waiting) = some r)
  (hi : r.since + 1000 * fld (s.hub Reg.HP.HP_RETRY) 15 0 ≤ s.now)

include hr hi

theorem hostRetry_of_alive (hd : s.ns < r.req.deadline) : s.hostRetry c = (s.bumpHub Reg.HP.HOST_RETRY_CNT).hostAdmit r := by
  simp only [State.hostRetry, hr, Nat.not_lt.mpr hi, Nat.not_le.mpr hd, if_false]

theorem hostRetry_of_late (hd : r.req.deadline ≤ s.ns) :
    s.hostRetry c = s.hostEnd r ⟨.timeout, 0, s.coverComp r.req⟩ 0 none := by
  simp only [State.hostRetry, hr, Nat.not_lt.mpr hi, if_false, hd, if_true]

end

end

/-- Settles O21: each command in the branch that its premises name. The reissue of waiting requests, the IDE keys and what an unmapped
address or MemInv does are log entry 104, the model's choice. -/
theorem hostPortCommandsComplete : Obligations.HostPortCommandsComplete := by
  unfold Obligations.HostPortCommandsComplete
  refine ⟨?_, ?_, ?_, ?_, ?_, ?_, ?_, ?_, ?_, ?_, ?_, ?_⟩
  · exact fun s w r hl hp hd hc hh hm => sealed_of_eq (hostTrained_of_ready hl hp hd hc hh hm)
  · exact fun s => rfl
  · exact fun s hu => sealed_settle (ideFail_of_up hu)
  · exact fun s ses k hu hb hs => sealed_of_eq (ideKey_of_session hu hb hs)
  · exact fun s n b z ways gran hu hr hi => sealed_of_eq (hdmCommit_of_fits hu hr hi)
  · exact fun s n b z ways gran hu hr => sealed_of_eq (hdmCommit_of_beyond hu hr)
  · intro s c d hm
    refine ⟨?_, ?_, ?_, ?_, ?_, ?_⟩
    · exact sealed_settle (memRd_any hm)
    · exact sealed_settle (memRd_shared hm)
    · exact sealed_settle (memRd_invalid hm)
    · exact sealed_settle (memRdData_of_on hm)
    · exact rfl
    · exact sealed_settle (memInv_invalid hm)
  · exact fun s c d mv bad l hm ho => sealed_settle (memWr_of_unowned hm ho)
  · exact fun s c d m bad l hm => sealed_settle (memWrPtl_of_on hm)
  · exact fun s la n hm hn => sealed_settle (biRsp_of_home hm hn)
  · exact fun s c r hr hi hd => sealed_settle (hostRetry_of_alive hr hi hd)
  · exact fun s c r hr hi hd => sealed_settle (hostRetry_of_late hr hi hd)

end Sys2Proof.Proofs.HostPortCommands

/-!
A Bay's memory controller and stack: repairs, shells, fills, refresh, scrubs and samples (R48, R88-R108, R558).
-/
namespace Sys2Proof.Proofs.StackCommands

open Sys2Proof Sys2Proof.Machine Sys2Proof.Laws.State Sys2Proof.Laws.Calm
open Sys2Proof.Proofs.LinkCommands (sealed_settle)
open Sys2Proof.Proofs.TrayCommands (sealed_of_eq)

section

variable {s : State} {n : Nat}

/-! ### Repair (R100, R101) -/

theorem repairCmd_of_row (h : fld (s.rg (pgMC n) Reg.MC.REPAIR_ADDR) 36 0 < baySize) :
    s.repairCmd n 1 = s.startRepair n (fld (s.rg (pgMC n) Reg.MC.REPAIR_ADDR) 36 0) 0xF := by
  have legal : ¬(1 ≠ 1 ∨ baySize ≤ fld (s.rg (pgMC n) Reg.MC.REPAIR_ADDR) 36 0) := by omega
  exact if_neg legal

theorem repairCmd_of_other {op : Nat} (h : op ≠ 1) : s.repairCmd n op = s.writeRejected (pgMC n) := if_pos (Or.inl h)

theorem repairLine_txns (s : State) (n o : Nat) : (s.repairLine n o).txns = s.txns := by
  unfold State.repairLine
  dsimp only
  split
  · rfl
  · split
    · rfl
    · exact Laws.poisonLine_txns _ _ _

theorem foldl_repairLine_txns (os : List Nat) (s : State) (n : Nat) : (os.foldl (fun s l => s.repairLine n l) s).txns = s.txns := by
  induction os generalizing s with
  | nil => rfl
  | cons o os ih => exact (ih _).trans (repairLine_txns s n o)

theorem finishRepair_txns (s : State) (n : Nat) : (s.finishRepair n).txns = s.txns := by
  unfold State.finishRepair
  dsimp only
  split
  · rfl
  · exact (count_txns _ _ _ _ _ _).trans (foldl_repairLine_txns _ _ _)

/-- R78: where the tracker is empty, no line has anything to start. -/
theorem runLine_of_empty (h : s.txns = []) (l : Nat) : s.runLine n l = s := by
  simp [State.runLine, State.pumpLine, State.nextTxn, h]

theorem foldl_runLine_of_empty (h : s.txns = []) (ls : List Nat) : ls.foldl (fun s l => s.runLine n l) s = s := by
  induction ls with
  | nil => rfl
  | cons l ls ih => rwa [List.foldl_cons, runLine_of_empty h]

/-- R101: with nothing in the tracker, the end of a repair is the repair itself. -/
theorem rowRepairDone_of_quiet {o : Nat} {rest : List Nat} (hr : (s.bay n).repairing = o :: rest) (ht : s.txns = []) :
    s.rowRepairDone n = s.finishRepair n := by
  have quiet : (s.finishRepair n).txns = [] := (finishRepair_txns s n).trans ht
  have free : ¬(s.txns.any (fun t => t.bay = n && t.active && decide (t.line < baySize) && decide (rowBase t.line = o))) = true := by
    simp [ht]
  simp only [State.rowRepairDone, hr, if_neg free, foldl_runLine_of_empty quiet]

/-! ### The stack PHY shell (R48) -/

theorem stackMargin_of_idle (ho : s.outUp (24 + n) = false) (hs : shState (s.rg (pgMC n) Reg.MC.PHY_SHELL_STAT) = 3) :
    s.stackMargin n 1 = (s.set (pgMC n) Reg.MC.PHY_SHELL_STAT
      (setFld (setFld (setFld (s.rg (pgMC n) Reg.MC.PHY_SHELL_STAT) 3 0 4) 6 6 0) 7 7 0)).setBay n { s.bay n with margin := true } := by
  simp [State.stackMargin, ho, hs, shRequest]

theorem marginDone_stack {n : BayId} (w : Word) (h : shState (s.rg (pgMC n.val) Reg.MC.PHY_SHELL_STAT) = 4) : s.marginDone (.stack n) w 0 =
    (s.set (pgMC n.val) Reg.MC.PHY_SHELL_STAT (shMargined (s.rg (pgMC n.val) Reg.MC.PHY_SHELL_STAT)
      (if (s.bay n.val).margin then 3 else 2) 0)).set (pgMC n.val) Reg.MC.MARGIN_RES (w.setWidth 64) := by
  simp [State.marginDone, h]

theorem calibrated_stack {n : BayId} (h : shState (s.rg (pgMC n.val) Reg.MC.PHY_SHELL_STAT) = 5) : s.calibrated (.stack n) 0 =
    s.set (pgMC n.val) Reg.MC.PHY_SHELL_STAT (shCalibrated (s.rg (pgMC n.val) Reg.MC.PHY_SHELL_STAT) 2 0) := by
  simp [State.calibrated, h]

/-! ### Fills (R108) -/

/-- FILL_STAT stands beside FILL_PATTERN. -/
theorem fillResult_pattern (s : State) (n res : Nat) :
    (s.fillResult n res).rg (pgMC n) Reg.MC.FILL_PATTERN = s.rg (pgMC n) Reg.MC.FILL_PATTERN := by
  have beside : regKey (pgMC n) (Reg.MC.FILL_PATTERN.off + Reg.MC.FILL_PATTERN.stride * 0) 0 ≠
      regKey (pgMC n) (Reg.MC.FILL_STAT.off + Reg.MC.FILL_STAT.stride * 0) 0 := fun h => absurd (Nat.add_left_cancel h) (by decide)
  exact DeckFrame.get_set_of_ne _ _ _ _ beside

theorem fillStart_of_entry {lo hi i : Nat} {e : RtEntry} (hl : (s.rg (pgMC n) Reg.MC.FILL_BASE).toNat = lo)
    (hh : (s.rg (pgMC n) Reg.MC.FILL_LIMIT).toNat = hi) (hb : bit (s.rg (pgMC n) Reg.MC.FILL_STAT) 31 = false) (ha : lo % 64 = 0)
    (hc : hi % 64 = 0) (hr : lo < hi) (he : s.fillEntry lo hi = some (i, e)) :
    s.fillStart n = (s.fillLines n lo hi e).foldl
      (fun t a => t.addTxn n a (.fill (s.rg (pgMC n) Reg.MC.FILL_PATTERN)) .clean ⟨i, e, 0⟩)
      ((s.fillResult n (2 ^ 31)).setBay n { s.bay n with fill := some { idx := i, ent := e, base := lo, limit := hi } }) := by
  have legal : ¬(lo % 64 ≠ 0 ∨ hi % 64 ≠ 0 ∨ hi ≤ lo) := by omega
  have pattern (b : BaySt) : ((s.fillResult n (2 ^ 31)).setBay n b).rg (pgMC n) Reg.MC.FILL_PATTERN = s.rg (pgMC n) Reg.MC.FILL_PATTERN :=
    fillResult_pattern s n _
  simp only [State.fillStart, hl, hh, hb, Bool.false_eq_true, if_false, if_neg legal, he, pattern]
  rfl

theorem fillDone_of_written {f : Fill} (hf : (s.bay n).fill = some f) (he : s.reg.cur.entry f.idx = f.ent)
    (ht : s.txns.any (fun t => t.isFill n) = false) : s.fillDone n = (s.setBay n { s.bay n with fill := none }).fillResult n 0 := by
  simp only [State.fillDone, hf, he, ne_eq, not_true_eq_false, if_false, ht, Bool.false_eq_true]

/-! ### Refresh (R94, R95) -/

theorem addUpsets_nil (s : State) (n c : Nat) : s.addUpsets n c [] = s := rfl

/-- R94, R95: a refresh that may wait, with less than eight owed, is owed. -/
theorem refreshDue_postponed {c : Nat} (hr : s.refreshes n = true) (hp : bit (s.rg (pgMC n) Reg.MC.MC_CTRL) 6 = true)
    (hh : s.hotStack n = false) (hd : SMap.get (fun _ => 0) (s.bay n).debt c < 7) : s.refreshDue n c true [] =
      (s.refresh n c 0 (SMap.get (fun _ => 0) (s.bay n).debt c + 1)).addN (pgMC n) Reg.MC.CATCHUP_CNT 0 := by
  have none' : SMap.get (fun _ => 0) (s.bay n).debt c + 1 - 7 = 0 := by omega
  have owed : min 8 (SMap.get (fun _ => 0) (s.bay n).debt c + 1) = SMap.get (fun _ => 0) (s.bay n).debt c + 1 := by omega
  simp only [State.refreshDue, hr, hp, hh, addUpsets_nil, Bool.not_true, Bool.false_eq_true, if_false, Bool.not_false, Bool.and_self, if_true,
    none', Nat.min_zero, Nat.sub_zero, owed]

/-- R95: one that may not wait is made, with one that is owed. -/
theorem refreshDue_made {c d : Nat} (hr : s.refreshes n = true) (hd : SMap.get (fun _ => 0) (s.bay n).debt c = d) (h7 : d ≤ 7)
    (hm : 2 ≤ s.refreshRoom n c) : s.refreshDue n c false [] =
      (s.refresh n c (min (d + 1) 2) (d + 1 - min (d + 1) 2)).addN (pgMC n) Reg.MC.CATCHUP_CNT (min (min (d + 1) 2) (d - 6)) := by
  have room : min (s.refreshRoom n c) (min (d + 1) 2) = min (d + 1) 2 := by omega
  have left : min 8 (d + 1 - min (d + 1) 2) = d + 1 - min (d + 1) 2 := by omega
  have caught : d + 1 - 7 = d - 6 := by omega
  simp only [State.refreshDue, hr, hd, addUpsets_nil, Bool.not_true, Bool.false_eq_true, if_false, Bool.and_false, room, left, caught]

/-! ### Scrubs (R97, R98) -/

/-- The transaction of a scrub of line k. -/
def scrubTxn (s : State) (n k : Nat) (errs : Syms) : Txn :=
  { bay := n, line := k * 64, addr := stackAddr s.sel n (k * 64), work := .scrub, errs := { syms := errs, residue := .none }
    ent := RtEntry.none, idx := 0, await := [], kind := .inv, active := false, answered := false }

theorem lineOf_stackAddr (sel : Nat) {k : Nat} (hn : n < 24) (hk : k < bayLines) : lineOf (stackAddr sel n (k * 64)) = k * 64 := by
  have inBay : k * 64 < baySize := by unfold bayLines at hk; unfold baySize at hk ⊢; omega
  obtain ⟨inTier, -, back⟩ := StackMap.bayOf_bayOff_stackAddr sel hn inBay
  rw [lineOf, if_pos inTier, back]
  omega

/-- R97, R98: what a scrub of a line that is not the Bay's last does. -/
theorem scrubbed_of_next {t : State} {k : Nat} {errs : Syms} (hk : k + 1 < bayLines)
    (ht : t = ((s.readRow n (k * 64)).readLine n (k * 64) 2 errs).2) :
    s.scrubbed n (k * 64) errs = (t.setBay n { t.bay n with scrubLine := k + 1 }).setN (pgMC n) Reg.MC.SCRUB_POS ((k + 1) / 64) := by
  have next : (k * 64 / 64 + 1) % bayLines = k + 1 := by
    rw [Nat.mul_div_cancel _ (by norm_num), Nat.mod_eq_of_lt hk]
  have more : ¬k + 1 = 0 := Nat.succ_ne_zero k
  simp only [State.scrubbed, next, if_neg more, ← ht]

theorem startTxn_scrub {u : State} (k : Nat) (errs : Syms) : u.startTxn (scrubTxn s n k errs) =
    (true, (u.dropTxn (scrubTxn s n k errs)).scrubbed n (k * 64) errs) := rfl

theorem scrubLine_of_quiet {t : State} {k : Nat} {errs : Syms} (hn : n < 24) (hr : s.refreshes n = true)
    (hc : bit (s.rg (pgMC n) Reg.MC.MC_CTRL) 5 = true) (hs : s.testing.contains n = false) (hx : s.txns = []) (ho : s.hed.ops = [])
    (hp : (s.bay n).repairing = []) (hl : (s.bay n).scrubLine = k) (hk : k + 1 < bayLines)
    (ht : t = ((s.readRow n (k * 64)).readLine n (k * 64) 2 errs).2) (htx : t.txns = []) :
    s.scrubLine n errs = (t.setBay n { t.bay n with scrubLine := k + 1 }).setN (pgMC n) Reg.MC.SCRUB_POS ((k + 1) / 64) := by
  have untested : n ∉ s.testing := by simpa using hs
  have begins : ¬((!s.refreshes n) = true ∨ (!bit (s.rg (pgMC n) Reg.MC.MC_CTRL) 5) = true ∨ s.testing.contains n = true ∨
      (s.txns.any (fun t => t.bay = n && t.work = .scrub)) = true) := by simp [hr, hc, hx, untested]
  have drop : ({ s with txns := [scrubTxn s n k errs] } : State).dropTxn (scrubTxn s n k errs) = s := by
    simp only [State.dropTxn, List.erase_cons_head, ← hx]
  have start := startTxn_scrub (s := s) (n := n) (u := { s with txns := [scrubTxn s n k errs] }) k errs
  rw [drop, scrubbed_of_next hk ht] at start
  rw [State.scrubLine, if_neg begins, State.addTxn, hx, hl, lineOf_stackAddr _ hn (Nat.lt_of_succ_lt hk)]
  exact ReadyHome.runLine_of_alone (t := scrubTxn s n k errs) rfl rfl hp ho start htx

/-! ### Temperatures (R106, R558) -/

theorem setTemp_of_cool {t : Nat} (base : Nat) (h : t ≤ 85) : s.setTemp n t base =
    (s.setBay n { s.bay n with sampled := true }).setN (pgMC n) Reg.MC.STACK_TEMP (t + base * 256 + tempBin t * 2 ^ 16) := by
  have cool : ¬85 < t := Nat.not_lt.mpr h
  simp only [State.setTemp, h, cool, if_true, decide_false, b2n, Bool.false_eq_true, if_false, Nat.zero_mul, Nat.add_zero]

end

/-- Settles O26: each command in the branch that its premises name. One extra refresh repaid is log entry 57, the age cap and the queued
writes log entry 62, and the address recorded with a repair that is not made log entry 59: the model's choices. -/
theorem stackCommandsComplete : Obligations.StackCommandsComplete := by
  unfold Obligations.StackCommandsComplete
  refine ⟨?_, ?_, ?_, ?_, ?_, ?_, ?_, ?_, ?_, ?_, ?_, ?_, ?_, ?_, ?_⟩
  · exact fun s n ho h => sealed_settle ((atPage_of_open s _ _ _ _ ho).trans (repairCmd_of_row h))
  · intro s n op ho h
    have other : op.toNat ≠ 1 := fun e => h (BitVec.eq_of_toNat_eq e)
    exact sealed_settle ((atPage_of_open s _ _ _ _ ho).trans (repairCmd_of_other other))
  · exact fun s n o rest hr ht => sealed_settle (rowRepairDone_of_quiet hr ht)
  · exact fun s n op q b h => sealed_settle (atPage_of_blocked s _ _ _ _ q b h)
  · exact fun s n hp ho hs => sealed_of_eq ((atPage_of_open s _ _ _ _ hp).trans (stackMargin_of_idle ho hs))
  · exact fun s n w h => sealed_settle (marginDone_stack w h)
  · exact fun s n h => sealed_settle (calibrated_stack h)
  · exact fun s n lo hi i e ho hl hh hb ha hc hr he =>
      sealed_settle ((atPage_of_open s _ _ _ _ ho).trans (fillStart_of_entry hl hh hb ha hc hr he))
  · exact fun s n f hf he ht => sealed_settle (fillDone_of_written hf he ht)
  · exact fun s n c hr hp hh hd => sealed_settle (refreshDue_postponed hr hp hh hd)
  · exact fun s n c d hr hd h7 hm => sealed_settle (refreshDue_made hr hd h7 hm)
  · exact fun s t n k errs hr hc hs hx ho hp hl hk ht htx =>
      sealed_settle (scrubLine_of_quiet n.isLt hr hc hs hx ho hp hl hk ht htx)
  · exact fun s n c b => rfl
  · exact fun s n c => rfl
  · intro s n d b m hs hm hc
    subst hm
    refine sealed_settle (Eq.trans ?_ (setTemp_of_cool b.toNat hc))
    simp only [State.tempSample, hs, Bool.not_true, Bool.false_eq_true, if_false]

end Sys2Proof.Proofs.StackCommands

/-!
The Deck: landing queues, limits, policers, arbiters, ports down and up, flushes, histograms and sampling (R125-R149).
-/
namespace Sys2Proof.Proofs.DeckCommands

open Sys2Proof Sys2Proof.Machine Sys2Proof.Laws.State Sys2Proof.Laws.Calm
open Sys2Proof.Proofs.LinkCommands (sealed_settle)
open Sys2Proof.Proofs.TrayCommands (sealed_of_eq)

section

variable {s t u : State}

/-! ### Landing queues (R125, R126) -/

section

variable {x vc : Nat} {i : LandItem} {rest : List LandItem} {v : VoqItem} {e : Option PathErr}

theorem landingAdmit_of_empty (h : s.landingOf x vc = []) : s.landingAdmit x vc e = s := by
  simp only [State.landingAdmit, State.landStep, h]

/-- R126: a head that no line order holds and that has room enters its sub-queue, and its slots are free. -/
theorem landMove_of_room (hw : ∀ r, i.msg = .req r → s.lineWaits x r = false) (hv : v = s.landVoq x i e) (hl : s.limitRoom (x / 12) x v = true)
    (hc : s.capRoom (x / 12) v = true) (ht : t = (s.setLanding x vc rest).freeSlots x vc i.size) (ho : t.outUp v.out = true) :
    (s.landMove x vc i rest e).2 = t.pushVoq v := by
  subst ht hv
  cases hm : i.msg with
  | req r =>
    simp only [State.landMove, hm, hw r hm, hl, hc, ho, Bool.not_true, Bool.or_self, Bool.false_eq_true, if_false]
  | _ => simp only [State.landMove, hm, hl, hc, ho, Bool.not_true, Bool.or_self, Bool.false_eq_true, if_false]

theorem landingAdmit_of_cmp {c : Cmp} (hq : s.landingOf x vc = i :: rest) (hm : i.msg = .cmp c) :
    s.landingAdmit x vc e = (s.landMove x vc i rest e).2 := by
  simp only [State.landingAdmit, State.landStep, hq, hm]

/-- R126: a request that no policer holds, of a class that is on, is tried as it stands. -/
theorem landingAdmit_of_req {r : Req} (hq : s.landingOf x vc = i :: rest) (hm : i.msg = .req r) (hh : i.held = false)
    (hc : s.classOff (x / 12) r = false) : s.landingAdmit x vc e = ((s.setLanding x vc (i :: rest)).landMove x vc i rest e).2 := by
  have same : ({ i with msg := .req r, held := false } : LandItem) = i := by rw [← hm, ← hh]
  simp only [State.landingAdmit, State.landStep, hq, hm, hh, Bool.false_eq_true, if_false, hc, same]

end

/-! ### Policers (R134, R135) -/

section

variable {g i : Nat}

theorem polWrite_of_legal {w0 w1 w2 w3 : Word} (hi : i < 1024) (h0 : w0 = s.polData g 0 &&& 0x000FFFFF) (h1 : w1 = s.polData g 1 &&& 0x000FFFFF)
    (h2 : w2 = s.polData g 2 &&& 0x000FFFFF) (h3 : w3 = s.polData g 3 &&& 0xFF0FFFFF) (ha : fld w3 28 27 ≠ 3)
    (hd : fld w3 28 27 = 1 → bit (s.rg (pgSlice 4) Reg.Slice.TC_MODE) (fld w3 26 24) = false) (hr : fld w0 19 0 ≤ fld w1 19 0) :
    s.polWrite g i = (s.setPolicer g i
      { w0 := w0, w1 := w1, w2 := w2, w3 := w3, c := ((fld w2 19 0 * 64000 : Nat) : Int), p := ((fld w3 19 0 * 64000 : Nat) : Int)
        filled := s.now, green := (s.policer g i).green, yellow := (s.policer g i).yellow, red := (s.policer g i).red }).polResult g 0 := by
  have action : ¬(fld w3 28 27 = 3 ∨ (fld w3 28 27 = 1 ∧ bit (s.rg (pgSlice 4) Reg.Slice.TC_MODE) (fld w3 26 24) = true)) := by
    rintro (h | ⟨h, b⟩)
    · exact ha h
    · exact Bool.false_ne_true ((hd h).symm.trans b)
  have rates : ¬(¬bit w3 29 = true ∧ fld w1 19 0 < fld w0 19 0) := fun h => Nat.not_lt.mpr hr h.2
  subst h0 h1 h2 h3
  simp only [State.polWrite, if_neg (Nat.not_le.mpr hi), if_neg action, if_neg rates]

theorem polRead_of_policer (hi : i < 1024) : s.polRead g i =
    (s.setPolData g [(s.policer g i).w0.toNat, (s.policer g i).w1.toNat, (s.policer g i).w2.toNat, (s.policer g i).w3.toNat]).polResult g 0 :=
  if_neg (Nat.not_le.mpr hi)

theorem polCounters_of_policer (hi : i < 1024) : s.polCounters g i =
    (((s.setReg (pgPort g) Reg.Port.POL_CNT 0 0 (BitVec.ofNat 64 (s.policer g i).green)).setReg (pgPort g)
      Reg.Port.POL_CNT 1 0 (BitVec.ofNat 64 (s.policer g i).yellow)).setReg (pgPort g) Reg.Port.POL_CNT 2 0
        (BitVec.ofNat 64 (s.policer g i).red)).polResult g 0 :=
  if_neg (Nat.not_le.mpr hi)

theorem polMapWrite_of_entry (hi : i < 4096) : s.polMapWrite g i = State.polResult
    { s with polMap := SMap.set (fun _ => 0) s.polMap (g * 4096 + i) ((s.polData g 0).toNat % 256) } g 0 :=
  if_neg (Nat.not_le.mpr hi)

theorem polMapRead_of_entry (hi : i < 4096) : s.polMapRead g i = (s.setPolData g [s.polEntry g i]).polResult g 0 :=
  if_neg (Nat.not_le.mpr hi)

end

/-- R134: a command of POL_CMD at a page that may be reached, with none in progress. -/
theorem polCmd_of_idle {g : Nat} (f : State → State) (ho : s.pageOpen (pgPort g) Reg.Port.POL_CMD 0)
    (hb : bit (s.rg (pgPort g) Reg.Port.POL_STAT) 31 = false) :
    s.atPage (pgPort g) Reg.Port.POL_CMD 0 (fun s => s.unlessBusy (pgPort g) Reg.Port.POL_STAT f) = f s :=
  (atPage_of_open s _ _ _ _ ho).trans (unlessBusy_of_idle _ _ _ _ hb)

/-! ### Stuck queues (R137) -/

theorem stuckReport_of_first {i o c k : Nat} {q : List VoqItem} (hs : s.headStuck i o c k = true) (hm : markStuck i o c k s.voqs = some q)
    (ht : t = (({ s with voqs := q } : State).bump (pgSlice (sliceOfPort i)) Reg.Slice.STUCK_CNT).setErr (pgSlice (sliceOfPort i)) 9 0)
    (hi : bit (t.rg (pgSlice (sliceOfPort i)) Reg.Slice.STUCK_INFO) 31 = false) : s.stuckReport i o c k =
      t.setN (pgSlice (sliceOfPort i)) Reg.Slice.STUCK_INFO (2 ^ 31 + i * 2 ^ 24 + o * 2 ^ 16 + c * 2 ^ 8 + k * 2 ^ 4) := by
  subst ht
  simp only [State.stuckReport, hs, if_true, hm, hi, Bool.false_eq_true, if_false]

/-! ### Ports down and up (R138, R139) -/

section

variable {d : Nat}

/-- R138: ADMIN_DOWN set where it was 0: the ports of a group, or the Deck port of a Bay, a Trestle or the Hub, go down. -/
theorem adminWrite_of_up (hd : s.adminDown d = false) (ht : t = s.setF (pgPort d) Reg.Port.PORT_CTRL 0 0 1) :
    s.adminWrite d true =
      if d < 24 then (t.groupPorts d).foldl (fun u x => u.portDown x) t
      else if d < 48 then t.deckDown d true
      else if d < 52 then t.deckDown d true
      else (t.deckDown d false).portGone 288 := by
  subst ht
  exact if_pos ⟨rfl, by simp [hd]⟩

theorem adminWrite_up (d : Nat) : s.adminWrite d false = s.setF (pgPort d) Reg.Port.PORT_CTRL 0 0 0 := by
  simp only [State.adminWrite, Bool.false_eq_true, false_and, if_false]
  rfl

theorem adminWrite_unit (hd : s.adminDown d = false) (ht : t = s.setF (pgPort d) Reg.Port.PORT_CTRL 0 0 1) (h24 : 24 ≤ d) (h52 : d < 52) :
    s.adminWrite d true = t.deckDown d true := by
  rw [adminWrite_of_up hd ht, if_neg (Nat.not_lt.mpr h24), if_pos h52, ite_self]

theorem adminWrite_hub (hd : s.adminDown 52 = false) (ht : t = s.setF (pgPort 52) Reg.Port.PORT_CTRL 0 0 1) :
    s.adminWrite 52 true = (t.deckDown 52 false).portGone 288 := by
  rw [adminWrite_of_up hd ht, if_neg (by norm_num), if_neg (by norm_num), if_neg (by norm_num)]

end

theorem flushEnd_port {x : PortId} (hf : s.flushing = [.port x]) (hw : s.flushWaits = false) :
    s.flushEnd (.port x) = ({ s with flushing := [] } : State).bump (pgPort (inputOfPort x.val)) Reg.Port.FLUSH_CNT := by
  simp [State.flushEnd, hf, hw]

/-- R139: the one request that the port's flush listed is completed with PORT_DOWN. -/
theorem flushEnd_deck {d : Fin 53} {r : Req} (hf : s.flushing = [.deck d]) (hw : s.flushWaits = false) (hr : s.returns = [(d.val, r)]) :
    s.flushEnd (.deck d) = (((({ s with flushing := [], returns := [] } : State).bump (pgPort d.val) Reg.Port.RETURN_CMP_CNT).refuseAt
      (flushInp d.val) r .portDown).bump (pgPort d.val) Reg.Port.FLUSH_CNT) := by
  simp [State.flushEnd, hf, hw, hr]

/-! ### Histograms and sampling (R143, R145, R146) -/

theorem histSample_of_one {g o : Nat} (he : bit (s.rg (pgHist g) Reg.Hist.HIST_CTRL) 31 = true)
    (ho : fld (s.rg (pgHist g) Reg.Hist.HIST_CTRL) 29 24 = o) (hn : o ≠ 0x3F) (ht : t = s.setN (pgHist g) Reg.Hist.HIST_LAST o) :
    s.histSample g = (List.range 8).foldl (fun u tc =>
      (u.bumpI (pgHist g) Reg.Hist.DEPTH (16 * tc + depthBin (u.voqCells g o tc))).bumpI (pgHist g) Reg.Hist.DELAY
        (16 * tc + delayBin (fld (s.rg (pgHist g) Reg.Hist.HIST_CTRL) 23 20) (u.voqDelay g o tc))) t := by
  subst ht
  simp only [State.histSample, he, not_true_eq_false, if_false, ho, if_neg hn]

theorem smpEnable_of_fits (hm : (s.hub Reg.Smp.RING_BASE).toNat + 160 * (s.hub Reg.Smp.RING_ENTRIES).toNat ≤ 4194304)
    (hs : (s.hub Reg.Smp.RING_BASE).toNat + 160 * (s.hub Reg.Smp.RING_ENTRIES).toNat ≤ fld (s.hub Reg.Diag.TRACE_SPLIT) 4 0 * 262144)
    (he : bit (s.hub Reg.Smp.SMP_CTRL) 31 = false) : s.smpEnable false =
      State.setHub { s with sampler := { s.sampler with seq := 0, lost := 0 } } Reg.Smp.SMP_CTRL (BitVec.ofNat 64 (2 ^ 31)) := by
  have fits : ¬(4194304 < (s.hub Reg.Smp.RING_BASE).toNat + 160 * (s.hub Reg.Smp.RING_ENTRIES).toNat ∨
      fld (s.hub Reg.Diag.TRACE_SPLIT) 4 0 * 262144 < (s.hub Reg.Smp.RING_BASE).toNat + 160 * (s.hub Reg.Smp.RING_ENTRIES).toNat) := by omega
  simp only [State.smpEnable, if_neg fits, he, Bool.false_eq_true, if_false, b2n, Nat.zero_mul, Nat.add_zero]

section

variable {d c : Nat} {v : Word} (ht : t = s.writeReg (pgPort d) Reg.Port.SAMPLE_CFG c 0 (BitVec.ofNat 64 v.toNat))

include ht

theorem sampleCfg_of_off (he : bit (t.rgi (pgPort d) Reg.Port.SAMPLE_CFG c) 31 = false) : s.sampleCfg d c v = t := by
  subst ht
  simp only [State.sampleCfg, he, Bool.false_eq_true, false_and, if_false]

theorem sampleCfg_of_on (he : bit (t.rgi (pgPort d) Reg.Port.SAMPLE_CFG c) 31 = true)
    (hw : bit (s.rgi (pgPort d) Reg.Port.SAMPLE_CFG c) 31 = false) :
    s.sampleCfg d c v = (t.nextGap d (t.rgi (pgPort d) Reg.Port.SAMPLE_CFG c)).2.setGap d c
      (t.nextGap d (t.rgi (pgPort d) Reg.Port.SAMPLE_CFG c)).1 := by
  subst ht
  simp only [State.sampleCfg, he, hw, Bool.false_eq_true, not_false_eq_true, and_self, if_true]

end

end

/-- Settles O28: each command in the branch that its premises name. That a policer write keeps its byte counters, and the order of its
checks, are log entry 72; how messages of several cells cross is log entry 70: the model's choices. -/
theorem deckCommandsComplete : Obligations.DeckCommandsComplete := by
  unfold Obligations.DeckCommandsComplete
  refine ⟨?_, ?_, ?_, ?_, ?_, ?_, ?_, ?_, ?_, ?_, ?_, ?_, ?_, ?_, ?_, ?_, ?_, ?_⟩
  · exact fun s p vc e h => sealed_settle (landingAdmit_of_empty h)
  · intro s t p vc e c i rest v hq hm hv hl hc ht ho
    have noLine : ∀ r, i.msg = .req r → s.lineWaits p.val r = false := fun r h => nomatch hm.symm.trans h
    exact sealed_settle ((landingAdmit_of_cmp hq hm).trans (landMove_of_room noLine hv hl hc ht ho))
  · intro s u t p vc e r i rest v hq hm hh hoff hu hv hw hl hc ht ho
    subst hu
    have line : ∀ q, i.msg = .req q → (s.setLanding p.val vc.val (i :: rest)).lineWaits p.val q = false := by
      intro q h
      obtain rfl : r = q := Msg.req.inj (hm.symm.trans h)
      exact hw
    exact sealed_settle ((landingAdmit_of_req hq hm hh hoff).trans (landMove_of_room line hv hl hc ht ho))
  · intro s t g w v k ok ho ht hk
    have stored : t = BufferLimits.storeLimit s (pgPort g.val) v w := ht.trans (by cases w <;> rfl)
    have acts := atPage_of_open s _ _ _ (fun s => s.limitWrite g.val w v) ho
    exact sealed_of_eq (acts.trans (BufferLimits.limitWrite_of_check stored rfl rfl rfl rfl rfl hk))
  · exact fun s g i w0 w1 w2 w3 ho hb hi h0 h1 h2 h3 ha hd hr =>
      sealed_of_eq ((polCmd_of_idle _ ho hb).trans (polWrite_of_legal hi h0 h1 h2 h3 ha hd hr))
  · intro s g i ho hb
    refine ⟨fun hi => ?_, fun hi => ?_, fun hi => ?_, fun hi => ?_⟩
    · exact sealed_of_eq ((polCmd_of_idle _ ho hb).trans (polRead_of_policer hi))
    · exact sealed_of_eq ((polCmd_of_idle _ ho hb).trans (polCounters_of_policer hi))
    · exact sealed_of_eq ((polCmd_of_idle _ ho hb).trans (polMapWrite_of_entry hi))
    · exact sealed_of_eq ((polCmd_of_idle _ ho hb).trans (polMapRead_of_entry hi))
  · intro s g i ho hb hi c hc
    have past : 1024 ≤ i.toNat := le_trans (by norm_num) hi
    simp only [List.mem_cons, List.not_mem_nil, or_false] at hc
    rcases hc with rfl | rfl | rfl | rfl | rfl
    · exact sealed_of_eq ((polCmd_of_idle _ ho hb).trans (if_pos past))
    · exact sealed_of_eq ((polCmd_of_idle _ ho hb).trans (if_pos past))
    · exact sealed_of_eq ((polCmd_of_idle _ ho hb).trans (if_pos past))
    · exact sealed_of_eq ((polCmd_of_idle _ ho hb).trans (if_pos hi))
    · exact sealed_of_eq ((polCmd_of_idle _ ho hb).trans (if_pos hi))
  · rintro s _ _ k _ _ again rfl rfl rfl rfl
    rfl
  · exact fun s t i o c k q hs hm ht hi => sealed_of_eq (stuckReport_of_first hs hm ht hi)
  · intro s t d hp hd ht
    have acts := atPage_of_open s _ _ _ (fun s => s.adminWrite d.val true) hp
    refine ⟨fun h => ?_, fun h h' => ?_, fun h => ?_⟩
    · exact sealed_settle (acts.trans ((adminWrite_of_up hd ht).trans (if_pos h)))
    · exact sealed_settle (acts.trans (adminWrite_unit hd ht h h'))
    · rw [h] at hd ht
      refine sealed_settle (acts.trans ?_)
      rw [h]
      exact adminWrite_hub hd ht
  · exact fun s d hp => sealed_settle ((atPage_of_open s _ _ _ _ hp).trans (adminWrite_up d.val))
  · exact fun s x hf hw => sealed_settle (flushEnd_port hf hw)
  · exact fun s d r hf hw hr => sealed_settle (flushEnd_deck hf hw hr)
  · exact fun s t g o he ho hn ht => sealed_of_eq (histSample_of_one he ho hn ht)
  · exact fun s g ho => sealed_of_eq (atPage_of_open s _ _ _ _ ho)
  · exact fun s hm hs he => sealed_of_eq (smpEnable_of_fits hm hs he)
  · intro s t d c v ho ht
    have acts := atPage_of_open s _ _ _ (fun s => s.sampleCfg d.val c.val v) ho
    exact ⟨fun he => sealed_of_eq (acts.trans (sampleCfg_of_off ht he)), fun he hw => sealed_of_eq (acts.trans (sampleCfg_of_on ht he hw))⟩
  · exact fun s v => rfl

end Sys2Proof.Proofs.DeckCommands

/-!
The Heddles: batches, rows, scans, tables and migrations (R247-R280).
-/
namespace Sys2Proof.Proofs.HeddleCommands

open Sys2Proof Sys2Proof.Machine Sys2Proof.Laws.State
open Sys2Proof.Proofs.LinkCommands (sealed_settle)
open Sys2Proof.Proofs.TrayCommands (sealed_of_eq)
open Sys2Proof.Proofs.ClearingReads (pageBlocked_of_open touchPage_of_none)

section

variable {s u v : State} {t : TaskRef} {h : HedTask} {x : TaskSt}

/-! ### Tasks (R255, R258, R263, R275) -/

section

variable (hh : s.hedTask t = some h) (hs : h.stage = 0) (hf : s.hedFirst h = true) (hr : s.hedReady h.lead = true)

include hh hs hf hr

/-- R255: the first task that waits at a lead that is ready is begun. -/
theorem hedStart_of_first {kind : Nat} (hk : h.kind = kind) (hb : s.beginTask t kind = some (x, u))
    (hv : v = u.bump (pgHed h.lead) (if kind = 3 then Reg.Hed.GATHER_CNT else if kind = 4 then Reg.Hed.UPDATE_CNT else Reg.Hed.FILTER_CNT))
    (hok : (if kind = 3 then gatherOk x.body else if kind = 4 then updateOk x.body else (FilterBody.parse x.body).isSome) = true) {a : Nat}
    (ha : (∃ r, h.ver.bind v.verRec = some r ∧ r.addr = a) ∨ (h.ver = none ∧ bitsAt x.body 0x18 8 48 = a)) :
    s.hedStart t kind = ((v.setHed { h with stage := 1 }).startBatch (.hedLists t) [(24 + h.lead, v.regionRead a)]).2 := by
  have begins : ¬(h.stage ≠ 0 ∨ h.kind ≠ kind ∨ (!s.hedFirst h) = true ∨ (!s.hedReady h.lead) = true) := by simp [hs, hk, hf, hr]
  simp only [State.hedStart, hh, if_neg begins, hb, hok, Bool.not_true, Bool.false_eq_true, if_false, ← hv]
  rcases ha with ⟨r, hver, rfl⟩ | ⟨hver, rfl⟩
  · simp only [hver]
  · simp only [hver, Option.bind_none]

variable {r : VerRec}

theorem hedStart_gather (hver : h.ver.bind (fun i => v.verRec i) = some r) (hk : h.kind = 3) (hb : s.beginTask t 3 = some (x, u))
    (hok : gatherOk x.body = true) (hv : v = u.bump (pgHed h.lead) Reg.Hed.GATHER_CNT) : s.hedStart t 3 =
      ((v.setHed { h with stage := 1 }).startBatch (.hedLists t) [(24 + h.lead, v.regionRead r.addr)]).2 :=
  hedStart_of_first hh hs hf hr hk hb hv hok (.inl ⟨r, hver, rfl⟩)

theorem hedStart_update (hver : h.ver.bind (fun i => v.verRec i) = some r) (hk : h.kind = 4) (hb : s.beginTask t 4 = some (x, u))
    (hok : updateOk x.body = true) (hv : v = u.bump (pgHed h.lead) Reg.Hed.UPDATE_CNT) : s.hedStart t 4 =
      ((v.setHed { h with stage := 1 }).startBatch (.hedLists t) [(24 + h.lead, v.regionRead r.addr)]).2 :=
  hedStart_of_first hh hs hf hr hk hb hv hok (.inl ⟨r, hver, rfl⟩)

theorem hedStart_filter {f : FilterBody} (hn : h.ver = none) (hk : h.kind = 5) (hb : s.beginTask t 5 = some (x, u))
    (hp : FilterBody.parse x.body = some f) (hv : v = u.bump (pgHed h.lead) Reg.Hed.FILTER_CNT) : s.hedStart t 5 =
      ((v.setHed { h with stage := 1 }).startBatch (.hedLists t) [(24 + h.lead, v.regionRead (bitsAt x.body 0x18 8 48))]).2 :=
  hedStart_of_first hh hs hf hr hk hb hv (by simp [hp]) (.inr ⟨hn, rfl⟩)

end

/-- R259, R263, R264: an update whose indices are in range and whose POOL range is large enough begins, or waits for its slots. -/
theorem sortDone_update {g : HedTask} {b : HedBody} {d : TableDesc} (hh : s.hedTask t = some h) (hx : s.task t = some x) (hs : h.stage = 2)
    (hq : (s.hed.sorter.find? (fun q => q.1 = h.lead)).map Prod.snd = some t) (hk : h.kind = 4) (hb : b = HedBody.ofLine x.body)
    (hd : d = TableDesc.ofLine (h.desc.getD 0)) (hi : (h.indices b).any (fun v => (d.named v).isNone) = false)
    (hu : u = (State.addN { s with hed := { s.hed with sorter := s.hed.sorter.filter (fun q => q.2 ≠ t) } } (pgHed h.lead)
      Reg.Hed.IDX_CNT b.nidx).addN (pgHed h.lead) Reg.Hed.SORT_CYC_CNT ((b.nidx + 15) / 16)) (hn : h.poolNeed x ≤ u.poolSlots h.comp)
    (hg : g = { h with rows := d.rowsOf (h.indices b) }) : s.sortDone t =
      if u.poolWaits g x = true then
        State.setHed { u with hed := { u.hed with poolQ := u.hed.poolQ ++ [t] } } { g with stage := 6, since := u.now }
      else u.hedRun g x := by
  have first : ¬(h.stage ≠ 2 ∨ (s.hed.sorter.find? (fun q => q.1 = h.lead)).map Prod.snd ≠ some t) :=
    not_or.mpr ⟨not_not_intro hs, not_not_intro hq⟩
  have noGather : ¬h.kind = 3 := by omega
  subst hb hd hg
  simp only [State.sortDone, hh, hx, if_neg first, ← hu, hi, Bool.false_eq_true, if_false, noGather, false_and, if_neg (Nat.not_lt.mpr hn)]

/-- R260: a row whose fetch may be made again, and has not been as often as HED_CFG allows. -/
theorem fetchDone_again {i : Nat} {r : HedRow} {o : RowOp} {st : Status} (hh : s.hedTask t = some h) (hx : s.task t = some x)
    (hi : h.rows[i]? = some r) (ho : r.op.bind (fun k => s.rowOp k) = some o) (hf : o.fin = some st) (ha : fetchAgain st = true)
    (hl : r.tries < fld ((s.dropRowOp o.id).rg (pgHed h.lead) Reg.Hed.HED_CFG) 3 0) : s.fetchDone t i =
      ((s.dropRowOp o.id).bump (pgHed h.lead) Reg.Hed.FETCH_RETRY_CNT).fetchRow h i { r with tries := r.tries + 1 }
        (TableDesc.ofLine (h.desc.getD 0)).size := by
  simp only [State.fetchDone, hh, hx, hi, ho, hf, ha, hl, and_self, if_true]

/-! ### Row updates (R262) -/

section

variable {q : RowUpd} (hq : s.hed.upds = [q])

include hq

/-- The only row update is found by its number, and leaves none. -/
theorem upds_of_one : s.hed.upds.find? (fun w => w.id = q.id) = some q ∧ s.hed.upds.filter (fun w => w.id ≠ q.id) = [] := by simp [hq]

theorem rowUpdate_of_down (hb : s.bayUp ((s.homeBay q.place).getD 0) = false) :
    s.rowUpdate q.id = State.updateEnds { s with hed := { s.hed with upds := [] } } q .portDown := by
  obtain ⟨found, rest⟩ := upds_of_one hq
  simp only [State.rowUpdate, found, rest, hb, Bool.not_false, if_true]

theorem rowUpdate_of_lines {k : Nat} {r : RowOp} (hb : s.bayUp ((s.homeBay q.place).getD 0) = true) (hm : s.hed.migs = [])
    (hp : s.placeRow q.ver q.phys = q.place) (ho : q.uop = 1) (hz : q.size % 64 = 0) (ha : q.place % 64 = 0)
    (hn : State.newRowOp { s with hed := { s.hed with upds := [] } } (.update q) q.comp q.place q.size = (k, v)) (hk : v.rowOp k = some r) :
    s.rowUpdate q.id = v.setRowOp { r with writing := true, wr := r.writes q (q.data.map (fun v => BitVec.ofNat 8 v)) } := by
  obtain ⟨found, rest⟩ := upds_of_one hq
  have noAcc : ¬(q.acc = true ∧ q.uop = 2) := fun h => by omega
  have here : ¬q.place ≠ q.place := not_not_intro rfl
  have noMig : s.hed.migs.find? (fun m => m.ver = q.ver && m.row = q.phys && m.src = q.place) = none := by rw [hm]; rfl
  have lines : q.uop = 1 ∧ q.size % 64 = 0 ∧ q.place % 64 = 0 := ⟨ho, hz, ha⟩
  simp only [State.rowUpdate, found, rest, hb, Bool.not_true, Bool.false_eq_true, if_false, noMig, hp, if_neg here, if_neg noAcc,
    Nat.add_zero, hn, hk, if_pos lines]

end

/-- R275: a Bay whose records have all been read has scanned them, while others have not. -/
theorem scanDone_of_more {n : Nat} {f : FilterBody} {mine : List (Nat × RowOp)} (hh : s.hedTask t = some h) (hx : s.task t = some x)
    (hp : FilterBody.parse x.body = some f) (hm : (s.scanOps t).filter (fun p => p.2.bay = n) = mine) (hc : h.scans.contains n = true)
    (hf : mine.any (fun p => p.2.fin.isNone) = false) (ho : h.scans.filter (fun m => m ≠ n) ≠ []) :
    s.scanDone t n = (s.addN (pgHed n) Reg.Hed.SCAN_BYTE_CNT (mine.length * f.size)).setHed
      { h with scans := h.scans.filter (fun m => m ≠ n) } := by
  have body : (s.task t).bind (fun x => FilterBody.parse x.body) = some f := by rw [hx]; exact hp
  have read : ¬((!h.scans.contains n) = true ∨ mine.any (fun p => p.2.fin.isNone) = true) := by
    rw [hc, hf]
    simp
  simp only [State.scanDone, hh, body, hm, if_neg read, if_pos ho]

/-! ### Tables (R251, R278) -/

section

variable {c i : Nat} (hb : s.tblBusy = false)

include hb

theorem tblInstall_of_idle {a b : Nat} (ha : (s.hub Reg.HReg.TBL_ADDR).toNat = a)
    (hu : u = s.setHub Reg.HReg.TBL_STAT (BitVec.ofNat 64 (2 ^ 31)))
    (hv : u.startBatch .tblDesc [(hubIn, u.readReq (Fin.ofNat 256 c) a)] = (b, v)) :
    s.tblInstall c i = { v with hed := { v.hed with cmd := some { comp := c, tid := i, addr := a, batch := b } } } := by
  subst hu
  simp only [State.tblInstall, hb, Bool.false_eq_true, if_false, ha, hv]

theorem tblWithdraw_of_current {r : VerRec} (hr : s.curRec c i = some r) :
    s.tblWithdraw c i = ((s.setRec { r with state := 1 }).tblResult 0 0 0).retireRec r.id := by
  simp only [State.tblWithdraw, hb, Bool.false_eq_true, if_false, hr]

theorem tblQuery_of_current {r : VerRec} (hr : s.curRec c i = some r) : s.tblQuery c i = s.tblResult 0 1 r.count := by
  simp only [State.tblQuery, hb, Bool.false_eq_true, if_false, hr]

theorem tblWithdraw_of_none (hr : s.curRec c i = none) : s.tblWithdraw c i = s.tblResult 5 0 0 := by
  simp only [State.tblWithdraw, hb, Bool.false_eq_true, if_false, hr]

theorem tblQuery_of_none (hr : s.curRec c i = none) : s.tblQuery c i = s.tblResult 5 0 0 := by
  simp only [State.tblQuery, hb, Bool.false_eq_true, if_false, hr]

end

set_option maxRecDepth 4000 in
/-- R12: found by evaluating the search of the register tables. -/
theorem regWord_retPop : regWord pgHReg Reg.HReg.RET_POP.off = some (Reg.HReg.RET_POP, 0, false) := rfl

theorem view_retPop (s : State) : s.view pgHReg Reg.HReg.RET_POP 0 = BitVec.ofNat 64 s.retPop := by
  have shown : s.viewHub pgHReg Reg.HReg.RET_POP = some s.retPop := rfl
  rw [State.view, if_neg (by decide), if_neg (by decide), if_neg (by decide), if_neg (by decide), if_neg (by decide), shown]

theorem readClears_retPop (s : State) : s.readClears pgHReg Reg.HReg.RET_POP = s.retDrop := by
  rw [State.readClears, if_neg (by decide), if_pos rfl]

/-- R39: the page of a Hub register is open. -/
theorem pageBlocked_retPop (s : State) : s.pageBlocked (pgHReg * 4096 + Reg.HReg.RET_POP.off) = none :=
  pageBlocked_of_open (by decide) (by rw [State.pageState, if_pos (by decide)]) (by decide)

/-- R251: a read of RET_POP gives the oldest retired version and drops it. -/
theorem rcRead_retPop (hl : s.latches = []) (hs : s.staged = []) (m : Master) :
    s.rcRead m pgHReg Reg.HReg.RET_POP = s.retDrop.emit (.regRead m (BitVec.ofNat 64 s.retPop)) := by
  have hpg : (pgHReg * 4096 + Reg.HReg.RET_POP.off) / 4096 = pgHReg := by decide
  have hoff : (pgHReg * 4096 + Reg.HReg.RET_POP.off) % 4096 = Reg.HReg.RET_POP.off := by decide
  have hflash : pgHReg ≠ pgHub 0x2E := by decide
  have hw : Reg.HReg.RET_POP.wide = true := rfl
  have plain : s.latchFrac m pgHReg Reg.HReg.RET_POP = s := if_neg (by decide)
  simp [State.rcRead, State.weftRead, pageBlocked_retPop, hpg, hoff, hflash, hw, State.read8, regWord_retPop,
    touchPage_of_none hl hs, view_retPop, plain, readClears_retPop]

/-! ### The migration policy (R269) -/

section

variable {c : Nat} {w : DWord} {val : Word} (hc : fld (s.hub Reg.HReg.MIG_SEL) 7 0 = c)
  (hw : Reg.HReg.MIG_POLICY.written (s.rgb pgHReg Reg.HReg.MIG_POLICY c) (val.zeroExtend 64) = (w, false))

include hc hw

theorem migWrite_off (hv : fld val 31 30 = 0) (hm : fld w 31 30 = 0) :
    s.migWrite val = s.setReg pgHReg Reg.HReg.MIG_POLICY 0 c (setFld w 31 30 0) := by
  simp [State.migWrite, hc, hw, hv, hm]

theorem migWrite_on (ho : fld (s.rgb pgHReg Reg.HReg.MIG_POLICY c) 31 30 = 0) (hv : fld val 31 30 = 2) (hm : fld w 31 30 = 2)
    (ha : s.reg.cur.areaCause s.node c (s.migGranules c).1 (s.migGranules c).2 = 0) : s.migWrite val =
      State.clearSkew ((s.setReg pgHReg Reg.HReg.MIG_STAT 0 c 0).setReg pgHReg Reg.HReg.MIG_POLICY 0 c (setFld w 31 30 2)) c := by
  simp [State.migWrite, hc, hw, hv, hm, ho, ha]

end

/-! ### Skew windows and migrations (R270-R272) -/

/-- R270: one hot Bay with one candidate, and no redirected row. -/
theorem skewComp_of_one {c b : Nat} {q : Nat × Nat} (hb : s.upBays.filter (s.hotBay c) = [b])
    (hq : (s.candidates c b).take (fld (s.rgb pgHReg Reg.HReg.MIG_POLICY c) 23 16) = [q]) (hr : s.hed.redir = []) :
    s.skewComp c = s.migrateOne c q := by
  simp only [State.skewComp, hb, sortBy, List.foldr_cons, List.foldr_nil, insertBy, List.foldl_cons, List.foldl_nil, hq, hr, List.filter_nil]

theorem skewEnd_of_one {c : Nat} (hc : s.liveComps.filter (fun c => s.migMode c = 2) = [c]) :
    s.skewEnd = { s.skewComp c with hed := { (s.skewComp c).hed with win := [], hot := [] } } := by
  simp only [State.skewEnd, hc, List.foldl_cons, List.foldl_nil]

theorem skewEnd_of_none (hc : s.liveComps.filter (fun c => s.migMode c = 2) = []) :
    s.skewEnd = { s with hed := { s.hed with win := [], hot := [] } } := by
  simp only [State.skewEnd, hc, List.foldl_nil]

section

variable {m : Mig} (hm : s.mig m.id = some m)

include hm

theorem migCopy_of_begun (hp : m.phase = 0) (ho : s.hed.ops = []) :
    s.migCopy m.id = ((s.setMig { m with phase := 1 }).newRowOp (.copy m.id) m.comp m.src m.size).2 := by
  simp [State.migCopy, hm, hp, ho]

theorem migCopied_of_written {b : Nat} {cs : List Cmp} (hb : m.batch = some b) (hc : s.batchAll b = some cs) (hp : m.phase = 2)
    (hf : firstBad cs = .ok) (hl : s.now ≤ m.start + 3000) :
    s.migCopied m.id = (s.endBatch b).setMig { m with phase := 3, batch := none } := by
  simp [State.migCopied, hm, hb, hc, hp, hf, Nat.not_lt.mpr hl]

theorem migCommit_back (hp : m.phase = 3) (hb : m.back = true)
    (hu : u = (s.bump (pgHed m.o) Reg.Hed.MIG_OUT_CNT).bump (pgHed m.t) Reg.Hed.MIG_IN_CNT) : s.migCommit m.id =
      (State.bumpHub { u with hed := { u.hed with
        redir := u.hed.redir.filter (fun e => ¬(e.ver = m.ver ∧ e.row = m.row)), freed := u.hed.freed ++ [(m.src, m.size, u.now)] } }
          Reg.HReg.MIG_BACK_CNT).endMig m m.dst := by
  have read : ¬m.phase ≠ 3 := not_not_intro hp
  simp only [State.migCommit, hm, if_neg read, hb, if_true, ← hu]

theorem migAbort_of_early (hp : m.phase < 3) : s.migAbort m.id = s.abortMig m .timeout := by
  simp only [State.migAbort, hm, hp, if_true]

end

end

/-- Settles O35: each command in the branch that its premises name. What the table unit does beyond the rules is log entry 86, the model's
choice. -/
theorem heddleCommandsComplete : Obligations.HeddleCommandsComplete := by
  unfold Obligations.HeddleCommandsComplete
  refine ⟨?_, ?_, ?_, ?_, ?_, ?_, ?_, ?_, ?_, ?_, ?_, ?_, ?_, ?_, ?_, ?_, ?_, ?_, ?_⟩
  · intro s u v t h x r hh hs hf hr hver
    exact ⟨fun hk hb hok hv => sealed_settle (hedStart_gather hh hs hf hr hver hk hb hok hv),
      fun hk hb hok hv => sealed_settle (hedStart_update hh hs hf hr hver hk hb hok hv)⟩
  · exact fun s u v t h x f hh hs hf hr hn hk hb hp hv => sealed_settle (hedStart_filter hh hs hf hr hn hk hb hp hv)
  · exact fun s u t h g x b d hh hx hs hq hk hb hd hi hu hn hg => sealed_settle (sortDone_update hh hx hs hq hk hb hd hi hu hn hg)
  · exact fun s t i h x r o st hh hx hi ho hf ha hl => sealed_settle (fetchDone_again hh hx hi ho hf ha hl)
  · exact fun s q hq hb => sealed_settle (rowUpdate_of_down hq hb)
  · exact fun s v q k r hq hb hm hp ho hz ha hn hk => sealed_settle (rowUpdate_of_lines hq hb hm hp ho hz ha hn hk)
  · exact fun s t n h x f mine hh hx hp hm hc hf ho => sealed_settle (scanDone_of_more hh hx hp hm hc hf ho)
  · exact fun s t u c i a b hb ha ht hu => sealed_settle (tblInstall_of_idle hb ha ht hu)
  · exact fun s c i r hb hr => ⟨sealed_settle (tblWithdraw_of_current hb hr), sealed_of_eq (tblQuery_of_current hb hr)⟩
  · exact fun s c i hb hr => ⟨sealed_settle (tblWithdraw_of_none hb hr), sealed_of_eq (tblQuery_of_none hb hr)⟩
  · exact fun s m hl hs => sealed_of_eq (rcRead_retPop hl hs m)
  · exact fun s v c w hc hw hv hm => sealed_of_eq (migWrite_off hc hw hv hm)
  · exact fun s v c w hc hw ho hv hm ha => sealed_of_eq (migWrite_on hc hw ho hv hm ha)
  · intro s t c b q hc hb hq hr ht
    have chosen : s.skewComp c = t := (skewComp_of_one hb hq hr).trans ht.symm
    refine sealed_settle ((skewEnd_of_one hc).trans ?_)
    rw [chosen]
  · exact fun s hc => sealed_settle (skewEnd_of_none hc)
  · exact fun s m hm hp ho => sealed_settle (migCopy_of_begun hm hp ho)
  · exact fun s m b cs hm hb hc hp hf hl => sealed_settle (migCopied_of_written hm hb hc hp hf hl)
  · exact fun s t m hm hp hb ht => sealed_settle (migCommit_back hm hp hb ht)
  · exact fun s m hm hp => sealed_settle (migAbort_of_early hm hp)

end Sys2Proof.Proofs.HeddleCommands

/-!
What an action leaves standing of the fences (R475, R483): what was held in reset stays held, and what was retired stays retired. The list of
the retired Bays lies at offset 0x44 of its page, so of all registers only those at that offset of a page can lie where it does.
-/
namespace Sys2Proof.Proofs.FencesStand

open Sys2Proof Sys2Proof.Machine
open Sys2Proof.Proofs.DeckFrame (get_set_of_ne Beside)
open Sys2Proof.Proofs.DeckFrame.Beside (deckPage)

/-- Where BAY_RETIRED lies. -/
def retiredKey : Nat := regKey pgFlt Reg.Flt.BAY_RETIRED.off 0

/-- What was held is held, and what was retired is retired. -/
structure Stands (s t : State) : Prop where
  held : ∀ u ∈ s.held, u ∈ t.held
  retired : ∀ n, s.retired n = true → t.retired n = true

theorem retired_congr {s t : State} (h : SMap.get (fun _ => 0) t.regs retiredKey = SMap.get (fun _ => 0) s.regs retiredKey) (n : Nat) :
    t.retired n = s.retired n :=
  congrArg (bit · n) h

/-- Does element i of a register lie within a page, at another offset than BAY_RETIRED? -/
def apart (r : RegSpec) (i : Nat) : Bool := decide (r.off + r.stride * i < 4096 ∧ r.off + r.stride * i ≠ 0x44)

/-- A register at another offset of its page lies elsewhere. -/
theorem regKey_ne_retiredKey {pg off bank : Nat} (ho : off < 4096) (hn : off ≠ 0x44) : regKey pg off bank ≠ retiredKey := by
  have key : retiredKey = 4672 * 4096 + 0x44 := by decide
  rw [key]
  unfold regKey
  omega

/-- What is written over another value than an unlisted key's is read back. -/
theorem get_set_of_ne_default {α : Type} [DecidableEq α] (d : Nat → α) (m : SMap α) {k : Nat} {v : α} (h : v ≠ d k) :
    SMap.get d (SMap.set d m k v) k = v := by
  induction m with
  | nil => simp [SMap.set, SMap.get, h]
  | cons a m ih =>
    obtain ⟨j, w⟩ := a
    simp only [SMap.set, h, if_false]
    split_ifs with hlt heq
    · simp [SMap.get]
    · simp [SMap.get]
    · simp [SMap.get, heq, ih]

/-- A home tracker's page is not the one that holds BAY_RETIRED. -/
theorem regKey_pgHome_ne {n off bank : Nat} (ho : off < 4096) : regKey (pgHome n) off bank ≠ retiredKey := by
  have key : retiredKey = 4672 * 4096 + 0x44 := by decide
  rw [key]
  unfold regKey pgHome pgBay pageOf
  omega

/-- Dropping other keys leaves a key as it reads. -/
theorem get_drop_of_not {α : Type} (d : Nat → α) (p : Nat → Bool) (m : SMap α) {k : Nat} (h : p k = false) :
    SMap.get d (SMap.drop p m) k = SMap.get d m k := by
  induction m with
  | nil => rfl
  | cons a m ih =>
    obtain ⟨j, v⟩ := a
    unfold SMap.drop at ih ⊢
    by_cases hj : p j = true
    · have hk : k ≠ j := fun e => by simp [e, hj] at h
      simpa [hj, SMap.get, hk] using ih
    · simp [hj, SMap.get, ih]

/-! ### Bits that are set -/

section

variable (v : DWord) (n : Nat)

theorem setBit_true : setBit v n true = (v &&& ~~~BitVec.ofNat 64 (2 ^ n)) ||| BitVec.ofNat 64 (2 ^ n) := by
  simp [setBit, setFld]

theorem bit_setBit_of_bit {j : Nat} (h : bit v j = true) : bit (setBit v n true) j = true := by
  rw [bit, BitVec.testBit_toNat] at h ⊢
  have hj := BitVec.lt_of_getLsbD h
  rw [setBit_true]
  simp [h, hj]

theorem bit_setBit_same (hn : n < 64) : bit (setBit v n true) n = true := by
  rw [bit, BitVec.testBit_toNat, setBit_true]
  simp only [BitVec.getLsbD_or, BitVec.getLsbD_ofNat, Nat.testBit_two_pow_self, hn, decide_true, Bool.and_self, Bool.or_true]

theorem setBit_ne_zero (hn : n < 64) : setBit v n true ≠ 0 := fun h => by
  have := bit_setBit_same v n hn
  simp [h, bit] at this

/-- A bit set in a register of the Hub that resets to 0 reads as set. -/
theorem hub_setBit {s : State} {r : RegSpec} (h0 : r.reset = 0) (hn : n < 64) :
    (s.setHub r (setBit v n true)).hub r = setBit v n true :=
  get_set_of_ne_default _ _ (by rw [h0]; exact setBit_ne_zero v n hn)

end

namespace Stands

theorem of_regs {s t : State} (hh : t.held = s.held)
    (hr : SMap.get (fun _ => 0) t.regs retiredKey = SMap.get (fun _ => 0) s.regs retiredKey) : Stands s t :=
  ⟨by rw [hh]; exact fun _ h => h, fun n h => (retired_congr hr n).trans h⟩

/-- An update of other fields. -/
theorem of_eq {s t : State} (h : (t.held, t.regs) = (s.held, s.regs)) : Stands s t := by
  obtain ⟨hh, hr⟩ := Prod.mk.inj h
  exact of_regs hh (by rw [hr])

theorem refl (s : State) : Stands s s := of_eq (by rfl)

theorem trans {a b c : State} (h : Stands a b) (k : Stands b c) : Stands a c :=
  ⟨fun u hu => k.held u (h.held u hu), fun n hn => k.retired n (h.retired n hn)⟩

theorem ite {c : Prop} [Decidable c] {s a b : State} (ha : Stands s a) (hb : Stands s b) : Stands s (if c then a else b) := by
  split
  · exact ha
  · exact hb

theorem iteSnd {α : Type} {c : Prop} [Decidable c] {s : State} {a b : α × State} (ha : Stands s a.2) (hb : Stands s b.2) :
    Stands s (if c then a else b).2 := by
  split
  · exact ha
  · exact hb

theorem foldl {α : Type} {f : State → α → State} : ∀ (xs : List α) (s : State),
    (∀ s, ∀ x ∈ xs, Stands s (f s x)) → Stands s (xs.foldl f s)
  | [], s, _ => refl s
  | x :: xs, s, h => (h s x List.mem_cons_self).trans (foldl xs (f s x) fun s y hy => h s y (List.mem_cons_of_mem x hy))

/-- What happens beside the pages of the Deck and the Piers reaches neither. -/
theorem of_beside {s t : State} (h : Beside deckPage s t) : Stands s t :=
  of_regs h.held (h.regs pgFlt Reg.Flt.BAY_RETIRED.off 0 _ (by decide) (by decide) (by unfold deckPage; decide))

/-! ### Registers -/

theorem setReg_of_key (s : State) {pg i bank : Nat} {r : RegSpec} (v : DWord) (h : regKey pg (r.off + r.stride * i) bank ≠ retiredKey) :
    Stands s (s.setReg pg r i bank v) := of_regs rfl (get_set_of_ne _ _ _ _ h.symm)

variable (s : State)

theorem setReg {pg i bank : Nat} {r : RegSpec} (v : DWord) (h : apart r i) : Stands s (s.setReg pg r i bank v) :=
  setReg_of_key s v (regKey_ne_retiredKey (of_decide_eq_true h).1 (of_decide_eq_true h).2)

theorem count {pg i bank : Nat} {r : RegSpec} (n : Nat) (h : apart r i) : Stands s (s.count pg r i bank n) := ite (refl s) (setReg s _ h)

theorem bump {pg : Nat} {r : RegSpec} (h : apart r 0) : Stands s (s.bump pg r) := count s 1 h

theorem addN {pg n : Nat} {r : RegSpec} (h : apart r 0) : Stands s (s.addN pg r n) := count s n h

theorem setN {pg v : Nat} {r : RegSpec} (h : apart r 0) : Stands s (s.setN pg r v) := setReg s _ h

theorem bumpHub {r : RegSpec} (h : apart r 0) : Stands s (s.bumpHub r) := count s 1 h

theorem recordFirst {pg n v a : Nat} {info addr : RegSpec} (hi : apart info 0) (ha : apart addr 0) :
    Stands s (s.recordFirst pg info addr n v a) :=
  ite (refl s) ((setN s hi).trans (setN _ ha))

/-! ### Errors and events (R519, R521) -/

theorem emit (o : Output) : Stands s (s.emit o) := of_eq (by rfl)

theorem raiseAlert : Stands s s.raiseAlert := ite (refl s) (of_eq (by rfl))

theorem recordErr (pg b : Nat) (inj : Bool) (info : Nat) : Stands s (s.recordErr pg b inj info) := by
  have captured (u : State) : Stands u (u.captureErr pg b inj info) := (setN u (by decide)).trans (setN _ (by decide))
  unfold State.recordErr
  dsimp only
  refine ite (refl s) ?_
  exact (((setReg s _ (r := Reg.Hdr.ERR_STAT) (by decide)).trans (ite (refl _) (captured _))).trans
    (ite ((emit _ _).trans (emit _ _)) (refl _))).trans (ite (raiseAlert _) (refl _))

theorem markDevEvent : Stands s s.markDevEvent := by
  unfold State.markDevEvent
  dsimp only
  refine ite (refl s) (.trans (.trans (of_eq (by rfl)) (bumpHub { s with devMs := s.ms + 1 } (by decide))) (foldl _ _ fun u e _ => ?_))
  exact count u 1 (by decide)

theorem setErr (pg b info : Nat) : Stands s (s.setErr pg b info) :=
  (recordErr s pg b false info).trans (ite (refl _) (markDevEvent _))

theorem notify (code log : Nat) (data : List Nat) : Stands s (s.notify code log data) := by
  unfold State.notify
  dsimp only
  exact ite (of_eq (by rfl)) (.trans (of_eq (by rfl)) ((bumpHub _ (by decide)).trans (emit _ _)))

theorem faultLog (cls action kind inst : Nat) : Stands s (s.faultLog cls action kind inst) := by
  have entry : fld (s.hub Reg.Flt.FAULT_LOG_IDX) 3 0 < 16 := Nat.mod_lt _ (by decide)
  unfold State.faultLog
  refine (setReg s _ (decide_eq_true ⟨?_, ?_⟩)).trans (setReg _ _ (by decide))
  · show 0x100 + 8 * _ < 4096
    omega
  · show 0x100 + 8 * _ ≠ 0x44
    omega

/-! ### Messages on their way (R77, R123, R166, R196) -/

section

variable (x : Nat)

theorem setLink (l : Link) : Stands s (s.setLink x l) := of_eq (by rfl)

theorem sendFlit (ftype seq : Nat) (slots : List Slot) : Stands s (s.sendFlit x ftype seq slots) := by
  have counted (u : State) : Stands u (u.bumpI (pgPier (x / 4)) Reg.Pier.TX_FLIT_CNT (x % 4)) :=
    count u 1 (decide_eq_true ⟨show 0x800 + 64 * (x % 4) < 4096 by omega, show 0x800 + 64 * (x % 4) ≠ 0x44 by omega⟩)
  have bits (u : State) (bs : List Byte) : Stands u (u.sendBits x bs) := by
    unfold State.sendBits
    dsimp only
    exact ite (of_eq (by rfl)) (of_eq (by rfl))
  unfold State.sendFlit
  dsimp only
  exact ((setLink s x _).trans (ite (counted _) (refl _))).trans ((emit _ _).trans (bits _ _))

theorem transmit (e : Egress) : Stands s (s.transmit x e) := by
  have stamped (u : State) (m : Msg) : Stands u (u.stampTx x m) := by
    unfold State.stampTx
    split
    · exact ite (bump u (by decide)) (of_eq (by rfl))
    · exact refl u
  have left (u : State) (m : Msg) : Stands u (u.leaves x m) := by
    unfold State.leaves
    split
    · exact refl u
    · exact (stamped u _).trans (emit _ _)
  exact (setLink s x _).trans (left _ e.msg)

theorem sendSlots (slots : List Slot) (ends : List (Nat × Nat)) : Stands s (s.sendSlots x slots ends) := by
  unfold State.sendSlots State.sendNew
  exact foldl _ s fun u _ _ => (setLink u x _).trans (sendFlit _ x _ _ _)

theorem pumpItems : ∀ (es : List Egress) (bl : List (Nat × Nat)) (ss : List Slot) (ends : List (Nat × Nat)) (s : State),
    Stands s (State.pumpItems x es bl ss ends s)
  | [], _, ss, ends, s => ite (refl s) (sendSlots s x ss ends)
  | e :: es, bl, ss, ends, s => by
    unfold State.pumpItems
    exact ite ((transmit s x e).trans (pumpItems es _ _ _ _)) ((setLink s x _).trans (pumpItems es _ _ _ _))

theorem toEgress (cells : Nat) (m : Msg) (mc : Option Nat) : Stands s (s.toEgress x cells m mc) :=
  ite (of_eq (by rfl)) ((setLink s x _).trans ((setLink _ x _).trans (pumpItems x _ _ _ _ _)))

end

theorem pushVoq (v : VoqItem) (h : v.tc < 8) : Stands s (s.pushVoq v) := of_beside (Beside.pushVoq s v h)

theorem sendPart (i x : Nat) (m : Msg) (mc : Option Nat) : Stands s (s.sendPart i x m mc) := by
  have tc : (s.outItem i x m mc).tc < 8 := Beside.msg_tc_lt m
  unfold State.sendPart
  exact ite (pushVoq s _ tc) (.trans (of_beside ((Beside.entered s _ tc).trans (Beside.crossed _ _ _ _))) (toEgress _ x _ m mc))

theorem sendFrom (i x : Nat) (m : Msg) : Stands s (s.sendFrom i x m) :=
  ite (emit s _) (ite (sendPart s i x m none) (foldl _ _ fun u p _ => sendPart u i x p none))

theorem complete (i p : Nat) (tag : BitVec 12) (c bad : Cmp) : Stands s (s.complete i p tag c bad) := by
  have tagError (u : State) : Stands u (u.tagError i) := (bump u (by decide)).trans (setErr _ _ _ _)
  have dpError (u : State) (o : Nat) : Stands u (u.dpError o) := (bump u (by decide)).trans (setErr _ _ _ _)
  unfold State.complete
  split
  · exact .trans (of_eq (by rfl)) (ite (tagError _) ((dpError _ _).trans (sendFrom _ _ _ _)))
  · exact sendFrom s _ _ _

/-- A request is answered, whoever asked. -/
theorem answerAt (i : Nat) (r : Req) (st : Status) (grant : Nat) (dw : Bool) (data : Option Line) :
    Stands s (s.answerAt i r st grant dw data) := by
  have admitted (n : Nat) : Stands s (s.admitAt i r.tc.toNat n) := of_beside (Beside.admitAt s i n r.tc.isLt)
  unfold State.answerAt
  split
  · exact (of_beside (Beside.markCap s _ r st)).trans (complete _ _ _ _ _ _)
  · exact (admitted _).trans (of_eq (by rfl))
  · exact of_eq (by rfl)
  · exact (admitted _).trans (of_eq (by rfl))

theorem refuse (r : Req) (st : Status) : Stands s (s.refuse r st) := answerAt s _ r st _ _ _

theorem submit (inp : Nat) (op : UnitOp) (r : Req) : Stands s (s.submit inp op r) := by
  have queued (u : State) (o : Nat) (m : Msg) : Stands u (u.enqueue inp o m) := pushVoq u _ (Beside.msg_tc_lt m)
  unfold State.submit
  refine ite (of_eq (by rfl)) ?_
  split
  · exact of_eq (by rfl)
  · exact ite (.trans (of_eq (by rfl)) (queued _ _ _)) (of_eq (by rfl))

theorem startBatch (owner : Owner) (rs : List (Nat × Req)) : Stands s (s.startBatch owner rs).2 := by
  have all (id : Nat) : ∀ (rs : List (Nat × Req)) (i : Nat) (u : State), Stands u (State.submitAll id i rs u) := by
    intro rs
    induction rs with
    | nil => exact fun _ u => refl u
    | cons q rs ih => exact fun i u => (submit u q.1 _ q.2).trans (ih (i + 1) _)
  exact .trans (of_eq (by rfl)) (all _ rs 0 _)

/-! ### A Bay's units go down (R259, R278, R316, R393) -/

theorem endPart (n k : Nat) (st : Status) : Stands s (s.endPart n k st) := by
  have counted : Stands s (s.countRun n k) := ite (count s _ (by decide)) (refl s)
  unfold State.endPart
  generalize s.countRun n k = u at counted ⊢
  dsimp only
  split
  · exact counted.trans (of_eq (by rfl))
  · exact counted.trans (of_eq (by rfl))

/-- R392: a fault of a cause that is not transient: no launch is begun again. -/
theorem spFault {cause : Nat} (h7 : cause ≠ 7) (h8 : cause ≠ 8) (n k : Nat) (st : Status) (addr : Nat) :
    Stands s (s.spFault n k cause st addr) := by
  have recorded (st : Status) (pc : Nat) : Stands s (s.spRecord n st cause false k pc addr) :=
    ite (refl s) (((setN s (by decide)).trans (setN _ (by decide))).trans (setN _ (by decide)))
  have counted (u : State) : Stands u (u.spCount n k Reg.Sp.FAULT_CNT 1) := count u 1 (by decide)
  simp only [State.spFault, h7, h8, or_self, decide_false, Bool.false_eq_true, false_and, if_false]
  split
  · exact ((recorded _ _).trans (counted _)).trans (endPart _ _ _ _)
  · exact ((recorded _ _).trans (counted _)).trans (endPart _ _ _ _)

theorem spStop (n k : Nat) : Stands s (s.spStop n k) := by
  unfold State.spStop
  exact ite (spFault s (by decide) (by decide) n k _ _) (ite (endPart s n k _) (refl s))

theorem combsDown (n : Nat) : Stands s (s.combsDown n) := by
  have flagged (u : State) (c : Comb) : Stands u (u.combFlag c hubIn .portDown) := ite (refl u) (submit u _ _ _)
  have ended (u : State) (c : Comb) : Stands u (u.combEnd c 3 hubIn .portDown) := by
    unfold State.combEnd
    exact (Stands.trans (of_eq (by rfl)) (bump _ (by decide))).trans (flagged _ _)
  exact foldl _ s fun u c _ => ended u c

theorem spBayDown (n : Nat) : Stands s (s.spBayDown n) := by
  unfold State.spBayDown
  refine ((foldl _ s fun u k _ => spStop u n k).trans (foldl _ _ fun u l _ => ?_)).trans (combsDown _ n)
  split
  · exact of_eq (by rfl)
  · exact refl u

theorem hedEnd (h : HedTask) (st : Status) : Stands s (s.hedEnd h st) := by
  have reported (u : State) : Stands u (u.report h.t st) := by
    unfold State.report
    split
    · exact ite (of_eq (by rfl)) (refl u)
    · exact refl u
  exact .trans (of_eq (by rfl)) (reported _)

theorem hedFault (n : Nat) (st : Status) (cause table comp fa : Nat) : Stands s (s.hedFault n st cause table comp fa) :=
  recordFirst s (by decide) (by decide)

theorem hedFlag (h : HedTask) (flag : Nat) (key : Word) (n : Nat) (st : Status) (wrote : Bool) :
    Stands s (s.hedFlag h flag key n st wrote) :=
  ite (hedEnd s h st) (.trans (of_eq (by rfl)) (startBatch (s.setHed _) _ _))

theorem updateEnds (u : RowUpd) (st : Status) : Stands s (s.updateEnds u st) := by
  unfold State.updateEnds
  split
  · split
    · exact refl s
    · exact .trans (ite (refl s) (hedFault s _ _ _ _ _ _)) (.trans (of_eq (by rfl)) (ite (hedFlag _ _ _ _ _ _ _) (refl _)))
  · exact refl s

theorem abortMig (m : Mig) (st : Status) : Stands s (s.abortMig m st) := by
  unfold State.abortMig
  have ends (u : State) : Stands u (u.endMig m m.src) := of_eq (by rfl)
  have batch (u : State) (b : Nat) : Stands u (u.endBatch b) := of_eq (by rfl)
  dsimp only
  split
  · exact (((bump s (by decide)).trans (hedFault _ _ _ _ _ _ _)).trans (batch _ _)).trans (ends _)
  · exact ((bump s (by decide)).trans (hedFault _ _ _ _ _ _ _)).trans (ends _)

theorem migsDown (n : Nat) : Stands s (s.migsDown n) := by
  unfold State.migsDown
  refine foldl _ s fun u m _ => ite ?_ (ite (abortMig u m _) (refl u))
  exact .trans (.trans (of_eq (by rfl)) (abortMig (u.setMig _) _ _)) (foldl _ _ fun v q _ => updateEnds v q _)

theorem hedDown (n : Nat) : Stands s (s.hedDown n) := .trans (of_eq (by rfl)) (foldl _ _ fun u h _ => hedEnd u h _)

theorem failRedBay (rid n : Nat) (st : Status) : Stands s (s.failRedBay rid n st) := by
  unfold State.failRedBay
  split
  · exact refl s
  · exact ite (.trans (of_eq (by rfl)) (bump (s.setRed _) (by decide))) (refl s)

theorem loomDown (n : Nat) : Stands s (s.loomDown n) := by
  unfold State.loomDown
  refine .trans (foldl _ s fun u r _ => ?_) (.trans (of_eq (by rfl)) (combsDown _ n))
  exact ite (foldl _ u fun v m _ => ite (refl v) (failRedBay v _ m _)) (refl u)

/-! ### A Deck port goes down (R138, R139) -/

theorem flushTo (i : Nat) : Stands s (s.flushTo i) := by
  unfold State.flushTo
  refine .trans (b := { s with voqs := s.voqs.filter (fun v => v.out ≠ i) }) (of_eq (by rfl)) (foldl _ _ fun u v _ => ?_)
  split
  · exact of_eq (by rfl)
  · exact (bump u (by decide)).trans (answerAt _ _ _ _ _ _ _)
  · exact emit u _

theorem emptyTrestle (sp : Nat) : Stands s (s.emptyTrestle sp) := by
  unfold State.emptyTrestle
  exact .trans (foldl _ s fun u id _ => (of_eq (by rfl) : Stands u (u.mapMc id _))) (of_eq (by rfl))

theorem deckDown (i : Nat) (unit : Bool) : Stands s (s.deckDown i unit) := by
  unfold State.deckDown
  dsimp only
  refine ite (refl s) ?_
  have flushed (u : State) (gone : List VoqItem) : Stands u (State.flushTo (gone.foldl (fun s v => match v.msg, v.mc with
      | .req r, none => s.refuse r .portDown
      | _, _ => s) u) i) := by
    refine .trans (foldl _ u fun w v _ => ?_) (flushTo _ i)
    split
    · exact refuse w _ _
    · exact refl w
  have emptied (u : State) : Stands u (if i < 24 then u else if i < 48 then (if unit then u.emptyBay (i - 24) else u)
      else if i < 52 then (if unit then u.emptyTrestle (i - 48) else u) else u) :=
    ite (refl u) (ite (ite (of_eq (by rfl)) (refl u)) (ite (ite (emptyTrestle u _) (refl u)) (refl u)))
  exact ((Stands.trans (of_eq (by rfl)) (addN _ (by decide))).trans (flushed _ _)).trans (emptied _)

theorem bayEnds (n : Nat) : Stands s (s.bayEnds n) :=
  ((((deckDown s _ _).trans (loomDown _ n)).trans (hedDown _ n)).trans (migsDown _ n)).trans (spBayDown _ n)

/-! ### Reductions (R222-R229) -/

theorem loomFault (n : Nat) (st : Status) (cause : Nat) (src : NodeId) (rid contrib : Nat) :
    Stands s (s.loomFault n st cause src rid contrib) := recordFirst s (by decide) (by decide)

theorem mismatch (n k : Nat) : Stands s (s.mismatch n k) := by
  have binned (u : State) : Stands u (u.binned (pgHub 0x24) Reg.Flt.RES_TBIN) := by
    have bin : (u.freshBelow 8).1 < 8 := Nat.mod_lt _ (by decide)
    refine Stands.trans (b := (u.freshBelow 8).2) (of_eq (by rfl)) (count _ 1 (decide_eq_true ⟨?_, ?_⟩))
    · show 0x890 + 8 * _ < 4096
      omega
    · show 0x890 + 8 * _ ≠ 0x44
      omega
  have raised (u : State) (e : Event) : Stands u (u.raise e) := of_eq (by rfl)
  have error : Stands s (s.residueError n k) :=
    (((Stands.trans (of_eq (by rfl)) (bump _ (by decide))).trans (binned _)).trans (setErr _ _ _ _)).trans (raised _ _)
  exact error.trans (foldl _ _ fun u r _ => (loomFault u _ _ _ _ _ _).trans (failRedBay _ _ _ _))

theorem setRed (r : Red) : Stands s (s.setRed r) := of_eq (by rfl)

theorem redOut (rid n : Nat) : Stands s (s.redOut rid n) := by
  unfold State.redOut
  split
  · exact of_eq (by rfl)
  · exact refl s

theorem startPush (rid n : Nat) : Stands s (s.startPush rid n) := by
  unfold State.startPush
  split
  · exact refl s
  · exact .trans (.trans (of_eq (by rfl)) (setRed s.fresh.2 _)) (foldl _ _ fun u p _ => (submit u _ _ _).trans (redOut _ _ _))

theorem sendResult (b : Reduce) (n : Nat) (p : Nat × BitVec 64 × Line) : Stands s (s.sendResult b n p) :=
  ite ((submit s _ _ _).trans (redOut _ _ _)) (ite ((submit s _ _ _).trans (redOut _ _ _)) (refl s))

theorem checkRedDone (rid n : Nat) : Stands s (s.checkRedDone rid n) := by
  unfold State.checkRedDone
  split
  · exact refl s
  · exact ite ((setRed s _).trans (bump _ (by decide))) (refl s)

theorem lineComplete (rid n i : Nat) (lost : Bool) : Stands s (s.lineComplete rid n i lost) := by
  have saturated (u : State) (k : Nat) : Stands u (u.saturated n k) := ite (refl u) ((addN u (by decide)).trans (setErr _ _ _ _))
  unfold State.lineComplete
  split
  · exact refl s
  · have counted (q : Red) : Stands s ((s.setRed q).bump (pgLoom n) Reg.Loom.LINE_DONE_CNT) := (setRed s q).trans (bump _ (by decide))
    have results (u : State) (b : Reduce) (ps : List (Nat × BitVec 64 × Line)) : Stands u (ps.foldl (fun s p => s.sendResult b n p) u) :=
      foldl _ u fun u p _ => sendResult u b n p
    dsimp only
    refine ite (ite (counted _) (ite ((counted _).trans (mismatch _ _ _)) ((counted _).trans (startPush _ _ _)))) (ite ?_ ?_)
    · exact (counted _).trans (mismatch _ _ _)
    · exact ((((counted _).trans (addN _ (by decide))).trans (saturated _ _)).trans (results _ _ _)).trans (checkRedDone _ _ _)

theorem addLine (b : Reduce) (n i : Nat) (d : Line) : Stands s (s.addLine b n i d) := by
  have added (u : State) (k : Nat) (v : Nat) : Stands u (u.setAcc n k b.pair v) := ite (of_eq (by rfl)) (of_eq (by rfl))
  exact foldl _ s fun u j _ => added u _ _

theorem redStore (n a o : Nat) (r : Req) (residue : Mismatch) : Stands s (s.redStore n a o r residue).2 := by
  have fault (u : State) (st : Status) (cause rid c : Nat) : Stands u (u.loomFault n st cause r.src rid c) := loomFault u _ _ _ _ _ _
  have missed (rid c : Nat) : Stands s ((s.bump (pgLoom n) Reg.Loom.RID_MISS_CNT).loomFault n .busyRetry 0x1 r.src rid c) :=
    (bump s (by decide)).trans (fault _ _ _ _ _)
  have read (red : Red) (i : Nat) : Stands s (s.redReading red n i o).2 := of_eq (by rfl)
  have twice (u : State) : Stands u (u.bump (pgLoom n) Reg.Loom.RSD_DUP_CNT) := bump u (by decide)
  have present (u : State) (b : Reduce) (i c : Nat) : Stands u (u.setPresent b n i c) := of_eq (by rfl)
  have stored (red : Red) (i c : Nat) : Stands s ((((s.redReading red n i o).2.addLine red.body n i r.data).setPresent red.body n i c).bump
      (pgLoom n) Reg.Loom.RSD_ADD_CNT) :=
    (((read red i).trans (addLine _ _ _ _ _)).trans (present _ _ _ _)).trans (bump _ (by decide))
  unfold State.redStore
  dsimp only
  split
  · exact missed _ _
  refine iteSnd (missed _ _) ?_
  split
  · exact fault s _ _ _ _
  · exact twice s
  refine iteSnd (fault s _ _ _ _) (iteSnd (fault s _ _ _ _) (iteSnd ((read _ _).trans (fault _ _ _ _ _)) ?_))
  refine iteSnd ((read _ _).trans (twice _)) (iteSnd ((read _ _).trans (mismatch _ _ _)) (iteSnd ?_ (stored _ _ _)))
  exact (stored _ _ _).trans (lineComplete _ _ _ _ _)

/-! ### The Trays (R196-R205) -/

theorem homeAnswer (n : Nat) (r : Req) (st : Status) (grant : Nat) (dw : Bool) (data : Option Line) :
    Stands s (s.homeAnswer n r st grant dw data) := by
  have code : st.code < 16 := by cases st <;> decide
  have counted : Stands s (s.bumpI (pgHome n) Reg.Home.STATUS_CNT st.code) :=
    count s 1 (decide_eq_true ⟨show 0x800 + 8 * st.code < 4096 by omega, show 0x800 + 8 * st.code ≠ 0x44 by omega⟩)
  unfold State.homeAnswer
  split
  · exact answerAt s _ _ _ _ _ _
  · exact counted.trans (answerAt _ _ _ _ _ _ _)

section

variable (t : TrayTxn)

theorem trayEnd (st : Status) (data : Option Line) : Stands s (s.trayEnd t st data) := by
  have ended (u : State) : Stands u (if st = .ok then u else u.bump (pgTray t.bay) Reg.Tray.TRAY_ERR_CNT) := ite (refl u) (bump u (by decide))
  have dropped : Stands s (s.dropTray t) := of_eq (by rfl)
  unfold State.trayEnd
  dsimp only
  split
  · exact (dropped.trans (ended _)).trans (homeAnswer _ _ _ _ _ _ _)
  · exact dropped.trans (ended _)

theorem trayRefuse (r : Req) (st : Status) : Stands s (s.trayRefuse t r st) :=
  Stands.trans (b := s.dropTray t) (of_eq (by rfl)) (homeAnswer _ _ _ _ _ _ _)

theorem setTray : Stands s (s.setTray t) := of_eq (by rfl)

theorem trayWrite (a : Nat) (l : Line) : Stands s (s.trayWrite t a l) := by
  have written : Stands s ((s.setTray { t with phase := .writing }).bump (pgTray t.bay) Reg.Tray.TRAY_WR_CNT) :=
    (setTray s _).trans (bump _ (by decide))
  unfold State.trayWrite
  exact ite ((written.trans (bump _ (by decide))).trans (sendFrom _ _ _ _)) (written.trans (sendFrom _ _ _ _))

theorem trayRequest (r : Req) : Stands s (s.trayRequest t r) := by
  have reads (u : State) : Stands u ((u.setTray { t with phase := .reading }).bump (pgTray t.bay) Reg.Tray.TRAY_RD_CNT) :=
    (setTray u _).trans (bump _ (by decide))
  unfold State.trayRequest
  refine ite (Stands.trans (b := s.dropTray t) (of_eq (by rfl)) (homeAnswer _ _ _ _ _ _ _)) (ite ((loomFault s _ _ _ _ _ _).trans (trayRefuse _ t r _))
    (ite ((redStore s _ _ _ _ _).trans (trayRefuse _ t r _)) (ite ?_ (trayWrite s t _ _))))
  exact ((ite (bump s (by decide)) (refl s)).trans (reads _)).trans (sendFrom _ _ _ _)

theorem trayStart : Stands s (s.trayStart t) := by
  unfold State.trayStart
  refine ite (trayEnd s t _ _) (ite (setTray s _) ?_)
  split
  · exact (setTray s _).trans (sendFrom _ _ _ _)
  · exact trayRequest s t _

end

theorem runTray : Stands s s.runTray := by
  have pumped : ∀ (k : Nat) (u : State), Stands u (State.pumpTray k u) := by
    intro k
    induction k with
    | zero => exact refl
    | succ k ih =>
      intro u
      unfold State.pumpTray
      split
      · exact (trayStart u _).trans (ih _)
      · exact refl u
  exact pumped _ s

theorem trayDown (x : Nat) : Stands s (s.trayDown x) :=
  .trans (foldl _ s fun u t _ => ite (of_eq (by rfl)) (trayEnd u t _ _)) (runTray _)

/-! ### The Trestle (R356-R370) -/

section

variable (x : Xfer)

theorem setXfer : Stands s (s.setXfer x) := of_eq (by rfl)

theorem recEndAll (xr : XRec) (a : RecAns) : Stands s (s.recEndAll x xr a) := by
  have recEnd (u : State) (q : Nat) (r : Req) : Stands u (u.recEnd x q r a.status a.grant a.dw a.data) :=
    .trans (ite (of_eq (by rfl)) (refl u)) (answerAt _ _ _ _ _ _ _)
  have mapped (u : State) (id : Nat) (f : McOut → McOut) : Stands u (u.mapMc id f) := of_eq (by rfl)
  have reqs (u : State) : Stands u (xr.reqs.foldl (fun s q => s.recEnd x q.1 q.2 a.status a.grant a.dw a.data) u) :=
    foldl _ u fun u q _ => recEnd u q.1 q.2
  unfold State.recEndAll
  dsimp only
  split
  · exact ((addN s (by decide)).trans (mapped _ _ _)).trans (reqs _)
  · exact (addN s (by decide)).trans (reqs _)

theorem xferDown : Stands s (s.xferDown x) :=
  .trans (Stands.trans (b := s.dropXfer x) (of_eq (by rfl)) (addN _ (by decide))) (foldl _ _ fun u r _ => recEndAll u x _ _)

theorem closeXfer : Stands s (s.closeXfer x) :=
  ite (refl s) (ite (xferDown s x) ((((setXfer s _).trans (bump _ (by decide))).trans (addN _ (by decide))).trans (sendFrom _ _ _ _)))

end

theorem closeAll (test : Xfer → Bool) : Stands s (s.closeAll test) := foldl _ s fun u x _ => closeXfer u x

section

variable (sp p : Nat)

theorem addRec (d src : NodeId) (mc : Bool) (trunk tgrp : Nat) (tc : BitVec 3) (xr : XRec) (alone : Bool) :
    Stands s (s.addRec sp p d src mc trunk tgrp tc xr alone) := by
  have opened (u : State) : Stands u (u.newXfer sp p d src mc trunk tgrp tc).2 := of_eq (by rfl)
  have added (u : State) (x : Xfer) : Stands u ((u.setXfer x).closeXfer x) := (setXfer u x).trans (closeXfer _ x)
  unfold State.addRec
  dsimp only
  split
  · split
    · exact .trans (ite (closeXfer s _) (refl s)) (ite (added _ _) (setXfer _ _))
    · exact ite (added s _) (setXfer s _)
  · split
    · exact .trans (ite (closeXfer s _) (refl s)) (.trans (opened _) (ite (added _ _) (setXfer _ _)))
    · exact (opened s).trans (ite (added _ _) (setXfer _ _))

theorem capSend (r : Req) (q : Nat) (waits : List (Nat × Option Status)) : Stands s (s.capSend sp p r q waits) := by
  unfold State.capSend
  split
  · exact (bump s (by decide)).trans (refuse _ _ _)
  · dsimp only
    split
    · exact refuse s _ _
    · exact addRec s _ _ _ _ _ _ _ _ _ _

theorem setFlow (f : Flow) : Stands s (s.setFlow f) := ite (of_eq (by rfl)) (of_eq (by rfl))

theorem trestleTake (r : Req) : Stands s (s.trestleTake sp p r) := by
  have waits (u : State) (c : TrCap) : Stands u { u with tr := { u.tr with caps := u.tr.caps ++ [c] } } := of_eq (by rfl)
  have capped : Stands s (s.trestleCap sp p r) := by
    unfold State.trestleCap
    dsimp only
    exact (setFlow s _).trans (ite (capSend _ _ _ _ _ _) (((closeAll _ _).trans (waits _ _)).trans (bump _ (by decide))))
  have recorded (e : Route) : Stands s (s.recordReq sp p r e) := by
    unfold State.recordReq
    split
    · exact refuse s _ _
    · dsimp only
      split
      · exact ((setFlow s _).trans (bump _ (by decide))).trans (setXfer _ _)
      · exact (setFlow s _).trans (addRec _ _ _ _ _ _ _ _ _ _ _)
  unfold State.trestleTake
  exact ite (refuse s _ _) (ite (of_eq (by rfl)) (ite capped (recorded _)))

theorem mcRemote (r : Req) (id : Nat) (d : NodeId) : Stands s (s.mcRemote sp p r id d) := by
  unfold State.mcRemote
  refine ite (of_eq (by rfl)) ?_
  split
  · exact of_eq (by rfl)
  · exact ((setFlow s _).trans (bumpHub _ (by decide))).trans (addRec _ _ _ _ _ _ _ _ _ _ _)

end

theorem runCaps : Stands s s.runCaps := by
  have pumped : ∀ (k : Nat) (u : State), Stands u (State.pumpCaps k u) := by
    intro k
    induction k with
    | zero => exact refl
    | succ k ih =>
      intro u
      unfold State.pumpCaps
      split
      · exact (Stands.trans (of_eq (by rfl)) (capSend _ _ _ _ _ _)).trans (ih _)
      · exact refl u
  exact pumped _ s

theorem endRemap (sp g : Nat) : Stands s (s.endRemap sp g) := by
  unfold State.endRemap
  refine ite (.trans (.trans (of_eq (by rfl)) (foldl _ _ fun u h _ => ?_)) (runCaps _)) (refl s)
  split
  · exact trestleTake u _ _ _
  · exact mcRemote u _ _ _ _ _

theorem beginRemap (sp g : Nat) (dest : Option Nat) : Stands s (s.beginRemap sp g dest) := by
  have begun : Stands s (s.bump (pgTr sp) Reg.Tr.REMAP_CNT) := bump s (by decide)
  have rerouted (u : State) : Stands u (u.bumpHub Reg.Trd.SCHED_REROUTE_CNT) := bumpHub u (by decide)
  unfold State.beginRemap
  dsimp only
  exact ((begun.trans (ite (rerouted _) (refl _))).trans (Stands.trans (of_eq (by rfl)) (closeAll _ _))).trans (endRemap _ sp g)

theorem trunkChanged (x : Nat) : Stands s (s.trunkChanged x) :=
  foldl _ s fun u g _ => ite (foldl _ u fun v sp _ => ite (refl v) (beginRemap v sp g none)) (refl u)

theorem trunkDown (x : Nat) : Stands s (s.trunkDown x) :=
  .trans (.trans (foldl _ s fun u t _ => xferDown u t) (of_eq (by rfl))) (runCaps _)

/-! ### A port and a Pier group go down (R138, R175, R445) -/

/-- R83: a sweep of every home tracker begins; its bits lie at BAY_RETIRED's offset, of other pages. -/
theorem startSweep (x : Nat) : Stands s (s.startSweep x) := by
  refine foldl _ s fun u n _ => ?_
  have swept (v : State) : Stands v (v.setF (pgHome n) Reg.Home.SWEEP_STAT 31 31 1) := setReg_of_key v _ (regKey_pgHome_ne (by decide))
  exact (Stands.trans (of_eq (by rfl)) (swept (u.setBay n _))).trans (setN _ (by decide))

theorem discardFrom (x : Nat) : Stands s (s.discardFrom x) := by
  have landed (u : State) (vc : Nat) (q : List LandItem) : Stands u (u.setLanding x vc q) := of_eq (by rfl)
  have freed (u : State) (vc n : Nat) : Stands u (u.freeSlots x vc n) := of_eq (by rfl)
  have cleared : Stands s ((List.range 8).foldl (fun s vc => s.setLanding x vc ((s.landingOf x vc).filter (fun i => i.msg.keepsMoving))) s) :=
    foldl _ s fun u vc _ => landed u vc _
  unfold State.discardFrom
  dsimp only
  generalize List.foldl _ s _ = u at cleared ⊢
  exact (cleared.trans (.trans (of_eq (by rfl)) (ite (refl _) (foldl _ _ fun v vc _ => ite (refl v) (freed v vc _))))).trans (addN _ (by decide))

theorem dropEgress (x : Nat) : Stands s (s.dropEgress x) := by
  have returned (u : State) (m : Msg) : Stands u (u.returnMsg x m) := by
    unfold State.returnMsg
    split
    · exact of_eq (by rfl)
    · exact emit u _
  exact .trans (of_eq (by rfl)) (foldl _ _ fun u m _ => returned u m)

theorem mcDown (x : Nat) : Stands s (s.mcDown x) := by
  have mapped (u : State) (id : Nat) (f : McOut → McOut) : Stands u (u.mapMc id f) := of_eq (by rfl)
  exact foldl _ s fun u m _ => (mapped u _ _).trans (bumpHub _ (by decide))

theorem portDown (x : Nat) : Stands s (s.portDown x) := by
  have gone (u : State) : Stands u (u.portGone x) :=
    ((((((discardFrom u x).trans (startSweep _ x)).trans (dropEgress _ x)).trans (mcDown _ x)).trans (trayDown _ x)).trans
      (trunkDown _ x)).trans (trunkChanged _ x)
  exact ite (refl s) (.trans (of_eq (by rfl)) (gone _))

theorem clearPier (p : Nat) (all : Bool) : Stands s (s.clearPier p all) := by
  have downs : Stands s ((s.pierPorts p).foldl (fun s x => if (s.link x).state.takes then s.portDown x else s) s) :=
    foldl _ s fun u x _ => ite (portDown u x) (refl u)
  have set (u : State) (v : PierSt) : Stands u (u.setPier p v) := of_eq (by rfl)
  have gates (u : State) : Stands u (u.clearGates p) := of_eq (by rfl)
  have spare (u : State) : Stands u (u.spareOff p) := ite (emit u _) (refl u)
  unfold State.clearPier
  dsimp only
  generalize List.foldl _ s _ = u at downs ⊢
  exact downs.trans (.trans (of_eq (by rfl)) (.trans (b := if all = true then _ else _) (ite ((spare _).trans (set _ _)) (set _ _))
    (ite (gates _) (refl _))))

theorem clearGroup (g : Nat) : Stands s (s.clearGroup g) := by
  have piers : Stands s ([3 * g, 3 * g + 1, 3 * g + 2].foldl (fun s p => s.clearPier p true) s) := foldl _ s fun u p _ => clearPier u p true
  unfold State.clearGroup
  generalize List.foldl _ s _ = u at piers ⊢
  exact piers.trans (of_eq (by rfl))

theorem groupLanes (g st : Nat) : Stands s (s.groupLanes g st) := by
  refine foldl _ s fun u j _ => setReg u _ (decide_eq_true ⟨?_, ?_⟩)
  · show 0x80 + 4 * (j % 9) < 4096
    omega
  · show 0x80 + 4 * (j % 9) ≠ 0x44
    omega

/-! ### A Bay goes down (R445, R446) -/

theorem hold (u : ResetUnit) : Stands s (s.hold u) := by
  unfold State.hold
  exact ite (refl s) ⟨fun _ h => List.mem_append_left _ h, fun _ h => h⟩

theorem clearBay (n : Nat) (scrub : Bool) : Stands s (s.clearBay n scrub) := by
  unfold State.clearBay
  dsimp only
  split
  · exact ite (.trans (of_eq (by rfl)) (setReg _ _ (by decide))) (of_eq (by rfl))
  · exact of_eq (by rfl)

/-- R446: a Bay's reset reaches none of the Hub's pages. -/
theorem resetRegs_bay (n : Nat) : Stands s (s.resetRegs 3 (.bay n)) := by
  have beyond : pageUnit (retiredKey / 4096 % 65536) = .device := by decide
  have numbered (u : State) (pg v : Nat) : Stands u (u.setN pg Reg.Hdr.RST_CTRL v) := setN u (by decide)
  have dropped (p : Nat → Bool) (h : p retiredKey = false) : Stands s { s with regs := SMap.drop p s.regs } :=
    of_regs rfl (get_drop_of_not _ p _ h)
  unfold State.resetRegs
  exact .trans (dropped _ (by simp [beyond, reaches])) (foldl _ _ fun u pg _ => numbered u pg _)

theorem islandReset_bay (n : Nat) : Stands s (s.islandReset (.bay n)) :=
  (((bayEnds s n).trans (clearBay _ n true)).trans (resetRegs_bay _ n)).trans (hold _ _)

/-! ### A Bay is retired (R475) -/

theorem setRetired {n : Nat} (hn : n < 64) :
    Stands s (s.setHub Reg.Flt.BAY_RETIRED (setBit (s.hub Reg.Flt.BAY_RETIRED) n true)) :=
  ⟨fun _ h => h, fun j h => by rw [State.retired, hub_setBit _ n rfl hn]; exact bit_setBit_of_bit _ n h⟩

/-- What follows a Bay's entry in the list of the retired. -/
theorem retireBay_of_new {n cls : Nat} (hr : s.retired n = false) :
    Stands (s.setHub Reg.Flt.BAY_RETIRED (setBit (s.hub Reg.Flt.BAY_RETIRED) n true)) (s.retireBay n false cls) := by
  generalize ht : s.setHub Reg.Flt.BAY_RETIRED (setBit (s.hub Reg.Flt.BAY_RETIRED) n true) = t
  have fresh : Stands t (if cls = 0xF then t.freshBelow 16 else (cls, t)).2 := iteSnd (of_eq (by rfl)) (refl t)
  simp only [State.retireBay, hr, ht, Bool.false_eq_true, if_false]
  generalize (if cls = 0xF then t.freshBelow 16 else (cls, t)) = q at fresh ⊢
  exact ((((fresh.trans (faultLog _ _ _ _ _)).trans (islandReset_bay _ n)).trans (bumpHub _ (by decide))).trans (notify _ _ _ _)).trans
    (setErr _ _ _ _)

theorem retireBay {n cls : Nat} (hn : n < 64) : Stands s (s.retireBay n false cls) := by
  by_cases hr : s.retired n = true
  · rw [State.retireBay, if_pos hr]
    exact refl s
  · exact (setRetired s hn).trans (retireBay_of_new s (Bool.eq_false_of_not_eq_true hr))

end Stands

/-- R475: a Bay retired reads as retired. -/
theorem retired_retireBay (s : State) {n cls : Nat} (hn : n < 64) : (s.retireBay n false cls).retired n = true := by
  by_cases hr : s.retired n = true
  · rwa [State.retireBay, if_pos hr]
  · refine (Stands.retireBay_of_new s (Bool.eq_false_of_not_eq_true hr)).retired n ?_
    rw [State.retired, hub_setBit _ n rfl hn]
    exact bit_setBit_same _ n hn

theorem mem_held_hold (s : State) (u : ResetUnit) : u ∈ (s.hold u).held := by
  unfold State.hold
  split
  · next h => exact List.contains_iff_mem.mp h
  · exact List.mem_append_right _ List.mem_cons_self

end Sys2Proof.Proofs.FencesStand

/-!
Faults, fences, Footway mode and tests (R449, R472-R502, R521).
-/
namespace Sys2Proof.Proofs.FaultCommands

open Sys2Proof Sys2Proof.Machine Sys2Proof.Laws.Calm
open Sys2Proof.Proofs.LinkCommands (sealed_settle)
open Sys2Proof.Proofs.TrayCommands (sealed_of_eq)
open Sys2Proof.Proofs.FencesStand

section

variable {s t : State}

/-! ### Bridges and cores (R472, R479, R480) -/

/-- R480: the first failed beat of a bridge within a second. -/
theorem bridgeBeat_first {k : Nat} (hf : bit (s.hub Reg.Flt.BRIDGE_STAT) k = false) (hb : SMap.get (fun _ => []) s.flt.bridge k = [])
    (ht : t = (({ s with flt := { s.flt with beats := SMap.set (fun _ => 0) s.flt.beats k 0, bridge := SMap.set (fun _ => []) s.flt.bridge k [s.now] } } : State).bumpI
        pgFlt Reg.Flt.BRIDGE_REPLAY_CNT k)) (hc : 1 ≤ fld (t.hub Reg.Flt.FAULT_CFG) 15 8) : s.bridgeBeat k false = t := by
  simp only [State.bridgeBeat, hf, hb, Bool.false_eq_true, if_false, false_and, List.filter_nil, List.nil_append, ← ht]
  exact if_neg (by simp only [List.length_cons, List.length_nil]; omega)

/-- R472, R479: the first machine check of a core stops it and is logged. -/
theorem machineCheck_first {k : Nat} (h : SMap.get (fun _ => []) s.flt.hist (10 * 4096 + k) = []) :
    s.machineCheck k = (({ s with flt := { s.flt with
      cores := NSet.insert k s.flt.cores
      hist := SMap.set (fun _ => []) s.flt.hist (10 * 4096 + k) [s.now / 1000] } } : State).emit .nmi).faultLog 10 0 8 k := by
  have judged : (State.emit { s with flt := { s.flt with cores := NSet.insert k s.flt.cores } } .nmi).judge (10 * 4096 + k) 2 =
      (false, ({ s with flt := { s.flt with
        cores := NSet.insert k s.flt.cores
        hist := SMap.set (fun _ => []) s.flt.hist (10 * 4096 + k) [s.now / 1000] } } : State).emit .nmi) := by
    simp [State.judge, State.emit, h]
  simp only [State.machineCheck, judged, Bool.false_eq_true, false_and, if_false]

/-! ### Partitions (R482, R483) -/

theorem epartSpans_of_none {k : Nat} (h : ∀ sp < 4, fld (s.hub Reg.Flt.EPART_MAP) (2 * sp + 1) (2 * sp) ≠ k) : s.epartSpans k = [] :=
  List.filter_eq_nil_iff.mpr fun sp hsp => by simpa using h sp (List.mem_range.mp hsp)

theorem foldl_keeps {α : Type} {f : State → α → State} {P : State → Prop} : ∀ (xs : List α) (s : State),
    (∀ s, ∀ x ∈ xs, P s → P (f s x)) → P s → P (xs.foldl f s)
  | [], _, _, h => h
  | x :: xs, s, hk, h => foldl_keeps xs _ (fun s y hy => hk s y (List.mem_cons_of_mem x hy)) (hk s x List.mem_cons_self h)

/-- A walk of a list that leaves the state as it is but at one element, whose act brings about what every act then keeps. -/
theorem foldl_reaches {α : Type} {f : State → α → State} {P : State → Prop} {a : α} (ha : P (f s a)) :
    ∀ (xs : List α), (∀ s, ∀ x ∈ xs, P s → P (f s x)) → a ∈ xs → (∀ x ∈ xs, x ≠ a → f s x = s) → P (xs.foldl f s)
  | x :: xs, hk, hm, hid => by
    have later : ∀ s, ∀ y ∈ xs, P s → P (f s y) := fun s y hy => hk s y (List.mem_cons_of_mem x hy)
    by_cases hx : x = a
    · subst hx
      exact foldl_keeps xs _ later ha
    · rw [List.foldl_cons, hid x List.mem_cons_self hx]
      exact foldl_reaches ha xs later ((List.mem_cons.mp hm).resolve_left (Ne.symm hx)) fun y hy => hid y (List.mem_cons_of_mem x hy)

/-- A walk of a list whose every act leaves the state as it is. -/
theorem foldl_of_id {α : Type} {f : State → α → State} : ∀ (xs : List α), (∀ x ∈ xs, f s x = s) → xs.foldl f s = s
  | [], _ => rfl
  | x :: xs, h => by
    rw [List.foldl_cons, h x List.mem_cons_self]
    exact foldl_of_id xs fun y hy => h y (List.mem_cons_of_mem x hy)

/-- R483: the fence of a logical partition at Bay n. -/
def lpartBay (k : Nat) (s : State) (n : Nat) : State := if s.lpart n = k then s.retireBay n false 0xF else s

/-- R483: the fence of a logical partition at Pier group g. -/
def lpartGroup (k : Nat) (s : State) (g : Nat) : State :=
  if s.lpart (24 + g) = k then ((s.clearGroup g).groupLanes g 0).hold (.group g) else s

theorem lpartFence_confirmed (k : Nat) : s.lpartFence 0xA5 k =
    (((List.range 24).foldl (lpartGroup k) ((List.range 24).foldl (lpartBay k) s)).setHub Reg.Flt.LPART_FENCED
      (setBit (((List.range 24).foldl (lpartGroup k) ((List.range 24).foldl (lpartBay k) s)).hub Reg.Flt.LPART_FENCED) k true)) := by
  simp only [State.lpartFence, ne_eq, not_true_eq_false, if_false]
  rfl

theorem lpartGroup_stands (k : Nat) (s : State) (g : Nat) : Stands s (lpartGroup k s g) :=
  .ite (((Stands.clearGroup s g).trans (Stands.groupLanes _ g 0)).trans (Stands.hold _ _)) (.refl s)

/-- R483: the partition shows as fenced. -/
theorem lpartFence_shown {k : Nat} (hk : k < 64) : bit ((s.lpartFence 0xA5 k).hub Reg.Flt.LPART_FENCED) k = true := by
  rw [lpartFence_confirmed, hub_setBit _ k rfl hk]
  exact bit_setBit_same _ k hk

theorem lpartFence_stands (k : Nat) : Stands ((List.range 24).foldl (lpartGroup k) ((List.range 24).foldl (lpartBay k) s)) (s.lpartFence 0xA5 k) := by
  rw [lpartFence_confirmed]
  exact Stands.setReg _ _ (by decide)

/-- R483: the one Bay of a partition is retired. -/
theorem lpartFence_retires {k n : Nat} (hn : n < 24) (hu : ∀ u < 48, s.lpart u = k ↔ u = n) : (s.lpartFence 0xA5 k).retired n = true := by
  refine (lpartFence_stands k).retired n ((Stands.foldl _ _ fun u g _ => lpartGroup_stands k u g).retired n ?_)
  refine foldl_reaches (f := lpartBay k) (P := fun u => u.retired n = true) ?_ _ (fun u m hm h => ?_) (List.mem_range.mpr hn) fun m hm hne => ?_
  · rw [lpartBay, if_pos ((hu n (by omega)).mpr rfl)]
    exact retired_retireBay s (by omega)
  · have hm' := List.mem_range.mp hm
    exact (Stands.ite (Stands.retireBay u (by omega)) (.refl u)).retired n h
  · have hm' := List.mem_range.mp hm
    exact if_neg fun h => hne ((hu m (by omega)).mp h)

/-- R483: the one Pier group of a partition is held. -/
theorem lpartFence_holds {k g : Nat} (hg : g < 24) (hu : ∀ u < 48, s.lpart u = k ↔ u = 24 + g) :
    ResetUnit.group g ∈ (s.lpartFence 0xA5 k).held := by
  have bays : (List.range 24).foldl (lpartBay k) s = s := foldl_of_id _ fun n hn => by
    have hn' := List.mem_range.mp hn
    refine if_neg fun h => ?_
    have := (hu n (by omega)).mp h
    omega
  refine (lpartFence_stands k).held _ ?_
  rw [bays]
  refine foldl_reaches (P := fun u => ResetUnit.group g ∈ u.held) ?_ _ (fun u x _ h => (lpartGroup_stands k u x).held _ h)
    (List.mem_range.mpr hg) fun x hx hne => ?_
  · rw [lpartGroup, if_pos ((hu (24 + g) (by omega)).mpr rfl)]
    exact mem_held_hold _ _
  · have hx' := List.mem_range.mp hx
    refine if_neg fun h => ?_
    have := (hu (24 + x) (by omega)).mp h
    omega

/-- R483: a partition of no unit only shows as fenced. -/
theorem lpartFence_of_none {k : Nat} (hu : ∀ u < 48, s.lpart u ≠ k) :
    s.lpartFence 0xA5 k = s.setHub Reg.Flt.LPART_FENCED (setBit (s.hub Reg.Flt.LPART_FENCED) k true) := by
  have bays : (List.range 24).foldl (lpartBay k) s = s := foldl_of_id _ fun n hn => by
    have hn' := List.mem_range.mp hn
    exact if_neg (hu n (by omega))
  have groups : (List.range 24).foldl (lpartGroup k) s = s := foldl_of_id _ fun g hg => by
    have hg' := List.mem_range.mp hg
    exact if_neg (hu (24 + g) (by omega))
  rw [lpartFence_confirmed, bays, groups]

/-! ### Footway mode (R496, R498, R500) -/

section

variable (ht : t = (s.setHubF Reg.Flt.FOOT_STAT 30 30 0).footClear 0) (hf : t.inFootway = true)

include ht hf

theorem footCmdExit_left (hc : fld (t.hub Reg.Flt.FOOT_STAT) 12 8 = 0) :
    s.footCmdExit 0xA5 = ((t.setHubF Reg.Flt.FOOT_STAT 31 31 0).syncSched.reviewAlert).notify 6 0 [] := by
  simp only [State.footCmdExit, ne_eq, not_true_eq_false, if_false, ← ht, hf, hc, Bool.not_true, Bool.false_eq_true]

theorem footCmdExit_refused (hc : fld (t.hub Reg.Flt.FOOT_STAT) 12 8 ≠ 0) : s.footCmdExit 0xA5 = t.setHubF Reg.Flt.FOOT_STAT 30 30 1 := by
  simp only [State.footCmdExit, ne_eq, not_true_eq_false, if_false, ← ht, hf, Bool.not_true, Bool.false_eq_true]
  exact if_pos hc

end

/-! ### Tests (R487-R489) -/

theorem btestStart_retired {n mode : Nat} (hn : n < 24) (hm : mode ≠ 3) (hb : s.flt.btest = none) (hr : s.retired n = true)
    (hs : bit (s.hub Reg.Flt.SPAN_FENCED) (4 + n / 6) = false) : s.btestStart 0xA5 n mode =
      ({ s with flt := { s.flt with btest := some ⟨n, mode, false⟩ }, testing := NSet.insert n s.testing } : State).setHubF
        Reg.Flt.BTEST_STAT 31 31 1 := by
  have named : ¬((0xA5 : Byte) ≠ 0xA5 ∨ 24 ≤ n ∨ mode = 3) := by
    simp only [ne_eq, not_true_eq_false, false_or, not_or]
    exact ⟨by omega, hm⟩
  simp only [State.btestStart, if_neg named, hb, hr, hs, Option.isSome_none, Bool.not_true, Bool.false_eq_true, false_and, and_false, or_self,
    if_false, Bool.true_or, if_true]

theorem btestAbort_of_running (h : s.flt.btest ≠ none) : s.btestAbort 0xA5 =
    ({ s with flt := { s.flt with btest := none }, testing := [] } : State).setHub Reg.Flt.BTEST_STAT (BitVec.ofNat 64 (3 * 2 ^ 28)) := by
  simp only [State.btestAbort, ne_eq, not_true_eq_false, if_false, if_pos (Option.isSome_iff_ne_none.mpr h)]
  rfl

theorem btestDone_clean {n : Nat} (h : s.flt.btest = some ⟨n, 1, false⟩) : s.btestDone [] =
    ({ s with flt := { s.flt with btest := none }, testing := [] } : State).setHub Reg.Flt.BTEST_STAT 0 := by
  simp [State.btestDone, State.btestEnd, h, State.setHub]

section

variable {p : Nat} {w : Word}

/-- R488: a loopback of a free lane begins, for so many milliseconds. -/
theorem loopCmd_start (h30 : bit w 30 = false) (h31 : bit w 31 = true) (hl : (s.pier p).loop = none) (hk : fld w 3 0 ≤ 8) (hd : fld w 19 8 ≠ 0)
    (hf : s.laneFree p (fld w 3 0) = true) : s.loopCmd p w = (s.setPier p { s.pier p with
      loop := some (fld w 3 0, s.now + fld w 19 8 * 1000000) }).setF (pgPier p) Reg.Pier.LOOP_STAT 31 31 1 := by
  have named : ¬(8 < fld w 3 0 ∨ fld w 19 8 = 0) := by omega
  simp only [State.loopCmd, h30, h31, hl, hf, if_neg named, Option.isSome_none, Bool.not_true, Bool.false_eq_true, if_false]

theorem loopCmd_abort (h30 : bit w 30 = true) (hl : (s.pier p).loop ≠ none) :
    s.loopCmd p w = (s.setPier p { s.pier p with loop := none }).setN (pgPier p) Reg.Pier.LOOP_STAT 2 := by
  simp only [State.loopCmd, h30, if_true, if_pos (Option.isSome_iff_ne_none.mpr hl)]

theorem loopDone_of_running (n : Nat) (hl : (s.pier p).loop ≠ none) : s.loopDone p n =
    ((s.setPier p { s.pier p with loop := none }).setN (pgPier p) Reg.Pier.LOOP_STAT 0).addN (pgPier p) Reg.Pier.LOOP_ERR_CNT n := by
  obtain ⟨l, hl⟩ := Option.ne_none_iff_exists'.mp hl
  simp only [State.loopDone, hl]

end

theorem dpathStart_of_idle {n : Nat} (h : s.flt.dpath = none) (hn : n < 53) : s.dpathStart n =
    ({ s with flt := { s.flt with dpath := some n }, voqs := s.voqs ++ [testCells n s.now] } : State).setHubF Reg.Diag.DPATH_STAT 31 31 1 := by
  simp only [State.dpathStart, h, Option.isSome_none, Bool.false_eq_true, if_false, if_neg (Nat.not_le.mpr hn)]

theorem dpathDone_of_running (n : Nat) (h : s.flt.dpath ≠ none) : s.dpathDone n =
    (({ s with flt := { s.flt with dpath := none }, voqs := s.voqs.filter (fun v => v.inp ≠ 55 ∧ v.out ≠ 55) } : State).setHub
      Reg.Diag.DPATH_STAT (BitVec.ofNat 64 (b2n (n = 0)))).addN (pgHub 0x07) Reg.Diag.DPATH_ERR_CNT n := by
  obtain ⟨q, hq⟩ := Option.ne_none_iff_exists'.mp h
  simp only [State.dpathDone, hq]
  rfl

end

/-- Settles O12: each command in the branch that its premises name; the fence of a logical partition by what every later act of it leaves
standing. The class a retirement by command is logged with is log entry 50, the way of the test cells through the Deck log entry 70, and what
the units do no more in Footway mode log entry 103: the model's choice. -/
theorem faultCommandsComplete : Obligations.FaultCommandsComplete := by
  unfold Obligations.FaultCommandsComplete
  refine ⟨fun _ _ => rfl, fun _ _ => rfl, fun s k hk => ?_, fun _ _ => rfl, fun _ _ => rfl, fun _ => rfl, fun _ _ => rfl, fun _ _ => rfl,
    ?_, ?_, ?_, ?_, ?_, ?_, ?_, ?_, ?_, ?_, ?_, ?_, ?_, ?_, ?_, ?_, ?_, ?_, ?_, ?_⟩
  · have span : (if k.val = 4 then ResetUnit.device else .span k.val) = .span k.val := if_neg (by omega)
    exact sealed_settle (congrArg (s.parity (pgSlice k.val) 10) span)
  · exact fun s k hf hb t ht hc => sealed_settle (bridgeBeat_first hf hb ht hc)
  · exact fun s k h => sealed_settle (machineCheck_first h)
  · intro s n hn
    exact sealed_settle (if_neg (by simp only [ne_eq, not_true_eq_false, false_or]; omega))
  · exact fun s k => sealed_settle (if_neg fun h => h rfl)
  · intro s k hc hn
    have none : s.epartFence 0xA5 k.val = s := by
      rw [State.epartFence, if_neg fun h => h rfl, epartSpans_of_none hn, List.foldl_nil]
    exact (sealed_settle none).trans (congrArg Host.Outcome.next (seal_settle_of_calm s s hc))
  · exact fun s k n hu => ⟨s.lpartFence 0xA5 k.val, rfl, lpartFence_retires n.isLt hu, lpartFence_shown (by omega)⟩
  · intro s k g hu
    refine ⟨s.lpartFence 0xA5 k.val, rfl, ?_, lpartFence_shown (by omega)⟩
    exact Bool.or_eq_true_iff.mpr (.inl (List.contains_iff_mem.mpr (lpartFence_holds g.isLt hu)))
  · exact fun s k hu => sealed_settle (lpartFence_of_none hu)
  · exact fun s => sealed_settle (if_neg fun h => h rfl)
  · exact fun s t ht hf hc => sealed_settle (footCmdExit_left ht hf hc)
  · exact fun s t ht hf hc => sealed_settle (footCmdExit_refused ht hf hc)
  · exact fun s hf => sealed_settle (if_neg (by simp [hf]))
  · exact fun s n mode hn hm hb hr hs => sealed_settle (btestStart_retired hn (fun h => hm (Fin.ext h)) hb hr hs)
  · exact fun s h => sealed_settle (btestAbort_of_running h)
  · exact fun s n h => sealed_settle (btestDone_clean h)
  · rintro s p v w rfl h30 h31 ho hl hk hd hf
    exact sealed_of_eq ((atPage_of_open s _ _ 0 _ ho).trans (loopCmd_start h30 h31 hl hk hd hf))
  · exact fun s p v ho hl h30 => sealed_of_eq ((atPage_of_open s _ _ 0 _ ho).trans (loopCmd_abort h30 hl))
  · exact fun s p n hl => sealed_of_eq (loopDone_of_running n.toNat hl)
  · exact fun s n h hn => sealed_of_eq (dpathStart_of_idle h hn)
  · intro s b h
    have none : decide (b = 0) = decide (b.toNat = 0) := by simp [BitVec.toNat_eq]
    refine sealed_of_eq ((dpathDone_of_running b.toNat h).trans ?_)
    rw [none]

end Sys2Proof.Proofs.FaultCommands
